-- ==== Sys2Proof/Word.lean ====
section
/-! DEFINITION. The word types of the KLW-6425 and their plainest arithmetic: 32-bit host words, bytes,
bit fields of a number, and the units of time (00_scope R5, R6, R7). -/

namespace Sys2Proof

/-- A host-visible word: 32 bits, little-endian in memory (00 R7). -/
abbrev Word := BitVec 32

/-- One byte of a frame, of the message SRAM or of a TCM. -/
abbrev Byte := BitVec 8

/-- A point of TK time or of the stamp timescale, counted in sub-ns units of 2^-16 ns (00 R5, R6). -/
abbrev Instant := Nat

/-- A signed interval in sub-ns units (00 R7). -/
abbrev Interval := Int

/-- Bits `lo + n - 1` down to `lo` of a number. -/
def field (w lo n : Nat) : Nat := (w / 2 ^ lo) % 2 ^ n

/-- Bit `i` of a number. -/
def flag (w i : Nat) : Bool := (w / 2 ^ i) % 2 == 1

/-- A Bool placed at bit `i`. -/
def atBit (b : Bool) (i : Nat) : Nat := if b then 2 ^ i else 0

/-- The sub-ns units of one nanosecond (00 R5). -/
def subNs : Nat := 65536

def ns (n : Nat) : Nat := n * 65536
def us (n : Nat) : Nat := n * 65536000
def ms (n : Nat) : Nat := n * 65536000000
def sec (n : Nat) : Nat := n * 65536000000000

/-- The whole nanoseconds of an instant, rounded down. -/
def nsFloor (t : Nat) : Nat := t / 65536

/-- The whole nanoseconds of an instant, rounded up (02 R43). -/
def nsCeil (t : Nat) : Nat := (t + 65535) / 65536

/-- A host word from a number, modulo 2^32. -/
def word (n : Nat) : Word := BitVec.ofNat 32 n

/-- The two words of a 64-bit value, low word first. -/
def words64 (n : Nat) : List Word := [word n, word (n / 4294967296)]

/-- The two words of a signed interval, low word first (00 R7). -/
def intervalWords (i : Int) : List Word := words64 (i % 18446744073709551616).toNat

/-- The signed value of the low `n` bits of a number. -/
def signed (n w : Nat) : Int :=
  let v := w % 2 ^ n
  if v < 2 ^ (n - 1) then (v : Int) else (v : Int) - (2 ^ n : Nat)

/-- The four words of an instant (00 R6). -/
def instantWords (t : Nat) : List Word :=
  let s := t / 65536000000000
  let n := t / 65536 % 1000000000
  [word s, word (s / 4294967296), word n, word (t % 65536)]

/-- The instant that four words give (00 R6); the reserved bits do not count. -/
def instantOfWords (w0 w1 w2 w3 : Word) : Nat :=
  sec (w0.toNat + w1.toNat * 4294967296) + ns (w2.toNat % 1073741824) + w3.toNat % 65536

/-- `n` bytes of a number, most significant first. -/
def bytesBE (n v : Nat) : List Byte :=
  (List.range n).map fun i => BitVec.ofNat 8 (v / 2 ^ (8 * (n - 1 - i)))

/-- `n` bytes of a number, least significant first. -/
def bytesLE (n v : Nat) : List Byte :=
  (List.range n).map fun i => BitVec.ofNat 8 (v / 2 ^ (8 * i))

/-- The number that bytes give, most significant first. -/
def natBE (bs : List Byte) : Nat := bs.foldl (fun a b => a * 256 + b.toNat) 0

/-- The number that bytes give, least significant first. -/
def natLE : List Byte → Nat
  | [] => 0
  | b :: r => b.toNat + 256 * natLE r

/-- Rounds a quotient of integers to the nearest, halves away from zero. -/
def divRound (a : Int) (b : Nat) : Int :=
  if b = 0 then 0
  else if 0 ≤ a then ((2 * a + b) / (2 * b : Nat)) else -((-2 * a + b) / (2 * b : Nat))

/-- The integer square root, rounded down, by Newton steps from above (bounded by `fuel`). -/
def isqrtFrom : Nat → Nat → Nat → Nat
  | 0, _, x => x
  | f + 1, n, x =>
    let y := (x + n / (if x = 0 then 1 else x)) / 2
    if y < x then isqrtFrom f n y else x

def isqrt (n : Nat) : Nat := if n = 0 then 0 else isqrtFrom 300 n n

end Sys2Proof
end

