-- ==== Sys2Proof/Machine/Tbl.lean ====
section
/-! DEFINITION. Sparse tables as plain data: a list of (index, value) pairs with strictly rising
indices, in which no entry equals the value an unlisted index reads as. Memories and register
arrays of State have this form. -/

namespace Sys2Proof

/-- A sparse table: its indices rise strictly. -/
abbrev Tbl (α : Type) := List (Nat × α)

namespace Tbl

variable {α : Type}

/-- The entry stored at an index, if one is listed. -/
def find (t : Tbl α) (k : Nat) : Option α :=
  match t with
  | [] => none
  | (k', v) :: r => if k = k' then some v else find r k

/-- The value at an index: the listed one, or `d`. -/
def get (d : α) (t : Tbl α) (k : Nat) : α := (find t k).getD d

/-- Takes the entry at an index out. -/
def del (t : Tbl α) (k : Nat) : Tbl α :=
  match t with
  | [] => []
  | (k', v) :: r => if k = k' then r else (k', v) :: del r k

/-- Lists a value at an index, in order. -/
def put (t : Tbl α) (k : Nat) (v : α) : Tbl α :=
  match t with
  | [] => [(k, v)]
  | (k', v') :: r =>
    if k < k' then (k, v) :: (k', v') :: r
    else if k = k' then (k, v) :: r
    else (k', v') :: put r k v

/-- Writes a value; writing what an unlisted index reads as takes the entry out. -/
def set [DecidableEq α] (d : α) (t : Tbl α) (k : Nat) (v : α) : Tbl α :=
  if v = d then del t k else put t k v

/-- Changes the value at an index. -/
def upd [DecidableEq α] (d : α) (t : Tbl α) (k : Nat) (f : α → α) : Tbl α :=
  set d t k (f (get d t k))

/-- Every index listed is above `b` and they rise. -/
def rising (b : Nat) : Tbl α → Bool
  | [] => true
  | (k, _) :: r => decide (b ≤ k) && rising (k + 1) r

/-- The canonical form: indices rise strictly and no entry equals the unlisted value. -/
def wf [DecidableEq α] (d : Nat → α) (t : Tbl α) : Bool :=
  rising 0 t && t.all fun e => decide (e.2 ≠ d e.1)

end Tbl

/-- Byte memory: what an unlisted address reads as is 0 (assumption 1). -/
abbrev Memory := Tbl Byte

def Memory.read (m : Memory) (a : Nat) : Byte := Tbl.get 0#8 m a
def Memory.write (m : Memory) (a : Nat) (b : Byte) : Memory := Tbl.set 0#8 m a b
def Memory.readN (m : Memory) (a n : Nat) : List Byte := (List.range n).map fun i => m.read (a + i)
def Memory.writeN (m : Memory) (a : Nat) : List Byte → Memory
  | [] => m
  | b :: r => Memory.writeN (m.write a b) (a + 1) r
/-- The canonical form of a memory. -/
def Memory.wf (m : Memory) : Bool := Tbl.wf (fun _ => 0#8) m

/-- A little-endian word of memory (00 R7). -/
def Memory.readWord (m : Memory) (a : Nat) : Word := word (natLE (m.readN a 4))
def Memory.writeWord (m : Memory) (a : Nat) (w : Word) : Memory := m.writeN a (bytesLE 4 w.toNat)
def Memory.writeWords (m : Memory) (a : Nat) : List Word → Memory
  | [] => m
  | w :: r => Memory.writeWords (m.writeWord a w) (a + 4) r
def Memory.readWords (m : Memory) (a n : Nat) : List Word :=
  (List.range n).map fun i => m.readWord (a + 4 * i)

end Sys2Proof
end

