-- ==== Sys2Proof/Machine/HostTypes.lean ====
section
/-! DEFINITION. State of the host side: senders, mailboxes, reply rings, doorbells, the semaphore,
the command journal (12_host_command), the application cores, the event concentrator, the counters
and the pallets (13_cores_events_counters). Defaults are the reset values of 12 R524 and 13 R569. -/

namespace Sys2Proof

/-- A host port (12 R489). -/
inductive HostPort
  | h0
  | h1
  deriving DecidableEq, Repr

/-- An application core (13 R526). -/
inductive AppCore
  | ac0
  | ac1
  deriving DecidableEq, Repr

/-- A sender of commands, in the order of its code in JOURNAL_GET (12 R522). -/
inductive Sender
  | h0pf0
  | h0pf1
  | h1pf0
  | h1pf1
  | ac0
  | ac1
  deriving DecidableEq, Repr

/-- A target of the event concentrator, in the order of its code (13 R558). -/
inductive Target
  | h0
  | h1
  | cc0
  | cc1
  | ac0
  | ac1
  deriving DecidableEq, Repr

/-- Where a command packet and its reply lie: host memory, the sender's SRAM quarter, or TCM (12 R499). -/
structure Buffer where
  lo  : Word := 0
  hi  : Word := 0
  len : Nat := 16
  deriving DecidableEq, Repr

/-- One command as the interpreter takes it: the packet's fields and the notice's (12 R499, R504). -/
structure Req where
  sender    : Sender := .h0pf0
  viaPriv   : Bool := false
  tag       : Nat := 0
  flags     : Nat := 0          -- FLAGS [23:16] of word 0, bit 0 LINK, bit 1 CHECK_ONLY (R505)
  applyOn   : Bool := false     -- APPLY_VALID
  applySec  : Nat := 0          -- word 2
  applyNs   : Nat := 0          -- word 3 [29:0]
  resv      : Bool := false     -- word 3 [31], reserved
  params    : List Word := []
  buf       : Buffer := {}
  t         : Instant := 0      -- the instant of the take
  deriving DecidableEq, Repr

/-- A write of a host into a BAR, or of an application core into its own address map. -/
inductive BarWrite
  | bar0 (off : Nat) (value : Word) (enables : BitVec 4)
  | bar0Long (off : Nat)                 -- longer than a DWORD, or across one (R490)
  | bar2 (off : Nat) (bytes : List Byte)
  | core (addr : Nat) (value : Word)     -- an application core's store to its map (R527, R537)
  deriving DecidableEq, Repr

namespace Machine

/-! ### Host ports -/

/-- The registers of one mailbox of one function (12 R519, R520). -/
structure MboxRegs where
  lo         : Word := 0
  hi         : Word := 0
  len        : Nat := 0
  noRing     : Bool := false
  notHolder  : Bool := false
  timeout    : Bool := false
  collide    : Bool := false
  taken      : Bool := false
  timeoutTag : Nat := 0
  collideTag : Nat := 0
  deriving DecidableEq, Repr

/-- A notice in a slot (12 R499). -/
structure Notice where
  sender : Sender
  buf    : Buffer
  tag    : Nat
  t      : Instant     -- of its GO
  until_ : Instant     -- GO plus the MB_TIMEOUT in force at the GO (R502)
  deriving DecidableEq, Repr

/-- A reply to post (12 R508, R510). -/
structure Reply where
  viaPriv : Bool
  tag     : Nat
  opcode  : Nat
  status  : Nat
  final   : Bool
  words   : List Word
  buf     : Buffer
  t       : Instant      -- completion instant
  jid     : Nat          -- its journal record; 0 where it has none
  deriving DecidableEq, Repr

/-- The registers of one function, or of one application core's mailbox and ring (12 R519, 13 R537). -/
structure FnRegs where
  cmb     : MboxRegs := {}
  pmb     : MboxRegs := {}
  rrLo    : Word := 0
  rrHi    : Word := 0
  enable  : Bool := false
  disableWanted : Bool := false  -- a write clearing ENABLE waits for OPEN_FN to be 0 (R520)
  log2    : Nat := 0
  wr      : Nat := 0
  phase   : Bool := false
  rd      : Nat := 0
  stalled : Bool := false
  waiting : List Reply := []     -- replies that found the ring full, oldest first (R511)
  dbStatus : BitVec 32 := 0
  dbMask  : BitVec 32 := BitVec.allOnes 32
  dbMap   : Tbl Nat := []        -- default: bit n maps to vector n
  msix    : Tbl Word := []       -- MSI-X table DWORDs, 4 a vector; default: vector control masked
  pba     : BitVec 32 := 0
  palletWin : Nat := 0           -- [8] PALLET, [3:0] PAGE
  deriving DecidableEq, Repr

/-- The state of a journal record (12 R515). -/
inductive JState
  | taken
  | held
  | committed
  deriving DecidableEq, Repr

/-- What a completed command's final reply will say. -/
structure Finish where
  t      : Instant
  status : Nat
  words  : List Word
  deriving DecidableEq, Repr

/-- One record of the journal (12 R515). -/
structure JRec where
  opcode : Nat
  epoch  : Nat
  state  : JState
  req    : Req
  result : List Word := []      -- results the final reply will carry
  finish : Option Finish := none
  posted : Bool := false        -- its final reply waits on a full ring
  deriving DecidableEq, Repr

inductive SemOwner
  | free
  | h0
  | h1
  deriving DecidableEq, Repr

/-- The configuration semaphore (12 R494). -/
structure Semaphore where
  owner  : SemOwner := .free
  epoch  : Nat := 0
  expiry : Instant := 0
  lease  : Nat := 400
  deriving DecidableEq, Repr

/-- State of one host: SEM_FLAGS, PERST and link, messages to send (12 R520, 13 R559). -/
structure HostRegs where
  semFlags  : BitVec 5 := 0       -- [4] FREED [3] EXPIRED [2] LINK_LOST [1] DENIED [0] GRANTED
  perst     : Bool := false       -- Hx_PERST_N asserted
  acMsgTx   : Tbl Word := []      -- AC_MSG_TX[a][w] at 8a + w
  deriving DecidableEq, Repr

/-- Everything of chapter 12. -/
structure HostState where
  sem       : Semaphore := {}
  mbTimeout : Nat := 200
  h0        : HostRegs := {}
  h1        : HostRegs := {}
  fns       : Tbl FnRegs := []        -- by sender code; default the reset registers
  slots     : Tbl (Option Notice) := []  -- 0 common PF0, 1 common PF1, 2 + sender code private
  sram      : Memory := []            -- the 2 MiB message SRAM (R492)
  journal   : Tbl JRec := []          -- by record number, in the order of the takes
  nextJid   : Nat := 1
  batch     : Tbl Instant := []       -- open batch of a sender: instant of its last take
  ready     : Bool := false           -- FW_STATE.READY
  interp    : Nat := 3                -- FW_STATE.INTERP: 0 CC0, 1 CC1, 3 none
  fwMajor   : Nat := 0
  fwMinor   : Nat := 0
  lastRead  : List Word := []         -- the model's own: the words that the last read through BAR0 returned
  deriving DecidableEq, Repr

/-! ### Application cores -/

inductive AcStatus
  | empty
  | loaded
  | running
  | stopped
  | faulted
  | held
  deriving DecidableEq, Repr

/-- One application core (13 R526 to R537). -/
structure AcState where
  status   : AcStatus := .empty
  cause    : Nat := 0
  tcm      : Memory := []
  regs     : Tbl Word := []      -- x1 to x31
  pc       : Word := 0
  mepc     : Word := 0
  mcause   : Word := 0
  mie      : Bool := false       -- mstatus.MIE
  mstatus  : Word := 0           -- the other bits of mstatus
  stopPc   : Word := 0
  faultMcause : Word := 0
  length   : Nat := 0
  entry    : Nat := 0
  wdog     : Nat := 0
  lastKick : Instant := 0
  hash     : List Word := List.replicate 12 0
  permits  : BitVec 6 := 0b111001#6  -- [5] CMD [4] MSG_H1 [3] MSG_H0 [2] COUNTERS [1] INJECT_DIRECT [0] INJECT_PIPE
  starting : Option (Nat × Req) := none  -- journal record and packet of an AC_START under verification
  depth    : Nat := 0            -- deliveries in progress (R545), one above the other
  injBase  : Nat := 0
  injCfg   : Nat := 0
  injWr    : Nat := 0
  injRd    : Nat := 0
  extBase  : Nat := 0
  extCfg   : Nat := 0
  extWr    : Nat := 0
  extRd    : Nat := 0
  msgTx    : Tbl Word := []
  fromH0   : List (List Word) := []   -- messages waiting for the core
  fromH1   : List (List Word) := []
  toH0     : List (List Word) := []   -- messages waiting for a host
  toH1     : List (List Word) := []
  deriving DecidableEq, Repr

/-! ### Event concentrator -/

/-- One of the two timers of a target (13 R535, R558). -/
structure EvcTimer where
  cmp    : List Word := [0, 0, 0, 0]
  per    : Nat := 0
  enable : Bool := false
  next   : Option Instant := none
  deriving DecidableEq, Repr

/-- One target of the event concentrator (13 R542, R547, R557). -/
structure EvcTarget where
  split     : Nat := 0
  threshold : Nat := 0
  prio      : Tbl Nat := []           -- private priorities, by source less 160
  pend      : BitVec 16 := 0          -- private edge sources pending
  inServ    : BitVec 176 := 0
  log       : List (List Word) := []
  seq       : Nat := 0
  ovf       : Bool := false
  vtBase    : Nat := 0
  timer0    : EvcTimer := {}
  timer1    : EvcTimer := {}
  tkNow     : List Word := [0, 0, 0, 0]
  deriving DecidableEq, Repr

/-- A shared source's route: priority and target (13 R557 EVC_ROUTE). -/
structure Route where
  prio   : Nat := 1
  target : Target := .cc0
  deriving DecidableEq, Repr

/-- A pallet: its image, T, VALID and SEQ (13 R553). -/
structure Pallet where
  image : Tbl Nat := []
  valid : Bool := false
  seq   : Nat := 0
  t     : Instant := 0
  deriving DecidableEq, Repr

/-- A snapshot in progress or to come (13 R553, R554). -/
structure Snapshot where
  t      : Instant
  pallet : Nat             -- 2 = AUTO
  begun  : Bool := false
  jid    : Option Nat := none
  byReg  : Bool := false   -- triggered by PALLET_CTRL
  deriving DecidableEq, Repr

/-- Everything of chapter 13. -/
structure CoresState where
  ac0      : AcState := {}
  ac1      : AcState := {}
  pendSh   : BitVec 160 := 0        -- shared sources pending
  routes   : Tbl Route := []
  targets  : Tbl EvcTarget := []    -- by target code
  limiter  : Tbl Instant := []      -- last instant of an event raised at most once a second, by key
  counters : Tbl Nat := []          -- by the index of R551
  key      : Option Instant := none  -- the model's own: the key of the keyed event in hand
  ovfLast  : Nat := 0
  ovfAny   : Bool := false
  pallet0  : Pallet := {}
  pallet1  : Pallet := {}
  palletLast : Nat := 0
  missed   : Bool := false
  snaps    : List Snapshot := []
  periodic : Option (Instant × Nat) := none  -- next T and PERIOD in ms
  perJid   : Option Nat := none
  deriving DecidableEq, Repr

end Machine
end Sys2Proof
end

