-- ==== Sys2Proof/Machine/KeeperTypes.lean ====
section
/-! DEFINITION. State of the timekeepers, their candidates and the bond (07, 09). Defaults are the
reset values of 07 R309 and 09 R396. -/

namespace Sys2Proof

/-- A message of IEEE 1588 or IEEE 802.1AS as a port takes or sends it (07 R288 to R290). Instants and
corrections are in sub-ns units. -/
inductive PtpMsg
  | sync (seq : Nat) (twoStep : Bool) (origin : Instant) (correction : Int)
  | followUp (seq : Nat) (origin : Instant) (correction : Int)
  | delayReq (seq : Nat)
  | delayResp (seq : Nat) (receive : Instant) (correction : Int)
  | pdelayReq (seq : Nat)
  | pdelayResp (seq : Nat) (receive : Instant) (correction : Int)
  | pdelayRespFollowUp (seq : Nat) (origin : Instant) (correction : Int)
  | announce (sender : Nat) (clockClass : Nat) (ptpTimescale : Bool) (utcOffset : Nat)
  deriving DecidableEq, Repr

/-- A PPS edge at a reference input, and the phase of the clock there at that instant (07 R266, R302). -/
structure PpsEdge where
  falling : Bool := false
  phase   : Option Int := none
  deriving DecidableEq, Repr

/-- The measured frequency of a candidate over a VOTE_WINDOW, in ppt (07 R267, R308). -/
structure FreqMeas where
  cand : Nat
  xo   : Int      -- against XO
  dco  : Int      -- against the leaseholder's DCO
  deriving DecidableEq, Repr

/-- What the analogue parts measure for one servo cycle: d of each keeper that does not hold the lease
(09 R364), and the clock phases of REFA and REFB against the stamp timescale, while the clocks are present
(07 R264, R265). -/
structure ServoIn where
  dA   : Int := 0
  dB   : Int := 0
  refA : Option Int := none
  refB : Option Int := none
  deriving DecidableEq, Repr

/-- A timekeeper. -/
inductive Tk
  | a
  | b
  deriving DecidableEq, Repr

namespace Machine

/-! ### Settings (07 R298 to R304) -/

/-- A candidate entry (07 R265, R298). -/
structure Cand where
  valid    : Bool := false
  rank     : Nat := 0
  kind     : Nat := 0
  port     : Nat := 0
  qualTime : Nat := 0      -- ms; 0 is the default of R265
  deriving DecidableEq, Repr

/-- Settings of REFA or REFB (07 R302). -/
structure RefCfg where
  falling : Bool := false
  freq25  : Bool := false
  mode    : Nat := 0       -- 0 off, 1 clock+PPS, 2 clock only, 3 PPS only
  delay   : Int := 0       -- PPS_DELAY in ps
  deriving DecidableEq, Repr

/-- Settings of a servo input (07 R300). -/
structure ServoCfg where
  bandwidth : Nat          -- µHz
  damping   : Nat := 10    -- 0.1
  lockPhase : Nat          -- ps
  lockFreq  : Nat          -- ppt
  deriving DecidableEq, Repr

/-- The settings an unwritten servo input has (07 R274). -/
def ServoCfg.reset : Nat → ServoCfg
  | 0 => { bandwidth := 20000000, lockPhase := 1000, lockFreq := 1000 }
  | 1 => { bandwidth := 500000, lockPhase := 20000, lockFreq := 1000 }
  | 2 => { bandwidth := 20000, lockPhase := 50000, lockFreq := 5000 }
  | 3 => { bandwidth := 100000, lockPhase := 1000000, lockFreq := 5000 }
  | _ => { bandwidth := 2000, lockPhase := 100000, lockFreq := 5000 }

/-- Keeper settings (07 R301). -/
structure KeeperCfg where
  jumpTh     : Nat := 50         -- ns
  lostBudget : Nat := 100        -- ns
  freqUnc    : Nat := 100        -- ppt
  drift      : Nat := 12         -- 0.001 ppt/s
  memGuard   : Nat := 2          -- s
  memWindow  : Nat := 64         -- s
  disagreeTh : Nat := 50000      -- ppt
  hopMax     : Nat := 15
  freqWin    : Nat := 50         -- ppm
  voteWindow : Nat := 1000       -- ms
  stepLimit  : Nat := 1000000    -- ns
  consistTh  : Nat := 20         -- ns
  xoTrim     : Int := 0          -- steering units
  utcOffset  : Nat := 37
  deriving DecidableEq, Repr

/-- PTP settings of a port (07 R303). -/
structure PtpCfg where
  role      : Nat := 0
  profile   : Nat := 0
  transport : Nat := 0
  twoStep   : Bool := false
  domain    : Nat := 0
  classMax  : Nat := 7
  logAnnounce : Int := 1
  logDelayReq : Int := 0
  logSync   : Int := 0
  asym      : Int := 0      -- delayAsymmetry in ps
  deriving DecidableEq, Repr

/-- SyncE settings of a port (07 R304). -/
structure SynceCfg where
  tx    : Bool := false
  rx    : Bool := false
  en    : Bool := false
  qlMin : Nat := 0xB
  refQl : Nat := 0x2
  deriving DecidableEq, Repr

/-- Link-timing settings of a port (08 R349). -/
structure LtCfg where
  en      : Bool := true
  tfDelay : Nat := 500      -- µs
  missLimit : Nat := 8
  rttTh   : Nat := 2000     -- ps
  deriving DecidableEq, Repr

/-- Asymmetry settings of a port (08 R350). -/
structure AsymCfg where
  alpha : Int := 0          -- 10^-9
  extTx : Nat := 0
  extRx : Nat := 0
  deriving DecidableEq, Repr

/-- A change that both keepers or the bond apply at a servo cycle (07 R297, 08 R348, 09 R394). -/
inductive TkChange
  | cand (i : Nat) (v : Cand)
  | servo (i : Nat) (v : ServoCfg)
  | keeper (v : KeeperCfg)
  | ptp (p : Nat) (v : PtpCfg)
  | synce (p : Nat) (v : SynceCfg)
  | refin (i : Nat) (v : RefCfg)
  | refCmd (i action : Nat)
  | timeSet (target : Instant) (secondsOnly : Bool)
  | acceptStep
  | link (p : Nat) (v : LtCfg)
  | asym (p : Nat) (v : AsymCfg)
  | asymApply (p : Nat) (alpha : Int)
  | bond (autoRejoin : Bool) (lease rejoin : Nat)
  | handover (force : Bool)
  | disable (k : Tk) (force : Bool)
  | enable (k : Tk)
  deriving DecidableEq, Repr

/-- A change held until the first servo cycle at or after A. -/
structure TkStaged where
  a      : Instant
  jid    : Option Nat
  change : TkChange
  deriving DecidableEq, Repr

/-! ### Candidates and references -/

/-- What the device keeps of a candidate (07 R267, R268, R308). -/
structure CandState where
  qstate : Nat := 0              -- 0 absent, 1 qualifying, 2 qualified, 3 disqualified
  reason : Nat := 0
  hold   : Nat := 0              -- 0 none, 3 by vote, 4 by the host
  since  : Instant := 0          -- conditions held without a break since, while qualifying
  freqXo : Option Int := none    -- over the last VOTE_WINDOW, ppt
  freqDco : Int := 0
  lastOff : Int := 0
  deriving DecidableEq, Repr

/-- What the device keeps of REFA or REFB (07 R266, R268; 15 R612). -/
structure RefState where
  clock   : Bool := false            -- clock present
  lastPps : Option Instant := none
  ppsOk   : Bool := false            -- the last edge came 1 s ± 1 ms after the one before
  posOk   : Bool := true             -- the PPS edge lies within ±40 % of a clock edge (R612)
  whole   : Option Int := none       -- the whole-period part fixed by the PPS
  ppsOff  : Option Int := none       -- an offset of a PPS-only input not yet used
  phase   : Option Int := none       -- the last clock phase
  deriving DecidableEq, Repr

/-- What a port that is a PTP receiver, transmitter or 802.1AS port keeps (07 R288 to R290). -/
structure PtpState where
  sync    : Option (Nat × Instant × Int) := none        -- seq, t2, correction of a two-step Sync
  t12     : Option (Instant × Instant × Int) := none    -- t1, t2, correction of the last Sync completed
  delays  : List Int := []                              -- the last 16 delay measurements, newest first
  req     : Option (Nat × Instant) := none              -- seq and t3 of the last Delay_Req (t1 of a Pdelay_Req)
  resp    : Option (Nat × Instant × Instant × Int) := none  -- seq, t2, t4 and correction of a Pdelay_Resp
  prevPair : Option (Instant × Instant) := none         -- t3, t4 of the previous peer exchange
  ratio   : Int × Nat := (1, 1)                         -- neighborRateRatio
  offset  : Option Int := none                          -- not yet used by the servo
  lastOff : Int := 0
  announce : Option (Nat × Nat × Bool × Instant) := none -- sender, clockClass, ptpTimescale, when
  rxSeq   : Option (Nat × Instant) := none              -- seq and ingress stamp of the last Delay_Req taken
  seqTx   : Nat := 0                                    -- next sequence number sent
  deriving DecidableEq, Repr

/-- What a port with a SyncE role holds (07 R291). -/
structure EsmcState where
  ql     : Option Nat := none
  at_    : Instant := 0
  sent   : Option Nat := none     -- the QL sent last
  deriving DecidableEq, Repr

/-! ### A keeper -/

/-- The reference states (07 R276). -/
inductive RState
  | freeRun
  | acquiring
  | locked
  | holdover
  | lost
  deriving DecidableEq, Repr

def RState.code : RState → Nat
  | .freeRun => 0 | .acquiring => 1 | .locked => 2 | .holdover => 3 | .lost => 4

/-- Where the procedure of ACQUIRING stands (07 R278). -/
inductive Loop
  | fit          -- taking the first 16 measurements
  | stepNext (d : Int)   -- a first step is due at the next servo cycle
  | waiting      -- waits for TIME_ACCEPT_STEP
  | closed
  deriving DecidableEq, Repr

/-- One keeper's servo, state and memory (07). -/
structure Keeper where
  state   : RState := .freeRun
  reason  : Nat := 0
  sel     : Option Nat := none
  steer   : Int := 0               -- S, units of 2^-12 ppt
  integ   : Int := 0               -- i, in units of S × 2^-64
  loop    : Loop := .closed
  meas    : List (Instant × Int) := []   -- measurements of the candidate in ACQUIRING, newest first, 16 at most
  count   : Nat := 0               -- measurements taken since the procedure began
  closedAt : Instant := 0          -- when the loop closed, or LOCKED was entered
  lastUsed : Option Instant := none
  used    : List (Instant × Int) := []   -- offsets used, newest first (R275, R286)
  steers  : List (Instant × Int) := []   -- changes of S, newest first (R275, R285)
  lockedAt : Instant := 0          -- entry into LOCKED
  lockSum : Int := 0               -- the integral of S over the LOCKED interval up to lockSumAt
  lockSumAt : Instant := 0
  fresh   : Bool := false          -- LOCKED, with the first measurement of a new selection to come (R272)
  timeValid : Bool := false
  memValid  : Bool := false
  memory  : Int := 0
  firstUsed : Bool := false
  stepPending : Bool := false
  pending : Int := 0               -- P
  run     : List Int := []         -- the last 16 refused offsets of the run, newest first
  runFirst : Int := 0
  runLen  : Nat := 0
  holdFrom : Option Instant := none  -- t = 0 of the holdover estimate
  te0     : Nat := 0
  unc     : Option Nat := none     -- HOLD_FREQ_UNC taken at a loss of XO
  buildPrev : Option Int := none   -- phase build-out: the last phase
  buildAcc  : Int := 0             -- and the change of phase steered on
  offset  : Int := 0               -- the last e_x used or refused
  trimNew : Bool := false          -- an XO_TRIM not yet in effect (R301)
  empty   : Nat := 0               -- servo cycles for which the selection is held empty (09 R374)
  deriving DecidableEq, Repr

/-! ### The bond (09) -/

/-- The condition of a keeper (09 R362, R364 to R366, R376). -/
inductive KCond
  | boot                      -- before its first band search has ended
  | off                       -- disabled
  | down                      -- stopped by a fault
  | loading                   -- rejoin, steps 1 and 2
  | seed                      -- rejoin, to be seeded at the next servo cycle
  | trim (n : Nat)            -- rejoin, step 4, cycles done
  | watch (n : Nat)           -- rejoin, step 5, consecutive good cycles
  | run                       -- running
  deriving DecidableEq, Repr

/-- What the bond keeps of a keeper. -/
structure BondKeeper where
  cond     : KCond := .boot
  band     : Nat := 0          -- the VCO band that the search at boot has found (07 R262)
  outCount : Nat := 0          -- consecutive servo cycles with |d| > 1.5 ps
  outOfStep : Bool := false
  disagree : Bool := false     -- made ineligible under R366
  agreeCount : Nat := 0
  failed   : Bool := true      -- a check of R361 not passed at the latest servo cycle
  attempts : List Instant := []  -- rejoin attempts, newest first
  fails    : List Instant := []  -- failed attempts since the last KEEPER_ENABLE, newest first
  dead     : Bool := false       -- stays stopped until KEEPER_ENABLE or reset (R362)
  wants    : Bool := false       -- an attempt waits for its place among 3 in 10 s
  supply   : Bool := true
  deriving DecidableEq, Repr

inductive CellVote
  | none
  | a
  | b
  deriving DecidableEq, Repr

/-- An arbiter cell (09 R357, R358). -/
structure Cell where
  vote     : CellVote := .none
  reloads  : List Instant := []
  isolated : Bool := false
  deriving DecidableEq, Repr

/-- Everything of the bond (09 R355 to R376). -/
structure Bond where
  holder   : Option Tk := none
  cell0    : Cell := {}
  cell1    : Cell := {}
  cell2    : Cell := {}
  ka       : BondKeeper := {}
  kb       : BondKeeper := {}
  renewed  : Instant := 0       -- the last renewal
  dA       : Int := 0           -- d of TK-A and of TK-B; not used for the holder
  dB       : Int := 0
  grantedOnce : Bool := false   -- the lease has been granted since reset (R360)
  autoRejoin : Bool := true
  lease    : Nat := 2
  rejoin   : Nat := 16
  flags    : BitVec 6 := 0      -- [5] CELL_FIX [4] CELL_ISOLATED [3] OUT_OF_STEP [2] AGREE_FAULT [1] EXPIRED [0] HANDOVER
  lastHandover : Instant := 0
  xoFault  : Bool := false      -- FAULT_CAUSE.XO_LOST
  faultA   : Bool := false      -- TK-A stopped by a fault, FAULT_CAUSE.KEEPER_A
  faultB   : Bool := false
  deriving DecidableEq, Repr

/-- Everything of chapter 7. -/
structure Keepers where
  a        : Keeper := {}
  b        : Keeper := {}
  cands    : Tbl Cand := []
  candSt   : Tbl CandState := []
  refCfg   : Tbl RefCfg := []       -- 0 REFA, 1 REFB
  refSt    : Tbl RefState := []
  servo    : Tbl ServoCfg := []
  cfg      : KeeperCfg := {}
  ptpCfg   : Tbl PtpCfg := []
  ptp      : Tbl PtpState := []
  synceCfg : Tbl SynceCfg := []
  esmc     : Tbl EsmcState := []
  force    : Option Nat := none
  disputes : List (Nat × Nat) := []
  voteAt   : Instant := 0           -- when the running VOTE_WINDOW began
  flags    : BitVec 6 := 0          -- TK_FLAGS
  xoLost   : Bool := false
  aonTrim  : Option Instant := none -- the AON oscillator's last trim (01 R16)
  xoBack   : Bool := false          -- XO is back: HOLDOVER goes on from the next servo cycle (R287)
  timeA    : List Word := [0, 0, 0, 0]
  timeB    : List Word := [0, 0, 0, 0]
  staged   : List TkStaged := []    -- in order of acceptance
  stepAt   : List Instant := []     -- apply-at instants of accepted steps (R284)
  grid5    : Nat := 0               -- g of 08 R323, in fifths of a sub-ns unit, modulo 524288
  ppsOut   : Instant := 0           -- the last whole second at which PPS_OUT rose
  ppsMonA  : Instant := 0
  ppsMonB  : Instant := 0
  bond     : Bond := {}
  deriving DecidableEq, Repr

end Machine
end Sys2Proof
end

