-- ==== Sys2Proof/Machine/LaneTypes.lean ====
section
/-! DEFINITION. State of the serial lanes, quads, modules and calibration (10). Defaults are the reset
values of 10 R445. -/

namespace Sys2Proof

/-- What an access on a module bus ends with (10 R431). -/
inductive I2cResult
  | data (bytes : List Byte)
  | nack
  | stuck
  deriving DecidableEq, Repr

/-- What ends a bring-up state (10 R406 to R415): the far end's or the receiver's part of it. -/
inductive LinkProgress
  | agreed (tl25 : Bool) (farMsg : Nat)        -- Clause 37 and the message page give a Tuireane rate
  | noAgreement (fbReason farMsg : Nat)        -- Clause 37 completes without one
  | farTrain                                   -- 4 valid far TRAIN sets
  | bothReady                                  -- READY sent and received 8 times
  | locked                                     -- symbol or block lock, RS-FEC alignment where on
  | calxDone                                   -- R414 completes
  | linkOk                                     -- Clause 37 reaches link_ok at 1000BASE-X
  deriving DecidableEq, Repr

namespace Machine

/-- The link states (10 R406, R435). -/
inductive LState
  | detect
  | base
  | step
  | train
  | lock
  | calx
  | active
  | park
  | fallback
  deriving DecidableEq, Repr

def LState.code : LState → Nat
  | .detect => 0 | .base => 1 | .step => 2 | .train => 3 | .lock => 4 | .calx => 5 | .active => 6
  | .park => 7 | .fallback => 8

/-- PORT_SET (10 R438). -/
structure PortCfg where
  enable   : Bool := true
  parkEn   : Bool := false
  fec      : Bool := false
  mode     : Nat := 0
  tl25     : Bool := false
  parkIdle : Nat := 1000
  drain    : Nat := 1000
  hold     : Nat := 10
  deriving DecidableEq, Repr

/-- EQ_SET (10 R441). -/
structure EqCfg where
  adapt  : Bool := true
  preset : Nat := 1
  minW   : Nat := 300
  warnW  : Nat := 200
  minH   : Nat := 30
  warnH  : Nat := 20
  swing  : Nat := 800
  deriving DecidableEq, Repr

/-- A lane with its module (10). -/
structure Lane where
  cfg      : PortCfg := {}
  eq       : EqCfg := {}
  state    : LState := .detect
  since    : Instant := 0        -- entry into the state
  rate     : Nat := 0            -- RATE, R435
  going    : Nat := 0            -- the rate code of the bring-up under way
  shut     : Bool := false       -- its input stays excluded until it enters ACTIVE (09 R390, 14 R588)
  fallen   : Bool := false
  fbReason : Nat := 0
  pll      : Nat := 0
  fecOn    : Bool := false
  energy   : Bool := false
  eyeLow   : Bool := false
  lockLost : Bool := false
  fallbackEv : Bool := false
  fallbacks : Nat := 0           -- consecutive bring-ups ended in FALLBACK (R415)
  limit    : Bool := false       -- NP = 0 in BASE
  activeAt : Instant := 0
  farMsg   : Nat := 0
  eyeValid : Bool := false
  eyeW     : Nat := 0
  eyeH     : Nat := 0
  ctle     : Nat := 0
  pre      : Nat := 0            -- own transmit FIR
  post     : Nat := 0
  dfe      : List Int := [0, 0, 0, 0, 0, 0, 0, 0]
  limits   : BitVec 2 := 0       -- STATUS: [1] PRE_LIMIT [0] POST_LIMIT
  updated  : Bool := false
  farReady : Nat := 0            -- far sets with READY received
  calxRecv : Nat := 0            -- CALX_DONE received
  calxCal  : Bool := false       -- a far CAL frame has come in CALX
  parkWait : Bool := false       -- a park request waits until the model holds no copy
  parkFrom : Option Instant := none  -- PARK_REQ is out since then
  parkJid  : Option Nat := none
  exitFrom : Option Instant := none  -- own exit burst began then
  exitJid  : Option Nat := none
  modPresent : Bool := false
  modKind  : Nat := 0            -- 0 none or not yet read, 1 SFF-8472, 2 SFF-8636, 3 unknown
  modReady : Bool := false
  modRate  : Nat := 0            -- highest rate its module supports: 0 unknown, else in Mbaud
  heldUntil : Option Instant := none -- held in DETECT after insertion (R429)
  scan     : Nat := 1            -- last scan of the four sideband inputs
  side     : Nat := 1            -- the inputs as taken after two agreeing scans
  shadow   : Tbl Nat := []       -- alarm flags read, by byte (R430)
  shown    : Tbl Nat := []       -- alarm flags set at the last poll, by byte
  modAlarm : Bool := false
  eqPend   : Bool := false
  eqRun    : Bool := false
  delayPend : Bool := false
  deriving DecidableEq, Repr

/-- A high-band PLL (10 R399, R400). -/
structure HbPll where
  rate   : Nat := 0              -- 0 none, 1 31.25, 2 25.78125, 3 20.625 GHz
  lock   : Bool := false
  slots  : BitVec 4 := 0
  search : Option Nat := none    -- rate under search
  sweep  : Bool := false         -- the search goes on through the rates after it
  deriving DecidableEq, Repr

/-- A quad (10 R398, R433). -/
structure Quad where
  powered : Bool := false
  lbLock  : Bool := false
  jid     : Option Nat := none   -- the QUAD_SET that waits
  removed : Nat := 0
  drain   : Nat := 0             -- DRAIN_LIMIT of the last QUAD_SET
  off     : Bool := false        -- draining before power-down
  starting : Bool := false       -- powering up
  footOff : Bool := false        -- powered down by footing (09 R386)
  deriving DecidableEq, Repr

/-- One access waiting on a module bus (10 R431). -/
structure I2cReq where
  jid    : Option Nat            -- none for the device's own polls
  port   : Nat
  dev    : Bool
  page   : Nat
  off    : Nat
  len    : Nat
  write  : Option (List Byte)
  deriving DecidableEq, Repr

structure I2cBus where
  queue : List I2cReq := []      -- the head is in progress
  fast  : Bool := true
  poll  : Nat := 100
  nack  : Bool := false
  stuck : Bool := false
  deriving DecidableEq, Repr

/-- A die sensor (10 R424). -/
structure Sensor where
  temp : Int := 0                -- 1/16 °C
  ref  : Int := 0
  deriving DecidableEq, Repr

/-- A PORT_SET, LINK_RETRAIN or QUAD_SET that waits for its A. -/
inductive LaneChange
  | port (p : Nat) (v : PortCfg)
  | retrain (p : Nat)
  | quadOff (q drain : Nat)
  | quadOn (q drain : Nat)
  deriving DecidableEq, Repr

/-- The port that a lane change names, or the first one of its quad. -/
def LaneChange.place : LaneChange → Nat
  | .port p _ => p | .retrain p => p | .quadOff q _ => 16 * q | .quadOn q _ => 16 * q

structure LaneStaged where
  a      : Instant
  jid    : Option Nat
  change : LaneChange
  deriving DecidableEq, Repr

/-- TL_MAX defaults to TL-25, and PRESET to 4, on trunk ports (R438, R441). -/
def Lane.reset (p : Nat) : Lane :=
  if p < 48 then {} else { cfg := { tl25 := true }, eq := { preset := 4 } }

/-- Everything of chapter 10. -/
structure Lanes where
  lanes   : Tbl Lane := []
  quads   : Tbl Quad := []
  hb0     : HbPll := {}
  hb1     : HbPll := {}
  buses   : Tbl I2cBus := []
  sensors : Tbl Sensor := []
  bandRun : BitVec 2 := 0
  vernPend : BitVec 4 := 0         -- VERNIER runs pending, by quad
  auto    : BitVec 4 := 0xF#4      -- [3] BAND [2] EQ [1] DELAY [0] VERNIER
  calDt   : Nat := 30              -- 0.1 °C
  staged  : List LaneStaged := []
  io33Low : Bool := false          -- 15 R605
  latched : List Nat := []         -- ports whose ABS or LOS has changed in sleep (13 R549)
  deriving DecidableEq, Repr

end Machine
end Sys2Proof
end

