-- ==== Sys2Proof/Machine/PowerTypes.lean ====
section
/-! DEFINITION. State of the interpreter cores and footing (09), and of power, reset, boot and security
(14). Defaults are the reset values of 09 R396, 14 R590 and 14 R595. -/

namespace Sys2Proof

/-- Where the boot ROM takes an image from (14 R576, R581). -/
inductive ImageSource
  | slotA
  | slotB
  | host
  deriving DecidableEq, Repr

namespace Machine

/-- The role of CC0 or CC1 (09 R392 CORE_STATUS). -/
inductive CoreRole
  | off
  | restarting
  | standby
  | interp
  | failed
  deriving DecidableEq, Repr

def CoreRole.code : CoreRole → Nat
  | .off => 0 | .restarting => 1 | .standby => 2 | .interp => 3 | .failed => 4

/-- Everything of 09 R377 to R390. -/
structure Faults where
  cc0      : CoreRole := .interp
  cc1      : CoreRole := .standby
  restarts0 : List Instant := []       -- restarts of CC0, newest first
  restarts1 : List Instant := []
  takeover : Option Nat := none        -- core whose journal replay is under way
  state    : Nat := 0                  -- 0 NORMAL, 1 ENTERING, 2 FOOTING, 3 LEAVING
  causes   : BitVec 4 := 0             -- [3] COMMAND [2] CORES [1] THERMAL [0] SUPPLY
  entryCause : BitVec 4 := 0
  e        : Option Instant := none    -- entry instant to come, of a detected cause
  cmdEnter : List Instant := []        -- instants of accepted FOOTING_ENTER commands
  x        : Option Instant := none    -- exit instant to come
  exitJid  : Option Nat := none
  autoExit : Bool := true
  exitHold : Nat := 100
  cfgPend  : List (Instant × Bool × Nat × Nat) := []  -- FOOTING_CFG_SET: A, AUTO_EXIT, EXIT_HOLD, record
  since    : Option Instant := none    -- the E at which the running footing began
  counted  : Nat := 0                  -- its ns that FOOTING_NS holds so far
  coolFrom : Instant := 0              -- every sensor has been at 105 °C or below since then (09 R389)
  bufOff   : Bool := false             -- BUF1 to BUF3 powered down
  deriving DecidableEq, Repr

/-- A public key slot of OTP (14 R592): X then Y, 96 bytes. -/
structure OtpKey where
  key     : List Byte
  revoked : Bool := false
  deriving DecidableEq, Repr

/-- A vendor slot: the SHA-384 of a key (14 R592). -/
structure OtpVendor where
  hash    : List Byte := []
  revoked : Bool := false
  deriving DecidableEq, Repr

/-- OTP (14 R592). -/
structure Otp where
  vendor0 : OtpVendor := {}
  vendor1 : OtpVendor := {}
  owners  : List OtpKey := []
  apps    : List OtpKey := []
  floor   : Nat := 0
  perm    : BitVec 2 := 0          -- [1] PF0_CONFIG [0] POLICY, burnt
  permItems : Option (BitVec 6) := none
  jtagOff : Bool := false
  serial  : Nat := 0               -- the device serial number
  deriving DecidableEq, Repr

/-- What a copy of the flash directory says (14 R577). -/
structure FlashDir where
  valid : Bool := false
  seq   : Nat := 0
  trial : Bool := false
  prefB : Bool := false
  deriving DecidableEq, Repr

/-- The flash as the ROM and the interpreter see it: the two slots and the two copies of the directory (14 R577). -/
structure Flash where
  slotA : Memory := []
  slotB : Memory := []
  dir0  : Memory := []
  dir1  : Memory := []
  deriving DecidableEq, Repr

/-- An open firmware update (14 R593). -/
structure FwUpdate where
  slotB   : Bool
  length  : Nat
  written : Nat := 0
  last    : Instant           -- the last command of the update
  erasing : Option Nat := none -- the FW_UPDATE_BEGIN that waits on the erase
  deriving DecidableEq, Repr

/-- An OTP write in progress (14 R592). -/
inductive OtpWrite
  | enrol (app : Bool) (key : List Byte)
  | revoke (app : Bool) (slot : Nat)
  | lock (bits : BitVec 2) (items : BitVec 6)
  | floor (svn : Nat)
  deriving DecidableEq, Repr

/-- A SLEEP_ENTER or DEVICE_RESET that waits for its A. -/
inductive PowerWait
  | sleep (keepTime : Bool) (drain : Nat)
  | reset (cold : Bool)
  deriving DecidableEq, Repr

/-- Everything of chapter 14. -/
structure Power where
  policy     : BitVec 6 := 0b001001#6
  lockPolicy : Bool := false
  lockPf0    : Bool := false
  otp      : Otp := {}
  otpWrite : Option (OtpWrite × Nat) := none
  flash    : Flash := {}
  update   : Option FwUpdate := none
  pstate   : Nat := 0              -- 0 RUN, 1 ENTERING, 2 SLEEP, 3 WAKING
  keepTime : Bool := false
  warn     : Bool := false
  hotFooting : Bool := false
  warnS    : BitVec 8 := 0         -- sensors above the warning threshold
  cause    : BitVec 8 := 0b10#8    -- RESET_CAUSE; PORST after power-up
  inReset  : Bool := false         -- a reset is held (R574)
  resetCold : Bool := false
  hold     : Instant := 0          -- how long at least it is held, from its start (R574)
  bootsel  : Nat := 0
  hostcfg  : Bool := false
  stage    : Nat := 0
  image    : Nat := 0
  trial    : Bool := false
  late     : Bool := false
  cfgError : Bool := false
  bandFailA : Bool := false
  bandFailB : Bool := false
  fwd      : Bool := false
  fwdAt    : Option Instant := none   -- FWD_START once fixed
  reasonA  : Nat := 7
  reasonB  : Nat := 7
  fwdMs    : Nat := 0
  readyMs  : Nat := 0
  tkStart  : Nat := 0              -- from reset release to the start of TK time
  cfgErrIdx : Nat := 0
  cfgErrSt : Nat := 0
  trialBoots : Nat := 0            -- boots of a TRIAL slot since the last cold reset, in AON
  svn      : Nat := 0              -- of the running image
  vendorHash : List Byte := []     -- of the running image's key
  subsys   : Nat := 0              -- word 4 of the header
  baseMac  : Nat := 0
  packets  : List (List Word) := []  -- the configuration part of the running image
  cfgRun   : Bool := false         -- the model's own: set while CONFIG_PART_RUN runs the main phase (14 R582)
  wakeLatch : BitVec 16 := 0
  wakeEn   : BitVec 16 := 0
  wakeAfter : Nat := 0
  wakePend : Bool := false         -- a wake source has been taken and the wake is to come
  perstLatched : List Nat := []    -- EV_PERST causes seen in sleep (13 R549)
  waits    : List (PowerWait × Instant × Nat) := []  -- accepted commands, their A, their records
  entering : Option (Bool × Instant × Nat) := none   -- sleep entry under way: KEEP_TIME, A, record
  asleep   : Option Instant := none
  wokenQuads : BitVec 4 := 0       -- quads powered before sleep
  freeN    : Nat := 0              -- the model's own: counts the free values read (assumption 91)
  recovLo  : Word := 0
  recovHi  : Word := 0
  recovLen : Nat := 0
  recovRes : Nat := 0
  recovSt  : Nat := 0
  deriving DecidableEq, Repr

end Machine
end Sys2Proof
end

