-- ==== Sys2Proof/Syntax.lean ====
section
/-! DEFINITION. The commands of the KLW-6425 as a block: one constructor for each row of
spec/opcode_table.json. A row that is an operation of a command packet takes the packet and its
notice (`Req`). A row that is an event takes what the outside world or the device's own analogue
parts settle: the port, the instant `t` of the event, bytes on a wire, a measured value. -/

namespace Sys2Proof

/-- Where an injected frame comes from (02 R52, 13 R532): an application core's ring, or a vendor
core at port 64, which brings its own header bricks and bytes. -/
inductive InjectSource
  | core (c : AppCore)
  | firmware (direct : Bool) (hb3 hb0 : Word) (bytes : List Byte)
  deriving DecidableEq, Repr


/-- The commands: the rows of spec/opcode_table.json. -/
inductive Instr
  /-- FRAME_STAMP (R49): A start symbol crosses the receive balls; the stamp unit takes the stamp and forms the header bricks of the lead tile. -/
  | frameStamp (port : Nat) (bytes : List Byte) (overrun : Bool) (t : Instant)
  /-- RX_FRAME_END (R94): The receive PCS reaches a frame's end, checks length and FCS, inverts the FCS if needed and sends the end grout. -/
  | rxFrameEnd (port : Nat) (t : Instant)
  /-- RX_OVERSIZE (R94): A frame passes MAX_FRAME bytes and is ended with POISON reason 0x06. -/
  | rxOversize (port : Nat) (t : Instant)
  /-- RX_SYMBOL_ABORT (R94): An invalid symbol or block inside a frame ends it with POISON reason 0x02. -/
  | rxSymbolAbort (port arrived : Nat) (t : Instant)
  /-- GROUT (R67): A grout source sends a new horizon at the grout interval. -/
  | grout (port : Nat) (upto t : Instant)
  /-- MERGE_RELEASE (R64): An item or horizon arrives at a merge input and the merge point releases every ordered item whose release condition now holds. -/
  | mergeRelease (mp : Nat) (tagError : Option Nat) (t : Instant)
  /-- CHANNEL_STALL (R59): A mortar handshake does not complete within STALL_LIMIT and the channel is isolated. -/
  | channelStall (mp input : Nat) (t : Instant)
  /-- LOSS_OF_SYMBOL_LOCK (R70): An ACTIVE lane loses symbol lock; the frame in progress is poisoned, the port becomes a pure grout source and goes down. -/
  | lossOfSymbolLock (port arrived : Nat) (t : Instant)
  /-- PIPELINE_LEAD (R88): A lead tile passes pipeline stages 1 to 8 and HB0 and HB3 are written. -/
  | pipelineLead (pipe : Nat) (ecc : Option (Nat × Nat)) (t : Instant)
  /-- END_KEY_STAGE (R89): At a frame's end key stage 9 charges the meter, takes the recovery verdict and may post a learn notice. -/
  | endKeyStage (pipe : Nat) (t : Instant)
  /-- ADMISSION (R179): At a lead key each egress admission point admits or drops each copy, charging need and pool. -/
  | admission (t : Instant)
  /-- END_KEY_ADMISSION (R180): At a frame's end key the actual tile count replaces the need, marked copies are removed and class-7 copies are bound. -/
  | endKeyAdmission (t : Instant)
  /-- MODEL_START (R196): The stamp-time model of a port can begin a copy and the scheduler chooses one. -/
  | modelStart (port : Nat) (t : Instant)
  /-- MODEL_END (R181): A copy reaches its model end of transmission and leaves its queue, returning its charge. -/
  | modelEnd (port : Nat) (t : Instant)
  /-- AGING (R54): A queued copy reaches its stamp plus MAX_RESIDENCE and is removed as AGED. -/
  | aging (port : Nat) (t : Instant)
  /-- PHYSICAL_TX_START (R79): The physical transmitter begins a frame in model order once its tiles have arrived. -/
  | physicalTxStart (port : Nat) (t : Instant)
  /-- TX_TILE_READ (R173): A transmit stage reads a tile, correcting single errors or dropping or poisoning the copy on an uncorrectable one. -/
  | txTileRead (port addr errors : Nat) (t : Instant)
  /-- CUT_POISON (R191): A cut-through copy meets POISON or a marked FCS and is ended with the error sequence. -/
  | cutPoison (port : Nat) (t : Instant)
  /-- CUT_UNDERRUN (R192): The next tile of a cut-through copy is missing when the line needs it and the copy is ended. -/
  | cutUnderrun (port : Nat) (t : Instant)
  /-- EXTRACT_FRAME (R533): The transmit stage of port 64, 65 or 66 writes a frame into its extraction ring or drops it. -/
  | extractFrame (port : Nat) (fwFull : Bool) (t : Instant)
  /-- INJECT_DESCRIPTOR (R532): The device reads an inject descriptor and its frame, checks it, stamps it and injects it. -/
  | injectDescriptor (src : InjectSource) (t : Instant)
  /-- LOOPBACK_REENTRY (R52): A frame transmitted on port 67 re-enters IP1 with a stamp from the port-67 model. -/
  | loopbackReentry (t : Instant)
  /-- PAUSE_RX (R199): An accepted PAUSE frame at its end key starts, renews or ends the pause of a port. -/
  | pauseRx (port : Nat) (t : Instant)
  /-- PAUSE_END (R199): The paused interval of a port expires. -/
  | pauseEnd (port : Nat) (t : Instant)
  /-- PAUSE_CEILING (R200): A paused interval reaches PAUSE_CEILING and the port ignores PAUSE for PAUSE_REARM. -/
  | pauseCeiling (port : Nat) (t : Instant)
  /-- PAUSE_REARM_END (R200): PAUSE_REARM expires and the port accepts PAUSE again. -/
  | pauseRearmEnd (port : Nat) (t : Instant)
  /-- DISABLE_DRAIN_END (R185): The drain limit of a disabled port expires and remaining copies are removed as DISABLE_DISCARD. -/
  | disableDrainEnd (port : Nat) (t : Instant)
  /-- STAGED_CHANGE_APPLY (R74): A unit's input horizon reaches a staged change's apply-at instant and the unit applies it. -/
  | stagedChangeApply (unit : Nat) (horizon t : Instant)
  /-- REBASE (R55): After a step of TK time the fabric drops arrivals until items before S are released, then moves horizons, models and stamps by the step. -/
  | rebase (t : Instant)
  /-- DIGEST_COMPLETE (R86): Every selected admission point has passed the end of the digest interval and the digests are written. -/
  | digestComplete (t : Instant)
  /-- RING_COUNT_UPDATE (R83): MORTAR_SPEED.RING_COUNT is updated every 1 ms. -/
  | ringCountUpdate (count : Nat) (t : Instant)
  /-- MORTAR_SET (R84): Sets MAX_RESIDENCE and STALL_LIMIT. -/
  | mortarSet (r : Req)
  /-- MORTAR_GET (R85): Returns the mortar settings and status. -/
  | mortarGet (r : Req)
  /-- DIGEST_RUN (R86): Starts a decision digest run at its apply-at instant. -/
  | digestRun (r : Req)
  /-- INGRESS_SET (R115): Sets a port's ingress settings. -/
  | ingressSet (r : Req)
  /-- INGRESS_GET (R115): Returns a port's ingress settings. -/
  | ingressGet (r : Req)
  /-- VLAN_SET (R116): Writes a VLAN entry. -/
  | vlanSet (r : Req)
  /-- VLAN_GET (R116): Returns a VLAN entry. -/
  | vlanGet (r : Req)
  /-- STREAM_SET (R117): Writes a stream entry. -/
  | streamSet (r : Req)
  /-- STREAM_GET (R117): Returns a stream entry. -/
  | streamGet (r : Req)
  /-- METER_SET (R118): Writes a meter. -/
  | meterSet (r : Req)
  /-- METER_GET (R118): Returns a meter. -/
  | meterGet (r : Req)
  /-- WINDOW_SET (R119): Writes an ingress window. -/
  | windowSet (r : Req)
  /-- RECOVERY_SET (R120): Writes a recovery function and sets TAKE_ANY. -/
  | recoverySet (r : Req)
  /-- RECOVERY_GET (R120): Returns a recovery function, its state and counters. -/
  | recoveryGet (r : Req)
  /-- RECOVERY_RESET (R120): Resets a recovery function's history at its apply-at instant. -/
  | recoveryReset (r : Req)
  /-- LEARN_NOTICE_APPLY (R137): CC1 takes the next learn notice and inserts, moves, locks or discards the entry. -/
  | learnNoticeApply (a t : Instant)
  /-- FLAP_HOLD_END (R139): HOLD_TIME ends and CC1 clears LOCKED and the move count. -/
  | flapHoldEnd (vid mac : Nat) (a t : Instant)
  /-- L2_AGE (R140): CC1 reads and clears HIT and removes entries idle for AGE_TIME. -/
  | l2Age (a t : Instant)
  /-- TABLE_SCRUB (R129): The scrubber reads table words, correcting single errors and invalidating words with uncorrectable errors. -/
  | tableScrub (copy table index : Nat) (uncorrectable : Bool) (t : Instant)
  /-- FF_LIVENESS_DOWN (R152): A port's liveness goes down at D plus FF_DEBOUNCE and groups choose a new member. -/
  | ffLivenessDown (port : Nat) (t : Instant)
  /-- FF_LIVENESS_UP (R152): A port's liveness goes up after FF_UP_HOLD and groups choose their member. -/
  | ffLivenessUp (port : Nat) (t : Instant)
  /-- L2_FLUSH_GROUP (R141): The k-th group of a flush is removed at A plus k µs. -/
  | l2FlushGroup (jid : Nat) (t : Instant)
  /-- FENCE_COMPLETE (R154): Every masked port has fenced and FENCE completes OK. -/
  | fenceComplete (jid : Nat) (t : Instant)
  /-- FENCE_TIMEOUT (R154): A FENCE reaches its TIMEOUT and reports the ports not fenced. -/
  | fenceTimeout (jid : Nat) (t : Instant)
  /-- L2_SET (R160): Writes static L2 entries. -/
  | l2Set (r : Req)
  /-- L2_DEL (R160): Deletes L2 entries. -/
  | l2Del (r : Req)
  /-- L2_GET (R160): Returns an L2 entry. -/
  | l2Get (r : Req)
  /-- L2_FLUSH (R161): Removes selected L2 entries in groups. -/
  | l2Flush (r : Req)
  /-- TABLE_CFG_SET (R162): Sets aging, flap and fast-failover timing. -/
  | tableCfgSet (r : Req)
  /-- TABLE_CFG_GET (R162): Returns the table settings. -/
  | tableCfgGet (r : Req)
  /-- L2_PORT_SET (R163): Sets a port's learning and flood settings. -/
  | l2PortSet (r : Req)
  /-- L2_PORT_GET (R163): Returns a port's L2 settings. -/
  | l2PortGet (r : Req)
  /-- L2_UNLOCK (R160): Ends the flap hold of an entry. -/
  | l2Unlock (r : Req)
  /-- RIF_SET (R164): Writes a router interface. -/
  | rifSet (r : Req)
  /-- RIF_GET (R164): Returns a router interface. -/
  | rifGet (r : Req)
  /-- NH_SET (R165): Writes a next hop. -/
  | nhSet (r : Req)
  /-- NH_GET (R165): Returns a next hop. -/
  | nhGet (r : Req)
  /-- ROUTE_SET (R166): Writes routes into the host table or trie. -/
  | routeSet (r : Req)
  /-- ROUTE_DEL (R166): Deletes routes. -/
  | routeDel (r : Req)
  /-- ROUTE_GET (R166): Returns a route, exact or by longest match. -/
  | routeGet (r : Req)
  /-- MCG_SET (R167): Writes a multicast group mask. -/
  | mcgSet (r : Req)
  /-- MCG_GET (R167): Returns a multicast group mask. -/
  | mcgGet (r : Req)
  /-- FFG_SET (R168): Writes a fast-failover group. -/
  | ffgSet (r : Req)
  /-- FFG_GET (R168): Returns a fast-failover group. -/
  | ffgGet (r : Req)
  /-- FENCE (R154): Waits until every frame stamped before F has left the masked ports. -/
  | fence (r : Req)
  /-- POOL_SET (R207): Sets the class-7 and firmware pool sizes. -/
  | poolSet (r : Req)
  /-- POOL_GET (R207): Returns the pool sizes. -/
  | poolGet (r : Req)
  /-- QUEUE_SET (R208): Sets a queue's limits and thresholds. -/
  | queueSet (r : Req)
  /-- QUEUE_GET (R208): Returns a queue's settings. -/
  | queueGet (r : Req)
  /-- SCHED_SET (R209): Sets a port's scheduler and shaper. -/
  | schedSet (r : Req)
  /-- SCHED_GET (R209): Returns a port's scheduler settings. -/
  | schedGet (r : Req)
  /-- PAUSE_SET (R210): Sets a port's PAUSE settings. -/
  | pauseSet (r : Req)
  /-- PAUSE_GET (R210): Returns a port's PAUSE settings. -/
  | pauseGet (r : Req)
  /-- MIRROR_SET (R211): Sets the mirror destination. -/
  | mirrorSet (r : Req)
  /-- MIRROR_GET (R211): Returns the mirror destination. -/
  | mirrorGet (r : Req)
  /-- COURSE_OCCURRENCE (R226): An occurrence of a course entry arrives; a claimed frame is launched or a gate state is set. -/
  | courseOccurrence (port entry error : Nat) (whole : Bool) (t : Instant)
  /-- WINDOW_RELEASE (R232): The window of an unclaimed occurrence is released 320 ns before its instant. -/
  | windowRelease (port entry : Nat) (t : Instant)
  /-- COURSE_SWAP (R239): At A the new bank becomes active and old claims are carried or removed. -/
  | courseSwap (port : Nat) (t : Instant)
  /-- COURSE_SET (R251): Sets the shadow bank length. -/
  | courseSet (r : Req)
  /-- COURSE_ENTRY_SET (R252): Writes shadow bank entries. -/
  | courseEntrySet (r : Req)
  /-- COURSE_COMMIT (R253): Validates the shadow bank and swaps it in at A. -/
  | courseCommit (r : Req)
  /-- COURSE_GET (R254): Returns a bank's length and base. -/
  | courseGet (r : Req)
  /-- COURSE_ENTRY_GET (R255): Returns bank entries. -/
  | courseEntryGet (r : Req)
  /-- COURSE_REPORT_GET (R256): Returns occurrence records. -/
  | courseReportGet (r : Req)
  /-- COURSE_CLEAR (R251): Sets every shadow entry to NONE. -/
  | courseClear (r : Req)
  /-- SERVO_CYCLE (R263): At k/1,024 s a keeper issues marks, renews the lease, updates qualification, selection, servo and state. -/
  | servoCycle (m : ServoIn) (t : Instant)
  /-- CANDIDATE_QUALIFY (R267): A candidate's conditions have held for QUAL_TIME and it becomes qualified. -/
  | candidateQualify (cand : Nat) (t : Instant)
  /-- VOTE_WINDOW_END (R270): At the end of VOTE_WINDOW candidates are compared and a disagreeing one may be outvoted. -/
  | voteWindowEnd (fs : List FreqMeas) (t : Instant)
  /-- REF_PPS_EDGE (R266): A PPS edge on REFA or REFB is stamped and gives an offset. -/
  | refPpsEdge (input : Nat) (edge : PpsEdge) (t : Instant)
  /-- PPS_MISSING (R268): No PPS edge 1.001 s after the previous one disqualifies the candidate. -/
  | ppsMissing (input : Nat) (t : Instant)
  /-- REF_CLOCK_LOST (R268): A lost REFA or REFB clock is detected and the candidate disqualified. -/
  | refClockLost (input : Nat) (t : Instant)
  /-- PTP_RX (R288): A PTP receiver takes a Sync, Follow_Up, Delay_Resp or Announce and computes offsets. -/
  | ptpRx (port : Nat) (msg : PtpMsg) (stamp t : Instant)
  /-- PTP_TX (R289): A PTP transmitter sends Sync, Announce or Delay_Resp at its interval. -/
  | ptpTx (port kind : Nat) (t : Instant)
  /-- ESMC_RX (R291): A port with a SyncE role takes an ESMC PDU and holds its QL. -/
  | esmcRx (port ql : Nat) (t : Instant)
  /-- ESMC_QL_TIMEOUT (R291): A QL held 5 s without a PDU becomes QL-DNU. -/
  | esmcQlTimeout (port : Nat) (t : Instant)
  /-- ESMC_TX (R291): A port sends an ESMC PDU each second or on a QL change. -/
  | esmcTx (port : Nat) (t : Instant)
  /-- XO_LOST (R287): Loss of XO_CLK is detected; DCOs and CPU PLL hold and keepers enter HOLDOVER or FREE_RUN. -/
  | xoLost (t : Instant)
  /-- XO_RESUME (R287): XO_CLK has been present for 1 s and the PLLs take it up again. -/
  | xoResume (t : Instant)
  /-- AON_TRIM (R16): The AON oscillator is trimmed against XO once per second. -/
  | aonTrim (t : Instant)
  /-- KEEPER_BAND_SEARCH_DONE (R262): A keeper's DCO band search completes or fails. -/
  | keeperBandSearchDone (k : Tk) (band : Option Nat) (t : Instant)
  /-- PPS_OUTPUT (R292): PPS_OUT and PPS_MON rise at a whole second. -/
  | ppsOutput (which : Nat) (t : Instant)
  /-- TIME_LATCH (R295): A write of LATCH copies both keepers' counters into TIME_A and TIME_B. -/
  | timeLatch (t : Instant)
  /-- TK_STATUS_GET (R307): Returns both keepers' state and time. -/
  | tkStatusGet (r : Req)
  /-- REF_STATUS_GET (R308): Returns a candidate's status. -/
  | refStatusGet (r : Req)
  /-- TIME_SET (R283): Sets TK time of both keepers at A. -/
  | timeSet (r : Req)
  /-- REF_CMD (R299): Disqualifies, clears, forces or releases a candidate. -/
  | refCmd (r : Req)
  /-- TIME_ACCEPT_STEP (R282): Accepts a pending step, applied at A. -/
  | timeAcceptStep (r : Req)
  /-- REF_SET (R298): Writes a candidate. -/
  | refSet (r : Req)
  /-- REF_GET (R298): Returns a candidate. -/
  | refGet (r : Req)
  /-- SERVO_SET (R300): Sets the loop settings of a servo input. -/
  | servoSet (r : Req)
  /-- SERVO_GET (R300): Returns the loop settings of a servo input. -/
  | servoGet (r : Req)
  /-- KEEPER_CFG_SET (R301): Sets keeper thresholds and holdover settings. -/
  | keeperCfgSet (r : Req)
  /-- KEEPER_CFG_GET (R301): Returns keeper settings. -/
  | keeperCfgGet (r : Req)
  /-- PTP_PORT_SET (R303): Sets a plant port's PTP role. -/
  | ptpPortSet (r : Req)
  /-- PTP_PORT_GET (R303): Returns a plant port's PTP settings. -/
  | ptpPortGet (r : Req)
  /-- SYNCE_SET (R304): Sets a port's SyncE role and ESMC. -/
  | synceSet (r : Req)
  /-- SYNCE_GET (R304): Returns a port's SyncE settings. -/
  | synceGet (r : Req)
  /-- REFIN_SET (R302): Sets the mode of REFA or REFB. -/
  | refinSet (r : Req)
  /-- REFIN_GET (R302): Returns the mode of REFA or REFB. -/
  | refinGet (r : Req)
  /-- TMARK_TX (R313): The transmit stage places a waiting TMARK in the first four idle positions and records its departure. -/
  | tmarkTx (port cycle sym : Nat) (t : Instant)
  /-- TMARK_RX (R315): A TMARK is received, checked and kept, discarded or counted. -/
  | tmarkRx (port : Nat) (symbols : List Nat) (codeError : Bool) (cycle sym : Nat) (t : Instant)
  /-- TIMING_FRAME_TX (R319): A timing frame slot falls due and the frame, with CAL where needed, is sent when it fits. -/
  | timingFrameTx (port : Nat) (t : Instant)
  /-- TIMING_FRAME_RX (R316): A TIMING or CAL frame is received by the port timing unit. -/
  | timingFrameRx (port : Nat) (bytes : List Byte) (t : Instant)
  /-- BEAT_SAMPLE (R322): A beat period gives one phase sample and updates FINE or COARSE. -/
  | beatSample (port phiRx phiTx : Nat) (t : Instant)
  /-- VERNIER_CAL_DONE (R329): A code-density run of a quad vernier completes and its table applies at a servo cycle. -/
  | vernierCalDone (quad dnl : Nat) (t : Instant)
  /-- DELAY_RUN_DONE (R332): A live delay run ends and its results apply at the next servo cycle. -/
  | delayRunDone (port fixedTx fixedRx resTx resRx : Nat) (t : Instant)
  /-- LT_RELOCK_TIMEOUT (R339): 40 µs after a PARK exit burst without detector re-lock, link timing goes to WAIT. -/
  | ltRelockTimeout (port : Nat) (t : Instant)
  /-- ASYM_WINDOW_END (R352): An ASYM_MEASURE window ends and gives its means and ALPHA. -/
  | asymWindowEnd (t : Instant)
  /-- LINK_TIMING_SET (R349): Sets a port's link timing settings. -/
  | linkTimingSet (r : Req)
  /-- LINK_TIMING_GET (R349): Returns a port's link timing settings. -/
  | linkTimingGet (r : Req)
  /-- ASYM_SET (R350): Sets ALPHA, EXT_TX and EXT_RX of a port. -/
  | asymSet (r : Req)
  /-- ASYM_GET (R350): Returns a port's asymmetry settings. -/
  | asymGet (r : Req)
  /-- LINK_STATUS_GET (R351): Returns a port's link timing values. -/
  | linkStatusGet (r : Req)
  /-- ASYM_MEASURE (R352): Starts or aborts a fibre-reversal measurement window. -/
  | asymMeasure (r : Req)
  /-- CAL_DELAY_RUN (R353): Starts live delay runs on selected ports. -/
  | calDelayRun (r : Req)
  /-- CAL_VERNIER_RUN (R353): Starts vernier calibration of selected quads. -/
  | calVernierRun (r : Req)
  /-- LEASE_EXPIRY (R355): No renewal for the lease interval; the lease becomes free and passes to an eligible keeper or none. -/
  | leaseExpiry (t : Instant)
  /-- KEEPER_CHECK_FAIL (R362): A keeper fails a releasing self-diagnosis check and is stopped, releasing the lease. -/
  | keeperCheckFail (k : Tk) (check : Nat) (t : Instant)
  /-- BOND_CELL_DISAGREE (R358): A bond cell differs from the other two and is reloaded or isolated. -/
  | bondCellDisagree (cell : Nat) (t : Instant)
  /-- REJOIN_BAND_DONE (R376): A rejoining keeper's firmware load and band search complete and it is seeded at the next servo cycle. -/
  | rejoinBandDone (k : Tk) (ok : Bool) (t : Instant)
  /-- HEARTBEAT_TIMEOUT (R377): No interpreter heartbeat for 100 µs declares an interpreter fault. -/
  | heartbeatTimeout (t : Instant)
  /-- INTERPRETER_FAULT (R377): A trap, memory error or journal checksum failure faults the interpreter and the survivor takes over. -/
  | interpreterFault (cause : Nat) (t : Instant)
  /-- STANDBY_FAULT (R380): The standby core faults and the interpreter takes learning and table writes. -/
  | standbyFault (cause : Nat) (t : Instant)
  /-- CORE_TAKEOVER (R378): The survivor has replayed the journal and mailbox service returns. -/
  | coreTakeover (t : Instant)
  /-- CORE_RESTART_DONE (R379): A faulted core is reloaded, passes its self-test and takes the standby role. -/
  | coreRestartDone (core : Nat) (ok : Bool) (t : Instant)
  /-- FOOTING_CAUSE_DETECT (R382): A supply, thermal or cores cause is detected and footing entry is staged at E. -/
  | footingCauseDetect (cause : Nat) (t : Instant)
  /-- FOOTING_ENTRY (R384): At key E the device stops classes 0-6, learning, application cores and TIMEIO and powers down units. -/
  | footingEntry (t : Instant)
  /-- BUF_POWER_DOWN (R385): BUF1-BUF3 hold no admitted tile, or the bound passes, and they are powered down. -/
  | bufPowerDown (t : Instant)
  /-- FOOTING_CAUSE_CLEAR (R389): A cause has cleared for EXIT_HOLD and the device may begin LEAVING. -/
  | footingCauseClear (cause : Nat) (t : Instant)
  /-- FOOTING_EXIT_APPLY (R390): At key X normal pools, admission and learning resume and FOOTING_N is released. -/
  | footingExitApply (t : Instant)
  /-- BOND_STATUS_GET (R395): Returns bond, fault, footing and core status. -/
  | bondStatusGet (r : Req)
  /-- BOND_CFG_SET (R395): Sets lease and rejoin settings. -/
  | bondCfgSet (r : Req)
  /-- BOND_CFG_GET (R395): Returns bond settings. -/
  | bondCfgGet (r : Req)
  /-- BOND_HANDOVER (R372): Moves the lease to the non-holder at a servo cycle. -/
  | bondHandover (r : Req)
  /-- KEEPER_DISABLE (R374): Stops one keeper, handing over first if it holds the lease. -/
  | keeperDisable (r : Req)
  /-- KEEPER_ENABLE (R375): Starts the rejoin of a stopped keeper. -/
  | keeperEnable (r : Req)
  /-- FOOTING_ENTER (R382): Enters footing at its apply-at instant. -/
  | footingEnter (r : Req)
  /-- FOOTING_EXIT (R389): Ends footing, completing at X. -/
  | footingExit (r : Req)
  /-- FOOTING_CFG_SET (R395): Sets AUTO_EXIT and EXIT_HOLD. -/
  | footingCfgSet (r : Req)
  /-- FOOTING_CFG_GET (R395): Returns footing settings. -/
  | footingCfgGet (r : Req)
  /-- DETECT_HOLD_EXPIRY (R407): Receive energy has lasted DETECT_HOLD and the port leaves DETECT. -/
  | detectHoldExpiry (port : Nat) (t : Instant)
  /-- ENERGY_LOST (R406): No receive energy for 1 ms takes the port to DETECT. -/
  | energyLost (port : Nat) (t : Instant)
  /-- LINK_STATE_PROGRESS (R406): A bring-up condition completes and the port moves to its next link state. -/
  | linkStateProgress (port : Nat) (p : LinkProgress) (t : Instant)
  /-- LINK_STATE_TIMEOUT (R413): A bring-up state times out and the port goes to FALLBACK or DETECT. -/
  | linkStateTimeout (port : Nat) (t : Instant)
  /-- TRAIN_SET_RX (R410): A TRAIN set is received and its request applied at the next block. -/
  | trainSetRx (port req status check : Nat) (codeError : Bool) (t : Instant)
  /-- SYMBOL_LOCK (R412): The receiver takes symbol lock after three commas. -/
  | symbolLock (port : Nat) (t : Instant)
  /-- CAPX_RX (R403): A CAPX ordered set is received and handled by its TYPE. -/
  | capxRx (port type flags check : Nat) (codeError : Bool) (t : Instant)
  /-- CALX_LOOPBACK_DONE (R414): The CALX loopback measurement ends and the port reconnects and sends CAL frames. -/
  | calxLoopbackDone (port fixedTx fixedRx : Nat) (t : Instant)
  /-- PLL_UNLOCK (R401): A quad PLL loses lock and its ports go to DETECT. -/
  | pllUnlock (quad pll : Nat) (t : Instant)
  /-- PLL_RELOCK (R401): A quad PLL relocks and its ports restart from DETECT. -/
  | pllRelock (quad pll : Nat) (t : Instant)
  /-- PLL_HOP_TIMEOUT (R400): A high-band hop does not lock within 20 µs; the slot is invalidated and a search started. -/
  | pllHopTimeout (pll : Nat) (t : Instant)
  /-- HB_BAND_SEARCH_DONE (R400): A high-band PLL band search completes and its slot is written. -/
  | hbBandSearchDone (pll : Nat) (ok : Bool) (t : Instant)
  /-- PARK_AUTO (R420): A port with PARK_EN idle for PARK_IDLE starts the park handshake. -/
  | parkAuto (port : Nat) (t : Instant)
  /-- PARK_REQ_LAPSE (R420): A park request without answer for 100 µs lapses. -/
  | parkReqLapse (port : Nat) (t : Instant)
  /-- PARK_EXIT (R422): A copy, unpark or far energy starts a PARK exit burst. -/
  | parkExit (port : Nat) (t : Instant)
  /-- PARK_EXIT_FAIL (R423): A PARK exit without symbol lock in 10 µs fails and the port goes to DETECT. -/
  | parkExitFail (port : Nat) (t : Instant)
  /-- EYE_MONITOR_UPDATE (R418): The eye monitor updates LANE_EYE every 100 ms and flags a low eye. -/
  | eyeMonitorUpdate (port width height ctle : Nat) (dfe : List Int) (t : Instant)
  /-- DIE_SENSOR_READ (R424): A die sensor is read every 1 ms and may trigger calibration runs or thermal warnings. -/
  | dieSensorRead (sensor : Nat) (temp : Int) (t : Instant)
  /-- EQ_RUN_DONE (R425): A CTLE re-adaptation run completes. -/
  | eqRunDone (port ctle : Nat) (t : Instant)
  /-- SIDEBAND_SCAN (R428): The sideband chain is scanned and debounced inputs are taken. -/
  | sidebandScan (inputs : List (Nat × Nat)) (t : Instant)
  /-- MODULE_PRESENCE_CHANGE (R429): ABS falls or rises; the module is held or removed. -/
  | modulePresenceChange (port : Nat) (absent : Bool) (t : Instant)
  /-- MODULE_READY (R429): 300 ms after insertion the identifier is read and TX_DIS released. -/
  | moduleReady (port ident rate : Nat) (t : Instant)
  /-- MODULE_ALARM_POLL (R430): Every ALARM_POLL the device reads module flags. -/
  | moduleAlarmPoll (bus : Nat) (t : Instant)
  /-- I2C_TRANSACTION_DONE (R431): An I2C access completes, NACKs or finds the bus stuck. -/
  | i2cTransactionDone (bus : Nat) (r : I2cResult) (t : Instant)
  /-- I2C_RETRY (R431): A stuck bus is retried once per second. -/
  | i2cRetry (bus : Nat) (freed : Bool) (t : Instant)
  /-- QUAD_POWER_UP_DONE (R433): A powered quad has locked, searched and started its ports. -/
  | quadPowerUpDone (quad : Nat) (t : Instant)
  /-- PORT_SET (R438): Sets a port's mode, enable and parking. -/
  | portSet (r : Req)
  /-- PORT_GET (R438): Returns a port's settings. -/
  | portGet (r : Req)
  /-- LANE_STATUS_GET (R442): Returns a lane's status. -/
  | laneStatusGet (r : Req)
  /-- LINK_RETRAIN (R439): Takes a port to DETECT. -/
  | linkRetrain (r : Req)
  /-- LINK_PARK (R439): Parks or unparks a port. -/
  | linkPark (r : Req)
  /-- QUAD_SET (R440): Powers a quad up or down. -/
  | quadSet (r : Req)
  /-- QUAD_GET (R440): Returns a quad's settings. -/
  | quadGet (r : Req)
  /-- EQ_SET (R441): Sets equalisation and eye thresholds. -/
  | eqSet (r : Req)
  /-- EQ_GET (R441): Returns equalisation settings. -/
  | eqGet (r : Req)
  /-- MODULE_READ (R443): Reads module memory. -/
  | moduleRead (r : Req)
  /-- MODULE_WRITE (R443): Writes module memory. -/
  | moduleWrite (r : Req)
  /-- MODULE_CFG_SET (R443): Sets bus speed and alarm poll. -/
  | moduleCfgSet (r : Req)
  /-- MODULE_CFG_GET (R443): Returns module bus settings. -/
  | moduleCfgGet (r : Req)
  /-- CAL_CFG_SET (R444): Sets automatic calibration kinds and CAL_DT. -/
  | calCfgSet (r : Req)
  /-- CAL_CFG_GET (R444): Returns calibration settings. -/
  | calCfgGet (r : Req)
  /-- EVT_INPUT_EDGE (R449): An edge on an input pin is stamped and a record made. -/
  | evtInputEdge (pin : Nat) (rising : Bool) (t : Instant)
  /-- EVT_FILTER_DONE (R449): FILTER_NS after a passing edge the stamp record is made. -/
  | evtFilterDone (pin : Nat) (t : Instant)
  /-- EVT_AON_LATCH (R451): An edge in sleep sets the pin's AON latch and wakes the device. -/
  | evtAonLatch (pin : Nat) (rising : Bool) (t : Instant)
  /-- EVT_OUTPUT_EDGE (R453): An output pin drives its queued, periodic or course edge at its instant, or drops it late. -/
  | evtOutputEdge (pin : Nat) (placeable : Bool) (t : Instant)
  /-- TIMEIO_CAL_DONE (R447): A TIMEIO vernier group run completes. -/
  | timeioCalDone (dnl : Nat) (t : Instant)
  /-- TIM_START_EDGE (R463): A START edge begins or ends a measurement. -/
  | timStartEdge (chan : Nat) (rising : Bool) (raw : Nat) (t : Instant)
  /-- TIM_STOP_EDGE (R463): A STOP edge ends a measurement and gives a record. -/
  | timStopEdge (chan : Nat) (rising : Bool) (raw : Nat) (t : Instant)
  /-- TIM_GATE_EDGE (R462): A GATE edge arms or disarms a channel. -/
  | timGateEdge (chan : Nat) (high : Bool) (raw : Nat) (t : Instant)
  /-- TIM_OVERRANGE (R463): No STOP within 20 s closes the measurement as OVERRANGE. -/
  | timOverrange (chan : Nat) (t : Instant)
  /-- MREF_LOST (R461): MREF absence is detected and channels stop. -/
  | mrefLost (t : Instant)
  /-- MREF_LOCK (R461): The MREF PLL locks again and channels resume. -/
  | mrefLock (err : Int) (t : Instant)
  /-- CKO_BAND_SEARCH_DONE (R469): A clock output band search completes or fails. -/
  | ckoBandSearchDone (out band : Nat) (ok : Bool) (t : Instant)
  /-- CKO_ALIGN_START (R475): An enabled output starts with a rising edge at its align instant A. -/
  | ckoAlignStart (out : Nat) (t : Instant)
  /-- CKO_BYPASS (R473): A lock error or NCLK stop switches an output to the bypass clock. -/
  | ckoBypass (out cause : Nat) (t : Instant)
  /-- CKO_RETURN (R474): An output returns from BYPASS onto Φ. -/
  | ckoReturn (out : Nat) (t : Instant)
  /-- CKO_PROFILE_APPLY (R471): A profile starts at S. -/
  | ckoProfileApply (out : Nat) (t : Instant)
  /-- CKO_SEGMENT_END (R471): A profile segment ends and the next begins, or the ramp is done. -/
  | ckoSegmentEnd (out : Nat) (t : Instant)
  /-- CKO_RELOCK (R476): An output relocks after footing and starts at a whole cycle of Φ. -/
  | ckoRelock (out : Nat) (t : Instant)
  /-- EVT_CFG_SET (R481): Sets an event pin's mode and settings. -/
  | evtCfgSet (r : Req)
  /-- EVT_CFG_GET (R481): Returns an event pin's settings. -/
  | evtCfgGet (r : Req)
  /-- EVT_EDGE (R482): Appends edges to an EDGES pin's queue. -/
  | evtEdge (r : Req)
  /-- EVT_STAMP_GET (R482): Returns and removes stamp records. -/
  | evtStampGet (r : Req)
  /-- EVT_CANCEL (R482): Removes every queued edge of a pin. -/
  | evtCancel (r : Req)
  /-- TIM_CFG_SET (R483): Sets an interval channel. -/
  | timCfgSet (r : Req)
  /-- TIM_CFG_GET (R483): Returns an interval channel's settings. -/
  | timCfgGet (r : Req)
  /-- TIM_ARM (R483): Arms or disarms a channel by command. -/
  | timArm (r : Req)
  /-- TIM_RAW_GET (R484): Returns raw interval records. -/
  | timRawGet (r : Req)
  /-- TIM_STATS_GET (R484): Returns the latest statistics block. -/
  | timStatsGet (r : Req)
  /-- MREF_SET (R483): Sets the MREF frequency. -/
  | mrefSet (r : Req)
  /-- MREF_GET (R483): Returns the MREF setting. -/
  | mrefGet (r : Req)
  /-- CKO_SET (R485): Enables or disables a clock output. -/
  | ckoSet (r : Req)
  /-- CKO_GET (R485): Returns a clock output's settings. -/
  | ckoGet (r : Req)
  /-- CKO_PROFILE_SET (R486): Writes shadow profile segments. -/
  | ckoProfileSet (r : Req)
  /-- CKO_PROFILE_START (R486): Starts a profile at S. -/
  | ckoProfileStart (r : Req)
  /-- CKO_PHASE_GET (R487): Returns Φ and y at a latch instant. -/
  | ckoPhaseGet (r : Req)
  /-- CKO_CMD (R486): Forces an output into or out of BYPASS. -/
  | ckoCmd (r : Req)
  /-- CAL_TIMEIO_RUN (R483): Starts a TIMEIO vernier group run. -/
  | calTimeioRun (r : Req)
  /-- SEM_ACQUIRE (R495): A SEM_CTRL ACQUIRE grants, renews or refuses the semaphore. -/
  | semAcquire (h : HostPort) (t : Instant)
  /-- SEM_RENEW (R495): A SEM_CTRL RENEW restarts the holder's lease. -/
  | semRenew (h : HostPort) (t : Instant)
  /-- SEM_RELEASE (R495): A SEM_CTRL RELEASE frees the semaphore. -/
  | semRelease (h : HostPort) (t : Instant)
  /-- SEM_LEASE_EXPIRY (R496): The semaphore lease expires and the state becomes FREE. -/
  | semLeaseExpiry (t : Instant)
  /-- SEM_LINK_LOST (R497): The holder's PERST or link loss releases the semaphore. -/
  | semLinkLost (h : HostPort) (t : Instant)
  /-- SEM_LEASE_WRITE (R496): A write of SEM_LEASE by the holder sets LEASE from its next renewal. -/
  | semLeaseWrite (h : HostPort) (value : Nat) (t : Instant)
  /-- MB_TIMEOUT_WRITE (R502): A write of MB_TIMEOUT by the holder sets the mailbox timeout for later notices. -/
  | mbTimeoutWrite (h : HostPort) (value : Nat) (t : Instant)
  /-- CMB_GO (R500): A GO to the common mailbox enters, replaces or discards a notice. -/
  | cmbGo (fn : Sender) (tag : Nat) (t : Instant)
  /-- PMB_GO (R501): A GO to a private mailbox enters or replaces a notice. -/
  | pmbGo (fn : Sender) (tag : Nat) (t : Instant)
  /-- NOTICE_TAKE (R506): The interpreter takes a notice, reads the packet and checks, holds, stages or completes the command. -/
  | noticeTake (dma : Option (List Word)) (t : Instant)
  /-- MAILBOX_TIMEOUT (R502): A notice not taken within MB_TIMEOUT is removed. -/
  | mailboxTimeout (slot : Nat) (t : Instant)
  /-- BATCH_TIMEOUT (R516): A batch whose next command is not taken within 10 ms aborts whole. -/
  | batchTimeout (fn : Sender) (t : Instant)
  /-- COMMAND_COMPLETE (R509): A pending command completes and its final reply is posted. -/
  | commandComplete (t : Instant)
  /-- RR_RD_WRITE (R511): A write of RR_RD frees ring room and lets waiting replies be posted. -/
  | rrRdWrite (fn : Sender) (value : Nat) (t : Instant)
  /-- RING_ENABLE (R520): Setting RR_CFG.ENABLE starts a reply ring with indices 0. -/
  | ringEnable (fn : Sender) (log2 : Nat) (t : Instant)
  /-- RING_DISABLE (R520): A write clearing RR_CFG.ENABLE is taken once OPEN_FN is 0. -/
  | ringDisable (fn : Sender) (t : Instant)
  /-- DB_RING (R512): A write of DB_RING sets SOFT doorbell bits of the other host. -/
  | dbRing (fn : Sender) (value : Word) (t : Instant)
  /-- DB_MASK_WRITE (R513): Unmasking a set doorbell bit sends its MSI-X message. -/
  | dbMaskWrite (fn : Sender) (value : Word) (t : Instant)
  /-- FUNCTION_LEVEL_RESET (R518): An FLR empties a function's mailboxes, resets its registers and aborts its uncommitted commands. -/
  | functionLevelReset (fn : Sender) (t : Instant)
  /-- HOST_RESET (R572): Hx_PERST_N resets a host port and releases the semaphore. -/
  | hostReset (h : HostPort) (t : Instant)
  /-- REGISTER_WRITE (R490): A BAR0 write to a register without its own row, or a discarded bad write. -/
  | registerWrite (fn : Sender) (w : BarWrite) (t : Instant)
  /-- NOP (R522): Returns the free journal slots. -/
  | nop (r : Req)
  /-- SYS_INFO_GET (R522): Returns device identity and firmware state. -/
  | sysInfoGet (r : Req)
  /-- JOURNAL_GET (R522): Returns the open journal records. -/
  | journalGet (r : Req)
  /-- AC_WATCHDOG_EXPIRY (R529): An application core's watchdog expires and the core faults. -/
  | acWatchdogExpiry (core : AppCore) (pc mcause : Word) (t : Instant)
  /-- AC_FAULT (R529): A TCM error or trap in handler fetch faults an application core. -/
  | acFault (core : AppCore) (cause : Nat) (pc mcause : Word) (t : Instant)
  /-- WDOG_KICK (R529): A write of WDOG_KICK restarts the watchdog. -/
  | wdogKick (core : AppCore) (t : Instant)
  /-- AC_MAILBOX_GO (R534): An application core sends a command notice through its mailbox. -/
  | acMailboxGo (core : AppCore) (tag : Nat) (t : Instant)
  /-- TK_NOW_READ (R535): A read of TK_NOW word 0 latches the stamp timescale. -/
  | tkNowRead (target : Target) (t : Instant)
  /-- EVC_TIMER_EXPIRY (R535): A target timer reaches its compare instant, raises its source and reloads. -/
  | evcTimerExpiry (target : Target) (n : Nat) (t : Instant)
  /-- TIMER_ENABLE (R558): A TIMER_CTRL enable takes the compare instant and fires at once if it lies in the past. -/
  | timerEnable (target : Target) (value : Nat) (t : Instant)
  /-- AC_MSG_SEND (R536): A core's MSG_CTRL SEND sends a message to a host. -/
  | acMsgSend (core : AppCore) (toH0 toH1 : Bool) (t : Instant)
  /-- AC_MSG_POP (R537): A core's MSG_CTRL POP removes a host message. -/
  | acMsgPop (core : AppCore) (h0 h1 : Bool) (t : Instant)
  /-- HOST_MSG_SEND (R536): A host's AC_MSG_CTRL SEND sends a message to a core. -/
  | hostMsgSend (h : HostPort) (ac0 ac1 : Bool) (t : Instant)
  /-- HOST_MSG_POP (R536): A host's AC_MSG_CTRL POP removes a core message. -/
  | hostMsgPop (h : HostPort) (ac0 ac1 : Bool) (t : Instant)
  /-- EVC_EVENT (R547): An event pends its source and writes a record to the target's log. -/
  | evcEvent (code source : Nat) (params : List Byte) (latched : Bool) (t : Instant)
  /-- EVC_CLAIM (R544): A whole-word read of EVC_CLAIM claims the best claimable source. -/
  | evcClaim (target : Target) (t : Instant)
  /-- EVC_COMPLETE (R544): A write of EVC_COMPLETE ends a source's service. -/
  | evcComplete (target : Target) (source : Nat) (t : Instant)
  /-- EVLOG_POP (R547): A write of EVLOG_POP removes the head record. -/
  | evlogPop (target : Target) (t : Instant)
  /-- EVC_SOFT_SET (R539): A write of EVC_SOFT_SET raises a SOFT source. -/
  | evcSoftSet (target : Target) (n : Nat) (t : Instant)
  /-- EVC_DELIVERY (R545): A claimable source is delivered to a core by the entry sequence. -/
  | evcDelivery (core : AppCore) (pc : Word) (t : Instant)
  /-- EVC_EXIT (R546): An mret starts the exit sequence, or a tail-chain to a new source. -/
  | evcExit (core : AppCore) (t : Instant)
  /-- PALLET_TRIGGER (R554): A write of PALLET_CTRL.SNAP sets a snapshot instant or is missed. -/
  | palletTrigger (pallet : Nat) (t : Instant)
  /-- PALLET_SNAPSHOT_START (R553): At snapshot instant T a pallet is invalidated and copying begins. -/
  | palletSnapshotStart (t : Instant)
  /-- PALLET_DONE (R553): A pallet copy completes and becomes VALID. -/
  | palletDone (t : Instant)
  /-- COUNTER_GET (R567): Returns live counter values. -/
  | counterGet (r : Req)
  /-- PALLET_SNAPSHOT (R568): Takes one or periodic snapshots. -/
  | palletSnapshot (r : Req)
  /-- PALLET_GET (R567): Returns pallet values. -/
  | palletGet (r : Req)
  /-- COUNTER_CATALOG_GET (R568): Returns counter names. -/
  | counterCatalogGet (r : Req)
  /-- EVC_ROUTE_SET (R566): Sets shared source targets and priorities. -/
  | evcRouteSet (r : Req)
  /-- EVC_ROUTE_GET (R566): Returns shared source routes. -/
  | evcRouteGet (r : Req)
  /-- EVC_TARGET_SET (R566): Sets a target's SPLIT and private priorities. -/
  | evcTargetSet (r : Req)
  /-- EVC_TARGET_GET (R566): Returns a target's settings. -/
  | evcTargetGet (r : Req)
  /-- AC_LOAD (R562): Loads data into an application core's TCM. -/
  | acLoad (r : Req)
  /-- AC_START (R563): Verifies the image signature and starts an application core. -/
  | acStart (r : Req)
  /-- AC_STOP (R564): Stops an application core under the stop sequence. -/
  | acStop (r : Req)
  /-- AC_STATUS_GET (R564): Returns an application core's status. -/
  | acStatusGet (r : Req)
  /-- AC_PERMIT_SET (R565): Sets an application core's rights. -/
  | acPermitSet (r : Req)
  /-- AC_PERMIT_GET (R565): Returns an application core's rights. -/
  | acPermitGet (r : Req)
  /-- COLD_RESET (R572): PORST_N or AON brown-out resets every domain. -/
  | coldReset (cause bootsel : Nat) (hostcfg : Bool) (t : Instant)
  /-- WARM_RESET (R572): A core brown-out, thermal trip, command or firmware failure resets all but AON. -/
  | warmReset (cause : Nat) (t : Instant)
  /-- RESET_RELEASE (R574): The reset cause has gone for its hold and reset is released. -/
  | resetRelease (t : Instant)
  /-- BOOT_IMAGE_VERIFY (R579): The ROM finishes reading a slot and checks the image. -/
  | bootImageVerify (src : ImageSource) (readable : Bool) (t : Instant)
  /-- RECOVERY_LOAD (R581): A RECOV_CTRL.GO loads a host image by DMA and checks it. -/
  | recoveryLoad (h : HostPort) (image : List Byte) (t : Instant)
  /-- CONFIG_PART_RUN (R582): The interpreter executes the configuration part in early and main phases. -/
  | configPartRun (t : Instant)
  /-- FORWARDING_START (R583): FWD_START arrives and forwarding begins. -/
  | forwardingStart (t : Instant)
  /-- WAKE_TIMER_EXPIRY (R587): WAKE_AFTER expires on the AON clock. -/
  | wakeTimerExpiry (t : Instant)
  /-- PWR_WAKE (R587): A write of PWR_WAKE.WAKE wakes the device. -/
  | pwrWake (fn : Sender) (t : Instant)
  /-- WAKE (R588): A taken wake source brings the domains back in order. -/
  | wake (wakeN : Bool) (t : Instant)
  /-- FW_UPDATE_TIMEOUT (R593): An update with no command for 10 min is closed. -/
  | fwUpdateTimeout (t : Instant)
  /-- OTP_WRITE_DONE (R598): An OTP write completes and KEY_ENROL or CONFIG_LOCK completes. -/
  | otpWriteDone (t : Instant)
  /-- FLASH_ERASE_DONE (R593): The slot erase of FW_UPDATE_BEGIN completes. -/
  | flashEraseDone (t : Instant)
  /-- IO33_LOW (R605): VDD_IO33 below 2.9 V stops the I2C buses and holds sideband inputs. -/
  | io33Low (t : Instant)
  /-- IO33_RESTORE (R605): VDD_IO33 has been at or above 3.0 V for 10 ms and module handling resumes. -/
  | io33Restore (t : Instant)
  /-- POLICY_GET (R597): Returns the security policy. -/
  | policyGet (r : Req)
  /-- POLICY_SET (R590): Changes policy items. -/
  | policySet (r : Req)
  /-- KEY_ENROL (R592): Enrols or revokes an owner or application key. -/
  | keyEnrol (r : Req)
  /-- KEY_STATUS_GET (R598): Returns key and OTP status. -/
  | keyStatusGet (r : Req)
  /-- FW_UPDATE_BEGIN (R593): Opens an update and erases the other slot. -/
  | fwUpdateBegin (r : Req)
  /-- FW_UPDATE_DATA (R593): Writes contiguous update data. -/
  | fwUpdateData (r : Req)
  /-- FW_UPDATE_COMMIT (R598): Verifies, activates, confirms or raises the floor. -/
  | fwUpdateCommit (r : Req)
  /-- CONFIG_LOCK (R591): Sets lock bits, optionally burnt into OTP. -/
  | configLock (r : Req)
  /-- POWER_STATUS_GET (R598): Returns power, reset, boot and wake status. -/
  | powerStatusGet (r : Req)
  /-- SLEEP_ENTER (R585): Drains ports and puts the domains into sleep. -/
  | sleepEnter (r : Req)
  /-- WAKE_CFG_SET (R597): Sets wake enables and WAKE_AFTER. -/
  | wakeCfgSet (r : Req)
  /-- WAKE_CFG_GET (R597): Returns wake settings. -/
  | wakeCfgGet (r : Req)
  /-- DEVICE_RESET (R598): Makes a warm or cold reset at A. -/
  | deviceReset (r : Req)
  /-- KEEPER_SUPPLY_RETURN (R376): VDD_TKA or VDD_TKB comes back in range and the stopped keeper's domain is powered, starting its rejoin. -/
  | keeperSupplyReturn (k : Tk) (t : Instant)
  /-- HOST_RESET_RELEASE (R587): Hx_PERST_N is de-asserted; the host port leaves reset, EV_PERST (released) is raised and the change is a wake source. -/
  | hostResetRelease (h : HostPort) (t : Instant)
  /-- PTP_DELAY_REQ_TX (R288): A PTP receiver (or an 802.1AS port) sends Delay_Req or Pdelay_Req at its LOG_DELAYREQ interval and records the departure instant t3. -/
  | ptpDelayReqTx (port : Nat) (t : Instant)
  /-- PTP_DELAY_REQ_RX (R289): A PTP transmitter port takes a Delay_Req (or Pdelay_Req) with its ingress stamp and answers with Delay_Resp. -/
  | ptpDelayReqRx (port : Nat) (msg : PtpMsg) (stamp t : Instant)
  /-- EVT_CFG_APPLY (R457): At the apply-at instant of EVT_CFG_SET the pin changes mode, later queued edges are discarded, and the command completes once the pulse in progress ends. -/
  | evtCfgApply (pin : Nat) (t : Instant)
  /-- CKO_DISABLE_APPLY (R475): CKO_SET with ENABLE = 0 holds the output low from its first falling edge at or after A and discards its profile. -/
  | ckoDisableApply (out : Nat) (t : Instant)
  /-- AC_IMAGE_VERIFIED (R563): The signature check of AC_START completes within 20 ms and the core either enters RUNNING with OK or the command completes NOT_PERMITTED. -/
  | acImageVerified (core : AppCore) (t : Instant)
  /-- RC_FIELD_READ (R9): A whole-word read of a register with RC fields (HZ_GAP_MAX, LEARN_QUEUE.HIGH_WATER, SHARED_PEAK) returns and clears them. -/
  | rcFieldRead (fn : Sender) (off len : Nat) (t : Instant)
  deriving DecidableEq, Repr

end Sys2Proof
end

