-- ==== Sys2Proof/Config.lean ====
section
/-! DEFINITION. The free values: what the spec leaves open and no proof can see. -/

namespace Sys2Proof

/-- Whether the OTP write that a reset cuts short is left fully written (14 R592: "leaves that slot either fully
written or unwritten"), for the n-th such reset (assumption 91). -/
opaque Config.otpWritten : Nat → Bool

/-- The Daxmer firmware version that FW_STATE shows once the n-th image runs: the spec names the fields and gives
no version (12 R520, assumption 92). -/
opaque Config.fwVersion : Nat → BitVec 24

/-- Whether the chip is a KLW-6425-IH; else it is a KLW-6425-CH (00 R1). Only the marking tells which (15 R620,
assumption 102). -/
opaque Config.codeIh : Bool

end Sys2Proof
end

