-- ==== Sys2Proof/Machine/ConfigTypes.lean ====
section
/-! DEFINITION. The data-plane configuration: the tables and settings that apply-at instants change
(02, 03, 04, 05). Field defaults are the reset values of 02 R87, 03 R121, 04 R170 and 05 R212. -/

namespace Sys2Proof.Machine

/-- A mask of the ports 0 to 67. -/
abbrev PortMask := BitVec 68

/-- Ports 0 to 63. -/
def frontPorts : PortMask := BitVec.ofNat 68 (2 ^ 64 - 1)

def hasPort (m : PortMask) (p : Nat) : Bool := m.getLsbD p

/-- Ingress settings of a port (03 R97). Maps hold 3 bits a value: PCP p at 3p, DSCP d at 4d. -/
structure IngPort where
  pvid    : Nat := 1
  accept  : Nat := 0
  filter  : Bool := true
  trust   : Nat := 1
  defClass : Nat := 0
  pcpMap  : Nat := 0xB6C688   -- classes 0,1,2,3,4,5,5,5
  dscpMap : Tbl Nat := []
  deiDp   : Bool := false
  ctEn    : Bool := true
  mirror  : Bool := false
  trapLl  : Bool := false
  maxFrame : Nat := 1522
  deriving DecidableEq, Repr

/-- A VLAN entry (03 R98). -/
structure Vlan where
  valid    : Bool := false
  learn    : Bool := false
  clsOvrEn : Bool := false
  clsOvr   : Nat := 0
  member   : PortMask := 0
  untag    : PortMask := 0
  deriving DecidableEq, Repr

/-- A stream entry (03 R100, R102). -/
structure Stream where
  valid    : Bool := false
  method   : Nat := 0
  pop      : Bool := false
  genPipe  : Nat := 0
  recovery : Nat := 0
  window   : Nat := 0
  gen      : Bool := false
  mirror   : Bool := false
  ctAllow  : Bool := false
  clsEn    : Bool := false
  cls      : Nat := 0
  launch   : Nat := 0
  meter    : Nat := 0
  vid      : Nat := 0
  mac      : Nat := 0
  proto    : Nat := 0
  dscp     : Nat := 0
  ipv6     : Bool := false
  any      : Nat := 0
  dport    : Nat := 0
  sport    : Nat := 0
  sip      : Nat := 0        -- 128 bits; IPv4 in the top 32
  dip      : Nat := 0
  deriving DecidableEq, Repr

/-- A meter's configuration (03 R105). -/
structure Meter where
  overhead : Bool := false
  mode     : Nat := 0
  cir      : Nat := 0
  cbs      : Nat := 64
  eir      : Nat := 0
  ebs      : Nat := 0
  deriving DecidableEq, Repr

/-- An ingress window (03 R103). -/
structure Window where
  base   : Instant := 0
  period : Nat := 2000
  opens  : Nat := 0
  closes : Nat := 0
  deriving DecidableEq, Repr

/-- A recovery function's configuration (03 R109). -/
structure Recovery where
  pipe    : Nat := 0
  history : Nat := 32
  reset   : Nat := 100
  takeNoSeq : Bool := false
  deriving DecidableEq, Repr

inductive DKind
  | port
  | group
  | failover
  | drop
  deriving DecidableEq, Repr

/-- An L2 entry at a position of the table (04 R133). -/
structure L2Entry where
  vid    : Nat
  mac    : Nat
  static : Bool
  dkind  : DKind
  target : Nat
  mirror : Bool
  locked : Bool
  deriving DecidableEq, Repr

/-- What a route or host entry does: ACT and NH (04 R146). -/
structure Action where
  act : Nat    -- 0 next hop, 2 discard, 3 port 64
  nh  : Nat
  deriving DecidableEq, Repr

/-- A host-table entry (04 R144). -/
structure HostEntry where
  v6   : Bool
  addr : Nat
  goes : Action
  deriving DecidableEq, Repr

/-- A trie route: family, prefix (left aligned in 32 or 128 bits), length, action (04 R145). -/
structure TrieRoute where
  v6   : Bool
  pfx  : Nat
  plen : Nat
  goes : Action
  deriving DecidableEq, Repr

/-- A word of the trie: TYPE says whether it has a child, a block of the next stage, and whether it holds a route, with
the prefix length and the action (04 R146). -/
structure TrieWord where
  child : Option Nat := none
  route : Option (Nat × Action) := none
  deriving DecidableEq, Repr

/-- The trie as a copy holds it (04 R145): the words of the seven stage memories and of the two directory banks of
each family, by address (Machine/Trie.lean), the bank registers, and the blocks that are not free. -/
structure Trie where
  words : Tbl TrieWord := []
  used  : List Nat := []
  bank4 : Nat := 0
  bank6 : Nat := 0
  deriving DecidableEq, Repr

/-- What a flush selects (04 R161). -/
structure FlushSel where
  byPort    : Bool
  byVid     : Bool
  staticToo : Bool
  port      : Nat
  vid       : Nat
  deriving DecidableEq, Repr

/-- A router interface (04 R142). -/
structure Rif where
  valid : Bool := false
  v4    : Bool := false
  v6    : Bool := false
  mtu   : Nat := 0
  vid   : Nat := 0
  mac   : Nat := 0
  deriving DecidableEq, Repr

/-- A next hop (04 R149). -/
structure NextHop where
  valid  : Bool := false
  ff     : Bool := false
  target : Nat := 0
  rif    : Nat := 0
  mac    : Nat := 0
  deriving DecidableEq, Repr

/-- A fast-failover group with its current member, by list position (04 R151). -/
structure FfGroup where
  valid   : Bool := false
  revert  : Bool := false
  members : List Nat := []
  cur     : Option Nat := none
  lastCur : Option Nat := none
  deriving DecidableEq, Repr

/-- L2 settings of a port (04 R163). -/
structure L2Port where
  learnEn     : Bool := true
  flushOnDown : Bool := true
  unkUc       : Bool := true
  unkMc       : Bool := true
  bc          : Bool := true
  learnLimit  : Nat := 0
  deriving DecidableEq, Repr

/-- Table settings (04 R162). -/
structure TableCfg where
  ageTime    : Nat := 300
  moveLimit  : Nat := 8
  moveWindow : Nat := 1000
  holdTime   : Nat := 10000
  ffDebounce : Nat := 180
  ffUpHold   : Nat := 1000
  deriving DecidableEq, Repr

/-- Settings of an egress queue (05 R208). -/
structure QueueCfg where
  min  : Nat := 32
  qmax : Nat := 65535
  ecnEn : Bool := false
  ecnTh : Nat := 2048
  dpTh : Nat := 65535
  alpha : Int := 0
  deriving DecidableEq, Repr

/-- Scheduler and shaper settings of a port (05 R209). -/
structure SchedCfg where
  strict : Nat := 0x3F
  weight : List Nat := [8, 8, 8, 8, 8, 8]   -- classes 0 to 5
  slope  : Nat := 0
  hi     : Nat := 16384
  lo     : Nat := 16384
  deriving DecidableEq, Repr

/-- PAUSE settings of a port (05 R210). -/
structure PauseCfg where
  en      : Bool := true
  ceiling : Nat := 1000
  rearm   : Nat := 100
  deriving DecidableEq, Repr

/-- The mirror destination (05 R211). -/
structure MirrorCfg where
  valid : Bool := false
  queue : Nat := 0
  port  : Nat := 0
  deriving DecidableEq, Repr

/-- The data-plane configuration as one value, so that the configuration at a key is a function
of the applied one and of the staged changes (02 R73). -/
structure Cfg where
  maxRes     : Nat := 500000
  stallLimit : Nat := 10000
  ingress    : Tbl IngPort := []
  vlans      : Tbl Vlan := []
  streams    : Tbl Stream := []
  meters     : Tbl Meter := []
  windows    : Tbl Window := []
  recoveries : Tbl Recovery := []
  l2         : Tbl (Option L2Entry) := []
  hosts      : Tbl (Option HostEntry) := []
  routes     : List TrieRoute := []   -- CC1's master list of prefixes in the trie
  trie       : Trie := {}
  rifs       : Tbl Rif := []
  nhs        : Tbl NextHop := []
  mcgs       : Tbl PortMask := []
  ffgs       : Tbl FfGroup := []
  live       : BitVec 64 := 0
  l2ports    : Tbl L2Port := []
  tableCfg   : TableCfg := {}
  c7Pool     : Nat := 32768
  fwPool     : Nat := 8192
  retired    : Nat := 0
  queues     : Tbl QueueCfg := []
  scheds     : Tbl SchedCfg := []
  pauses     : Tbl PauseCfg := []
  mirror     : MirrorCfg := {}
  excluded   : PortMask := 0
  disabled   : BitVec 64 := 0     -- ports under R185
  footing    : Bool := false      -- R384 to R390, between keys E and X
  deriving DecidableEq, Repr

/-- The VLAN entry an unwritten VID reads as: VID 1 is valid at reset (03 R98). -/
def Vlan.reset (vid : Nat) : Vlan :=
  if vid = 1 then { valid := true, learn := true, member := frontPorts, untag := frontPorts } else {}

/-- The L2 settings an unwritten port reads as (04 R170). -/
def L2Port.reset (p : Nat) : L2Port := { learnEn := decide (p < 64) }

/-- The settings an unwritten queue 8 × port + class reads as (05 R208). -/
def QueueCfg.reset (q : Nat) : QueueCfg := { min := if q % 8 = 7 then 0 else 32 }

namespace Cfg

def ing (c : Cfg) (p : Nat) : IngPort := Tbl.get {} c.ingress p
def vlan (c : Cfg) (v : Nat) : Vlan := Tbl.get (Vlan.reset v) c.vlans v
def stream (c : Cfg) (i : Nat) : Stream := Tbl.get {} c.streams i
def meter (c : Cfg) (i : Nat) : Meter := Tbl.get {} c.meters i
def window (c : Cfg) (i : Nat) : Window := Tbl.get {} c.windows i
def recov (c : Cfg) (i : Nat) : Recovery := Tbl.get {} c.recoveries i
def l2At (c : Cfg) (pos : Nat) : Option L2Entry := Tbl.get none c.l2 pos
def hostAt (c : Cfg) (pos : Nat) : Option HostEntry := Tbl.get none c.hosts pos
def rif (c : Cfg) (i : Nat) : Rif := Tbl.get {} c.rifs i
def nh (c : Cfg) (i : Nat) : NextHop := Tbl.get {} c.nhs i
def mcg (c : Cfg) (i : Nat) : PortMask := Tbl.get 0 c.mcgs i
def ffg (c : Cfg) (i : Nat) : FfGroup := Tbl.get {} c.ffgs i
def l2port (c : Cfg) (p : Nat) : L2Port := Tbl.get (L2Port.reset p) c.l2ports p
def queue (c : Cfg) (q : Nat) : QueueCfg := Tbl.get (QueueCfg.reset q) c.queues q
def sched (c : Cfg) (p : Nat) : SchedCfg := Tbl.get {} c.scheds p
def pause (c : Cfg) (p : Nat) : PauseCfg := Tbl.get {} c.pauses p

end Cfg

/-- One change of the configuration: what it writes. -/
inductive Change
  | mortar (maxRes stallLimit : Nat)
  | ingress (p : Nat) (v : IngPort)
  | vlan (i : Nat) (v : Vlan)
  | stream (i : Nat) (v : Stream)
  | meter (i : Nat) (v : Meter)
  | window (i : Nat) (v : Window)
  | recovery (i : Nat) (v : Recovery)
  | recoveryReset (i : Nat)
  | l2Put (pos : Nat) (e : L2Entry)       -- an entry; `pos` is the place planned for a new key
  | l2Del (vid mac : Nat)
  | l2Move (src dst : Nat)                -- a relocation: the entry is copied into an empty position
  | l2Flush (sel : FlushSel)              -- one group: the first 64 entries selected
  | l2Lock (vid mac : Nat) (locked : Bool)
  | tableCfg (v : TableCfg)
  | l2port (p : Nat) (v : L2Port)
  | rif (i : Nat) (v : Rif)
  | nh (i : Nat) (v : NextHop)
  | hostPut (pos : Nat) (e : HostEntry)
  | hostDel (v6 : Bool) (addr : Nat)
  | hostMove (src dst : Nat)
  | routes (del : Bool) (rs : List TrieRoute) (take : List Nat)   -- trie routes of one command, blocks taken for them
  | mcg (i : Nat) (m : PortMask)
  | ffg (i : Nat) (valid revert : Bool) (members : List Nat)
  | live (p : Nat) (up : Bool)
  | pools (c7 fw : Nat)
  | retire
  | queue (q : Nat) (v : QueueCfg)
  | sched (p : Nat) (v : SchedCfg)
  | pause (p : Nat) (v : PauseCfg)
  | mirror (v : MirrorCfg)
  | exclude (p : Nat) (out : Bool)
  | disable (p : Nat) (off : Bool)
  | footing (on : Bool)
  | rewrite (copy table index : Nat)      -- CC1 rewrites a word after an uncorrectable error (R129)
  deriving DecidableEq, Repr

end Sys2Proof.Machine
end

