-- ==== Sys2Proof/Machine/DataTypes.lean ====
section
/-! DEFINITION. State of the data plane: frames, merge inputs, staged changes (02), meters, recovery
and learning state (03, 04), pools, queues and port models (05), course engines (06). -/

namespace Sys2Proof.Machine

/-- KIND of HB3 (02 R45). -/
inductive Kind
  | unicast
  | multicast
  | flood
  | discard
  deriving DecidableEq, Repr

/-- A routing rewrite (04 R149). -/
structure Rewrite where
  dmac : Nat
  smac : Nat
  deriving DecidableEq, Repr

/-- A colour of stage 6 (03 R106). -/
inductive Colour
  | green
  | yellow
  | red
  deriving DecidableEq, Repr

/-- A frame inside the device: what it brought, what the header bricks say of it, and what the
stages have decided (02 R42, R45; 03 R88). -/
structure Frame where
  inPort   : Nat
  stamp    : Instant
  bytes    : List Byte          -- as received or injected, FCS included
  endNs    : Option Nat := none -- end stamp in ns, once the frame has ended (R43)
  poison   : Option Nat := none -- reason, when ended by POISON (R39)
  rxMark   : Bool := false      -- FCS inverted at the receive PCS (03 R94)
  discardMark : Bool := false   -- FCS inverted at stage 9 (03 R111)
  stream   : Nat := 0           -- HB0
  dp       : Bool := false
  mirror   : Bool := false
  seqValid : Bool := false
  ctElig   : Bool := false
  cls      : Nat := 0
  pipe     : Nat := 0
  tgen     : Nat := 0           -- HB2
  launch   : Nat := 0x7FF       -- HB3
  queue    : Nat := 0
  kind     : Kind := .unicast
  dest     : Nat := 0
  vid      : Nat := 0           -- as the frame leaves: after routing the egress interface's
  inVid    : Nat := 0           -- v, the VID of stage 2 (04 R122)
  maxLen   : Nat := 0           -- MAX_FRAME of its ingress port at its stamp (03 R97, 05 R177)
  to64     : Bool := false      -- a flood reaches port 64 as well (04 R124)
  rtag     : Option Nat := none -- sequence number inserted or overwritten (03 R108)
  pop      : Bool := false      -- R-TAG removed (03 R111)
  rewrite  : Option Rewrite := none
  colour   : Option (Nat × Colour) := none   -- meter and colour of stage 6
  recov    : Option (Nat × Nat) := none      -- recovery function and sequence number
  stage8   : Bool := false      -- reached stage 8
  learn    : Option Bool := none -- a notice is due at stage 9; true = move (04 R135)
  consumed : Bool := false      -- taken by the port (03 R90), no further item
  deriving DecidableEq, Repr

/-- A learn notice (04 R135). -/
structure LearnNotice where
  stamp  : Instant
  inPort : Nat
  pipe   : Nat
  vid    : Nat
  mac    : Nat
  move   : Bool
  deriving DecidableEq, Repr

/-- An ordered item or grout in a channel (02 R62). -/
inductive Item
  | lead (fid : Nat)
  | fin (fid : Nat)
  | grout (value : Nat)              -- bits [31:0] of a horizon
  | fence (f : Nat)                  -- a FENCE brick, its instant in ns (02 R37, 04 R154)
  | notice (n : LearnNotice) (endNs : Nat)
  deriving DecidableEq, Repr

/-- One input of a merge point (02 R63, R72). -/
structure MergeIn where
  hz       : Nat := 0                -- ns
  items    : List Item := []         -- oldest first
  lastT    : Instant := 0            -- instant of the last horizon update (R83)
  stalled  : Bool := false           -- isolated under R59
  deriving DecidableEq, Repr

/-- A staged change (02 R74): what changes, at A, in the units still to apply it. -/
structure Staged where
  a      : Instant
  jids   : List Nat             -- the commands that wait on it
  txn    : Bool                 -- a table transaction: counts in TGEN (04 R127)
  units  : List Nat             -- 0-4 pipeline copies, 5 the egress units
  words  : Nat                  -- staged words of each copy (04 R126)
  notices : Nat := 0            -- learn notices in it (04 R138)
  change : List Change
  deriving DecidableEq, Repr

/-- A decision digest run (02 R80, R86). -/
structure DigestRun where
  a     : Instant
  until_ : Instant
  mask  : PortMask
  jid   : Option Nat
  crcs  : Tbl Nat := []       -- running CRC register by port; default all ones
  deriving DecidableEq, Repr

/-- A rebase in progress (02 R55). -/
structure RebaseRun where
  s    : Instant
  step : Int
  deriving DecidableEq, Repr

/-- An open FENCE (04 R154). -/
structure FenceRec where
  jid   : Nat
  f     : Nat                 -- F in ns
  mask  : PortMask
  until_ : Instant
  sent  : BitVec 5 := 0       -- pipelines that have sent the FENCE brick
  got   : BitVec 5 := 0       -- pipelines whose FENCE brick has reached admission
  done  : PortMask := 0
  left  : Tbl Instant := []   -- when the last copy stamped before F left a port
  deriving DecidableEq, Repr

/-- The fabric: settings, status, merge points, frames, staged changes (02). -/
structure Fabric where
  stall     : Bool := false
  stallFault : Bool := false            -- FAULT_CAUSE.STALL, until reset (09 R392)
  slow      : Bool := false
  ringCount : Nat := 0
  gapMax    : Nat := 0                  -- HZ_GAP_MAX.GAP_NS
  inputs    : Tbl MergeIn := []         -- by 128 × merge point + input
  outs      : Tbl (List Item) := []     -- released items not yet taken, by merge point
  frames    : Tbl (Option Frame) := []
  nextFid   : Nat := 1
  rx        : Tbl (Option Nat) := []    -- frame in progress, by port
  ctrl      : Tbl (List Nat) := []      -- MAC control frames ended and not yet acted on, by port
  lastStamp : Tbl (Option Instant) := []
  sentHz    : Tbl Nat := []             -- last horizon sent by each injection boundary, in ns (R52)
  injEnd    : Tbl Instant := []         -- end of the last frame that crossed each boundary
  staged    : List Staged := []         -- in order of A, then of acceptance
  tgen      : Tbl Nat := []             -- by pipeline copy
  txnCount  : Nat := 0
  digest    : Option DigestRun := none
  digestDone : Bool := false
  digestVal : Tbl Nat := []
  rebase    : Option RebaseRun := none
  fences    : List FenceRec := []
  forwarding : Bool := false            -- forwarding has started (14 R583)
  fwdStart  : Instant := 0
  admHz     : Nat := 0                  -- horizon at the admission points, in ns
  deriving DecidableEq, Repr

/-- A bucket pair of a meter in one pipeline copy (03 R106), in 2^-16 byte. -/
structure Bucket where
  full  : Bool := true       -- full since the last configuration (R107)
  c     : Int := 0
  e     : Int := 0
  cRem  : Nat := 0           -- what an accrual leaves below one unit
  eRem  : Nat := 0
  tLast : Instant := 0
  since : Instant := 0       -- A of the configuration in force (R107)
  deriving DecidableEq, Repr

/-- The state of a recovery function (03 R109). -/
structure RecovState where
  rsn     : Nat := 0
  hist    : BitVec 64 := 0
  takeAny : Bool := true
  tPass   : Instant := 0
  deriving DecidableEq, Repr

/-- What CC1 keeps for an L2 key (04 R137, R139, R140). -/
structure L2Ctl where
  lastStamp : Instant := 0
  applied   : Bool := false
  moves     : List Instant := []     -- stamps of the moves counted
  holdUntil : Option Instant := none
  lastHit   : Instant := 0
  idleSince : Instant := 0
  deriving DecidableEq, Repr

/-- A flush in progress (04 R141). -/
structure Flush where
  jid   : Nat               -- 0 where no command waits on it
  a     : Instant
  k     : Nat               -- groups staged
  sel   : FlushSel
  deriving DecidableEq, Repr

/-- Learning and table upkeep (03, 04). -/
structure Tables where
  buckets  : Tbl Bucket := []             -- by 8 × meter + pipeline
  seqGen   : Tbl Nat := []                -- generation counters by stream
  recov    : Tbl RecovState := []
  hit      : Tbl (BitVec 5) := []         -- HIT by key number, one bit a copy
  ctl      : Tbl L2Ctl := []              -- by key number
  filter   : Tbl (List (Nat × Nat × Nat × Instant)) := []  -- repeat filters by pipeline
  queue    : List LearnNotice := []
  highWater : Nat := 0
  learnOvf : Bool := false
  l2Full   : Bool := false
  flap     : Bool := false
  eccUncorr : Bool := false
  eccLog   : Option (Nat × Nat × Nat) := none  -- copy, table, word
  badWords : List (Nat × Nat × Nat) := []      -- words invalid in one copy (04 R129)
  flushes  : List Flush := []
  downAt   : Tbl (List Instant) := []     -- scheduled liveness downs by port (04 R152)
  upAt     : Tbl (Option Instant) := []   -- scheduled liveness up by port
  released : List (Nat × Instant) := []   -- trie blocks released, and when every copy had passed that A (04 R148)
  deriving DecidableEq, Repr

/-- A pool of the shared buffer (05 R174). -/
inductive Pool
  | shared
  | class7
  | firmware
  deriving DecidableEq, Repr

/-- What a frame is charged (05 R179). -/
structure Charge where
  q    : Nat
  n    : Nat            -- the need charged
  m    : Int
  pool : Pool
  r    : Int
  held   : Nat          -- copies still held
  ended  : Bool := false     -- its end key has passed admission
  admitted : List (Nat × Bool) := []  -- the queue of each copy admitted, and whether it leaves tagged
  deriving DecidableEq, Repr

/-- A claim of a course occurrence (06 R223): entry, instant, course number, and how it was won. -/
structure Claim where
  entry  : Nat
  at_    : Instant
  course : Nat
  late   : Bool       -- claimed by deferral
  bank   : Nat
  deriving DecidableEq, Repr

/-- A copy held in an egress queue (05 R178, R179). -/
structure Copy where
  fid    : Nat
  stamp  : Instant
  inPort : Nat
  need   : Nat             -- tiles it contributes to depth
  lenNow : Nat             -- length in bytes: need length until the end key, then as transmitted
  ended  : Bool := false   -- its end key has come
  endAt  : Instant := 0    -- that key
  ce     : Bool := false
  ct     : Bool := false
  tagged : Bool := false   -- leaves tagged (03 R621)
  mirror : Bool := false
  bound  : Nat := 0        -- bank bound at the stamp (06 R221)
  claimPt : Option Instant := none
  claim  : Option Claim := none
  deriving DecidableEq, Repr

/-- An egress queue (05 R179, R196). -/
structure EQueue where
  copies  : List Copy := []   -- lead-key order
  minused : Int := 0
  deficit : Nat := 0
  deriving DecidableEq, Repr

/-- What ends a frame badly on the wire (05 R191): /K30.7/, /K29.7/ and IDLE, or one error control block and idle
blocks. -/
inductive ErrorSeq
  | k30k29
  | errorBlock
  deriving DecidableEq, Repr

/-- The codes of the sequence: the octets of the control characters, or sync header, block type and eight /E/. -/
def ErrorSeq.codes : ErrorSeq → List Nat
  | .k30k29 => [0xFE, 0xFD]
  | .errorBlock => [0b10, 0x1E, 0x1E, 0x1E, 0x1E, 0x1E, 0x1E, 0x1E, 0x1E, 0x1E]

/-- A copy in transmission in a port's model (02 R78). -/
structure Tx where
  cls    : Nat
  fid    : Nat
  mirror : Bool
  ct     : Bool
  start  : Instant
  prevFree : Instant := 0     -- when the model would be free had it not begun (R96)
  bad    : Bool := false      -- ended early on the wire (05 R191)
  reason : Option Nat := none -- the POISON reason of that ending (02 R39, 05 R173)
  deriving DecidableEq, Repr

/-- A copy that the model has begun and the port's transmitter owes (02 R79). -/
structure PhysTx where
  fid    : Nat
  cls    : Nat
  mirror : Bool
  ct     : Bool
  tagged : Bool
  ce     : Bool
  start  : Instant             -- model start
  frame  : Frame
  begun  : Bool := false       -- on the wire
  begunAt : Instant := 0
  ended  : Option Instant := none   -- model end
  deriving DecidableEq, Repr

/-- A launch that has left on the wire, or failed to, and is still to be taken into the model at its key (06 R226, R229). -/
structure Launch where
  at_    : Instant
  fid    : Nat
  mirror : Bool
  gone   : Bool               -- not whole at its instant: removed
  deriving DecidableEq, Repr

/-- The stamp-time model of an egress port (02 R78, 05 R183 to R200). -/
structure PortModel where
  up       : Bool := false      -- up for egress; ports 64-67 always
  rate     : Nat := 0           -- payload rate in Mb/s; 0 until first ACTIVE
  gran     : Nat := 0           -- start granule of the line mode in ps (06 R226)
  tx       : Option Tx := none
  next     : Option Tx := none  -- a cut-through start fixed for its stamp plus 64 ns (R188)
  freeAt   : Instant := 0       -- end of the last copy plus overhead
  credit   : Int := 0           -- class 6, in 2^-16 × 10^-6 bit
  creditT  : Instant := 0
  c6Until  : Instant := 0       -- a class-6 transmission and its overhead last until here
  ptr      : Option Nat := none -- weighted class served last
  parkFrom : Option Instant := none  -- first lead key admitted in PARK (R184)
  parked   : Bool := false
  pauseUntil : Option Instant := none
  pauseFrom  : Instant := 0     -- start of the unbroken pause (R200)
  pauseMark  : Instant := 0     -- from where its time is still to be counted
  pauseEnded : Option Instant := none   -- the expiry of the last pause: a renewal there leaves no gap
  ran        : Instant := 0     -- the model has been run up to here
  ignoreUntil : Option Instant := none
  drainJid : Option Nat := none -- the PORT_SET that waits on the drain (R185)
  drainEnd : Option Instant := none
  drainRemoved : Nat := 0
  launched : List Launch := []  -- launches to be taken into the model, oldest first
  phys     : List PhysTx := []  -- owed by the physical transmitter, in model order
  deriving DecidableEq, Repr

/-- The model an unwritten port reads as: ports 64 to 67 are always up and have the rates of 05 R186. -/
def PortModel.reset (p : Nat) : PortModel :=
  if p < 64 then {} else { up := true, rate := if p = 67 then 25000 else 10000 }

/-- Egress: pools, queues, models (05). -/
structure Egress where
  freeShared : Int := 466048
  freeC7   : Int := 32768
  freeFw   : Int := 8192
  queues   : Tbl EQueue := []       -- by 8 × port + class
  charges  : Tbl (Option Charge) := []
  models   : Tbl PortModel := []
  c7Empty  : Bool := false
  fwEmpty  : Bool := false
  sharedEmpty : Bool := false
  eccUncorr : Bool := false
  underrun : Bool := false
  eccLog   : Option Nat := none
  peak     : Nat := 0               -- SHARED_PEAK.TILES
  retired  : List Nat := []         -- retired tile addresses
  deriving DecidableEq, Repr

/-! ### Courses (06) -/

inductive Act
  | none
  | launch
  | launchStamp
  | gate
  deriving DecidableEq, Repr

/-- A course entry (06 R217). -/
structure Entry where
  offset   : Nat := 0        -- in sub-ns units
  act      : Act := .none
  lateDrop : Bool := false
  udpFix   : Bool := false
  gates    : Nat := 0
  stampOff : Nat := 0
  slot     : Nat := 0
  deriving DecidableEq, Repr

/-- One bank of a course engine (06 R213). -/
structure Bank where
  len     : Nat := 1000000
  entries : Tbl Entry := []
  deriving DecidableEq, Repr

/-- Every entry has action NONE (06 R214). -/
def Bank.idle (b : Bank) : Bool := b.entries.all fun e => e.2.act == .none
def Bank.entry (b : Bank) (k : Nat) : Entry := Tbl.get {} b.entries k

/-- The record of an entry's last occurrence (06 R246). -/
structure Report where
  status : Nat := 0
  course : Nat := 0
  error  : Nat := 0
  deriving DecidableEq, Repr

/-- An accepted COURSE_COMMIT whose A has not come. -/
structure SwapPending where
  a     : Instant
  carry : Bool
  copy  : Bool
  rate  : Nat
  jid   : Option Nat
  words : List Word
  deriving DecidableEq, Repr

/-- The course engine of a port (06 R213). -/
structure Course where
  bank0   : Bank := {}
  bank1   : Bank := {}
  active  : Nat := 0
  base    : Instant := 0
  rate    : Nat := 0          -- recorded payload rate, Mb/s
  pend    : Option SwapPending := none
  misfit  : Bool := false
  missing : Bool := false
  gates   : Nat := 0x7F
  reports : Tbl Report := []
  unavailable : List Instant := []   -- occurrences that R238 makes unavailable
  swapA    : Instant := 0     -- A and CARRY of the last swap (R239)
  swapCarry : Bool := false
  lastWin  : Option (Instant × Instant) := none   -- window of the last claimed occurrence (06 R228, R229)
  deriving DecidableEq, Repr

def Course.act (c : Course) : Bank := if c.active = 0 then c.bank0 else c.bank1
def Course.shadow (c : Course) : Bank := if c.active = 0 then c.bank1 else c.bank0
def Course.bank (c : Course) (i : Nat) : Bank := if i = 0 then c.bank0 else c.bank1

structure Courses where
  engines : Tbl Course := []
  late    : BitVec 64 := 0
  deriving DecidableEq, Repr

end Sys2Proof.Machine
end

