-- ==== Sys2Proof/Machine/LinkTypes.lean ====
section
/-! DEFINITION. State of link timing (08). Defaults are the reset values of 08 R354. -/

namespace Sys2Proof.Machine

/-- The link timing states (08 R339, R346). -/
inductive LtState
  | off
  | wait
  | coarse
  | fine
  | stale
  deriving DecidableEq, Repr

def LtState.code : LtState → Nat
  | .off => 0 | .wait => 1 | .coarse => 2 | .fine => 3 | .stale => 4

/-- The CAL values of the far end (08 R318). -/
structure FarCal where
  calibrated : Bool := false
  fixedTx : Nat := 0
  fixedRx : Nat := 0
  extTx   : Nat := 0
  extRx   : Nat := 0
  alpha   : Int := 0
  deriving DecidableEq, Repr

/-- A TIMING frame of the far end (08 R317). -/
structure FarFrame where
  seq   : Nat
  txA   : Option Instant
  txB   : Option Instant
  rx    : Option (Tk × Instant × Bool)    -- source of this end's mark, receive instant, FINE
  stepped : Bool
  cand  : Bool
  timeValid : Bool
  lease : Tk
  state : Nat
  hop   : Nat
  deriving DecidableEq, Repr

/-- A mark issued here and waiting for its place, or sent (08 R313, R314). -/
structure OwnMark where
  seq  : Nat
  src  : Tk
  at_  : Instant              -- the mark instant
  flags : Nat                 -- SRCFLAGS
  dep  : Option Instant := none
  epoch : Nat := 0            -- steps of the timescale before it left
  deriving DecidableEq, Repr

/-- A far mark kept here (08 R315). -/
structure KeptMark where
  seq  : Nat
  src  : Tk
  rx   : Instant
  fine : Bool
  epoch : Nat
  deriving DecidableEq, Repr

/-- A timing frame slot that is due (08 R319). -/
structure Slot where
  at_  : Instant
  seq  : Nat
  timing : Bool := true       -- its TIMING frame is still to send
  cal  : Bool := false        -- a CAL frame follows
  stepped : Bool := false     -- STEPPED of its TIMING frame
  deriving DecidableEq, Repr

/-- One measurement (08 R335). -/
structure Meas where
  seq  : Nat
  r    : Int
  f    : Int
  din  : Int
  dout : Int
  e    : Int
  fine : Bool
  deriving DecidableEq, Repr

/-- Link timing of a port (08). -/
structure Link where
  cfg     : LtCfg := {}
  asym    : AsymCfg := {}
  state   : LtState := .off
  calibrated : Bool := false
  loopDone : Bool := false        -- the CALX loopback of R331 has completed
  liveDone : Bool := false        -- a live run has completed since ACTIVE (R333)
  delayStale : Bool := false
  runPending : Option (Nat × Nat × Nat × Nat) := none  -- FIXED_TX, FIXED_RX and residuals to apply at the next servo cycle
  running : Bool := false         -- a live run is in progress (R332)
  runWanted : Bool := false       -- one starts at the next servo cycle
  fixedTx : Nat := 0
  fixedRx : Nat := 0
  resTx   : Nat := 0              -- residuals in 0.1 ps
  resRx   : Nat := 0
  farCand : Bool := false
  keptSrc : Bool := false
  mismatch : Bool := false        -- ALPHA_MISMATCH
  mismatchSeen : Option (Int × Int) := none  -- the values for which the event has been raised
  rttJump : Bool := false
  markMiss : Bool := false
  lastSeq : Nat := 0
  marks   : List OwnMark := []    -- own marks, oldest first
  lastKept : Option Nat := none
  kept    : List KeptMark := []   -- kept marks not yet measured, oldest first
  frames  : List FarFrame := []   -- far frames not yet measured, oldest first
  done    : List Nat := []        -- numbers measured or dropped whose own timing frame is still to send
  farCal  : Option FarCal := none -- adopted
  farNext : Option FarCal := none -- received, adopted at the next servo cycle
  far     : Option FarFrame := none   -- the last far TIMING frame
  slots   : List Slot := []
  calSend : Bool := false         -- a CAL value has changed since the last CAL frame
  fHist   : List Int := []        -- F of the last 16 delivered, newest first
  held    : List Meas := []       -- measurements held back under R336, newest first
  misses  : Nat := 0              -- consecutive numbers without a delivered measurement
  meas    : Option Meas := none   -- the last delivered measurement
  newMeas : Bool := false         -- delivered at this servo cycle
  phiRx   : List Nat := []        -- samples, newest first
  phiTx   : List Nat := []
  meanRx  : Nat := 0              -- their means at the last servo cycle (08 R322)
  meanTx  : Nat := 0
  df      : Int := 0              -- Δf in ppt
  fineRun : Nat := 0              -- beat periods with |Δf| at or below 2 ppm
  fine    : Bool := false
  deriving DecidableEq, Repr

/-- The vernier of a quad (08 R329, R346). -/
structure Vernier where
  valid   : Bool := false
  running : Bool := false
  dnl     : Nat := 0
  next    : Option Nat := none    -- DNL of a table that applies at the next servo cycle
  jid     : Option Nat := none
  deriving DecidableEq, Repr

/-- An open ASYM_MEASURE window (08 R342, R352). -/
structure AsymOpen where
  jid    : Nat
  port   : Nat
  second : Bool
  apply  : Bool
  keep   : Bool
  until_ : Instant
  w4     : Nat
  w5     : Nat
  sel    : Option Nat
  es     : List Int
  fs     : List Int
  deriving DecidableEq, Repr

/-- A FIRST result: sums and the number of offsets. -/
structure AsymFirst where
  port : Nat
  sel  : Option Nat
  at_  : Instant
  n    : Nat
  eSum : Int
  fSum : Int
  deriving DecidableEq, Repr

/-- Everything of chapter 8. -/
structure LinkTiming where
  links    : Tbl Link := []
  verniers : Tbl Vernier := []
  asym     : Option AsymOpen := none
  first    : Option AsymFirst := none
  delayJid : Option (Nat × List Nat × Nat) := none  -- CAL_DELAY_RUN in progress: record, ports still to apply, ports run
  vernJid  : Option (Nat × List Nat) := none        -- CAL_VERNIER_RUN in progress: record, quads still to apply
  vernMask : Nat := 0
  delayMask : Nat := 0
  stepped  : Bool := false      -- the stamp timescale has stepped since the last mark
  steps    : Nat := 0           -- steps of the stamp timescale so far
  lastK    : Option Nat := none -- the highest mark number that has had a slot
  status   : Tbl (List Word) := []  -- the reply of LINK_STATUS_GET at the last servo cycle (08 R351)
  deriving DecidableEq, Repr

end Sys2Proof.Machine
end

