-- ==== Sys2Proof/Machine/TimedIoTypes.lean ====
section
/-! DEFINITION. State of the event pins, interval channels and clock outputs (11). Defaults are the
reset values of 11 R488. -/

namespace Sys2Proof.Machine

/-! ### Event pins -/

/-- A stamp record (11 R450). -/
structure EvtRec where
  at_    : Instant
  rising : Bool
  stepped : Bool
  noStamp : Bool
  calOld : Bool
  seq    : Nat
  deriving DecidableEq, Repr

/-- The settings of a pin (11 R481). -/
structure EvtCfg where
  mode   : Nat := 0
  inEdge : Nat := 1
  idle   : Bool := false
  owner  : Nat := 0
  filter : Nat := 0            -- ns
  base   : Instant := 0
  period : Nat := 0            -- sub-ns units
  width  : Nat := 0            -- ns
  entry  : Nat := 0
  port   : Nat := 0
  delay  : Nat := 0            -- ns
  deriving DecidableEq, Repr

/-- An EVT_CFG_SET that waits for its A, or for the pulse in progress at A (11 R457). -/
structure EvtPending where
  a   : Instant
  jid : Option Nat
  cfg : EvtCfg
  discarded : Option Nat := none    -- edges discarded, once A has come
  deriving DecidableEq, Repr

structure EvtPin where
  cfg     : EvtCfg := {}
  modeAt  : Instant := 0            -- instant at which the mode took effect
  next    : List EvtPending := []   -- in the order of their A
  fifo    : List EvtRec := []       -- oldest first
  seq     : Nat := 0
  stepped : Bool := false           -- the next record is the first after a step
  aonLatch : Option Bool := none    -- the edge that the AON latch caught in sleep (R451): rising
  lastEdge : Option Instant := none -- the last input edge
  filtering : Option (Instant × Bool) := none  -- first edge of a pulse under the filter
  last    : List Word := [0, 0, 0, 0]          -- EVT_LAST
  queue   : List (Instant × Bool) := []        -- EDGES, in order
  lastDriven : Option Instant := none
  level   : Bool := false           -- at the ball
  pulseEnd : Option Instant := none -- the fall due of the pulse in progress
  done    : Option Instant := none  -- rise of the last PERIODIC or COURSE pulse taken
  oldBank : Option (Instant × Nat × Nat × Instant) := none  -- COURSE: base, length in ns and offset of the
                                    -- entry before the last swap, and the instant of that swap
  inDrop  : Bool := false
  outLate : Bool := false
  calOld  : Bool := false           -- a bin table is due
  deriving DecidableEq, Repr

/-! ### Interval channels -/

/-- TIM_CFG_SET (11 R483). -/
structure TimCfg where
  enable : Bool := false
  cont   : Bool := true
  gate   : Nat := 0
  stopFall : Bool := false
  startFall : Bool := false
  period : Bool := false
  n      : Nat := 1024
  deriving DecidableEq, Repr

/-- A raw record (11 R464). -/
structure TimRec where
  status : Nat
  calOld : Bool
  seq    : Nat
  start  : Nat
  stop   : Nat
  interval : Int
  tkSec  : Nat
  tkNs   : Nat
  deriving DecidableEq, Repr

/-- A statistics window in progress: exact integer sums (11 R465). -/
structure TimWindow where
  n    : Nat := 0
  sum  : Int := 0
  sq   : Int := 0
  min  : Int := 0
  max  : Int := 0
  bad  : Nat := 0
  first : Option Instant := none
  deriving DecidableEq, Repr

/-- A published block. -/
structure TimBlock where
  status : Nat := 0
  n      : Nat := 0
  bad    : Nat := 0
  mean   : Int := 0
  sigma  : Nat := 0
  min    : Int := 0
  max    : Int := 0
  first  : Instant := 0
  seq    : Nat := 0
  deriving DecidableEq, Repr

structure TimChan where
  cfg    : TimCfg := {}
  armed  : Bool := false
  armedAt : Nat := 0                       -- raw stamp of the arming edge
  gateOn : Bool := false                   -- level at TIM_GATE
  openAt : Option (Nat × Instant) := none  -- raw stamp and TK time of the open START
  lastStart : Option Nat := none           -- the last accepted START
  fifo   : List TimRec := []
  seq    : Nat := 0
  win    : TimWindow := {}
  block  : TimBlock := {}
  ready  : Bool := false
  aborted : Bool := false
  overrange : Bool := false
  rawDrop : Bool := false
  calOld : Bool := false
  deriving DecidableEq, Repr

/-! ### Clock outputs -/

/-- CKO_SET (11 R485). -/
structure CkoCfg where
  enable : Bool := false
  auto   : Bool := true
  f0     : Nat := 0        -- µHz
  yMin   : Int := 0        -- ppm
  yMax   : Int := 0
  deriving DecidableEq, Repr

/-- A profile segment (11 R486): duration in µs, slope in ppt/s. -/
structure Seg where
  dur   : Nat := 1
  slope : Int := 0
  deriving DecidableEq, Repr

/-- A profile that runs or has run (11 R471). -/
structure Profile where
  start : Instant
  y0    : Int              -- y at the start in 10^-9 ppt
  segs  : List Seg
  done  : Nat := 0         -- segments reported as ended
  acc   : Int              -- the integral of 1 + y from A to the start: 131072 × 10^21 is one sub-ns unit
  deriving DecidableEq, Repr

/-- An accepted CKO_PROFILE_START whose S has not come. -/
structure ProfilePend where
  s    : Instant
  jid  : Option Nat
  segs : List Seg
  deriving DecidableEq, Repr

/-- The STATE of an output (11 R478). -/
inductive CkoState
  | off
  | locking
  | running
  | bypass
  | held
  deriving DecidableEq, Repr

def CkoState.code : CkoState → Nat
  | .off => 0 | .locking => 1 | .running => 2 | .bypass => 3 | .held => 4

/-- A CKO_SET or CKO_CMD that waits for its instant; `ready` says that the band of a CKO_SET with
ENABLE = 1 is known. -/
inductive CkoWait
  | set (cfg : CkoCfg) (ready : Bool)
  | disable (cfg : CkoCfg)
  | back
  | force
  deriving DecidableEq, Repr

structure Cko where
  cfg    : CkoCfg := {}
  state  : CkoState := .off
  div    : Nat := 0          -- O
  band   : Nat := 0
  a      : Instant := 0      -- the align instant
  shadow : Tbl Seg := []
  prof   : Option Profile := none
  pend   : Option ProfilePend := none
  waits  : List (CkoWait × Instant × Option Nat) := []
  bandFor : Nat := 0         -- F0 × O in µHz that the band was searched for
  relock : Option Instant := none  -- X of the footing after which it relocks
  forced : Bool := false
  bypassEv : Bool := false
  stepEv : Bool := false
  pllLock : Bool := false    -- its PLL is locked
  lockSince : Instant := 0   -- since when
  deriving DecidableEq, Repr

/-- Everything of chapter 11. -/
structure TimedIo where
  pins   : Tbl EvtPin := []
  chans  : Tbl TimChan := []
  ckos   : Tbl Cko := []
  mrefPresent : Bool := false
  mrefLock : Bool := false
  mref100 : Bool := false
  mrefLost : Bool := false
  mrefErr : Int := 0
  calValid : Bool := false
  calRun : Bool := false
  calDnl : Nat := 0
  calJid : Option Nat := none
  calPend : Bool := false
  off    : Bool := false       -- TIMEIO but for the event pins is stopped in footing
  deriving DecidableEq, Repr

end Sys2Proof.Machine
end

