-- ==== Sys2Proof/Machine/State.lean ====
section
/-! DEFINITION. The state of the KLW-6425 as plain data: one field for each chapter's unit, the queue of
waiting commands, and what the device has driven out. -/

namespace Sys2Proof.Machine

/-- Why the machine stops. No rule of the spec stops this block: no command raises a fault. -/
inductive Fault
  deriving DecidableEq, Repr

/-- Why a command is refused. -/
inductive Refusal
  /-- Raised by an arm of `exec` that has no meaning yet; safe: the machine stops. -/
  | notModelled (mnemonic : String)
  deriving DecidableEq, Repr

/-- What leaves the device, in the order in which it left, newest first. -/
inductive Out
  /-- A write into host memory through one function (12 R511). -/
  | hostWrite (fn : Sender) (addr : Nat) (bytes : List Byte)
  /-- An MSI-X message (12 R513). -/
  | msix (fn : Sender) (vector : Nat)
  /-- A frame whose transmission on a port ends whole (02 R79). -/
  | frame (port : Nat) (bytes : List Byte) (start : Instant)
  /-- A frame ended early: the bytes sent, then the error sequence of the line's coding (05 R191). -/
  | cut (port : Nat) (bytes : List Byte) (start : Instant) (seq : ErrorSeq)
  /-- A TMARK on a port: its three data symbols (08 R311). -/
  | tmark (port : Nat) (symbols : List Nat) (departure : Instant)
  /-- A PTP or 802.1AS message sent from a plant port over its TRANSPORT of R303 (07 R289). -/
  | ptp (port transport : Nat) (msg : PtpMsg)
  /-- An ESMC PDU (07 R291). -/
  | esmc (port : Nat) (ql : Nat)
  /-- A CAPX set: its TYPE (10 R403). -/
  | capx (port : Nat) (type : Nat)
  /-- A request to the far end's transmitter or the start of TRAIN sets (10 R409, R422). -/
  | train (port : Nat) (req : Nat) (status : Nat)
  /-- A rising or falling edge of an event pin (11 R453 to R455). -/
  | pin (n : Nat) (rising : Bool) (at_ : Instant)
  /-- A rising edge of PPS_OUT (2), PPS_MON_A (0) or PPS_MON_B (1) (07 R292). -/
  | pps (which : Nat) (at_ : Instant)
  /-- The 256 output bits of a sideband scan: bit b of port p is bit 4p + b (10 R428). -/
  | sideband (bits : BitVec 256)
  /-- A write on a module bus (10 R431). -/
  | i2c (bus : Nat) (port : Nat) (dev : Bool) (page off : Nat) (bytes : List Byte)
  deriving DecidableEq, Repr

/-- The state of the device. -/
structure State where
  now     : Instant := 0          -- the stamp timescale (02 R50)
  pending : List Instr := []      -- the commands waiting, first in first out
  cfg     : Cfg := {}             -- the data-plane configuration (02 to 05)
  fab     : Fabric := {}          -- mortar, frames, staged changes (02)
  tab     : Tables := {}          -- streams, meters, tables and learning (03, 04)
  egr     : Egress := {}          -- buffer, queues and models (05)
  crs     : Courses := {}         -- course engines (06)
  tk      : Keepers := {}         -- timekeepers and bond (07, 09)
  lt      : LinkTiming := {}      -- link timing (08)
  flt     : Faults := {}          -- interpreter cores and footing (09)
  lan     : Lanes := {}           -- lanes, quads, modules (10)
  tio     : TimedIo := {}         -- timed I/O (11)
  host    : HostState := {}       -- host ports (12)
  cores   : CoresState := {}      -- application cores, events, counters (13)
  pwr     : Power := {}           -- power, boot, security (14)
  out     : List Out := []
  deriving DecidableEq, Repr

/-- The machine right after reset is released: every field at its reset value. -/
def State.reset : State := {}

end Sys2Proof.Machine
end

