-- ==== Sys2Proof/Machine/Ops.lean ====
section
/-! DEFINITION. The shared operations on State: time, counters, the event concentrator's pending
bits and logs, doorbells, message memory and replies. -/

namespace Sys2Proof

/-- The code of a sender (12 R522). -/
def Sender.code : Sender → Nat
  | .h0pf0 => 0 | .h0pf1 => 1 | .h1pf0 => 2 | .h1pf1 => 3 | .ac0 => 4 | .ac1 => 5

/-- The host of a sender, if it is a host function. -/
def Sender.host : Sender → Option HostPort
  | .h0pf0 => some .h0 | .h0pf1 => some .h0 | .h1pf0 => some .h1 | .h1pf1 => some .h1
  | .ac0 => none | .ac1 => none

/-- A secure function (12 R489). -/
def Sender.pf1 : Sender → Bool
  | .h0pf1 => true | .h1pf1 => true | _ => false

/-- The function of the same kind of the other host (12 R512). -/
def Sender.peer : Sender → Sender
  | .h0pf0 => .h1pf0 | .h0pf1 => .h1pf1 | .h1pf0 => .h0pf0 | .h1pf1 => .h0pf1
  | .ac0 => .ac1 | .ac1 => .ac0

def Sender.core : Sender → Option AppCore
  | .ac0 => some .ac0 | .ac1 => some .ac1 | _ => none

def AppCore.code : AppCore → Nat
  | .ac0 => 0 | .ac1 => 1

def AppCore.sender : AppCore → Sender
  | .ac0 => .ac0 | .ac1 => .ac1

def AppCore.target : AppCore → Target
  | .ac0 => .ac0 | .ac1 => .ac1

/-- The inject and extract port of a core (00 R10). -/
def AppCore.port : AppCore → Nat
  | .ac0 => 65 | .ac1 => 66

def HostPort.code : HostPort → Nat
  | .h0 => 0 | .h1 => 1

def HostPort.pf0 : HostPort → Sender
  | .h0 => .h0pf0 | .h1 => .h1pf0

def HostPort.pf1 : HostPort → Sender
  | .h0 => .h0pf1 | .h1 => .h1pf1

def HostPort.other : HostPort → HostPort
  | .h0 => .h1 | .h1 => .h0

def HostPort.owner : HostPort → Machine.SemOwner
  | .h0 => .h0 | .h1 => .h1

def Target.code : Target → Nat
  | .h0 => 0 | .h1 => 1 | .cc0 => 2 | .cc1 => 3 | .ac0 => 4 | .ac1 => 5

def Target.ofCode : Nat → Option Target
  | 0 => some .h0 | 1 => some .h1 | 2 => some .cc0 | 3 => some .cc1 | 4 => some .ac0 | 5 => some .ac1
  | _ => none

def Target.host : Target → Option HostPort
  | .h0 => some .h0 | .h1 => some .h1 | _ => none

namespace Machine

namespace State

/-- The device's time does not run back through an event that comes late (assumption 2). -/
def tick (s : State) (t : Instant) : State := { s with now := max s.now t }

/-! ### Accessors -/

def fn (s : State) (x : Sender) : FnRegs := Tbl.get {} s.host.fns x.code
def setFn (s : State) (x : Sender) (r : FnRegs) : State :=
  { s with host := { s.host with fns := Tbl.set {} s.host.fns x.code r } }
def hostRegs (s : State) : HostPort → HostRegs
  | .h0 => s.host.h0
  | .h1 => s.host.h1
def setHostRegs (s : State) (h : HostPort) (r : HostRegs) : State :=
  match h with
  | .h0 => { s with host := { s.host with h0 := r } }
  | .h1 => { s with host := { s.host with h1 := r } }
def ac (s : State) : AppCore → AcState
  | .ac0 => s.cores.ac0
  | .ac1 => s.cores.ac1
def setAc (s : State) (c : AppCore) (a : AcState) : State :=
  match c with
  | .ac0 => { s with cores := { s.cores with ac0 := a } }
  | .ac1 => { s with cores := { s.cores with ac1 := a } }
def target (s : State) (t : Target) : EvcTarget := Tbl.get {} s.cores.targets t.code
def setTarget (s : State) (t : Target) (v : EvcTarget) : State :=
  { s with cores := { s.cores with targets := Tbl.set {} s.cores.targets t.code v } }
def route (s : State) (src : Nat) : Route := Tbl.get {} s.cores.routes src
def emit (s : State) (o : Out) : State := { s with out := o :: s.out }

/-- The full value of a counter that has saturated (13 R550). -/
def counterMax : Nat := 18446744073709551615

def counter (s : State) (i : Nat) : Nat := Tbl.get 0 s.cores.counters i

/-- Carries out a keyed event under its key (02 R77, 13 R553). -/
def keyedAt (s : State) (k : Instant) (f : State → State) : State :=
  let s1 := f { s with cores := { s.cores with key := some k } }
  { s1 with cores := { s1.cores with key := s.cores.key } }

def pallet (s : State) (n : Nat) : Pallet := if n = 0 then s.cores.pallet0 else s.cores.pallet1
def setPallet (s : State) (n : Nat) (p : Pallet) : State :=
  if n = 0 then { s with cores := { s.cores with pallet0 := p } }
  else { s with cores := { s.cores with pallet1 := p } }

/-- An increment keyed before the T of the snapshot in progress, and carried out after it, goes into the pallet too (13
R553). -/
def countPast (s : State) (i n : Nat) : State :=
  match s.cores.key, s.cores.snaps.find? (·.begun) with
  | some k, some x =>
    if k < x.t then
      let p := s.pallet x.pallet
      s.setPallet x.pallet { p with image := Tbl.set 0 p.image i (min counterMax (Tbl.get 0 p.image i + n)) }
    else s
  | _, _ => s

/-- Adds to a counter, stopping at all ones (13 R550). -/
def countQuiet (s0 : State) (i n : Nat) : State :=
  let s := s0.countPast i n
  let old := s.counter i
  if old = counterMax then s
  else if counterMax ≤ old + n then
    { s with cores := { s.cores with
        counters := Tbl.set 0 s.cores.counters i counterMax, ovfLast := i, ovfAny := true } }
  else { s with cores := { s.cores with counters := Tbl.set 0 s.cores.counters i (old + n) } }

/-! ### Doorbells and MSI-X (12 R512, R513) -/

/-- Sends the message of a vector, or holds it in the pending bit array while the vector is masked. -/
def msixSend (s : State) (x : Sender) (v : Nat) : State :=
  let r := s.fn x
  if (Tbl.get 1#32 r.msix (4 * v + 3)).getLsbD 0 then
    s.setFn x { r with pba := r.pba ||| BitVec.ofNat 32 (2 ^ v) }
  else s.emit (.msix x v)

/-- Sets a doorbell bit; it sends its message when it becomes pending. -/
def ringDb (s : State) (x : Sender) (bit : Nat) : State :=
  let r := s.fn x
  if r.dbStatus.getLsbD bit then s
  else
    let s1 := s.setFn x { r with dbStatus := r.dbStatus ||| BitVec.ofNat 32 (2 ^ bit) }
    if r.dbMask.getLsbD bit then s1 else s1.msixSend x (Tbl.get bit r.dbMap bit)

def ringDbBoth (s : State) (h : HostPort) (bit : Nat) : State :=
  (s.ringDb h.pf0 bit).ringDb h.pf1 bit

/-! ### The event concentrator (13 R538 to R547) -/

/-- The target that gets a route's deliveries: CC0 stands for the interpreter core (13 R541). -/
def effTarget (s : State) (t : Target) : Target :=
  if t = .cc0 ∧ s.host.interp = 1 then .cc1 else t

/-- The level of a level source of a target (13 R540). -/
def levelOf (s : State) (t : Target) (src : Nat) : Bool :=
  if src = 167 then !(s.target t).log.isEmpty
  else
    let coreLevel := fun (a : AcState) =>
      if src = 162 then a.extWr ≠ a.extRd
      else (a.injWr + 1) % 2 ^ (a.injCfg % 16) ≠ a.injRd
    if src = 162 ∨ src = 163 then
      match t with
      | .ac0 => coreLevel s.cores.ac0
      | .ac1 => coreLevel s.cores.ac1
      | _ => false
    else false

def isLevel (src : Nat) : Bool := src = 162 || src = 163 || src = 167

/-- Whether a source is pending at a target (13 R543). -/
def pendingAt (s : State) (t : Target) (src : Nat) : Bool :=
  if src < 160 then s.cores.pendSh.getLsbD src && (s.effTarget (s.route src).target == t)
  else if isLevel src then s.levelOf t src
  else (s.target t).pend.getLsbD (src - 160)

/-- The priority of a source at a target (13 R538, R542). -/
def prioAt (s : State) (t : Target) (src : Nat) : Nat :=
  if src < 160 then (s.route src).prio else Tbl.get 0 (s.target t).prio (src - 160)

/-- In service: a private source at its own target, a shared one at whichever target has claimed it, since a change of
its route leaves it there (13 R541). -/
def serving (s : State) (t : Target) (src : Nat) : Bool :=
  (s.target t).inServ.getLsbD src
    || (decide (src < 160) && (List.range 6).any fun c => (Tbl.get {} s.cores.targets c).inServ.getLsbD src)

/-- Claimable: pending, not in service, priority above the threshold (13 R542). -/
def claimable (s : State) (t : Target) (src : Nat) : Bool :=
  s.pendingAt t src && !s.serving t src
    && decide ((s.target t).threshold < s.prioAt t src)

/-- The claimable source of highest priority, the lowest number on equal priority (13 R542). -/
def bestClaim (s : State) (t : Target) : Option Nat :=
  (List.range 176).foldl (fun best src =>
    if s.claimable t src then
      match best with
      | none => some src
      | some b => if s.prioAt t b < s.prioAt t src then some src else best
    else best) none

def claimCount (s : State) (t : Target) : Nat :=
  ((List.range 176).filter (s.claimable t)).length

/-- Rings doorbell 16 of a host whose count of claimable sources went from 0 up (13 R544). -/
def recheck (before s : State) (t : Target) : State :=
  match t.host with
  | none => s
  | some h =>
    if before.claimCount t = 0 ∧ 0 < s.claimCount t then s.ringDbBoth h 16 else s

/-- Words 3 to 7 of an event record: parameters packed from bits [31:24] of word 3 (13 R548). -/
def paramWords (ps : List Byte) : List Word :=
  (List.range 5).map fun i =>
    word (natBE ((List.range 4).map fun j => ps.getD (4 * i + j) 0))

/-- Drops a parameter that would pass byte 20 (13 R548): `ps` are the parameters in order. -/
def packParams (ps : List (List Byte)) : List Byte :=
  ps.foldl (fun acc p => if acc.length + p.length ≤ 20 then acc ++ p else acc) []

/-- An instant in the layout of 06 R230, 12 bytes. -/
def instantBytes (t : Instant) : List Byte :=
  bytesBE 6 (t / 65536000000000) ++ bytesBE 4 (t / 65536 % 1000000000) ++ bytesBE 2 (t % 65536)

/-- An interval as 8 bytes (00 R7). -/
def intervalBytes (i : Int) : List Byte := bytesBE 8 (i % 18446744073709551616).toNat

/-- Writes one record to the log of a target, or drops it when the log is full (13 R547). -/
def logEvent (s : State) (t : Target) (code src : Nat) (ps : List Byte) (latched : Bool)
    (at_ : Instant) : State :=
  let v := s.target t
  let ts := instantWords at_
  let rec_ := [word (code * 65536 + src * 256 + v.seq), ts.getD 0 0,
    word (atBit latched 31 + (ts.getD 2 0).toNat)] ++ paramWords ps
  let s1 := s.setTarget t { v with
    log := if v.log.length < 64 then v.log ++ [rec_] else v.log
    ovf := v.ovf || decide (64 ≤ v.log.length)
    seq := (v.seq + 1) % 256 }
  if 64 ≤ v.log.length then s1.countQuiet (0x7EF0 + 2 * t.code) 1 else s1

/-- A target takes records: an application core only while it runs (13 R530). -/
def takesRecords (s : State) : Target → Bool
  | .ac0 => s.cores.ac0.status == .running
  | .ac1 => s.cores.ac1.status == .running
  | .h0 => true
  | .h1 => true
  | .cc0 => true
  | .cc1 => true

/-- An event: it pends its shared source (13 R543) and, where the source's priority is not 0, writes a record to
the log of the source's target (13 R538, R547). -/
def raise (s : State) (code src : Nat) (ps : List (List Byte)) (at_ : Instant)
    (latched : Bool := false) : State :=
  let r := s.route src
  let t := s.effTarget r.target
  let s1 := { s with cores := { s.cores with pendSh := s.cores.pendSh ||| BitVec.ofNat 160 (2 ^ src) } }
  recheck s (if decide (0 < r.prio) && s.takesRecords t then s1.logEvent t code src (packParams ps) latched at_ else s1) t

/-- Pends a private edge source of a target (13 R540). -/
def raisePrivate (s : State) (t : Target) (src : Nat) : State :=
  let v := s.target t
  recheck s (s.setTarget t { v with pend := v.pend ||| BitVec.ofNat 16 (2 ^ (src - 160)) }) t

/-- An event that a rule raises at most once per second, by its limiter key (13 R547). -/
def raiseLimited (s : State) (key code src : Nat) (ps : List (List Byte)) (at_ : Instant) : State :=
  if at_ < Tbl.get 0 s.cores.limiter key then s
  else
    let s1 := { s with cores := { s.cores with
      limiter := Tbl.set 0 s.cores.limiter key (at_ + sec 1) } }
    s1.raise code src ps at_

/-- Adds to a counter; one that saturates sets COUNTER_OVF and raises EV_COUNTER_SAT (13 R550). -/
def count (s : State) (i : Nat) (n : Nat := 1) : State :=
  let old := s.counter i
  let s1 := s.countQuiet i n
  if old ≠ counterMax ∧ counterMax ≤ old + n then
    s1.raise 0x0701 103 [bytesBE 2 i] s1.now
  else s1

/-! ### Counter indices (13 R551, R552) -/

/-- Item i of queue `cls` of a port. -/
def countQ (s : State) (port cls i : Nat) (n : Nat := 1) : State := s.count (32 * (8 * port + cls) + i) n
/-- Item i of a port. -/
def countP (s : State) (port i : Nat) (n : Nat := 1) : State := s.count (0x4400 + 128 * port + i) n
/-- Item i of a recovery function. -/
def countR (s : State) (f i : Nat) (n : Nat := 1) : State := s.count (0x6600 + 8 * f + i) n
/-- Item i of a host function. -/
def countF (s : State) (x : Sender) (i : Nat) (n : Nat := 1) : State :=
  if x.code < 4 then s.count (0x7ED0 + 8 * x.code + i) n else s
/-- Item i of an application core. -/
def countA (s : State) (c : AppCore) (i : Nat) (n : Nat := 1) : State :=
  s.count (0x7F00 + 8 * c.code + i) n
/-- Item i of the device block. -/
def countD (s : State) (i : Nat) (n : Nat := 1) : State := s.count (0x7F40 + i) n

/-- Brings FOOTING_NS up to an instant (09 R393). -/
def footTime (s : State) (t : Instant) : State :=
  match s.flt.since with
  | none => s
  | some e =>
    let n := nsFloor (t - e)
    if n ≤ s.flt.counted then s
    else { s with flt := { s.flt with counted := n } }.countD 12 (n - s.flt.counted)

/-! ### Message memory (12 R492, R499; 13 R534) -/

/-- The SRAM offset of the quarter of a host function (12 R492). -/
def quarterBase : Sender → Nat
  | .h0pf0 => 0 | .h1pf0 => 0x80000 | .h0pf1 => 0x100000 | .h1pf1 => 0x180000
  | _ => 0

/-- Whether an address pair names the sender's SRAM quarter. -/
def inSram (hi : Word) : Bool := hi.getLsbD 31

/-- A quarter of the message SRAM is 512 KiB (12 R492); a TCM 256 KiB (13 R526). -/
def quarterSize : Nat := 0x80000
def tcmSize : Nat := 0x40000

/-- Writes bytes where a pair of address words says: TCM for a core, the sender's SRAM quarter, or
host memory, which lies outside (the write is an output). What would pass the end of TCM or of the quarter is
not written (assumption 93). -/
def writeMem (s : State) (x : Sender) (lo hi : Word) (off : Nat) (bs : List Byte) : State :=
  match x.core with
  | some c =>
    let a := s.ac c
    s.setAc c { a with tcm := a.tcm.writeN (lo.toNat + off) (bs.take (tcmSize - (lo.toNat + off))) }
  | none =>
    if inSram hi then
      { s with host := { s.host with
        sram := s.host.sram.writeN (quarterBase x + lo.toNat + off) (bs.take (quarterSize - (lo.toNat + off))) } }
    else s.emit (.hostWrite x (lo.toNat + 4294967296 * hi.toNat + off) bs)

def wordsBytes : List Word → List Byte
  | [] => []
  | w :: r => bytesLE 4 w.toNat ++ wordsBytes r

/-! ### The journal and replies (12 R508 to R511, R514, R515) -/

def openAll (s : State) : Nat := s.host.journal.length
def openOf (s : State) (x : Sender) : Nat :=
  (s.host.journal.filter fun e => e.2.req.sender = x).length

/-- Whether a slot is free: 8 of the 128 take only private-mailbox commands (12 R514). -/
def slotFree (s : State) (viaPriv : Bool) : Bool :=
  let n := s.openAll
  let p := (s.host.journal.filter fun e => e.2.req.viaPriv).length
  if viaPriv then decide (n < 128) else decide (n - p + (p - 8) < 120)

def jrec (s : State) (j : Nat) : Option JRec := Tbl.find s.host.journal j
def setJrec (s : State) (j : Nat) (r : JRec) : State :=
  { s with host := { s.host with journal := Tbl.put s.host.journal j r } }
/-- A record closes. A write that clears RR_CFG.ENABLE and waits is taken once no command of its function is open
(12 R520). -/
def closeJrec (s : State) (j : Nat) : State :=
  match s.jrec j with
  | none => s
  | some r =>
    let s1 := { s with host := { s.host with journal := Tbl.del s.host.journal j } }
    let x := r.req.sender
    let f := s1.fn x
    if f.disableWanted && s1.openOf x == 0 then s1.setFn x { f with enable := false, disableWanted := false } else s1

/-- The words of a reply packet (12 R508). -/
def replyWords (r : Reply) : List Word :=
  let ts := instantWords r.t
  [word (0x01000000 + r.status * 65536 + r.opcode), word (r.words.length * 65536 + r.tag),
   ts.getD 0 0, word (atBit r.final 31 + (ts.getD 2 0).toNat)] ++ r.words

/-- The words of a reply notice (12 R510). -/
def noticeWords (phase : Bool) (r : Reply) : List Word :=
  [word (atBit phase 31 + atBit r.viaPriv 26 + atBit (decide (r.buf.len < 16 + 4 * r.words.length)) 25
      + atBit r.final 24 + r.status * 65536 + r.tag),
   word (r.words.length * 65536 + r.opcode), r.buf.lo, r.buf.hi]

/-- The reply ring is full (12 R511). -/
def ringFull (f : FnRegs) : Bool := decide ((f.wr + 1) % 2 ^ f.log2 = f.rd)

/-- Writes packet, notice, RR_WR and the doorbell, in this order, and closes the record of a final
reply (12 R511). -/
def writeReply (s : State) (x : Sender) (r : Reply) : State :=
  let f := s.fn x
  let s1 := s.writeMem x r.buf.lo r.buf.hi 0 ((wordsBytes (replyWords r)).take r.buf.len)
  let s2 := s1.writeMem x f.rrLo f.rrHi (16 * f.wr) (wordsBytes (noticeWords f.phase r))
  let f2 := s2.fn x
  let nxt := (f2.wr + 1) % 2 ^ f2.log2
  let s3 := s2.setFn x { f2 with wr := nxt, phase := if nxt = 0 then !f2.phase else f2.phase }
  let s4 := match x.core with
    | some c => s3.raisePrivate c.target 166
    | none => s3.ringDb x (if r.viaPriv then 1 else 0)
  if r.final then s4.closeJrec r.jid else s4

/-- Posts a reply: it is discarded where the ring is disabled, and waits where it is full or others
wait before it (12 R511). -/
def post (s : State) (x : Sender) (r : Reply) : State :=
  let f := s.fn x
  if !f.enable then
    let s1 := s.countF x 4
    if r.final then s1.closeJrec r.jid else s1
  else if ringFull f || !f.waiting.isEmpty then
    let s0 := s.setFn x { f with waiting := f.waiting ++ [r], stalled := true }
    let s1 := match s0.jrec r.jid with
      | some j => if r.final then s0.setJrec r.jid { j with posted := true } else s0
      | none => s0
    match x.core with
    | some _ => s1
    | none => s1.ringDb x 5
  else s.writeReply x r

/-- Posts waiting replies while the ring has room. -/
def drainWaiting (x : Sender) : Nat → State → State
  | 0, s => s
  | n + 1, s =>
    let f := s.fn x
    match f.waiting with
    | [] => s
    | r :: rest =>
      if ringFull f then s
      else drainWaiting x n ((s.setFn x { f with waiting := rest }).writeReply x r)

/-- Marks a command's record as completed: COMMAND_COMPLETE posts its final reply (12 R509). -/
def finish (s : State) (j status : Nat) (words : List Word) (t : Instant) : State :=
  match s.jrec j with
  | none => s
  | some r =>
    if r.finish.isSome then s
    else s.setJrec j { r with finish := some ⟨t, status, words⟩ }

def finishOpt (s : State) (j : Option Nat) (status : Nat) (words : List Word) (t : Instant) : State :=
  match j with
  | none => s
  | some j => s.finish j status words t

def lane (s : State) (p : Nat) : Lane := Tbl.get (Lane.reset p) s.lan.lanes p
def setLane (s : State) (p : Nat) (v : Lane) : State :=
  { s with lan := { s.lan with lanes := Tbl.set (Lane.reset p) s.lan.lanes p v } }

/-! ### Status codes (12 R507) -/
def stOk : Nat := 0x00
def stPending : Nat := 0x01
def stBusy : Nat := 0x02
def stBadOpcode : Nat := 0x10
def stBadParam : Nat := 0x11
def stBadLength : Nat := 0x12
def stNoSemaphore : Nat := 0x13
def stNotPermitted : Nat := 0x14
def stState : Nat := 0x15
def stTooLate : Nat := 0x16
def stResource : Nat := 0x17
def stAborted : Nat := 0x18
def stTimeout : Nat := 0x19
def stConflict : Nat := 0x1A
def stIntegrity : Nat := 0x1B

/-! ### A park handshake broken off (10 R420) -/

/-- A copy admitted during the park handshake of its port: the request is refused (10 R420, R439). -/
def refusePark (s : State) (p : Nat) : State :=
  let l := s.lane p
  if l.parkFrom.isNone && !l.parkWait then s
  else
    let s1 := s.finishOpt l.parkJid stBusy [] s.now
    s1.setLane p { s1.lane p with parkJid := none, parkFrom := none, parkWait := false }

end State
end Machine
end Sys2Proof
end

