-- ==== Sys2Proof/Machine/Reset.lean ====
section
/-! DEFINITION. What cold and warm resets do, wake sources, and a command's final reply
(14 R572 to R575, R587; 12 R509). -/

namespace Sys2Proof.Machine

/-- What an OTP write leaves (14 R592). -/
def Otp.apply (o : Otp) : OtpWrite → Otp
  | .enrol app key =>
    if app then { o with apps := o.apps ++ [{ key := key }] } else { o with owners := o.owners ++ [{ key := key }] }
  | .revoke app slot =>
    let off := fun (l : List OtpKey) => l.mapIdx fun i k => if i = slot then { k with revoked := true } else k
    if app then { o with apps := off o.apps } else { o with owners := off o.owners }
  | .lock bits items => { o with perm := o.perm ||| bits, permItems := some items }
  | .floor svn => { o with floor := max o.floor svn }

namespace State

/-- The port of a host is powered down: H1's with HOSTCFG 1, and nothing comes from it (14 R576). -/
def hostOff (s : State) (x : Sender) : Bool := s.pwr.hostcfg && x.host == some .h1

/-- The final reply of an open command is decided now and posted. -/
def endCommand (s : State) (j status : Nat) (words : List Word) (t : Instant) : State :=
  match s.jrec j with
  | none => s
  | some r =>
    if r.posted then s
    else s.post r.req.sender { viaPriv := r.req.viaPriv, tag := r.req.tag, opcode := r.opcode, status := status, final := true
                               words := words, buf := r.req.buf, t := t, jid := j }

/-- OTP as a reset leaves it: a write under way is whole or absent, which of the two is open. -/
def otpAfterReset (s : State) : Otp :=
  match s.pwr.otpWrite with
  | none => s.pwr.otp
  | some w => if Config.otpWritten s.pwr.freeN then s.pwr.otp.apply w.1 else s.pwr.otp

/-- What every reset keeps: OTP, flash, the levels at the balls, what has left the device, and the commands that
have not come yet. Lock bits burnt into OTP and the policy burnt with them are set again (14 R591). -/
def afterReset (s : State) (p : Power) : State :=
  let otp := s.otpAfterReset
  let z : State := {}
  { z with
    pending := s.pending
    out := s.out
    host := { z.host with h0 := { perst := s.host.h0.perst }, h1 := { perst := s.host.h1.perst } }
    lan := { z.lan with io33Low := s.lan.io33Low }
    tk := { z.tk with bond := { z.tk.bond with
      ka := { supply := s.tk.bond.ka.supply }
      kb := { supply := s.tk.bond.kb.supply } } }
    pwr := { p with
      otp := otp
      otpWrite := none
      flash := s.pwr.flash
      freeN := if s.pwr.otpWrite.isSome then s.pwr.freeN + 1 else s.pwr.freeN
      policy := otp.permItems.getD 0b001001#6
      lockPolicy := p.lockPolicy || otp.perm.getLsbD 0
      lockPf0 := p.lockPf0 || otp.perm.getLsbD 1
      inReset := true } }

/-- A cold reset: everything, with RESET_CAUSE showing its own cause alone and the straps sampled (14 R572). -/
def coldReset (s : State) (bit bootsel : Nat) (hostcfg : Bool) : State :=
  s.afterReset { cause := BitVec.ofNat 8 (2 ^ bit), resetCold := true, hold := ms 1, bootsel := bootsel % 4
                 hostcfg := hostcfg }

/-- A warm reset keeps RESET_CAUSE and adds its bit, the trial-boot count, the straps and the lock bits, which
only a cold reset clears (14 R572, R591). A trip in sleep shows in WAKE_LATCH (14 R595). -/
def warmReset (s : State) (bit : Nat) : State :=
  s.afterReset {
    cause := s.pwr.cause ||| BitVec.ofNat 8 (2 ^ bit), trialBoots := s.pwr.trialBoots
    hold := if bit = 3 then ms 10 else if bit = 4 then sec 1 else ms 1
    bootsel := s.pwr.bootsel, hostcfg := s.pwr.hostcfg, lockPolicy := s.pwr.lockPolicy, lockPf0 := s.pwr.lockPf0
    wakeLatch := if bit = 4 ∧ s.pwr.asleep.isSome then 0x100#16 else 0 }

/-- Firmware failure: both interpreter cores have used up their restarts and neither is in service (14 R573). -/
def firmwareFailure (s : State) : State :=
  if s.flt.cc0 = .failed ∧ s.flt.cc1 = .failed then s.warmReset 7 else s

/-- A wake source counts from the take of SLEEP_ENTER on (14 R587). -/
def sleepy (s : State) : Bool :=
  s.pwr.pstate == 1 || s.pwr.pstate == 2
    || s.pwr.waits.any fun w => match w.1 with | .sleep _ _ => true | .reset _ => false

/-- A wake source arrives: bit of WAKE_LATCH; PWR_WAKE needs no enable (14 R587). -/
def wakeSource (s : State) (bit : Nat) : State :=
  if s.sleepy && (bit == 14 || s.pwr.wakeEn.getLsbD bit) then
    { s with pwr := { s.pwr with wakeLatch := s.pwr.wakeLatch ||| BitVec.ofNat 16 (2 ^ bit), wakePend := true } }
  else s

end State
end Sys2Proof.Machine
end

