-- ==== Sys2Proof/Machine/Trie.lean ====
section
/-! DEFINITION. The trie: its memory of directory banks and stage blocks, the walk of a lookup, and how CC1 builds a
change by copying before it switches (04 R145 to R148). -/

namespace Sys2Proof.Machine

/-! ### Addresses (04 R145)

A row is 256 words: a block of a stage memory, rows 0 to 1,023, or a directory bank of a family, rows 1,024 to 1,027.
Word i of row r has address 256 r + i, so the 262,144 slots come first and the directory lies outside them. -/

/-- The blocks of a stage, and the first row of its memory. -/
def stageBlocks : Nat → Nat
  | 1 => 512 | 2 => 256 | 3 => 128 | _ => 32
def stageBase (k : Nat) : Nat := (List.range k).foldl (fun n i => if i = 0 then n else n + stageBlocks i) 0

/-- The rows of a stage memory. -/
def stageRows (k : Nat) : List Nat := (List.range (stageBlocks k)).map (stageBase k + ·)

/-- The level at which a prefix is written: 0 the directory. -/
def levelOf (plen : Nat) : Nat := if plen ≤ 8 then 0 else (plen - 1) / 8
/-- The last prefix length of a level, and the last level of a family. -/
def levelEnd (lvl : Nat) : Nat := 8 * (lvl + 1)
def lastLevel (v6 : Bool) : Nat := if v6 then 7 else 3
/-- The leading `n` bits of a 128-bit address, and the 8 bits that a level reads. -/
def topBits (addr n : Nat) : Nat := addr / 2 ^ (128 - n)
def levelByte (addr lvl : Nat) : Nat := topBits addr (levelEnd lvl) % 256

/-- A word as the 36 bits of its brick (04 R146). -/
def TrieWord.bits (w : TrieWord) : BitVec 36 :=
  let r := w.route.getD (0, ⟨0, 0⟩)
  BitVec.ofNat 36 ((if w.route.isSome then 2 else 0) * 2 ^ 34 + (if w.child.isSome then 2 ^ 34 else 0)
    + r.1 * 2 ^ 27 + w.child.getD 0 * 2 ^ 17 + r.2.act * 2 ^ 15 + r.2.nh * 2)

namespace Trie

def word (t : Trie) (a : Nat) : TrieWord := Tbl.get {} t.words a
def setWord (t : Trie) (a : Nat) (w : TrieWord) : Trie := { t with words := Tbl.set {} t.words a w }

def bank (t : Trie) (v6 : Bool) : Nat := if v6 then t.bank6 else t.bank4

/-- The row of a directory bank, and of the bank that a family's lookups read. -/
def bankRow (v6 : Bool) (b : Nat) : Nat := 1024 + (if v6 then 2 else 0) + b
def dirRow (t : Trie) (v6 : Bool) : Nat := bankRow v6 (t.bank v6)

/-- The 256 words of a row are EMPTY. -/
def rowEmpty (t : Trie) (row : Nat) : Bool := !(t.words.any fun e => e.1 / 256 == row)

/-- The walk of a lookup from a word's row on (04 R147): the last route met. A word that `bad` names reads as EMPTY
(04 R129). -/
def walk (t : Trie) (bad : Nat → Bool) (addr : Nat) : Nat → Nat → Nat → Option (Nat × Action) → Option (Nat × Action)
  | 0, _, _, best => best
  | n + 1, lvl, row, best =>
    let a := 256 * row + levelByte addr lvl
    let w := if bad a then {} else t.word a
    let here := if w.route.isSome then w.route else best
    match w.child with
    | some b => t.walk bad addr n (lvl + 1) (stageBase (lvl + 1) + b) here
    | none => here

/-- The route that a lookup takes: its prefix length and action. -/
def find (t : Trie) (bad : Nat → Bool) (v6 : Bool) (addr : Nat) : Option (Nat × Action) :=
  t.walk bad addr (lastLevel v6 + 1) 0 (t.dirRow v6) none

end Trie

/-! ### Changes (04 R147, R148) -/

/-- The route that a word of a level holds: the longest prefix of that level that covers it (04 R147). Only the first
8 × (level + 1) bits of the address name the word. -/
def wordRoute (rs : List TrieRoute) (v6 : Bool) (lvl addr : Nat) : Option (Nat × Action) :=
  (rs.foldl (fun (best : Option TrieRoute) r =>
    if r.v6 = v6 ∧ levelOf r.plen = lvl ∧ topBits r.pfx r.plen = topBits addr r.plen then
      match best with
      | none => some r
      | some b => if b.plen < r.plen then some r else best
    else best) none).map fun r => (r.plen, r.goes)

/-- The words of its row that a prefix covers. -/
def TrieRoute.span (x : TrieRoute) : List Nat :=
  (List.range (2 ^ (levelEnd (levelOf x.plen) - x.plen))).map (levelByte x.pfx (levelOf x.plen) + ·)

/-- A change under construction: the trie and the master list of prefixes as they will be, the rows that the change
itself builds and no lookup reaches before A, the blocks it may take, and the addresses of the words it stages. -/
structure TrieEdit where
  trie   : Trie
  routes : List TrieRoute
  fresh  : List Nat
  free   : List Nat
  staged : List Nat

namespace TrieEdit

/-- Writes a word: unstaged in a fresh row, else staged (04 R126). -/
def write (e : TrieEdit) (a : Nat) (w : TrieWord) : TrieEdit :=
  { e with trie := e.trie.setWord a w
           staged := if e.fresh.contains (a / 256) || e.staged.contains a then e.staged else a :: e.staged }

/-- Takes a free block of a stage: its row. -/
def takeBlock (e : TrieEdit) (k : Nat) : Option (TrieEdit × Nat) :=
  match e.free.find? fun r => decide (stageBase k ≤ r ∧ r < stageBase k + stageBlocks k) with
  | none => none
  | some r =>
    some ({ e with trie := { e.trie with used := r :: e.trie.used }, fresh := r :: e.fresh, free := e.free.filter (· != r) }, r)

/-- A block is released: nothing reaches it any more. Its words are cleared with it, which no lookup can see (DESIGN
CHOICE, assumption 131). -/
def release (e : TrieEdit) (row : Nat) : TrieEdit :=
  { e with trie := { e.trie with
      words := e.trie.words.filter fun w => w.1 / 256 != row, used := e.trie.used.filter (· != row) }
           staged := e.staged.filter fun a => a / 256 != row }

/-- Goes down `n` levels from a row towards an address, building the blocks that are missing: the last row. -/
def grow (addr : Nat) : Nat → Nat → Nat → TrieEdit → Option (TrieEdit × Nat)
  | 0, _, row, e => some (e, row)
  | n + 1, lvl, row, e =>
    let a := 256 * row + levelByte addr lvl
    match (e.trie.word a).child with
    | some b => grow addr n (lvl + 1) (stageBase (lvl + 1) + b) e
    | none =>
      match e.takeBlock (lvl + 1) with
      | none => none
      | some (e1, r) =>
        grow addr n (lvl + 1) r (e1.write a { e1.trie.word a with child := some (r - stageBase (lvl + 1)) })

/-- The rows on the path to an address from a row on, as far as they are there. -/
def rows (t : Trie) (addr : Nat) : Nat → Nat → Nat → List Nat
  | 0, _, row => [row]
  | n + 1, lvl, row =>
    row :: match (t.word (256 * row + levelByte addr lvl)).child with
      | some b => rows t addr n (lvl + 1) (stageBase (lvl + 1) + b)
      | none => []

/-- The address of the word above the row of a level on the path to an address. -/
def parent (e : TrieEdit) (v6 : Bool) (addr lvl : Nat) : Nat :=
  256 * (rows e.trie addr lvl 0 (e.trie.dirRow v6)).getD (lvl - 1) 0 + levelByte addr (lvl - 1)

/-- Blocks of a path that have become empty are released from a level upwards: the word above loses its child. -/
def prune (v6 : Bool) (addr : Nat) : Nat → TrieEdit → TrieEdit
  | 0, e => e
  | lvl + 1, e =>
    match (rows e.trie addr (lvl + 1) 0 (e.trie.dirRow v6))[lvl + 1]? with
    | none => e
    | some row =>
      if e.trie.rowEmpty row then
        let a := e.parent v6 addr (lvl + 1)
        prune v6 addr lvl ((e.release row).write a { e.trie.word a with child := none })
      else e

/-- Copies a row's words into another row. -/
def copyRow (e : TrieEdit) (src dst : Nat) : TrieEdit :=
  let ws := (e.trie.words.filter fun w => w.1 / 256 == src).map fun w => (256 * dst + w.1 % 256, w.2)
  let keep := e.trie.words.filter fun w => w.1 / 256 != dst
  { e with trie := { e.trie with words := ws.foldl (fun t w => Tbl.put t w.1 w.2) keep } }

/-- Writes words into a row that the change builds. -/
def writeAll (e : TrieEdit) (row : Nat) (ws : List (Nat × TrieWord)) : TrieEdit :=
  ws.foldl (fun e w => e.write (256 * row + w.1) w.2) e

/-- The other bank of a family's directory is built and switched to (04 R148). -/
def switchBank (e : TrieEdit) (v6 : Bool) (ws : List (Nat × TrieWord)) : TrieEdit :=
  let b := 1 - e.trie.bank v6
  let row := Trie.bankRow v6 b
  let e1 := e.copyRow (e.trie.dirRow v6) row
  let e2 := ({ e1 with fresh := row :: e1.fresh }).writeAll row ws
  { e2 with
    trie := if v6 then { e2.trie with bank6 := b } else { e2.trie with bank4 := b }
    staged := (if v6 then 263169 else 263168) :: e2.staged }

/-- A block is built anew with the words changed, and the word above is switched to it (04 R148). -/
def switchBlock (e : TrieEdit) (x : TrieRoute) (row : Nat) (ws : List (Nat × TrieWord)) : Option TrieEdit :=
  let l := levelOf x.plen
  match e.takeBlock l with
  | none => none
  | some (e1, r) =>
    let e2 := (e1.copyRow row r).writeAll r ws
    let a := e2.parent x.v6 x.pfx l
    some ((e2.write a { e2.trie.word a with child := some (r - stageBase l) }).release row)

/-- Writes the words of a prefix as the master list has them: in place where the row is fresh, one word changes, or a
block becomes empty; else by a copy and a switch (04 R148). None where a stage has no free block. -/
def rewrite (e : TrieEdit) (x : TrieRoute) : Option TrieEdit :=
  let l := levelOf x.plen
  match grow x.pfx l 0 (e.trie.dirRow x.v6) e with
  | none => none
  | some (e1, row) =>
    let ws := x.span.filterMap fun i =>
      let old := e1.trie.word (256 * row + i)
      let base := topBits x.pfx (levelEnd l) / 256 * 256
      let new := { old with route := wordRoute e1.routes x.v6 l ((base + i) * 2 ^ (128 - levelEnd l)) }
      if new = old then none else some (i, new)
    let after := ws.foldl (fun (t : Trie) w => t.setWord (256 * row + w.1) w.2) e1.trie
    if l ≠ 0 ∧ after.rowEmpty row then some (prune x.v6 x.pfx l { e1 with trie := after })
    else if e1.fresh.contains row ∨ ws.length ≤ 1 then some (e1.writeAll row ws)
    else if l = 0 then some (e1.switchBank x.v6 ws)
    else e1.switchBlock x row ws

/-- One prefix is set, replacing one that is there, or deleted. -/
def edit (del : Bool) (e : TrieEdit) (x : TrieRoute) : Option TrieEdit :=
  let rest := e.routes.filter fun q => !(q.v6 == x.v6 && q.pfx == x.pfx && q.plen == x.plen)
  rewrite { e with routes := if del then rest else x :: rest } x

/-- The prefixes of one command, in order. -/
def edits (del : Bool) : List TrieRoute → TrieEdit → Option TrieEdit
  | [], e => some e
  | x :: r, e =>
    match e.edit del x with
    | none => none
    | some e1 => edits del r e1

end TrieEdit

/-- The change of some prefixes to a trie and its master list, with blocks that it may take. -/
def editTrie (t : Trie) (routes : List TrieRoute) (free : List Nat) (del : Bool) (rs : List TrieRoute) : Option TrieEdit :=
  TrieEdit.edits del rs { trie := t, routes := routes, fresh := [], free := free, staged := [] }

end Sys2Proof.Machine
end

