-- ==== Sys2Proof/Machine/Staging.lean ====
section
/-! DEFINITION. Staged changes: what each change does to the configuration, the configuration at a
key, and the keys that still lie ahead of a unit (02 R73, R74; 04 R151). -/

namespace Sys2Proof.Machine

/-! ### Fast-failover groups (04 R151) -/

/-- The first position from the given ones whose member is live. -/
def firstLiveAt (live : BitVec 64) (ms : List Nat) : List Nat → Option Nat
  | [] => none
  | i :: r => if live.getLsbD (ms.getD i 64) then some i else firstLiveAt live ms r

/-- List positions after position `i`, wrapping, with `i` itself last. -/
def afterPos (i n : Nat) : List Nat := (List.range n).map fun k => (i + 1 + k) % n

/-- The choice of the current member at a liveness change of a member. -/
def FfGroup.onLive (g : FfGroup) (live : BitVec 64) : FfGroup :=
  if !g.valid then g
  else
    let n := g.members.length
    let pick :=
      if g.revert then firstLiveAt live g.members (List.range n)
      else
        match g.cur with
        | some i =>
          if live.getLsbD (g.members.getD i 64) then some i
          else firstLiveAt live g.members (afterPos i n)
        | none =>
          match g.lastCur with
          | some i => firstLiveAt live g.members (afterPos i n)
          | none => firstLiveAt live g.members (List.range n)
    { g with cur := pick, lastCur := if pick.isSome then pick else g.lastCur }

/-- The group after FFG_SET at its A. The member that was current last keeps its place in the new list for the search of
a later liveness change; where the new list lacks it, that search starts at the start of the list, on which the spec is
silent (DESIGN CHOICE, assumption 132). -/
def FfGroup.onSet (old : FfGroup) (live : BitVec 64) (valid revert : Bool) (ms : List Nat) : FfGroup :=
  if !valid then { valid := false, revert := revert, members := ms }
  else
    let first := firstLiveAt live ms (List.range ms.length)
    let curPort := match old.cur with
      | some i => old.members[i]?
      | none => none
    let lastPort := match old.lastCur with
      | some i => old.members[i]?
      | none => none
    let posOf := fun (q : Option Nat) => match q with
      | some p => ms.findIdx? (· == p)
      | none => none
    let pick :=
      if !old.valid || revert then first
      else
        match curPort, posOf curPort with
        | some p, some i => if live.getLsbD p then some i else first
        | _, _ => first
    { valid := true, revert := revert, members := ms, cur := pick
      lastCur := if pick.isSome then pick else if old.valid then posOf lastPort else none }

/-- The current member's port. -/
def FfGroup.member (g : FfGroup) : Option Nat :=
  match g.cur with
  | some i => g.members[i]?
  | none => none

/-! ### The L2 and host tables, by key (04 R132, R134) -/

def L2Entry.hasKey (e : L2Entry) (vid mac : Nat) : Bool := e.vid == vid && e.mac == mac
def HostEntry.hasKey (e : HostEntry) (v6 : Bool) (addr : Nat) : Bool := e.v6 == v6 && e.addr == addr

/-- Writes an entry wherever the table holds its key, else into the place planned for it. While a relocation holds an
entry twice, both are written, so two positions never hold one key with different content (04 R132). -/
def putKey {α : Type} [DecidableEq α] (is : α → Bool) (pos : Nat) (e : α) (t : Tbl (Option α)) : Tbl (Option α) :=
  if t.any fun x => x.2.any is then t.map fun x => if x.2.any is then (x.1, some e) else x
  else Tbl.set none t pos (some e)

/-- Removes an entry from every position. -/
def delKey {α : Type} (is : α → Bool) (t : Tbl (Option α)) : Tbl (Option α) := t.filter fun x => !x.2.any is

/-- A relocation copies an entry into a position that is empty (04 R134). -/
def movePos {α : Type} [DecidableEq α] (src dst : Nat) (t : Tbl (Option α)) : Tbl (Option α) :=
  match Tbl.get none t src, Tbl.get none t dst with
  | some e, none => Tbl.set none t dst (some e)
  | _, _ => t

/-- An entry that a flush selects (04 R161). -/
def FlushSel.picks (f : FlushSel) (e : L2Entry) : Bool :=
  (!e.static || f.staticToo) && (!f.byPort || (e.dkind == .port && e.target == f.port)) && (!f.byVid || e.vid == f.vid)

/-- The positions that a flush selects, in way-then-index order (04 R141). -/
def flushSet (c : Cfg) (f : FlushSel) : List Nat :=
  c.l2.filterMap fun e => if e.2.any f.picks then some e.1 else none

/-! ### Changes -/

/-- What a change writes. -/
def Change.apply (ch : Change) (c : Cfg) : Cfg :=
  match ch with
  | .mortar r l => { c with maxRes := r, stallLimit := l }
  | .ingress p v => { c with ingress := Tbl.set {} c.ingress p v }
  | .vlan i v => { c with vlans := Tbl.set (Vlan.reset i) c.vlans i v }
  | .stream i v => { c with streams := Tbl.set {} c.streams i v }
  | .meter i v => { c with meters := Tbl.set {} c.meters i v }
  | .window i v => { c with windows := Tbl.set {} c.windows i v }
  | .recovery i v => { c with recoveries := Tbl.set {} c.recoveries i v }
  | .recoveryReset _ => c
  | .l2Put pos e => { c with l2 := putKey (·.hasKey e.vid e.mac) pos e c.l2 }
  | .l2Del vid mac => { c with l2 := delKey (·.hasKey vid mac) c.l2 }
  | .l2Move src dst => { c with l2 := movePos src dst c.l2 }
  | .l2Flush f =>
    let group := (flushSet c f).take 64
    { c with l2 := c.l2.filter fun e => !group.contains e.1 }
  | .l2Lock vid mac b =>
    { c with l2 := c.l2.map fun x =>
        (x.1, x.2.map fun (e : L2Entry) => if e.hasKey vid mac then { e with locked := b } else e) }
  | .tableCfg v => { c with tableCfg := v }
  | .l2port p v => { c with l2ports := Tbl.set (L2Port.reset p) c.l2ports p v }
  | .rif i v => { c with rifs := Tbl.set {} c.rifs i v }
  | .nh i v => { c with nhs := Tbl.set {} c.nhs i v }
  | .hostPut pos e => { c with hosts := putKey (·.hasKey e.v6 e.addr) pos e c.hosts }
  | .hostDel v6 addr => { c with hosts := delKey (·.hasKey v6 addr) c.hosts }
  | .hostMove src dst => { c with hosts := movePos src dst c.hosts }
  | .routes del rs take =>
    -- a change that another has made larger meanwhile takes any block that is not in use
    let spare := (List.range 1024).filter fun r => !c.trie.used.contains r && !take.contains r
    match editTrie c.trie c.routes (take ++ spare) del rs with
    | some e => { c with trie := e.trie, routes := e.routes }
    | none => c
  | .mcg i m => { c with mcgs := Tbl.set 0 c.mcgs i m }
  | .ffg i v r ms => { c with ffgs := Tbl.set {} c.ffgs i ((c.ffg i).onSet c.live v r ms) }
  | .live p up =>
    let live := if up then c.live ||| BitVec.ofNat 64 (2 ^ p) else c.live &&& ~~~ BitVec.ofNat 64 (2 ^ p)
    { c with live := live
             ffgs := c.ffgs.map fun e => (e.1, if e.2.members.contains p then e.2.onLive live else e.2) }
  | .pools a b => { c with c7Pool := a, fwPool := b }
  | .retire => { c with retired := c.retired + 1 }
  | .queue q v => { c with queues := Tbl.set (QueueCfg.reset q) c.queues q v }
  | .sched p v => { c with scheds := Tbl.set {} c.scheds p v }
  | .pause p v => { c with pauses := Tbl.set {} c.pauses p v }
  | .mirror v => { c with mirror := v }
  | .exclude p out =>
    { c with excluded := if out then c.excluded ||| BitVec.ofNat 68 (2 ^ p)
                         else c.excluded &&& ~~~ BitVec.ofNat 68 (2 ^ p) }
  | .disable p off =>
    { c with disabled := if off then c.disabled ||| BitVec.ofNat 64 (2 ^ p)
                         else c.disabled &&& ~~~ BitVec.ofNat 64 (2 ^ p) }
  | .footing on => { c with footing := on }
  | .rewrite _ _ _ => c

def Cfg.applyAll (c : Cfg) (chs : List Change) : Cfg := chs.foldl (fun c ch => ch.apply c) c

/-- The sum of MIN over the 544 queues (05 R174). -/
def Cfg.sumMin (c : Cfg) : Nat :=
  c.queues.foldl (fun n e => n + e.2.min - (QueueCfg.reset e.1).min) 15232

/-- The sum of MIN over the class-7 queues. -/
def Cfg.sumMin7 (c : Cfg) : Nat :=
  c.queues.foldl (fun n e => if e.1 % 8 = 7 then n + e.2.min else n) 0

/-- The class-7 and firmware pool sizes in force; in footing those of 09 R385. -/
def Cfg.c7Size (c : Cfg) : Int :=
  if c.footing then (131072 : Int) - 2048 - 4096 - c.sumMin7 else c.c7Pool
def Cfg.fwSize (c : Cfg) : Int := if c.footing then 4096 else c.fwPool

/-- The shared pool: the remainder, less retired tiles (05 R174). -/
def Cfg.sharedNormal (c : Cfg) : Int :=
  (524288 : Int) - 2048 - c.sumMin - c.c7Pool - c.fwPool - c.retired

/-- The shared pool in force; none in footing (09 R385). -/
def Cfg.sharedSize (c : Cfg) : Int := if c.footing then 0 else c.sharedNormal

/-! ### The configuration at a key -/

/-- The configuration with every staged change whose A is not after the key (02 R73). -/
def State.cfgAt (s : State) (key : Instant) : Cfg :=
  s.fab.staged.foldl (fun c e => if e.a ≤ key then c.applyAll e.change else c) s.cfg

/-- The configuration with every accepted change applied (04 R158). -/
def State.cfgPlanned (s : State) : Cfg :=
  s.fab.staged.foldl (fun c e => c.applyAll e.change) s.cfg

/-- The configuration as it stands now. -/
def State.cfgNow (s : State) : Cfg := s.cfgAt s.now

/-- The configurations from an instant on, one after each accepted change, with some changes more made at that instant
(04 R158). -/
def State.cfgsWith (s : State) (a : Instant) (chs : List Change) : List Cfg :=
  let later := s.fab.staged.filter fun e => decide (a < e.a)
  let c0 := (s.cfgAt a).applyAll chs
  (later.foldl (fun (acc : Cfg × List Cfg) e =>
    let c := acc.1.applyAll e.change
    (c, acc.2 ++ [c])) (c0, [c0])).2

def State.cfgsFrom (s : State) (a : Instant) : List Cfg := s.cfgsWith a []

/-- The configuration that a unit holds: what it has applied of the staged changes (02 R74). -/
def State.cfgOf (s : State) (u : Nat) : Cfg :=
  s.fab.staged.foldl (fun c e => if e.units.contains u then c else c.applyAll e.change) s.cfg

namespace State

def model (s : State) (p : Nat) : PortModel := Tbl.get (PortModel.reset p) s.egr.models p
def setModel (s : State) (p : Nat) (m : PortModel) : State :=
  { s with egr := { s.egr with models := Tbl.set (PortModel.reset p) s.egr.models p m } }
def equeue (s : State) (q : Nat) : EQueue := Tbl.get {} s.egr.queues q
def setEqueue (s : State) (q : Nat) (v : EQueue) : State :=
  { s with egr := { s.egr with queues := Tbl.set {} s.egr.queues q v } }
def course (s : State) (p : Nat) : Course := Tbl.get {} s.crs.engines p
def setCourse (s : State) (p : Nat) (c : Course) : State :=
  { s with crs := { s.crs with engines := Tbl.set {} s.crs.engines p c } }
def bucket (s : State) (pipe m : Nat) : Bucket := Tbl.get {} s.tab.buckets (8 * m + pipe)
def setBucket (s : State) (pipe m : Nat) (b : Bucket) : State :=
  { s with tab := { s.tab with buckets := Tbl.set {} s.tab.buckets (8 * m + pipe) b } }
def recov (s : State) (f : Nat) : RecovState := Tbl.get {} s.tab.recov f
def setRecov (s : State) (f : Nat) (r : RecovState) : State :=
  { s with tab := { s.tab with recov := Tbl.set {} s.tab.recov f r } }
def charge (s : State) (fid : Nat) : Option Charge := Tbl.get none s.egr.charges fid
def setCharge (s : State) (fid : Nat) (c : Option Charge) : State :=
  { s with egr := { s.egr with charges := Tbl.set none s.egr.charges fid c } }
def frame (s : State) (fid : Nat) : Option Frame := Tbl.get none s.fab.frames fid
def setFrame (s : State) (fid : Nat) (f : Option Frame) : State :=
  { s with fab := { s.fab with frames := Tbl.set none s.fab.frames fid f } }
def input (s : State) (mp i : Nat) : MergeIn := Tbl.get {} s.fab.inputs (128 * mp + i)
def setInput (s : State) (mp i : Nat) (m : MergeIn) : State :=
  { s with fab := { s.fab with inputs := Tbl.set {} s.fab.inputs (128 * mp + i) m } }
def outq (s : State) (mp : Nat) : List Item := Tbl.get [] s.fab.outs mp
def setOutq (s : State) (mp : Nat) (l : List Item) : State :=
  { s with fab := { s.fab with outs := Tbl.set [] s.fab.outs mp l } }
def tgenOf (s : State) (u : Nat) : Nat := Tbl.get 0 s.fab.tgen u

/-! ### Keys ahead of a unit (02 R53, R62, R74) -/

/-- The key of an ordered item; grout has none, and a FENCE brick stands before every port at its instant, so the
ports of other items count from 1 (02 R53, R62; 04 R154). -/
def itemKey (s : State) : Item → Option (Instant × Nat)
  | .lead f => (s.frame f).map fun x => (x.stamp, x.inPort + 1)
  | .fin f => (s.frame f).map fun x => (ns (x.endNs.getD 0), x.inPort + 1)
  | .notice n e => some (ns e, n.inPort + 1)
  | .fence f => some (ns f, 0)
  | .grout _ => none

/-- The stamps of the items that still stand in some channels. -/
def stampsIn (s : State) (its : List Item) : List Instant := its.filterMap fun it => (s.itemKey it).map (·.1)

/-- Whether a channel of the fabric leads to a unit: a merge input by its number, or a merge point's output. A pipeline
copy has its own; the egress units have those of every pipeline and of admission. -/
def leadsTo (u mp : Nat) : Bool := if u < 5 then mp == u else decide (mp ≤ 5)

/-- The keys of the items ahead of a unit: in its channels, and on loopback (02 R52). -/
def keysAhead (s : State) (u : Nat) : List Instant :=
  let loop := match (s.model 67).phys with
    | y :: _ => if y.begun then [] else [y.start + ns 320]
    | [] => []
  (s.fab.inputs.filter fun e => leadsTo u (e.1 / 128)).flatMap (fun e => s.stampsIn e.2.items)
    ++ (s.fab.outs.filter fun e => leadsTo u e.1).flatMap (fun e => s.stampsIn e.2)
    ++ (if u = 5 ∨ u = 1 then loop else [])

/-- How far the horizon at a unit's input can have come: no further than the timescale, than any item still ahead of the
unit, and, while a rebase is under way, than the step instant S (02 R55, R74, R622). -/
def unitBound (s : State) (u : Nat) : Instant :=
  (s.keysAhead u).foldl min (match s.fab.rebase with | some r => r.s - 1 | none => s.now)

end State
end Sys2Proof.Machine
end

