-- ==== Sys2Proof/Machine/Bytes.lean ====
section
/-! DEFINITION. Frame bytes: the CRCs, the parser of stage 1 (03 R90 to R92), the marked FCS
(03 R95, R96), and the bytes of a frame and of a copy as the stages change them (03 R108, R621;
04 R149; 05 R198; 06 R230). -/

namespace Sys2Proof.Machine

/-! ### CRC -/

/-- One bit step of a reflected CRC. -/
def crcBits (poly : Nat) : Nat → Nat → Nat
  | 0, r => r
  | n + 1, r => crcBits poly n (if r % 2 = 1 then (r / 2) ^^^ poly else r / 2)

/-- A reflected CRC register after some bytes. -/
def crcReg (poly init : Nat) (bs : List Byte) : Nat :=
  bs.foldl (fun r b => crcBits poly 8 (r ^^^ b.toNat)) init

/-- The CRC-32 of IEEE 802.3. -/
def crc32 (bs : List Byte) : Nat := crcReg 0xEDB88320 0xFFFFFFFF bs ^^^ 0xFFFFFFFF

/-- The CRC-32C of 04 R131: reflected, no final inversion, the given initial value. -/
def crc32c (init : Nat) (bs : List Byte) : Nat := crcReg 0x82F63B78 init bs

/-- The initial value of way `w` (04 R131). -/
def wayInit : Nat → Nat
  | 0 => 0xFFFFFFFF | 1 => 0x9E3779B9 | 2 => 0x7F4A7C15 | _ => 0x3C6EF372

/-! ### The FCS and its mark (03 R95, R96) -/

def bodyOf (bs : List Byte) : List Byte := bs.take (bs.length - 4)
def fcsOf (bs : List Byte) : List Byte := bs.drop (bs.length - 4)
/-- The FCS of a body, as it stands on the wire. -/
def goodFcs (body : List Byte) : List Byte := bytesLE 4 (crc32 body)
/-- Its bitwise complement. -/
def markFcs (body : List Byte) : List Byte := bytesLE 4 (crc32 body ^^^ 0xFFFFFFFF)
/-- The last four bytes equal the complement of the CRC-32 over the bytes before them. -/
def marked (bs : List Byte) : Bool := decide (4 ≤ bs.length) && fcsOf bs == markFcs (bodyOf bs)
def invertFcs (bs : List Byte) : List Byte := bodyOf bs ++ markFcs (bodyOf bs)
/-- A stage that changes a frame's bytes recomputes the FCS, and keeps a mark (R95). -/
def reFcs (old body : List Byte) : List Byte :=
  if body = bodyOf old then old
  else body ++ (if marked old then markFcs body else goodFcs body)

/-! ### Parsing -/

/-- What stage 1 recognises of an IP header. -/
structure IpInfo where
  v6    : Bool
  off   : Nat            -- of the IP header
  src   : Nat            -- 128 bits, IPv4 in the top 32
  dst   : Nat
  dscp  : Nat
  ecn   : Nat
  proto : Nat
  ttl   : Nat
  len   : Nat            -- IP length
  l4    : Option Nat     -- offset of the L4 header, first fragment only
  deriving DecidableEq, Repr

/-- The parse result. -/
structure Parsed where
  dmac  : Nat
  smac  : Nat
  tag   : Option (Nat × Bool × Nat)    -- PCP, DEI, VID
  rtag  : Option Nat
  afterMac : Nat                       -- offset after the MAC addresses or the tag
  etype : Nat
  ip    : Option IpInfo
  ipErr : Option Bool                  -- header in error; true = IPv6 (R92)
  ports : Option (Nat × Nat)           -- source, destination
  icmp6 : Option Nat
  deriving DecidableEq, Repr

def u8 (bs : List Byte) (i : Nat) : Nat := (bs.getD i 0).toNat
def u16 (bs : List Byte) (i : Nat) : Nat := u8 bs i * 256 + u8 bs (i + 1)
def uN (bs : List Byte) (i n : Nat) : Nat := natBE ((List.range n).map fun j => bs.getD (i + j) 0)

/-- The ones' complement sum of `n` bytes from `i`, folded to 16 bits. -/
def onesSum (bs : List Byte) (i n : Nat) : Nat :=
  let t := (List.range (n / 2)).foldl (fun a j => a + u16 bs (i + 2 * j)) 0
  let f := fun x => x % 65536 + x / 65536
  f (f t)

/-- Walks IPv6 extension headers: next header, offset, and whether ports may be read. -/
def walkExt (bs : List Byte) : Nat → Nat → Nat → Bool → Nat × Nat × Bool
  | 0, nh, off, _ => (nh, off, false)
  | f + 1, nh, off, ok =>
    if nh = 0 ∨ nh = 43 ∨ nh = 60 then
      if 128 < off + 2 ∨ bs.length < off + 2 then (nh, off, false)
      else walkExt bs f (u8 bs off) (off + (u8 bs (off + 1) + 1) * 8) ok
    else if nh = 44 then
      if 128 < off + 8 ∨ bs.length < off + 8 then (nh, off, false)
      else walkExt bs f (u8 bs off) (off + 8) (ok && u16 bs (off + 2) / 8 == 0)
    else (nh, off, ok)

/-- The parser of stage 1: it reads at most bytes 0 to 127 (03 R90 to R92). -/
def parse (bs : List Byte) : Parsed :=
  let w := bs.take 128
  let dataLen := bs.length - 4
  let e0 := u16 w 12
  let tagged := e0 = 0x8100
  let afterMac := if tagged then 16 else 12
  let e1 := u16 w afterMac
  let tag := if tagged then some (u16 w 14 / 8192, u16 w 14 / 4096 % 2 == 1, u16 w 14 % 4096) else none
  let l2only := tagged && (e1 == 0x8100 || e1 == 0x88A8)
  let hasR := !l2only && e1 == 0xF1C1
  let rtag := if hasR then some (u16 w (afterMac + 4)) else none
  let eOff := if hasR then afterMac + 6 else afterMac
  let etype := u16 w eOff
  let l3 := eOff + 2
  let base : Parsed :=
    { dmac := uN w 0 6, smac := uN w 6 6, tag := tag, rtag := rtag, afterMac := afterMac
      etype := etype, ip := none, ipErr := none, ports := none, icmp6 := none }
  if l2only then base
  else if etype = 0x0800 then
    let ihl := u8 w l3 % 16
    let tot := u16 w (l3 + 2)
    if ihl < 5 ∨ tot < ihl * 4 ∨ dataLen < l3 + ihl * 4 ∨ onesSum w l3 (ihl * 4) ≠ 0xFFFF then
      { base with ipErr := some false }
    else
      let first := u16 w (l3 + 6) % 8192 = 0
      let proto := u8 w (l3 + 9)
      let l4 := l3 + ihl * 4
      let ok := first && decide (l4 + 4 ≤ 128) && decide (l4 + 4 ≤ dataLen) && (proto == 6 || proto == 17)
      { base with
        ip := some { v6 := false, off := l3, src := uN w (l3 + 12) 4 * 2 ^ 96, dst := uN w (l3 + 16) 4 * 2 ^ 96
                     dscp := u8 w (l3 + 1) / 4, ecn := u8 w (l3 + 1) % 4, proto := proto
                     ttl := u8 w (l3 + 8), len := tot, l4 := if first then some l4 else none }
        ports := if ok then some (u16 w l4, u16 w (l4 + 2)) else none }
  else if etype = 0x86DD then
    if dataLen < l3 + 40 ∨ dataLen < l3 + 40 + u16 w (l3 + 4) then { base with ipErr := some true }
    else
      let x := walkExt w 16 (u8 w (l3 + 6)) (l3 + 40) true
      let l4 := x.2.1
      let ok := x.2.2 && decide (l4 + 4 ≤ 128) && decide (l4 + 4 ≤ dataLen) && (x.1 == 6 || x.1 == 17)
      { base with
        ip := some { v6 := true, off := l3, src := uN w (l3 + 8) 16, dst := uN w (l3 + 24) 16
                     dscp := uN w l3 4 / 2 ^ 22 % 64, ecn := uN w l3 4 / 2 ^ 20 % 4, proto := x.1
                     ttl := u8 w (l3 + 7), len := 40 + u16 w (l3 + 4)
                     l4 := if x.2.2 then some l4 else none }
        ports := if ok then some (u16 w l4, u16 w (l4 + 2)) else none
        icmp6 := if x.1 = 58 ∧ x.2.2 = true ∧ l4 < 128 then some (u8 w l4) else none }
  else base

/-- ARP, or the ICMPv6 types of neighbour discovery (04 R122). -/
def Parsed.arpNdp (p : Parsed) : Bool :=
  p.etype == 0x0806 || (match p.icmp6 with | some t => decide (133 ≤ t ∧ t ≤ 137) | none => false)

def macGroup (mac : Nat) : Bool := mac / 2 ^ 40 % 2 == 1
def macBroadcast (mac : Nat) : Bool := mac == 0xFFFFFFFFFFFF

/-! ### Edits of a frame's bytes -/

/-- Replaces `new.length` bytes from `i`. -/
def patch (bs : List Byte) (i : Nat) (new : List Byte) : List Byte :=
  bs.take i ++ new ++ bs.drop (i + new.length)
def insertAt (bs : List Byte) (i : Nat) (new : List Byte) : List Byte := bs.take i ++ new ++ bs.drop i
def removeAt (bs : List Byte) (i n : Nat) : List Byte := bs.take i ++ bs.drop (i + n)

/-- The 16-bit checksum after a 16-bit word under it changes (RFC 1624). -/
def sumUpdate (ck old new : Nat) : Nat :=
  let f := fun x => x % 65536 + x / 65536
  65535 - f (f ((65535 - ck) + (65535 - old) + new))

/-- The TTL or hop limit less one, with the IPv4 header checksum (04 R149). -/
def decTtl (body : List Byte) (ip : IpInfo) : List Byte :=
  if ip.v6 then patch body (ip.off + 7) (bytesBE 1 (u8 body (ip.off + 7) - 1))
  else
    let old := u16 body (ip.off + 8)
    let b1 := patch body (ip.off + 8) (bytesBE 1 (u8 body (ip.off + 8) - 1))
    patch b1 (ip.off + 10) (bytesBE 2 (sumUpdate (u16 body (ip.off + 10)) old (u16 b1 (ip.off + 8))))

/-- The ECN field set to 0b11, with the IPv4 header checksum (05 R198). -/
def setCe (body : List Byte) (ip : IpInfo) : List Byte :=
  if ip.v6 then
    let x := u16 body ip.off
    patch body ip.off (bytesBE 2 (x / 64 * 64 + x % 16 + 48))
  else
    let old := u16 body ip.off
    let b1 := patch body (ip.off + 1) (bytesBE 1 (u8 body (ip.off + 1) / 4 * 4 + 3))
    patch b1 (ip.off + 10) (bytesBE 2 (sumUpdate (u16 body (ip.off + 10)) old (u16 b1 ip.off)))

/-- An R-TAG inserted after the MAC addresses or the tag, or its number overwritten (03 R108). -/
def putRtag (body : List Byte) (p : Parsed) (seq : Nat) : List Byte :=
  match p.rtag with
  | some _ => patch body (p.afterMac + 4) (bytesBE 2 seq)
  | none => insertAt body p.afterMac (bytesBE 2 0xF1C1 ++ bytesBE 2 0 ++ bytesBE 2 seq)

/-- The bytes of a frame as they leave its pipeline: the ingress mark, the changes of stages 7 and 8,
the verdict of stage 9, and the removed R-TAG (03 R94, R108, R111; 04 R149). -/
def Frame.final (f : Frame) : List Byte :=
  let b0 := if f.rxMark then invertFcs f.bytes else f.bytes
  let p := parse f.bytes
  let b1 := match f.rtag with
    | some q => reFcs b0 (putRtag (bodyOf b0) p q)
    | none => b0
  let b2 := match f.rewrite with
    | some w =>
      let x := patch (patch (bodyOf b1) 0 (bytesBE 6 w.dmac)) 6 (bytesBE 6 w.smac)
      let q := parse b1
      reFcs b1 (match q.ip with | some ip => decTtl x ip | none => x)
    | none => b1
  let b3 := if f.pop && (parse b2).rtag.isSome then
      reFcs b2 (removeAt (bodyOf b2) (parse b2).afterMac 6)
    else b2
  if f.discardMark then invertFcs b3 else b3

/-- A frame carries an 802.1Q tag, a priority tag included. -/
def Frame.hasTag (f : Frame) : Bool := u16 f.bytes 12 == 0x8100

/-- The frame's bytes as a copy of it leaves: tag removed, kept or added (03 R621), CE set (05 R198). A frame trapped
at stage 1 has no VID and leaves with its tag as received (03 R624). -/
def copyBytes (f : Frame) (tagged ce : Bool) : List Byte :=
  let b := f.final
  let body := bodyOf b
  let body1 :=
    if f.vid = 0 then body
    else if f.hasTag then
      if tagged then patch body 14 (bytesBE 2 (u16 body 14 / 4096 * 4096 + f.vid))
      else
        let x := removeAt body 12 4
        x ++ List.replicate (60 - x.length) 0
    else if tagged then insertAt body 12 (bytesBE 2 0x8100 ++ bytesBE 2 (f.cls * 8192 + f.vid))
    else body
  let b1 := reFcs b body1
  if ce then
    match (parse b1).ip with
    | some ip => reFcs b1 (setCe (bodyOf b1) ip)
    | none => b1
  else b1

/-- The tiles of a frame of L bytes (02 R44). -/
def tilesOf (l : Nat) : Nat := (4 + (l + 3) / 4 + 1 + 7) / 8

/-- The tiles of a frame ended by POISON after `k` bytes: POISON stands in place of the EOF brick and
the end grout follows (02 R42, 05 R180). -/
def tilesPoison (k : Nat) : Nat := (4 + k / 4 + 1 + 1 + 7) / 8

/-- Transmission time of L bytes at a payload rate in Mb/s, rounded up to a sub-ns unit (05 R186). -/
def txTime (rate l : Nat) : Nat :=
  if rate = 0 then 0 else (l * 8000 * 65536 + rate - 1) / rate

/-! ### Header bricks (02 R45) -/

def Kind.code : Kind → Nat
  | .unicast => 0 | .multicast => 1 | .flood => 2 | .discard => 3

def Frame.hb0 (f : Frame) : Word :=
  word (f.stream * 2 ^ 17 + atBit f.dp 16 + atBit f.mirror 15 + atBit f.seqValid 14 + atBit f.ctElig 13
    + f.cls * 2 ^ 10 + f.pipe * 2 ^ 7 + f.inPort)
def stampNs (t : Instant) : Nat := nsFloor t % 2 ^ 40
def Frame.hb1 (f : Frame) : Word := word (stampNs f.stamp)
def Frame.hb2 (f : Frame) : Word :=
  word (f.tgen * 2 ^ 24 + f.stamp % 65536 * 256 + stampNs f.stamp / 2 ^ 32)
def Frame.hb3 (f : Frame) : Word :=
  word (f.launch * 2 ^ 21 + f.queue * 2 ^ 18 + f.kind.code * 2 ^ 16 + f.dest)

end Sys2Proof.Machine
end

