-- ==== Sys2Proof/Machine/CourseFit.lean ====
section
/-! DEFINITION. Occurrences, windows and gates of a course, and the fit test (06 R213, R214, R218,
R219, R221, R232, R238). -/

namespace Sys2Proof.Machine

/-- The class-7 queue of a port. -/
def q7 (p : Nat) : Nat := 8 * p + 7

def Act.launches : Act → Bool
  | .launch | .launchStamp => true
  | .none | .gate => false

/-- The number of the first course whose occurrence at offset `o` lies at or after `u`. -/
def courseFrom (base : Instant) (len : Nat) (o u : Nat) : Nat :=
  if u ≤ base + o then 0 else (u - (base + o) + ns len - 1) / ns len

/-- The instant of an entry's occurrence in course `n` (06 R214). -/
def occAt (base : Instant) (len : Nat) (o n : Nat) : Instant := base + n * ns len + o

/-- The first occurrence at or after `u` (06 R221). -/
def occFrom (base : Instant) (len : Nat) (o u : Nat) : Instant := occAt base len o (courseFrom base len o u)

/-- The length of a launch entry's window at a payload rate (06 R218). -/
def windowLen (rate slot : Nat) : Nat := txTime rate (slot + 20)

/-- The gates of the last GATE entry in offset order of those at or before `phase`, if there is one. -/
def gateUpTo (b : Bank) (phase : Option Nat) : Option (Nat × Nat) :=
  b.entries.foldl (fun best e =>
    if e.2.act == .gate && (match phase with | some x => decide (e.2.offset ≤ x) | none => true) then
      match best with
      | none => some (e.2.offset, e.2.gates)
      | some g => if g.1 < e.2.offset then some (e.2.offset, e.2.gates) else best
    else best) none

/-- The gate state of a bank at an instant, carried round the cycle (06 R219). -/
def gatesOf (b : Bank) (base u : Instant) : Nat :=
  let phase := if u < base then 0 else (u - base) % ns b.len
  match gateUpTo b (some phase) with
  | some g => g.2
  | none =>
    match gateUpTo b none with
    | some g => g.2
    | none => 0x7F

/-- A bank closes the gate of a class at an instant of [u, v). -/
def closesIn (b : Bank) (base : Instant) (cls u v : Nat) : Bool :=
  b.entries.any fun e => e.2.act == .gate && !flag e.2.gates cls
    && decide (occFrom base b.len e.2.offset u < v)

/-- Whether an unclaimed window of a bank, released 320 ns before its instant, stands between `u` and
`v`, among the occurrences of [lo, hi) (06 R232). -/
def windowIn (b : Bank) (base lo : Instant) (hi : Option Instant) (u v : Nat) : Bool :=
  b.entries.any fun e => e.2.act.launches &&
    (let w := occFrom base b.len e.2.offset (max lo (u + ns 320 + 1))
     decide (w < v) && (match hi with | some h => decide (w < h) | none => true))

/-- The bank bound to a stamp: the one active there (06 R221). -/
def Course.boundAt (c : Course) (stamp : Instant) : Nat :=
  match c.pend with
  | some p => if p.a ≤ stamp then 1 - c.active else c.active
  | none => c.active

/-- The base of a bank at a stamp. -/
def Course.baseOf (c : Course) (bank : Nat) : Instant :=
  if bank = c.active then c.base else match c.pend with | some p => p.a | none => c.base

/-- The key from which a pending swap counts in the fit test (06 R238). -/
def Course.swapFrom (c : Course) (p : SwapPending) : Instant :=
  if c.act.idle then p.a else p.a - ns c.act.len

namespace State

/-- The window of a claimed occurrence at `t`, shortened to its copy of `len` bytes (06 R232). -/
def windowAt (s : State) (p len : Nat) (t : Instant) : Instant × Instant :=
  (t, t + txTime (s.model p).rate (len + 20))

/-- The windows of claimed occurrences: those of the copies that still hold a claim, and the last one, which stands to
its end although its copy has left or was removed (06 R228, R229, R232). -/
def claimedWindows (s : State) (p : Nat) : List (Instant × Instant) :=
  ((s.equeue (q7 p)).copies.filterMap fun c => c.claim.map fun k => s.windowAt p c.lenNow k.at_)
    ++ (s.course p).lastWin.toList

/-- The gate state of a port at an instant. -/
def gatesAt (s : State) (p u : Nat) : Nat :=
  let c := s.course p
  match c.pend with
  | some w => if w.a ≤ u then gatesOf c.shadow w.a u else gatesOf c.act c.base u
  | none => gatesOf c.act c.base u

/-- The fit test of 06 R232 for a copy of `len` bytes of a class 0 to 6. -/
def fits (s : State) (p cls len : Nat) (u : Instant) : Bool :=
  if 64 ≤ p then true
  else
    let c := s.course p
    let rate := (s.model p).rate
    let e := u + txTime rate len
    let v := u + txTime rate (len + 20)
    let free := (s.claimedWindows p).all fun w => decide (w.2 ≤ u ∨ v ≤ w.1)
    let gateOk := flag (s.gatesAt p u) cls
    match c.pend with
    | some w =>
      if c.swapFrom w ≤ u then
        free && gateOk
          && !(closesIn c.act c.base cls u (min e w.a))
          && !(decide (u < w.a ∧ w.a < e) && !flag (gatesOf c.shadow w.a w.a) cls)
          && !(closesIn c.shadow w.a cls (max u w.a) e)
          && !(windowIn c.act c.base 0 (some w.a) u v)
          && !(windowIn c.shadow w.a w.a none u v)
      else free && gateOk && !(closesIn c.act c.base cls u e) && !(windowIn c.act c.base 0 none u v)
    | none => free && gateOk && !(closesIn c.act c.base cls u e) && !(windowIn c.act c.base 0 none u v)

/-- Item 2 of 06 R232 alone, for a timing or CAL frame, which no gate holds back (08 R319). -/
def fitsWindow (s : State) (p len : Nat) (u : Instant) : Bool :=
  let c := s.course p
  let v := u + txTime (s.model p).rate (len + 20)
  let free := (s.claimedWindows p).all fun w => decide (w.2 ≤ u ∨ v ≤ w.1)
  match c.pend with
  | some w =>
    if c.swapFrom w ≤ u then
      free && !(windowIn c.act c.base 0 (some w.a) u v) && !(windowIn c.shadow w.a w.a none u v)
    else free && !(windowIn c.act c.base 0 none u v)
  | none => free && !(windowIn c.act c.base 0 none u v)

/-- A timing frame of a port is due at an instant and fits (08 R319). -/
def timingDue (s : State) (p : Nat) (u : Instant) : Bool :=
  let m := s.model p
  decide (p < 64) && m.up && !m.parked && s.fitsWindow p 64 u
    && (Tbl.get {} s.lt.links p : Link).slots.any fun x => decide (x.at_ ≤ u)

/-- Instants of [u, v] at which the fit of a waiting copy may change: window releases, window ends and
gate openings. -/
def fitPoints (s : State) (p : Nat) (u v : Instant) : List Instant :=
  if 64 ≤ p then []
  else
    let c := s.course p
    let ends := (s.claimedWindows p).map fun w => w.2
    let of := fun (b : Bank) (base : Instant) => b.entries.flatMap fun e =>
      match e.2.act with
      | .gate => [occFrom base b.len e.2.offset u]
      | .launch | .launchStamp => [occFrom base b.len e.2.offset (u + ns 320) - ns 320]
      | .none => []
    let pts := ends ++ of c.act c.base ++ (match c.pend with | some w => of c.shadow w.a | none => [])
    pts.filter fun x => decide (u ≤ x ∧ x ≤ v)

end State
end Sys2Proof.Machine
end

