-- ==== Sys2Proof/Machine/Scheduler.lean ====
section
/-! DEFINITION. The stamp-time model of an egress port: credit, choice, start, end, copies that leave, and the run of
the models up to a key (02 R77, R78; 05 R181, R186, R195, R196). -/

namespace Sys2Proof.Machine

/-- The overhead after a copy: 20 byte times (05 R186). -/
def overhead (rate : Nat) : Nat := txTime rate 20

/-- A byte of class-6 credit, in 2^-16 × 10^-6 bit. -/
def creditByte : Int := 8 * 1000000 * 65536

/-- The class-6 credit brought up to an instant (05 R195). `holds`: class 6 holds a copy. -/
def PortModel.creditTo (m : PortModel) (holds : Bool) (sc : SchedCfg) (u : Instant) : PortModel :=
  let rate : Int := m.rate * 1000
  let slope : Int := min (sc.slope : Int) rate
  let busy := match m.tx with
    | some x => if x.cls = 6 then u else m.c6Until
    | none => m.c6Until
  let d : Int := (min u busy - m.creditT : Nat)
  let c1 := if d = 0 then m.credit else max (-(sc.lo * creditByte)) (m.credit + (slope - rate) * d)
  let r : Int := (u - max m.creditT busy : Nat)
  let c2 :=
    if u < busy then c1
    else if holds then min (sc.hi * creditByte) (c1 + slope * r)
    else if 0 < c1 then 0
    else min 0 (c1 + slope * r)
  { m with credit := c2, creditT := max m.creditT u }

/-- The port is paused at an instant (05 R199, R200). -/
def PortModel.paused (m : PortModel) (pc : PauseCfg) (u : Instant) : Bool :=
  match m.pauseUntil with
  | some x => decide (u < x ∧ u < m.pauseFrom + us pc.ceiling)
  | none => false

/-- No copy begins while the port waits in PARK for the exit burst (05 R184). -/
def PortModel.parkHold (m : PortModel) (u : Instant) : Bool :=
  m.parked && match m.parkFrom with
    | some k => decide (u < k + ns 1600)
    | none => true

/-- A cut-through copy that has met POISON or a marked FCS (05 R191). -/
def PhysTx.bad (y : PhysTx) : Bool :=
  y.ct && (y.frame.poison.isSome || (y.frame.endNs.isSome && marked y.frame.final))

namespace State

/-- depth(q): the current need of every copy held (05 R179). -/
def depth (s : State) (q : Nat) : Nat := (s.equeue q).copies.foldl (fun n c => n + c.need) 0

def freeOf (s : State) : Pool → Int
  | .shared => s.egr.freeShared
  | .class7 => s.egr.freeC7
  | .firmware => s.egr.freeFw

def addFree (s : State) (p : Pool) (d : Int) : State :=
  match p with
  | .shared => { s with egr := { s.egr with freeShared := s.egr.freeShared + d } }
  | .class7 => { s with egr := { s.egr with freeC7 := s.egr.freeC7 + d } }
  | .firmware => { s with egr := { s.egr with freeFw := s.egr.freeFw + d } }

/-- The class-6 credit of a port at an instant. -/
def credit6 (s : State) (p : Nat) (u : Instant) : Int :=
  ((s.model p).creditTo (!(s.equeue (8 * p + 6)).copies.isEmpty) ((s.cfgOf 5).sched p) u).credit

/-- Brings the credit of a port up to an instant, before class 6 changes. -/
def touchCredit (s : State) (p : Nat) (u : Instant) : State :=
  s.setModel p ((s.model p).creditTo (!(s.equeue (8 * p + 6)).copies.isEmpty) ((s.cfgOf 5).sched p) u)

def sameCopy (fid : Nat) (mirror : Bool) (c : Copy) : Bool := c.fid == fid && c.mirror == mirror

def findCopy (s : State) (q fid : Nat) (mirror : Bool) : Option Copy :=
  (s.equeue q).copies.find? (sameCopy fid mirror)

/-- Changes one copy of a queue. -/
def updCopy (s : State) (q fid : Nat) (mirror : Bool) (f : Copy → Copy) : State :=
  let v := s.equeue q
  s.setEqueue q { v with copies := v.copies.map fun c => if sameCopy fid mirror c then f c else c }

/-- A copy leaves: the last copy of a frame gives the charge back. A frame that has not ended keeps its record, empty,
for the bytes that its end will count (05 R181, R205). -/
def leaveCharge (s : State) (fid : Nat) : State :=
  match s.charge fid with
  | none => s
  | some c =>
    if 1 < c.held then s.setCharge fid (some { c with held := c.held - 1 })
    else
      let v := s.equeue c.q
      let s1 := (s.setEqueue c.q { v with minused := v.minused - c.m }).addFree c.pool c.r
      if c.ended then (s1.setCharge fid none).setFrame fid none
      else s1.setCharge fid (some { c with held := 0, m := 0, r := 0 })

/-- A copy leaves a port at a key: the open fences after its stamp note it (04 R154). -/
def leaveFences (s : State) (p : Nat) (stamp key : Instant) : State :=
  let note := fun (f : FenceRec) =>
    if stamp < ns f.f then { f with left := Tbl.set 0 f.left p (max key (Tbl.get 0 f.left p)) } else f
  { s with fab := { s.fab with fences := s.fab.fences.map note } }

/-- Takes a copy out of its queue; a weighted class whose queue empties loses its deficit (05 R181, R196). -/
def removeCopy (s : State) (q fid : Nat) (mirror : Bool) (key : Instant) : State :=
  match s.findCopy q fid mirror with
  | none => s
  | some x =>
    let s1 := if q % 8 = 6 then s.touchCredit (q / 8) key else s
    let v := s1.equeue q
    let rest := v.copies.filter fun c => !sameCopy fid mirror c
    let s2 := s1.setEqueue q { v with copies := rest, deficit := if rest.isEmpty then 0 else v.deficit }
    (s2.leaveFences (q / 8) x.stamp key).leaveCharge fid

/-! ### The choice (05 R196) -/

/-- The head of a class that may begin at an instant: it is eligible and it fits. -/
def headAt (s : State) (c : Cfg) (p u cls : Nat) : Option Copy :=
  match (s.equeue (8 * p + cls)).copies.head? with
  | none => none
  | some x =>
    let ready := decide (x.stamp + ns 64 ≤ u)
    let ok :=
      if cls = 7 then decide (64 ≤ p)
      else if cls = 6 then (c.sched p).slope == 0 || decide (0 ≤ s.credit6 p u)
      else !(s.model p).paused (c.pause p) u
    if ready && ok && (cls == 7 || s.fits p cls x.lenNow u) then some x else none

/-- Deficit round robin over the weighted classes. -/
def drr (c : Cfg) (p u : Nat) (order : List Nat) : Nat → List Nat → State → Option (Nat × Copy × State)
  | 0, _, _ => none
  | n + 1, [], s => drr c p u order n order s
  | n + 1, w :: r, s =>
    match s.headAt c p u w with
    | none => drr c p u order n r s
    | some x =>
      let v := s.equeue (8 * p + w)
      if v.deficit < x.lenNow then
        drr c p u order n r
          (s.setEqueue (8 * p + w) { v with deficit := v.deficit + (c.sched p).weight.getD w 8 * 128 })
      else
        let s1 := s.setEqueue (8 * p + w) { v with deficit := v.deficit - x.lenNow }
        some (w, x, s1.setModel p { s1.model p with ptr := some w })

/-- The scheduler's choice at an instant: class, copy, and the state with its counters. -/
def choose (s : State) (p : Nat) (u : Instant) : Option (Nat × Copy × State) :=
  let c := s.cfgAt u
  let sc := c.sched p
  let first := 7 :: 6 :: [5, 4, 3, 2, 1, 0].filter fun k => sc.strict.testBit k
  match first.findSome? fun k => (s.headAt c p u k).map fun x => (k, x) with
  | some (k, x) => some (k, x, s)
  | none =>
    let ws := [5, 4, 3, 2, 1, 0].filter fun k => !sc.strict.testBit k
    let start := (s.model p).ptr.getD (ws.headD 0)
    let order := (ws.filter fun k => decide (k ≤ start)) ++ ws.filter fun k => decide (start < k)
    if order.all fun k => (s.headAt c p u k).isNone then none
    else drr c p u order 600 order s

/-! ### Start and end of a transmission -/

/-- The model begins a copy (02 R78). -/
def beginTx (s : State) (p cls : Nat) (x : Copy) (u : Instant) : State :=
  let s1 := if cls = 6 then s.touchCredit p u else s
  let m := s1.model p
  let tx : Tx := { cls := cls, fid := x.fid, mirror := x.mirror, ct := x.ct, start := u, prevFree := m.freeAt }
  let ph := match s1.frame x.fid with
    | some f => [{ fid := x.fid, cls := cls, mirror := x.mirror, ct := x.ct, tagged := x.tagged, ce := x.ce
                   start := u, frame := f : PhysTx }]
    | none => []
  s1.setModel p { m with tx := some tx, next := none, phys := m.phys ++ ph }

/-- The model may begin a copy at an instant: a fixed cut-through start, or the scheduler's choice. -/
def modelStart (s : State) (p : Nat) (u : Instant) : State :=
  let m := s.model p
  if !m.up || m.tx.isSome || decide (u < m.freeAt) || s.timingDue p u then s
  else
    match m.next with
    | some x =>
      if x.start ≤ u then
        match s.findCopy (8 * p + x.cls) x.fid x.mirror with
        | some c => s.beginTx p x.cls c x.start
        | none => s.setModel p { m with next := none }
      else s
    | none =>
      if m.parkHold u then s
      else
        match s.choose p u with
        | some (cls, c, s1) => s1.beginTx p cls c u
        | none => s

/-- The model end of the copy in transmission, once its end key is known: its length at line rate, but
not before its end stamp plus 64 ns (02 R78). -/
def txEnd (s : State) (p : Nat) : Option Instant :=
  let m := s.model p
  match m.tx with
  | none => none
  | some x =>
    match s.findCopy (8 * p + x.cls) x.fid x.mirror with
    | some c => if c.ended then some (max (x.start + txTime m.rate c.lenNow) (c.endAt + ns 64)) else none
    | none => none

/-- The transmission that the model holds ends at `e` (05 R181). -/
def modelEnd (s : State) (p : Nat) (e : Instant) : State :=
  let m0 := s.model p
  match m0.tx with
  | none => s
  | some x =>
    let q := 8 * p + x.cls
    let len := match s.findCopy q x.fid x.mirror with | some c => c.lenNow | none => 0
    let s1 := if x.cls = 6 then s.touchCredit p e else s
    let m := s1.model p
    let free := e + overhead m.rate
    let s2 := s1.setModel p { m with
      tx := none, freeAt := free, c6Until := if x.cls = 6 then free else m.c6Until
      phys := m.phys.map fun y => if y.fid = x.fid ∧ y.mirror = x.mirror then { y with ended := some e } else y }
    -- copies ended good on the wire; ports 64 to 66 count theirs in the extraction ring (R187, R205)
    let bad := x.bad || m.phys.any fun y => y.fid == x.fid && y.mirror == x.mirror && y.bad
    let s3 := if bad ∨ (64 ≤ p ∧ p ≤ 66) then s2 else (s2.countQ p x.cls 2).countQ p x.cls 3 len
    s3.removeCopy q x.fid x.mirror e

/-! ### Whether the model will be idle at an instant (05 R188 item 4) -/

/-- Instants of [lo, u] at which a waiting copy of a port may begin. -/
def startPoints (s : State) (p : Nat) (lo u : Instant) : List Instant :=
  let m := s.model p
  let c := s.cfgAt u
  let sc := c.sched p
  let heads := (List.range 8).filterMap fun k =>
    (s.equeue (8 * p + k)).copies.head?.map fun x => x.stamp + ns 64
  let slope : Int := min (sc.slope : Int) (m.rate * 1000)
  let from6 := max lo (max m.c6Until m.creditT)
  let credit := s.credit6 p from6
  let zero := if credit < 0 ∧ 0 < slope then [from6 + ((-credit + slope - 1) / slope).toNat] else []
  let pts := [lo, m.freeAt, u] ++ heads ++ zero
    ++ (match m.pauseUntil with | some x => [x, m.pauseFrom + us (c.pause p).ceiling] | none => [])
    ++ (match m.parkFrom with | some k => [k + ns 1600] | none => []) ++ s.fitPoints p lo u
  pts.filter fun x => decide (max lo m.freeAt ≤ x ∧ x ≤ u)

/-- The first instant of [lo, u] at which the model would begin a copy. -/
def firstStart (s : State) (p : Nat) (lo u : Instant) : Option Instant :=
  (s.startPoints p lo u).foldl (fun best x =>
    if (match best with | some b => decide (x < b) | none => true) && !(s.model p).parkHold x && (s.choose p x).isSome
    then some x else best) none

/-- Runs the model on to `u` with the copies held now; the answer is whether a copy of class `cls` may
begin there. A start at `u` itself counts when the scheduler puts it first. -/
def idleAt (p cls : Nat) (u : Instant) : Nat → Instant → State → Bool
  | 0, _, _ => false
  | n + 1, lo, s =>
    let m := s.model p
    match m.tx with
    | some _ =>
      match s.txEnd p with
      | none => false
      | some e => if e + overhead m.rate ≤ u then idleAt p cls u n e (s.modelEnd p e) else false
    | none =>
      if s.timingDue p u ∨ u < m.freeAt then false
      else if m.next.any fun x => decide (x.start ≤ u) then
        idleAt p cls u n (max lo ((m.next.map (·.start)).getD 0)) (s.modelStart p u)
      else
        match s.firstStart p lo u with
        | none => true
        | some v =>
          if v < u then idleAt p cls u n v (s.modelStart p v)
          else
            match s.choose p u with
            | some (k, _, _) => decide (k < cls) && (cls == 6 || ((s.cfgAt u).sched p).strict.testBit cls)
            | none => true

/-! ### The wire (02 R79, 05 R191) -/

/-- Takes an entry from what a transmitter owes. -/
def dropPhys (s : State) (p fid : Nat) (mirror : Bool) : State :=
  let m := s.model p
  s.setModel p { m with phys := m.phys.filter fun y => !(y.fid == fid && y.mirror == mirror) }

/-- Marks the transmission in the model as ended badly on the wire, with the POISON reason, if one ends it. -/
def markBad (s : State) (p fid : Nat) (mirror : Bool) (reason : Option Nat) : State :=
  let m := s.model p
  match m.tx with
  | some x =>
    if x.fid = fid ∧ x.mirror = mirror then s.setModel p { m with tx := some { x with bad := true, reason } } else s
  | none => s

/-- The sequence that ends a frame badly, by the coding of the line: the start granules of 10GBASE-R and 25GBASE-R tell
64b/66b from 8b/10b (05 R191, 06 R226). -/
def errorSeq (m : PortModel) : ErrorSeq := if m.gran = 3200 ∨ m.gran = 1280 then .errorBlock else .k30k29

/-- The copy that a port is sending is ended early: it is counted, and after `sent` bytes the error sequence stands on
the wire (05 R191). `y` carries the POISON reason. -/
def endEarly (s : State) (p : Nat) (y : PhysTx) (item sent : Nat) : State :=
  let s1 := ((s.markBad p y.fid y.mirror y.frame.poison).dropPhys p y.fid y.mirror).countQ p y.cls item
  if y.begun then s1.emit (.cut p ((copyBytes y.frame y.tagged y.ce).take sent) y.start (errorSeq (s.model p))) else s1

/-- What a copy ended by its bytes has sent: the transmit stage holds the last four back (05 R191). -/
def allButFour (y : PhysTx) : Nat := (copyBytes y.frame y.tagged y.ce).length - 4

/-- The instant at which a begun copy is through the line: 8 byte times of preamble and start, then its bytes. -/
def lineEnd (m : PortModel) (y : PhysTx) : Instant :=
  y.begunAt + txTime m.rate (8 + (copyBytes y.frame y.tagged y.ce).length)

/-- A frame that is begun, whose model transmission is over and whose bytes are through has left on the wire of a front
port; a bad cut-through copy is ended there early and not sent whole (02 R79, 05 R191). -/
def sendPhys (s : State) (p : Nat) : State :=
  let m := s.model p
  match m.phys with
  | y :: rest =>
    if p < 64 ∧ y.begun ∧ y.ended.isSome then
      if y.bad then s.endEarly p y 13 (allButFour y)
      else if s.now < lineEnd m y then s
      else (s.setModel p { m with phys := rest }).emit (.frame p (copyBytes y.frame y.tagged y.ce) y.start)
    else s
  | [] => s

/-! ### Running the models (02 R77, R78) -/

/-- The next instant up to `k` at which the model of a port begins a copy: a fixed cut-through start, or the first
instant at which the scheduler has a choice. None lies at or past the limit of a drain (05 R185). -/
def nextStart (s : State) (p : Nat) (k0 : Instant) : Option Instant :=
  let m := s.model p
  let k := match m.drainEnd with | some d => min k0 (d - 1) | none => k0
  if !m.up then none
  else
    match m.next with
    | some x => if x.start ≤ k then some x.start else none
    | none => s.firstStart p (max m.ran m.freeAt) k

/-- The next launch up to `k` that the model has still to take. -/
def nextLaunch (s : State) (p : Nat) (k : Instant) : Option Launch :=
  (s.model p).launched.head?.filter fun h => decide (h.at_ ≤ k)

/-- A launch comes into the model at its instant: its copy is in transmission from there, or is removed where it was not
whole. Its bytes have left already (06 R226, R229). -/
def takeLaunch (s : State) (p : Nat) (h : Launch) : State :=
  let m := s.model p
  let s1 := s.setModel p { m with launched := m.launched.drop 1 }
  match s1.findCopy (q7 p) h.fid h.mirror with
  | none => s1
  | some c =>
    if h.gone then s1.removeCopy (q7 p) h.fid h.mirror h.at_
    else
      let s2 := (s1.beginTx p 7 c h.at_).dropPhys p h.fid h.mirror
      s2.setModel p { s2.model p with next := m.next }

/-- The model of a port runs up to a key: it ends and begins its copies at the instants of R78. It stops where a timing
frame is due first. -/
def modelRun (p : Nat) (k : Instant) : Nat → State → State
  | 0, s => s
  | n + 1, s =>
    match (s.model p).tx with
    | some _ =>
      match s.txEnd p with
      | some e => if e ≤ k then modelRun p k n (s.keyedAt e fun s => (s.modelEnd p e).sendPhys p) else s
      | none => s
    | none =>
      match s.nextLaunch p k with
      | some h =>
        match s.nextStart p (h.at_ - 1) with
        | some v => if s.timingDue p v then s else modelRun p k n (s.keyedAt v fun s => s.modelStart p v)
        | none => modelRun p k n (s.keyedAt h.at_ fun s => s.takeLaunch p h)
      | none =>
        match s.nextStart p k with
        | some v => if s.timingDue p v then s else modelRun p k n (s.keyedAt v fun s => s.modelStart p v)
        | none => s

/-- Copies held in the queues of a port. -/
def heldOn (s : State) (p : Nat) : Nat :=
  (List.range 8).foldl (fun n c => n + (s.equeue (8 * p + c)).copies.length) 0

/-! ### PAUSE (05 R199, R200) -/

/-- Ends the pause of a port at an instant and counts the paused time not yet counted. -/
def endPause (s : State) (p : Nat) (e : Instant) : State :=
  let m := s.model p
  match m.pauseUntil with
  | none => s
  | some _ =>
    (s.setModel p { m with pauseUntil := none, pauseEnded := some e }).keyedAt e fun s =>
      s.countP p 67 (nsFloor (e - m.pauseMark))

/-- Brings PAUSED_NS of a port in pause up to an instant (05 R199). -/
def pausedPort (t : Instant) (s : State) (p : Nat) : State :=
  let m := s.model p
  let n := nsFloor (t - m.pauseMark)
  match m.pauseUntil with
  | some _ =>
    if n = 0 then s else (s.setModel p { m with pauseMark := m.pauseMark + ns n }).keyedAt t fun s => s.countP p 67 n
  | none => s

/-- The pause of a port ends at its ceiling `e`, and PAUSE is ignored for REARM (05 R200). -/
def ceilPause (s : State) (p : Nat) (e : Instant) (rearm : Nat) : State :=
  let s1 := (s.endPause p e).keyedAt e fun s => s.countP p 66
  (s1.setModel p { s1.model p with ignoreUntil := some (e + ms rearm), pauseEnded := none }).raise 0x0133 97
    [bytesBE 1 p] e

/-- What the pause of a port does up to a key: it ends at its ceiling, where it would last longer, or runs out. -/
def pauseTo (s : State) (p : Nat) (k : Instant) : State :=
  let m := s.model p
  match m.pauseUntil with
  | none => s
  | some x =>
    let c := (s.cfgOf 5).pause p
    let e := m.pauseFrom + us c.ceiling
    if e < x then (if e ≤ k then s.ceilPause p e c.rearm else s)
    else if x ≤ k then s.endPause p x else s

/-- Brings PAUSED_NS of every port in pause up to an instant (13 R553). -/
def pausedTime (s : State) (t : Instant) : State :=
  s.egr.models.foldl (fun s e => pausedPort t (s.pauseTo e.1 t) e.1) s

/-- An accepted PAUSE of `q` quanta at its end key. One that comes as the last one runs out leaves no gap. -/
def setPause (s : State) (p q : Nat) (e : Instant) : State :=
  let m := s.model p
  if q = 0 then s.endPause p e
  else
    let goesOn := m.pauseUntil.isSome || m.pauseEnded == some e
    s.setModel p { m with
      pauseUntil := some (e + txTime m.rate (64 * q))
      pauseFrom := if goesOn then m.pauseFrom else e
      pauseMark := if m.pauseUntil.isSome then m.pauseMark else e }

/-- A MAC control frame acts at its end key. -/
def macControl (s : State) (p : Nat) (f : Frame) (e : Instant) : State :=
  let o := (parse f.bytes).afterMac + 2
  if f.rxMark ∨ f.poison.isSome then s
  else if u16 f.bytes o ≠ 1 then s.countP p 68
  else if (parse f.bytes).dmac ≠ 0x0180C2000001 ∨ !((s.cfgAt e).pause p).en then s
  else
    let s1 := s.pauseTo p e
    if (match (s1.model p).ignoreUntil with | some x => decide (e < x) | none => false) then s1.countP p 65
    else ((s1.countP p 64).setPause p (u16 f.bytes (o + 2)) e).pauseTo p e

/-- The end key of a frame. -/
def endKey (s : State) (id : Nat) : Instant :=
  match s.frame id with
  | some f => ns (f.endNs.getD 0)
  | none => 0

/-- The MAC control frames of a port that have ended and not acted yet. -/
def ctrlOf (s : State) (p : Nat) : List Nat := Tbl.get [] s.fab.ctrl p

/-- The MAC control frames of a port act whose end keys have come (02 R77, 05 R199). -/
def ctrlTo (s : State) (p : Nat) (k : Instant) : State :=
  let due := (s.ctrlOf p).filter fun id => decide (s.endKey id ≤ k)
  let rest := (s.ctrlOf p).filter fun id => decide (k < s.endKey id)
  let s0 := { s with fab := { s.fab with ctrl := Tbl.set [] s.fab.ctrl p rest } }
  due.foldl (fun s id => match s.frame id with
    | some f => (s.setFrame id none).keyedAt (ns (f.endNs.getD 0)) fun s => s.macControl p f (ns (f.endNs.getD 0))
    | none => s) s0

/-! ### Aging (02 R54) -/

/-- A copy has been launched and is still to be taken into the model. -/
def isLaunched (s : State) (p : Nat) (c : Copy) : Bool :=
  (s.model p).launched.any fun h => h.fid == c.fid && h.mirror == c.mirror

/-- The port sends this copy now. -/
def inTx (s : State) (p cls : Nat) (c : Copy) : Bool :=
  (cls == 7 && s.isLaunched p c) || match (s.model p).tx with
    | some x => x.fid == c.fid && x.mirror == c.mirror && x.cls == cls
    | none => false

/-- A copy leaves without transmission and is counted AGED; a start fixed for it is given up. -/
def ageCopy (s : State) (p cls : Nat) (c : Copy) (key : Instant) : State :=
  let m := s.model p
  let s1 := match m.next with
    | some x => if x.fid = c.fid ∧ x.mirror = c.mirror then s.setModel p { m with next := none } else s
    | none => s
  (s1.removeCopy (8 * p + cls) c.fid c.mirror key).keyedAt key fun s => s.countQ p cls 11

/-- Removes the copies of a queue that have reached their stamp plus MAX_RESIDENCE, wherever they lie in it. One in
transmission finishes. -/
def ageQueue (p : Nat) (key : Instant) (s : State) (cls : Nat) : State :=
  let lim := us (s.cfgAt key).maxRes
  ((s.equeue (8 * p + cls)).copies.filter fun c => decide (c.stamp + lim ≤ key) && !s.inTx p cls c).foldl
    (fun s c => s.ageCopy p cls c key) s

/-! ### The keyed events of a port in order (02 R77) -/

/-- Inserts an instant in order; one that stands there already is not repeated. -/
def insertPoint (x : Instant) : List Instant → List Instant
  | [] => [x]
  | y :: r => if x < y then x :: y :: r else if x = y then y :: r else y :: insertPoint x r

/-- The instants up to a key at which a copy of a port ages, a MAC control frame acts, or its pause ends. -/
def portPoints (s : State) (p : Nat) (lim : Nat) (k : Instant) : List Instant :=
  let ages := (List.range 8).flatMap fun c => (s.equeue (8 * p + c)).copies.map fun x => x.stamp + lim
  let ctrl := (s.ctrlOf p).map s.endKey
  ((ages ++ ctrl).filter fun x => decide (x ≤ k)).foldr insertPoint []

/-- A model that holds a copy has been run up to a key: nothing begins before it any more. -/
def ranTo (s : State) (p : Nat) (k : Instant) : State :=
  if s.heldOn p = 0 then s else s.setModel p { s.model p with ran := max (s.model p).ran k }

/-- One keyed instant of a port: first the model's departures, then what acts there. -/
def portPoint (p n : Nat) (s : State) (k : Instant) : State :=
  (List.range 8).foldl (ageQueue p k) (((modelRun p k n s).ranTo p k).ctrlTo p k)

/-- Runs the model of one port up to a key, with everything keyed there on its way. -/
def runPort (s : State) (p : Nat) (k : Instant) : State :=
  let lim := us (s.cfgOf 5).maxRes
  let n := 2 * s.heldOn p + (s.model p).launched.length + 1
  ((modelRun p k n ((s.portPoints p lim k).foldl (portPoint p n) s)).pauseTo p k).ranTo p k

/-- Every port with a copy in its queues, a MAC control frame to act on, or a pause. -/
def busyPorts (s : State) : List Nat :=
  let held := s.egr.queues.filterMap fun e => if e.2.copies.isEmpty then none else some (e.1 / 8)
  let ctrl := s.fab.ctrl.filterMap fun e => if e.2.isEmpty then none else some e.1
  let paused := s.egr.models.filterMap fun e => if e.2.pauseUntil.isSome then some e.1 else none
  (held ++ ctrl ++ paused).eraseDups

/-- Every model runs up to a key: a departure due there comes before the item keyed there (05 R178). -/
def runAll (s : State) (k : Instant) : State := s.busyPorts.foldl (fun s p => s.runPort p k) s

end State
end Sys2Proof.Machine
end

