-- ==== Sys2Proof/Machine/Applying.lean ====
section
/-! DEFINITION. How a unit applies a staged change at its instant, and how changes are staged (02 R73 to R75, R622; 04
R125 to R128). -/

namespace Sys2Proof.Machine

namespace State

/-! ### Effects of an application beyond the tables themselves -/

/-- What applying a change does in one unit (02 R74): a pipeline copy refills meters (03 R107) and
resets recovery state (03 R120); the egress units adjust schedulers and pauses (05 R197, R210). -/
def unitEffect (u : Nat) (a : Instant) (s : State) (ch : Change) : State :=
  match ch with
  | .meter i _ => if u < 5 then s.setBucket u i { tLast := a, since := a } else s
  | .recovery i v =>
    if u = v.pipe then s.setRecov i { s.recov i with takeAny := true } else s
  | .recoveryReset i =>
    if u = ((s.cfgAt a).recov i).pipe then
      (s.setRecov i { s.recov i with takeAny := true, hist := 0 }).countR i 6
    else s
  | .rewrite _ t i =>
    { s with tab := { s.tab with badWords := s.tab.badWords.filter fun w => !(w.1 == u && w.2.1 == t && w.2.2 == i) } }
  | .sched p v =>
    if u = 5 then
      let s := s.touchCredit p a
      let old := (s.cfgOf 5).sched p
      let zero := fun (s : State) (c : Nat) =>
        if old.strict.testBit c ≠ v.strict.testBit c ∨ old.weight.getD c 8 ≠ v.weight.getD c 8 then
          s.setEqueue (8 * p + c) { s.equeue (8 * p + c) with deficit := 0 }
        else s
      let s1 := (List.range 6).foldl zero s
      let m := s1.model p
      s1.setModel p { m with credit := min (v.hi * creditByte) (max (-(v.lo * creditByte)) m.credit) }
    else s
  | .pause p v =>
    if u = 5 ∧ !v.en then s.endPause p a else s
  | _ => s

/-- The tiles charged to a pool. -/
def charged (s : State) (p : Pool) : Int :=
  s.egr.charges.foldl (fun n e => match e.2 with
    | some c => if c.pool = p then n + c.r else n
    | none => n) 0

/-- The pool that footing names for a charge: class 7, or firmware (09 R385). -/
def footingPool (c : Charge) : Pool :=
  if c.q % 8 = 7 ∧ c.q / 8 < 64 then .class7 else if c.pool = .firmware then .firmware else c.pool

/-- Charges carried across E: each takes its use of MIN into its footing pool (09 R385). -/
def carryCharges (s : State) : State :=
  s.egr.charges.foldl (fun s e => match e.2 with
    | some c =>
      let p := footingPool c
      if p = .shared then s
      else
        let q := s.equeue c.q
        let s1 := s.setEqueue c.q { q with minused := q.minused - c.m }
        s1.setCharge e.1 (some { c with m := 0, r := c.r + c.m, pool := p })
    | none => s) s

/-- What the pools gain or lose when the configuration changes (05 R175), and how charges carry
across E and X (09 R385). -/
def poolEffect (old new : Cfg) (s : State) : State :=
  if old.footing = new.footing then
    { s with egr := { s.egr with
        freeShared := s.egr.freeShared + new.sharedSize - old.sharedSize
        freeC7 := s.egr.freeC7 + new.c7Size - old.c7Size
        freeFw := s.egr.freeFw + new.fwSize - old.fwSize } }
  else
    let s1 := if new.footing then s.carryCharges else s
    { s1 with egr := { s1.egr with
        freeShared := new.sharedSize - s1.charged .shared
        freeC7 := new.c7Size - s1.charged .class7
        freeFw := new.fwSize - s1.charged .firmware } }

/-- Counts and reports changes of a group's current member (04 R151). -/
def ffEffect (old new : Cfg) (a : Instant) (s : State) : State :=
  new.ffgs.foldl (fun s e =>
    let o := old.ffg e.1
    if o.valid && e.2.valid && o.member ≠ e.2.member then
      (s.count (0x6E00 + e.1)).raise 0x0204 95
        [bytesBE 2 e.1, bytesBE 1 (o.member.getD 0xFF), bytesBE 1 (e.2.member.getD 0xFF)] a
    else s) s

/-- The flushes of which a change was a group and which have nothing left to remove: they are over (04 R141). -/
def flushesOver (s : State) (e : Staged) : List Flush :=
  s.tab.flushes.filter fun f => e.change.contains (.l2Flush f.sel) && decide (f.a ≤ e.a) && (flushSet s.cfg f.sel).isEmpty

/-- The trie blocks that a change released, with the instant from which their 10 µs count (04 R148). -/
def blocksReleased (old new : Trie) (a : Instant) : List (Nat × Instant) :=
  (old.used.filter fun r => !new.used.contains r).map fun r => (r, a)

/-- A staged change that every named unit has applied becomes part of the configuration, and the
commands that wait on it complete OK; a flush does so with its last group (04 R141). -/
def complete (s : State) (e : Staged) (t : Instant) : State :=
  let new := s.cfg.applyAll e.change
  let s1 := ffEffect s.cfg new e.a (poolEffect s.cfg new s)
  let held := s1.tab.released.filter fun x => decide (t < x.2 + us 10)
  let s2 := { s1 with
    cfg := new
    fab := { s1.fab with staged := s1.fab.staged.filter (· != e) }
    tab := { s1.tab with released := held ++ blocksReleased s.cfg.trie new.trie (max t e.a) } }
  let ended := s2.flushesOver e
  let s3 := { s2 with tab := { s2.tab with flushes := s2.tab.flushes.filter fun f => !ended.contains f } }
  e.jids.foldl (fun s j => match s.jrec j with
    | some r => if s3.tab.flushes.any (·.jid == j) then s else s.finish j stOk r.result (max t e.a)
    | none => s) s3

/-- One unit applies one staged change (02 R74). At the rebase at `cap` the egress models, which then move with the step,
apply a skipped change there (02 R622). -/
def applyOne (u : Nat) (cap t : Instant) (s : State) (e : Staged) : State :=
  if !(e.units.contains u) then s
  else
    let s1 := e.change.foldl (unitEffect u (if u = 5 then min e.a cap else e.a)) s
    let s2 := if e.txn && decide (u < 5) then
        { s1 with fab := { s1.fab with
            tgen := Tbl.set 0 s1.fab.tgen u ((s1.tgenOf u + 1) % 256)
            txnCount := if u = 0 then (s1.fab.txnCount + 1) % 16777216 else s1.fab.txnCount } }
      else s1
    let e' := { e with units := e.units.filter (· != u) }
    let s3 := { s2 with fab := { s2.fab with
      staged := s2.fab.staged.map fun x => if x = e then e' else x } }
    if e'.units.isEmpty then s3.complete e' t else s3

/-- A unit applies every staged change up to an instant, in order; the egress models run up to each A first, but not
past `cap` (02 R74, R77). -/
def applyTo (s : State) (u : Nat) (upto cap t : Instant) : State :=
  (s.fab.staged.filter fun e => e.units.contains u && decide (e.a ≤ upto)).foldl
    (fun s e => applyOne u cap t (if u = 5 then s.runAll (min e.a cap) else s) e) s

/-- A unit applies every staged change whose A its horizon has reached (02 R74). -/
def applyUnit (s : State) (u : Nat) (upto t : Instant) : State := s.applyTo u upto upto t

/-- The rebase at S: every unit applies what a step skips, wherever its horizon stands (02 R622). -/
def applyAllUnits (s : State) (upto cap t : Instant) : State :=
  (List.range 6).foldl (fun s u => s.applyTo u upto cap t) s

/-- Every unit whose horizon allows it applies what is due up to an instant; a unit that an earlier item still stands
before applies it once that item has passed (02 R73, R74). -/
def applyDue (s : State) (upto t : Instant) : State :=
  (List.range 6).foldl (fun s u => s.applyUnit u (min upto (s.unitBound u)) t) s

/-- The egress units' keyed events up to an instant: the changes that apply there, and the departures of the models
(02 R77). -/
def egressTo (s : State) (k t : Instant) : State := (s.applyUnit 5 k t).runAll k

/-- The same as far as the horizon of the egress units has come (02 R74). -/
def egressDue (s : State) (k t : Instant) : State := s.egressTo (min k (s.unitBound 5)) t

/-- The keyed events of one port up to an instant, as far as the horizon of the egress units has come (02 R74, R77). -/
def egressPort (s : State) (p : Nat) (t : Instant) : State :=
  let k := min t (s.unitBound 5)
  (s.applyUnit 5 k t).runPort p k

/-- Inserts a staged change in order of A, after those of the same A. -/
def insertStaged (e : Staged) : List Staged → List Staged
  | [] => [e]
  | x :: r => if e.a < x.a then e :: x :: r else x :: insertStaged e r

/-- Holds a change until its A. A table transaction at the instant of a staged one is merged into
it (04 R126). -/
def stage (s : State) (e : Staged) : State :=
  let staged :=
    if e.txn && (s.fab.staged.any fun x => x.txn && x.a == e.a) then
      s.fab.staged.map fun x =>
        if x.txn && x.a == e.a then
          { x with jids := x.jids ++ e.jids, words := x.words + e.words, change := x.change ++ e.change
                   notices := x.notices + e.notices
                   units := (x.units ++ e.units).eraseDups }
        else x
    else insertStaged e s.fab.staged
  { s with fab := { s.fab with staged := staged } }

/-- The groups that a flush has still to stage as its matches stand: instants and words (04 R141). -/
def flushAhead (s : State) (f : Flush) : List (Instant × Nat) :=
  let n := (flushSet (s.cfgAt (f.a + us f.k)) f.sel).length
  (List.range ((n + 63) / 64)).map fun i => (f.a + us (f.k + i), min 64 (n - 64 * i))

/-- The instants of the table transactions that wait, with their staged words: those staged, and the groups of flushes
under way (04 R126, R141). -/
def txnSlots (s : State) : List (Instant × Nat) :=
  (s.fab.staged.filter fun x => x.txn).map (fun x => (x.a, x.words)) ++ s.tab.flushes.flatMap s.flushAhead

/-- The staged words at an instant (04 R126). -/
def wordsAt (s : State) (a : Instant) : Nat :=
  (s.txnSlots.filter fun x => x.1 == a).foldl (fun n x => n + x.2) 0

/-- An instant lies within 1 µs of a staged transaction of another instant (04 R126). -/
def txnNear (s : State) (a : Instant) : Bool :=
  s.txnSlots.any fun x => x.1 != a && decide (a < x.1 + us 1 ∧ x.1 < a + us 1)

/-- Groups of words can stand at the instants from `a` on, 1 µs apart. -/
def slotsOk (s : State) (groups : List Nat) (a : Instant) : Bool :=
  groups.zipIdx.all fun g => !s.txnNear (a + us g.2) && decide (g.1 + s.wordsAt (a + us g.2) ≤ 64)

/-- The earliest whole ns from `a` on at which transactions of these words can stand, 1 µs apart, each merged with a staged
one of its instant or 1 µs away from every other (04 R126, R128). -/
def earliestTxns (s : State) (groups : List Nat) (a : Instant) : Instant :=
  let a0 := ns (nsCeil a)
  let cand := a0 :: (s.txnSlots.flatMap fun x => [x.1, x.1 + us 1]).filter fun x => decide (a0 ≤ x)
  match cand.filter (s.slotsOk groups) with
  | [] => a0
  | x :: r => r.foldl min x

/-- The same for one transaction. -/
def earliestTxn (s : State) (words : Nat) (a : Instant) : Instant := s.earliestTxns [words] a

/-- The latest instant up to 1 µs before `a` at which a relocation can stand: one word (04 R134). -/
def slotBefore (s : State) (a : Instant) : Instant :=
  let a0 := a - us 1
  let cand := a0 :: (s.txnSlots.flatMap fun x => [x.1, x.1 - us 1]).filter fun x => decide (x ≤ a0)
  match cand.filter (s.slotsOk [1]) with
  | [] => a0
  | x :: r => r.foldl max x

end State
end Sys2Proof.Machine
end

