-- ==== Sys2Proof/Machine/Operands.lean ====
section
/-! DEFINITION. The operands of a command packet: parameter words and their fields, reserved bits,
the apply-at instant (12 R504, 02 R76), and helpers for replies that repeat a write's layout. -/

namespace Sys2Proof

namespace Req

/-- PW, the number of parameter words. -/
def pw (r : Req) : Nat := r.params.length
/-- Packet word `i`, counted as the manual counts (the parameters begin at word 4). -/
def w (r : Req) (i : Nat) : Nat := (r.params.getD (i - 4) 0).toNat
/-- A field of a packet word: `n` bits from bit `lo`. -/
def f (r : Req) (i lo n : Nat) : Nat := field (r.w i) lo n
/-- A one-bit field. -/
def b (r : Req) (i bit : Nat) : Bool := flag (r.w i) bit
/-- Whether a packet word holds nothing outside the bits of `mask` (reserved bits are 0). -/
def only (r : Req) (i mask : Nat) : Bool := (r.w i) &&& (4294967295 - mask) == 0
def link (r : Req) : Bool := flag r.flags 0
def checkOnly (r : Req) : Bool := flag r.flags 1
/-- A 64-bit value in two words, low word first. -/
def u64 (r : Req) (i : Nat) : Nat := r.w i + 4294967296 * r.w (i + 1)
/-- A signed interval in two words (00 R7). -/
def interval (r : Req) (i : Nat) : Int := signed 64 (r.u64 i)
/-- An instant in four words (00 R6). -/
def instant (r : Req) (i : Nat) : Nat :=
  instantOfWords (word (r.w i)) (word (r.w (i + 1))) (word (r.w (i + 2))) (word (r.w (i + 3)))
/-- The four words of an instant hold no reserved bit and a nanoseconds field in range. -/
def instantOk (r : Req) (i : Nat) : Bool :=
  r.only (i + 2) 0x3FFFFFFF && decide (r.w (i + 2) ≤ 999999999) && r.only (i + 3) 0xFFFF
/-- A MAC address: bytes 0 to 3 in the first word, 4 and 5 in the top of the next. -/
def mac (r : Req) (i : Nat) : Nat := r.w i * 65536 + r.f (i + 1) 16 16
/-- A 128-bit value in four words, the first word highest. -/
def u128 (r : Req) (i : Nat) : Nat :=
  r.w i * 2 ^ 96 + r.w (i + 1) * 2 ^ 64 + r.w (i + 2) * 2 ^ 32 + r.w (i + 3)
/-- A 68-bit port mask in three words: ports 0-31, 32-63, and 64-67 in [3:0]. -/
def mask68 (r : Req) (i : Nat) : BitVec 68 :=
  BitVec.ofNat 68 (r.w i + r.w (i + 1) * 2 ^ 32 + r.f (i + 2) 0 4 * 2 ^ 64)

end Req

/-- The three words of a port mask. -/
def mask68Words (m : BitVec 68) : List Word :=
  [word m.toNat, word (m.toNat / 2 ^ 32), word (m.toNat / 2 ^ 64)]
/-- The two words of a MAC address. -/
def macWords (m : Nat) : List Word := [word (m / 65536), word (m % 65536 * 65536)]

/-- The value congruent to `v` modulo 2^32 that lies nearest to `cur` (02 R66, R76); an equal distance takes the
value in the block of 2^32 of `cur`. -/
def nearest32 (cur v : Nat) : Int :=
  let base : Int := cur / 4294967296 * 4294967296 + v % 4294967296
  if base + 2147483648 < cur then base + 4294967296
  else if cur + 2147483648 < base then base - 4294967296
  else base

/-- A 32-bit horizon extended to the value congruent modulo 2^32 nearest to the previous one (02 R66). -/
def extendHz (prev v : Nat) : Nat := (nearest32 prev v).toNat

/-- The apply-at instant of a packet with APPLY_VALID: its seconds are extended to the value nearest to the current
TK seconds (02 R76). A value before the epoch lies before every lead, and the epoch stands for it (assumption 6). -/
def Req.applyAt (r : Req) (now : Instant) : Instant :=
  let x := nearest32 (now / 65536000000000) r.applySec
  if x < 0 then 0 else sec x.toNat + ns r.applyNs

end Sys2Proof
end

