-- ==== Sys2Proof/Machine/Interp.lean ====
section
/-! DEFINITION. The command interpreter: the checks of 12 R506 in their order, journaling, batches,
replies, and how a command stages a change. The body of each opcode stands with its chapter. -/

namespace Sys2Proof.Machine

/-- How an opcode treats APPLY_VALID. -/
inductive ApplyUse
  | ignored
  | mustBe (v : Bool)
  | honoured
  deriving DecidableEq, Repr

/-- What a body is given: the command, its journal record, its apply-at instant if it has one. -/
structure Ctx where
  r   : Req
  jid : Nat
  a   : Option Instant

def Ctx.t (c : Ctx) : Instant := c.r.t

/-- PW is one number, or a number that the packet itself gives. -/
def pwIs (n : Nat) (r : Req) : Bool := r.pw == n
def pwOf (f : Req → Nat) (r : Req) : Bool := r.pw == f r

/-- What a body answers. -/
inductive Res
  | fail (status : Nat) (words : List Word := []) (mark : State → State := id)  -- applied nothing but `mark`
  | done (s : State) (words : List Word := [])          -- completed OK
  | wait (s : State) (result : List Word := [])         -- PENDING; `result` goes with the final reply

/-- Whether the semaphore is needed: for every use, never, or by a body of its own. -/
structure OpSpec where
  opcode : Nat
  sem    : Bool                    -- R523, column Semaphore
  priv   : Bool                    -- R523, column Private
  apply  : ApplyUse
  pw     : Req → Bool              -- PW as the opcode requires
  timeAuth : Bool := false         -- R297
  owner  : Bool := false           -- it needs pin ownership (11 R458)
  acAlso : Bool := false           -- a core may send it although it is not private (13 R534)
  footing : Bool := true           -- accepted in footing (09 R388)
  known  : Bool := true            -- false for an opcode that the index does not list
  lead   : Nat := 0                -- the minimum lead of its apply-at instant, for the configuration part (14 R582)
  body   : Ctx → State → Res

/-- A command that fails. -/
structure Failure where
  status : Nat
  words  : List Word
  mark   : State → State

/-- A status on a condition, else the rest. -/
def refuseIf (c : Bool) (st : Nat) (k : Res) : Res := if c then .fail st else k

namespace State

/-- The sender holds the semaphore (12 R494, R498). -/
def holds (s : State) (x : Sender) : Bool :=
  match x.host with
  | some h => s.host.sem.owner == h.owner
  | none => false

/-- The instant at which a change that honours APPLY_VALID would apply. A table or ingress
transaction without it takes the earliest instant its lead and the other transactions allow for its staged words
(04 R128); any other change applies when processed (01 R27). -/
def effA (s : State) (c : Ctx) (lead : Nat) (txn : Bool) (words : Nat) : Instant :=
  match c.a with
  | some a => a
  | none => if txn then s.earliestTxn words (c.t + lead) else c.t

/-- Time authority of the sender's host (07 R297, 14 R590). -/
def hasTimeAuth (s : State) (x : Sender) : Bool :=
  match x.host with
  | some .h0 => s.pwr.policy.getLsbD 1
  | some .h1 => s.pwr.policy.getLsbD 2
  | none => false

/-- Stages a change in its units. Where the command carries no instant and the change is no table transaction, the
instant is that of the processing, and each unit applies it there (01 R27). -/
def stageChange (s : State) (c : Ctx) (lead : Nat) (txn : Bool) (units : List Nat) (words : Nat)
    (chs : List Change) (result : List Word := []) : Res :=
  let a := s.effA c lead txn words
  if txn && s.txnNear a then .fail stConflict
  else if txn && !s.pwr.cfgRun && decide (64 < words + s.wordsAt a) then .fail stResource
  else if c.a.isSome && !s.pwr.cfgRun && decide (a < c.t + lead) then .fail stTooLate
  else
    let e : Staged := { a, jids := [c.jid], txn, units, words, change := chs }
    if c.a.isNone && !txn then
      .done ((s.stage { e with jids := [] }).applyDue a c.t) result
    else .wait (s.stage e) result

/-! ### Replies -/

def replyTo (s : State) (op jid status : Nat) (final : Bool) (words : List Word) (r : Req) : State :=
  s.post r.sender { viaPriv := r.viaPriv, tag := r.tag, opcode := op, status := status, final := final
                    words := words, buf := r.buf, t := r.t, jid := jid }

/-- The held commands of a sender's batch, in the order of their takes (12 R516). -/
def heldOf (s : State) (x : Sender) : List (Nat × JRec) :=
  s.host.journal.filter fun e => e.2.req.sender = x && e.2.state == .held && !e.2.posted

def batchOpen (s : State) (x : Sender) : Bool := (Tbl.find s.host.batch x.code).isSome
def setBatch (s : State) (x : Sender) (t : Option Instant) : State :=
  { s with host := { s.host with batch := match t with
      | some t => Tbl.put s.host.batch x.code t
      | none => Tbl.del s.host.batch x.code } }

/-- Every held command of a batch completes ABORTED, with nothing applied (12 R516, R517). -/
def abortBatch (s : State) (x : Sender) (t : Instant) : State :=
  (s.heldOf x).foldl (fun s e =>
    s.replyTo e.2.opcode e.1 stAborted true [] { e.2.req with t := t }) (s.setBatch x none)

end State

/-- The outcome of the checks that come before the body: a status, or none (12 R506 steps 3 to 8). -/
def precheck (op : OpSpec) (r : Req) (s : State) (seventeenth : Bool) : Option Nat :=
  let pf0 : Bool := !r.sender.pf1
  if r.buf.len < 16 + 4 * r.pw ∨ !op.pw r then some State.stBadLength
  else if !op.known then some State.stBadOpcode
  else if decide (4 ≤ r.flags) || (r.link && (r.viaPriv || r.sender.core.isSome)) || seventeenth
      || (match op.apply with
          | .ignored => false
          | .mustBe v => r.resv || r.applyOn != v || (v && decide (999999999 < r.applyNs))
          | .honoured => r.resv || (r.applyOn && decide (999999999 < r.applyNs))) then some State.stBadParam
  else if (op.opcode / 256 == 0x0A && pf0)
      || (s.pwr.lockPf0 && pf0 && (op.sem || op.owner))
      || (r.viaPriv && !op.priv)
      || (r.sender.core.isSome && !(op.priv || op.acAlso))
      || (match r.sender.core with
          | some c => op.opcode / 256 == 7 && !(s.ac c).permits.getLsbD 2
          | none => false)
      || (op.timeAuth && !s.hasTimeAuth r.sender) then some State.stNotPermitted
  else if op.sem ∧ !s.holds r.sender then some State.stNoSemaphore
  else if s.cfgNow.footing ∧ !op.footing then some State.stState
  else none

/-- Runs a body under the apply-at instant of its packet. -/
def runBody (op : OpSpec) (jid : Nat) (r : Req) (s : State) : Res :=
  let a := if r.applyOn ∧ op.apply ≠ .ignored then some (r.applyAt s.now) else none
  op.body ⟨r, jid, a⟩ s

/-- What CHECK_ONLY finds: the checks up to step 9 of 12 R506 count, and staging (step 10) is not tried (12 R505). -/
def checked : Res → Option (Nat × List Word)
  | .fail st ws _ => if st = State.stTooLate then none else some (st, ws)
  | .done _ _ => none
  | .wait _ _ => none

/-- The failure of a command in a batch, of CHECK_ONLY's checks or of its body. -/
def batchFailure (r : Req) (x : Res) : Option Failure :=
  if r.checkOnly then (checked x).map fun f => ⟨f.1, f.2, id⟩
  else
    match x with
    | .fail st ws mk => some ⟨st, ws, mk⟩
    | .done _ _ => none
    | .wait _ _ => none

/-- A record is committed, with the results that its final reply will carry (12 R515). -/
def State.commitRec (s : State) (jid : Nat) (ws : List Word) : State :=
  match s.jrec jid with
  | some j => s.setJrec jid { j with state := .committed, result := ws }
  | none => s

/-- Commits one command whose record is in the journal: its state after, or the status it fails with. -/
def commitOne (op : OpSpec) (jid : Nat) (r : Req) (s : State) : State ⊕ Failure :=
  match runBody op jid r s with
  | .fail st ws mk => .inr ⟨st, ws, mk⟩
  | .done s' ws => .inl (s'.replyTo op.opcode jid State.stOk true ws r)
  | .wait s' ws =>
    .inl ((s'.commitRec jid ws).replyTo op.opcode jid State.stPending false [] r)

/-- The effect of the held commands of a batch, one after the other, without their replies; CHECK_ONLY has none. -/
def applyHeld (tbl : Nat → Option OpSpec) : List (Nat × JRec) → State → Option State
  | [], s => some s
  | e :: rest, s =>
    match tbl e.2.opcode with
    | none => none
    | some op =>
      if e.2.req.checkOnly then applyHeld tbl rest s
      else
        match runBody op e.1 e.2.req s with
        | .fail _ _ _ => none
        | .done s' _ => applyHeld tbl rest s'
        | .wait s' _ => applyHeld tbl rest s'

/-- Commits the commands of a batch in order, each with its own reply. -/
def commitAll (tbl : Nat → Option OpSpec) : List (Nat × JRec) → State → State ⊕ (Nat × Failure)
  | [], s => .inl s
  | e :: rest, s =>
    match tbl e.2.opcode with
    | none => .inr (e.1, ⟨State.stBadOpcode, [], id⟩)
    | some op =>
      if e.2.req.checkOnly then commitAll tbl rest (s.replyTo op.opcode e.1 State.stOk true [] e.2.req)
      else
        match commitOne op e.1 e.2.req s with
        | .inr x => .inr (e.1, x)
        | .inl s' => commitAll tbl rest s'

/-- The batch fails: one command completes with its own status, every other ABORTED (12 R516). -/
def failBatch (jid : Nat) (f : Failure) (x : Sender) (t : Instant) (s : State) : State :=
  ((s.heldOf x).foldl (fun s e =>
    if e.1 = jid then s.replyTo e.2.opcode e.1 f.status true f.words { e.2.req with t := t }
    else s.replyTo e.2.opcode e.1 State.stAborted true [] { e.2.req with t := t }) (f.mark s)).setBatch x none

/-- The record that a taken command opens (12 R515). -/
def takenRec (op : OpSpec) (r : Req) (s : State) : JRec :=
  { opcode := op.opcode, epoch := s.host.sem.epoch, state := .taken, req := r }

/-- The state in which a taken command's body runs: the take is counted and its journal record is open. -/
def taken (op : OpSpec) (r : Req) (s : State) : State :=
  let s1 := ((s.tick r.t).countF r.sender 5).setJrec s.host.nextJid (takenRec op r s)
  { s1 with host := { s1.host with nextJid := s.host.nextJid + 1 } }

/-- The interpreter takes one command: 12 R506, steps 2 to 11. First replies go out in the order of the takes (12
R509), so the held commands of a batch that fails are answered before the command that fails it. -/
def runCommand (tbl : Nat → Option OpSpec) (op : OpSpec) (r : Req) (s0 : State) : State :=
  let s := (s0.tick r.t).countF r.sender 5
  if !s.slotFree r.viaPriv then
    let s1 := if !r.viaPriv && (s.batchOpen r.sender) then s.abortBatch r.sender r.t else s
    s1.replyTo op.opcode 0 State.stBusy true [] r
  else
    let jid := s0.host.nextJid
    let s1 := taken op r s0
    let inBatch := !r.viaPriv && (s1.batchOpen r.sender)
    let held := if inBatch then s1.heldOf r.sender else []
    match precheck op r s1 (inBatch && held.length == 16) with
    | some st =>
      let s2 := if inBatch || r.link then s1.abortBatch r.sender r.t else s1
      s2.replyTo op.opcode jid st true [] r
    | none =>
      if r.link || inBatch then
        match applyHeld tbl held s1 with
        | none => (s1.abortBatch r.sender r.t).replyTo op.opcode jid State.stAborted true [] r
        | some sh =>
          match batchFailure r (runBody op jid r sh) with
          | some f => ((f.mark s1).abortBatch r.sender r.t).replyTo op.opcode jid f.status true f.words r
          | none =>
            let s2 := s1.setJrec jid { takenRec op r s0 with state := .held }
            if r.link then s2.setBatch r.sender (some r.t)
            else
              match commitAll tbl (s2.heldOf r.sender) (s2.setBatch r.sender none) with
              | .inl s3 => s3
              | .inr (j, f) => failBatch j f r.sender r.t s2
      else if r.checkOnly then
        match checked (runBody op jid r s1) with
        | some f => s1.replyTo op.opcode jid f.1 true f.2 r
        | none => s1.replyTo op.opcode jid State.stOk true [] r
      else
        match commitOne op jid r s1 with
        | .inl s2 => s2
        | .inr f => (f.mark s1).replyTo op.opcode jid f.status true f.words r

end Sys2Proof.Machine
end

