-- ==== Sys2Proof/Machine/Fabric.lean ====
section
/-! DEFINITION. The fabric (02): stamping and the ends of frames, grout, merge points, stalls, the
rebase, the decision digest, and the mortar commands. -/

namespace Sys2Proof.Machine

/-! ### Keys (02 R53) -/

/-- Serial comparison of stamps modulo 2^56: `x` is earlier than `y`. -/
def earlier (x y : Nat) : Bool :=
  let d := (y % 2 ^ 56 + 2 ^ 56 - x % 2 ^ 56) % 2 ^ 56
  decide (1 ≤ d ∧ d ≤ 2 ^ 55 - 1)

/-- A key: stamp and port. -/
abbrev Key := Nat × Nat

def keyEarlier (a b : Key) : Bool := earlier a.1 b.1 || (a.1 % 2 ^ 56 == b.1 % 2 ^ 56 && decide (a.2 < b.2))

/-! ### Which inputs a merge point has (02 R60, R61) -/

/-- The pipeline that a port enters. -/
def pipeOf (p : Nat) : Nat :=
  if p < 16 then 0 else if p < 32 then 1 else if p < 48 then 2 else if p < 56 then 3
  else if p < 64 then 4 else if p = 64 then 0 else if p = 65 then 3 else if p = 66 then 4 else 1

/-- The inputs of a merge point: ports for a pipeline (0 to 4); for admission (5) the five pipelines
and the direct channel of each injection port; for the learn and event path (6) the pipelines. -/
def mergeInputs : Nat → List Nat
  | 0 => List.range 16 ++ [64]
  | 1 => (List.range 16).map (· + 16) ++ [67]
  | 2 => (List.range 16).map (· + 32)
  | 3 => (List.range 8).map (· + 48) ++ [65]
  | 4 => (List.range 8).map (· + 56) ++ [66]
  | 5 => List.range 5 ++ [64, 65, 66]
  | _ => List.range 5

namespace State

/-- Whether an input imposes no condition at a key: stalled, or its port excluded there (02 R59, R72). -/
def inputOut (s : State) (mp i : Nat) (key : Instant) : Bool :=
  (s.input mp i).stalled || (decide (mp < 5) && hasPort (s.cfgAt key).excluded i)

/-- The value that a GROUT brick gives a horizon: it is extended near the horizon before it, and a source's first near
the timescale, where its horizon starts (02 R66, R87). -/
def groutHz (now : Instant) (hz v : Nat) : Nat := max hz (extendHz (if hz = 0 then nsFloor now else hz) v)

/-- A source starts: its horizon starts at the timescale's value (02 R87). -/
def startSource (s : State) (mp i : Nat) (t : Instant) : State :=
  let m := s.input mp i
  s.setInput mp i { m with hz := max m.hz (nsFloor t) }

/-- The FENCE brick of a pipeline has reached the admission points (04 R154). -/
def gotFence (s : State) (i f : Nat) : State :=
  { s with fab := { s.fab with fences := s.fab.fences.map fun r =>
      if r.f = f ∧ r.sent.getLsbD i then { r with got := r.got ||| BitVec.ofNat 5 (2 ^ i) } else r } }

/-- Takes the grout and the FENCE bricks at the head of an input (02 R64, R66). -/
def takeHeads (mp i : Nat) : Nat → State → State
  | 0, s => s
  | n + 1, s =>
    let m := s.input mp i
    match m.items with
    | .grout v :: rest => takeHeads mp i n (s.setInput mp i { m with hz := groutHz s.now m.hz v, items := rest })
    | .fence f :: rest =>
      takeHeads mp i n ((s.setInput mp i { m with hz := max m.hz (f - 1), items := rest }).gotFence i f)
    | _ => s

/-- The ordered head of an input. -/
def head (s : State) (mp i : Nat) : Option (Key × Item) :=
  match (s.input mp i).items with
  | it :: _ => (s.itemKey it).map fun k => (k, it)
  | [] => none

/-- The ordered head with the earliest key over all inputs. -/
def earliestHead (s : State) (mp : Nat) (ins : List Nat) : Option (Nat × Key × Item) :=
  ins.foldl (fun best i =>
    match s.head mp i with
    | none => best
    | some (k, it) =>
      match best with
      | none => some (i, k, it)
      | some (_, kb, _) => if keyEarlier k kb then some (i, k, it) else best) none

/-- The release condition of 02 R64 for a key held by input `c`. -/
def mayRelease (s : State) (mp : Nat) (ins : List Nat) (c : Nat) (k : Key) : Bool :=
  ins.all fun i =>
    i == c || s.inputOut mp i k.1 ||
    (match s.head mp i with
     | some (k', _) => keyEarlier k k'
     | none => !earlier (ns (s.input mp i).hz) k.1)

/-- FENCE bricks go out in the order of their instants. -/
def fenceOrder (f : Nat) : List Nat → List Nat
  | [] => [f]
  | g :: r => if f ≤ g then f :: g :: r else g :: fenceOrder f r

/-- A pipeline sends the FENCE bricks whose instant its output has come to: after every item stamped before it and
before every item stamped there or later (04 R154). -/
def sendFences (s : State) (mp : Nat) (upto : Instant) : State :=
  let due := fun (r : FenceRec) => !r.sent.getLsbD mp && decide (ns r.f ≤ upto)
  let fs := (s.fab.fences.filter due).foldr (fun r l => fenceOrder r.f l) []
  if mp ≥ 5 ∨ fs.isEmpty then s
  else
    let marked := s.fab.fences.map fun r =>
      if due r then { r with sent := r.sent ||| BitVec.ofNat 5 (2 ^ mp) } else r
    let s1 := { s with fab := { s.fab with fences := marked } }
    s1.setOutq mp (s1.outq mp ++ fs.map .fence)

/-- The release loop of 02 R64. -/
def mergeLoop (mp : Nat) (ins : List Nat) : Nat → State → State
  | 0, s => s
  | n + 1, s0 =>
    let s := ins.foldl (fun s i => takeHeads mp i (s.input mp i).items.length s) s0
    match s.earliestHead mp ins with
    | none => s
    | some (i, k, it) =>
      if s.mayRelease mp ins i k then
        let m := s.input mp i
        let s1 := s.setInput mp i { m with items := m.items.drop 1, hz := max m.hz (nsFloor k.1) }
        let s2 := s1.sendFences mp k.1
        mergeLoop mp ins n (s2.setOutq mp (s2.outq mp ++ [it]))
      else s

/-- Whether an input imposes no condition from its horizon up to now (02 R72). -/
def inputGone (s : State) (mp i : Nat) : Bool :=
  s.inputOut mp i (ns (s.input mp i).hz) && s.inputOut mp i s.now

/-- The horizon a merge point sends on: the least over its inputs (02 R65); the time itself where every input of it
is excluded (02 R72). -/
def outHorizon (s : State) (mp : Nat) (ins : List Nat) : Nat :=
  let vals := ins.filterMap fun i =>
    match s.head mp i with
    | some (k, _) => some (nsFloor k.1)
    | none => if s.inputGone mp i then none else some (s.input mp i).hz
  match vals with
  | [] => nsFloor s.now
  | v :: r => r.foldl min v

/-- Puts an item at the end of an input's channel; the longest gap between horizon updates of an included input is kept
(02 R83). What a stalled channel still delivers is discarded, and a frame or a notice is counted (02 R59). -/
def pushItem (s : State) (mp i : Nat) (it : Item) : State :=
  let m := s.input mp i
  if m.stalled then
    match it with
    | .lead id =>
      match s.frame id with
      | some f => (s.setFrame id none).countP f.inPort 10
      | none => s
    | .notice n _ => s.countP n.inPort 10
    | .fin _ => s
    | .grout _ => s
    | .fence _ => s
  else
    let gap := if m.lastT = 0 then 0 else min 0xFFFF (nsFloor (s.now - m.lastT))
    let s1 := s.setInput mp i { m with items := m.items ++ [it], lastT := s.now }
    if s.inputOut mp i s.now then s1 else { s1 with fab := { s1.fab with gapMax := max s1.fab.gapMax gap } }

/-- Everything ahead of the next lead tile or end grout of a pipeline goes on: grout to admission and to the path that
collects notices, FENCE bricks to admission (02 R65). -/
def flushPipe (p : Nat) : Nat → State → State
  | 0, s => s
  | n + 1, s =>
    match s.outq p with
    | .grout v :: rest => flushPipe p n (((s.setOutq p rest).pushItem 5 p (.grout v)).pushItem 6 p (.grout v))
    | .fence f :: rest => flushPipe p n ((s.setOutq p rest).pushItem 5 p (.fence f))
    | _ => s

/-- The merge input that an ingress port feeds: its pipeline's, or the direct channel. -/
def pushFrom (s : State) (f : Frame) (it : Item) : State :=
  if f.pipe = 5 then s.pushItem 5 f.inPort it else s.pushItem (pipeOf f.inPort) f.inPort it

/-- The notices that the merge of the learn path releases enter the learn queue (04 R136). -/
def drainNotices : Nat → State → State
  | 0, s => s
  | n + 1, s =>
    match s.outq 6 with
    | .notice x _ :: rest =>
      let s1 := s.setOutq 6 rest
      let q := s1.tab.queue
      if q.length < 2048 then
        drainNotices n { s1 with tab := { s1.tab with
          queue := q ++ [x], highWater := max s1.tab.highWater (q.length + 1) } }
      else
        drainNotices n ({ (s1.countD 2) with tab := { (s1.countD 2).tab with learnOvf := true } }.raiseLimited
          2 0x0202 93 [] s1.now)
    | _ => s

/-- One run of a merge point. -/
def mergeRun (s : State) (mp : Nat) : State :=
  let ins := mergeInputs mp
  let n := ins.foldl (fun n i => n + (s.input mp i).items.length) 1
  let s1 := mergeLoop mp ins n s
  let hz := s1.outHorizon mp ins
  if mp < 5 then
    let s2 := s1.sendFences mp (ns hz)
    let s3 := s2.setOutq mp (s2.outq mp ++ [.grout (hz % 2 ^ 32)])
    flushPipe mp (s3.outq mp).length s3
  else if mp = 5 then
    { s1 with fab := { s1.fab with admHz := max s1.fab.admHz hz } }
  else drainNotices (s1.outq 6).length s1

/-! ### Frames in progress -/

def rxOf (s : State) (p : Nat) : Option Nat := Tbl.get none s.fab.rx p
def setRx (s : State) (p : Nat) (v : Option Nat) : State :=
  { s with fab := { s.fab with rx := Tbl.set none s.fab.rx p v } }
def lastStampOf (s : State) (p : Nat) : Option Instant := Tbl.get none s.fab.lastStamp p

/-- The Ethertype after the MAC addresses, or after one tag (00 R12). -/
def outerType (bs : List Byte) : Nat := if u16 bs 12 = 0x8100 then u16 bs 16 else u16 bs 12

/-- Ethertypes that the port itself consumes: MAC control and link-local timing (03 R90, 00 R12). -/
def portConsumes (bs : List Byte) : Bool := (parse bs).etype == 0x8808 || outerType bs == 0x88B5

/-- A new frame of the device. -/
def newFrame (s : State) (f : Frame) : State × Nat :=
  let id := s.fab.nextFid
  let s1 := s.setFrame id (some f)
  ({ s1 with fab := { s1.fab with
      nextFid := id + 1, lastStamp := Tbl.set none s1.fab.lastStamp f.inPort (some f.stamp) } }, id)

/-- Ends the frame in progress on a port with POISON after `arrived` bytes (02 R43, 03 R94). -/
def abortRx (s : State) (p arrived reason item : Nat) (t : Instant) : State :=
  match s.rxOf p with
  | none => s
  | some id =>
    match s.frame id with
    | none => s.setRx p none
    | some f =>
      let s1 := (s.setRx p none).countP p item
      if f.consumed then (s1.setFrame id none).countP p 1 (min arrived f.bytes.length)
      else
        let f' := { f with bytes := f.bytes.take arrived, poison := some reason, endNs := some (nsCeil t) }
        (s1.setFrame id (some f')).pushFrom f' (.fin id)

end State

/-- The port has taken a stamp at `t` or later: stamps of a port rise (02 R49). -/
def State.stampLate (s : State) (port : Nat) (t : Instant) : Bool :=
  match s.lastStampOf port with
  | some l => decide (t ≤ l)
  | none => false

/-- The bytes of a frame whose last bit has crossed the reference plane `dt` after its stamp: preamble and start take 8
byte times (02 R43). -/
def arrivedBy (rate dt len : Nat) : Nat := min len (dt * rate / (8000 * 65536) - 8)

/-- FRAME_STAMP: the stamp unit takes the frame's stamp and sends its lead tile, or drops the frame (02 R49 to R51,
R55, R59, R72; 14 R583). Only a frame of less than 128 bytes overruns (01 R23). A frame at an input that is excluded,
and not only at one that is being included, is counted INCLUDE_DISCARD (DESIGN CHOICE, assumption 119). -/
def execFrameStamp (port : Nat) (bytes : List Byte) (overrun : Bool) (t : Instant) (s : State) :
    Host.Outcome State Fault Refusal :=
  let s1 := s.tick t
  let m := s1.model port
  if 64 ≤ port ∨ !m.up ∨ m.parked ∨ s1.stampLate port t ∨ (s1.rxOf port).isSome then .next s1
  else if s1.fab.rebase.isSome then .next (s1.countP port 8)
  else if !s1.fab.forwarding ∨ t < s1.fab.fwdStart ∨ hasPort (s1.cfgAt t).excluded port then
    .next (s1.countP port 9)
  else if (s1.input (pipeOf port) port).stalled then .next (s1.countP port 10)
  else if overrun ∧ bytes.length < 128 then
    let s2 := s1.countP port 7
    .next ({ s2 with fab := { s2.fab with slow := true } }.raiseLimited 1 0x0010 92 [] t)
  else
    let c := State.portConsumes bytes
    let x := s1.newFrame { inPort := port, stamp := t, bytes := bytes, pipe := pipeOf port, consumed := c
                           maxLen := ((s1.cfgAt t).ing port).maxFrame }
    let s2 := x.1.setRx port (some x.2)
    .next (if c then s2.countP port 0 else s2.pushItem (pipeOf port) port (.lead x.2))

/-- A whole frame has arrived at a port: length and FCS checks, the inverted FCS, the end grout; a control frame
goes to the port, what it consumes goes no further (02 R43; 03 R94). -/
def State.frameArrived (s : State) (port id : Nat) (f : Frame) : State :=
  let l := f.bytes.length
  let runt := decide (l < 64)
  let bad := runt || fcsOf f.bytes != goodFcs (bodyOf f.bytes)
  let s2 := if runt then s.countP port 5 else if bad then s.countP port 6 else s
  let e := nsCeil (f.stamp + txTime (s2.model port).rate (l + 7))
  let f' := { f with rxMark := bad, endNs := some e }
  let s3 := (s2.setRx port none).setFrame id (some f')
  if f.consumed then
    let s4 := s3.countP port 1 l
    if (parse f.bytes).etype = 0x8808 then
      { s4 with fab := { s4.fab with ctrl := Tbl.set [] s4.fab.ctrl port (Tbl.get [] s4.fab.ctrl port ++ [id]) } }
    else s4.setFrame id none
  else s3.pushItem (pipeOf port) port (.fin id)

/-- RX_FRAME_END: the end of a frame at the receive PCS. A frame over MAX_FRAME has already been ended by
RX_OVERSIZE. -/
def execRxFrameEnd (port : Nat) (t : Instant) (s : State) : Host.Outcome State Fault Refusal :=
  let s1 := s.tick t
  match s1.rxOf port with
  | none => .next s1
  | some id =>
    match s1.frame id with
    | none => .next (s1.setRx port none)
    | some f =>
      if f.maxLen < f.bytes.length then .next (s1.abortRx port f.maxLen 0x06 4 t)
      else .next (s1.frameArrived port id f)

/-- RX_OVERSIZE: the frame in progress passes MAX_FRAME (03 R94). -/
def execRxOversize (port : Nat) (t : Instant) (s : State) : Host.Outcome State Fault Refusal :=
  let s1 := s.tick t
  match s1.rxOf port with
  | none => .next s1
  | some id =>
    match s1.frame id with
    | none => .next s1
    | some f =>
      if f.bytes.length ≤ f.maxLen then .next s1 else .next (s1.abortRx port f.maxLen 0x06 4 t)

/-- RX_SYMBOL_ABORT: an invalid symbol after `arrived` bytes (03 R94). -/
def execRxSymbolAbort (port arrived : Nat) (t : Instant) (s : State) : Host.Outcome State Fault Refusal :=
  .next ((s.tick t).abortRx port arrived 0x02 2 t)

/-- The link of a front port is ACTIVE: its horizon comes from the lane (02 R67, R69). -/
def State.hzFromLane (s : State) (port : Nat) : Bool := (Tbl.get (Lane.reset port) s.lan.lanes port).state == .active

/-- The horizon that a source sends: for a port, 1 ns below the latest instant `upto` decoded, and below the stamp
timescale where the port is not ACTIVE; for an injection boundary, the TK time of its latest handshake, rounded down
(02 R67, R69, R70). No instant decoded lies ahead of the timescale. Loopback, for which R67 gives no formula, sends as
the injection boundaries do (DESIGN CHOICE, assumption 120). -/
def State.sourceHz (s : State) (port : Nat) (upto : Instant) : Nat :=
  if 64 ≤ port then nsFloor (min upto s.now)
  else if s.hzFromLane port then nsFloor (min upto s.now) - 1
  else nsFloor s.now - 1

/-- GROUT: a source sends a horizon (02 R67, R83). -/
def execGrout (port : Nat) (upto t : Instant) (s : State) : Host.Outcome State Fault Refusal :=
  let s1 := s.tick t
  if 68 ≤ port then .next s1
  else
    let h := s1.sourceHz port upto
    let s2 := s1.pushItem (pipeOf port) port (.grout (h % 2 ^ 32))
    if 64 ≤ port ∧ port ≤ 66 then
      let s3 := s2.pushItem 5 port (.grout (h % 2 ^ 32))
      .next { s3 with fab := { s3.fab with
        sentHz := Tbl.set 0 s3.fab.sentHz port (max h (Tbl.get 0 s3.fab.sentHz port)) } }
    else .next s2

/-- The frame in progress on a port ends with POISON reason 0x05, with the bytes that have crossed by then (02 R40,
R59; 03 R106). -/
def State.poisonRx (s : State) (port : Nat) (t : Instant) : State :=
  match s.rxOf port with
  | none => s
  | some id =>
    match s.frame id with
    | none => s.setRx port none
    | some f =>
      let n := arrivedBy (s.model port).rate (t - f.stamp) f.bytes.length
      (s.setRx port none).setFrame id (some { f with
        bytes := f.bytes.take n, poison := some 0x05, endNs := some (nsCeil t) })

/-- The frame in progress on a port whose lead tile the port has sent into the fabric. -/
def State.inFlight (s : State) (port : Nat) : Option Nat :=
  match s.rxOf port with
  | some id => if (s.frame id).any fun f => !f.consumed then some id else none
  | none => none

/-- The ports whose frames in progress come in on an input of a merge point, in the order of their numbers; the path
that collects notices carries no frame. -/
def portsBehind (mp i : Nat) : List Nat :=
  if mp < 5 then [i] else if mp = 5 ∧ i < 5 then (List.range 68).filter fun p => pipeOf p == i else []

/-- A brick with a reserved tag on an input of a merge point ends a frame in progress there as POISON reason 0x05; on a
pipeline's output, that of the lowest port in progress (02 R40; DESIGN CHOICE, assumption 121). -/
def State.tagError (s : State) (mp i : Nat) (t : Instant) : State :=
  let sa := match (portsBehind mp i).find? fun p => (s.inFlight p).isSome with
    | some p =>
      match s.inFlight p with
      | some id => (s.poisonRx p t).pushItem (pipeOf p) p (.fin id)
      | none => s
    | none => s
  (sa.countD 6).raise 0x0011 92 [bytesBE 1 (if mp < 5 then i else 0xFF), bytesBE 1 1] t

/-- MERGE_RELEASE: a merge point releases what it may (02 R64). -/
def execMergeRelease (mp : Nat) (tagError : Option Nat) (t : Instant) (s : State) :
    Host.Outcome State Fault Refusal :=
  let s1 := s.tick t
  if 7 ≤ mp then .next s1
  else
    match tagError with
    | none => .next (s1.mergeRun mp)
    | some i => .next ((s1.tagError mp i t).mergeRun mp)

/-- A stalled input of a merge point: every frame in progress on it ends with POISON reason 0x05, its end grout last in
the channel, and the input is excluded until reset (02 R59, R64). Where that end grout stands in the order the spec does
not say: it is released by its key like any item (DESIGN CHOICE, assumption 122). -/
def State.stallInput (s : State) (mp input : Nat) (t : Instant) : State :=
  let stop := fun (s : State) (p : Nat) =>
    match s.inFlight p with
    | some id => (s.poisonRx p t).pushItem mp input (.fin id)
    | none => s
  let s2 := (portsBehind mp input).foldl stop s
  let s3 := s2.setInput mp input { s2.input mp input with stalled := true }
  let s4 := { s3 with fab := { s3.fab with stall := true, stallFault := true } }
  s4.raise 0x0011 92 [bytesBE 1 (if mp < 5 then input else 0xFF), bytesBE 1 0] t

/-- CHANNEL_STALL. -/
def execChannelStall (mp input : Nat) (t : Instant) (s : State) : Host.Outcome State Fault Refusal :=
  let s1 := s.tick t
  if 7 ≤ mp ∨ !(mergeInputs mp).contains input ∨ (s1.input mp input).stalled then .next s1
  else .next (s1.stallInput mp input t)

/-- RING_COUNT_UPDATE (02 R83). -/
def execRingCountUpdate (count : Nat) (t : Instant) (s : State) : Host.Outcome State Fault Refusal :=
  let s1 := s.tick t
  .next { s1 with fab := { s1.fab with ringCount := count % 65536 } }

/-! ### The digest (02 R80, R86) -/

/-- One digest record of 9 bytes. -/
def digestRecord (stamp inPort : Nat) (dropped ce ct : Bool) (queue : Nat) : List Byte :=
  bytesBE 7 (stampNs stamp * 65536 + stamp % 65536) ++ bytesBE 1 inPort
    ++ bytesBE 1 (atBit dropped 7 + atBit ce 6 + atBit ct 5 + queue * 4)

namespace State

/-- Adds a record to the digest of a port while a run covers the key. -/
def digestAdd (s : State) (port : Nat) (key : Instant) (rec_ : List Byte) : State :=
  match s.fab.digest with
  | none => s
  | some d =>
    if hasPort d.mask port ∧ d.a ≤ key ∧ key < d.until_ then
      let reg := crcReg 0xEDB88320 (Tbl.get 0xFFFFFFFF d.crcs port) rec_
      { s with fab := { s.fab with digest := some { d with crcs := Tbl.set 0xFFFFFFFF d.crcs port reg } } }
    else s

/-- Ends a digest run: the values are written, DONE is set, the event raised. -/
def digestEnd (s : State) (t : Instant) : State :=
  match s.fab.digest with
  | none => s
  | some d =>
    let put := fun (v : Tbl Nat) (p : Nat) =>
      if hasPort d.mask p then Tbl.set 0 v p (Tbl.get 0xFFFFFFFF d.crcs p ^^^ 0xFFFFFFFF) else v
    let vals := (List.range 68).foldl put s.fab.digestVal
    let s1 := { s with fab := { s.fab with digest := none, digestDone := true, digestVal := vals } }
    (s1.finishOpt d.jid stOk [] t).raise 0x0012 92 [] t

end State

/-- DIGEST_COMPLETE: every selected admission point has passed the end of the interval: its horizon has reached it, and
no item keyed before stands ahead (02 R86). -/
def execDigestComplete (t : Instant) (s : State) : Host.Outcome State Fault Refusal :=
  let s1 := s.tick t
  match s1.fab.digest with
  | none => .next s1
  | some d => if d.until_ ≤ min (ns s1.fab.admHz) (s1.unitBound 5) then .next (s1.digestEnd t) else .next s1

/-- DIGEST_STATUS.DONE: cleared when a run starts, at its A (02 R83, R86). -/
def State.digestDoneNow (s : State) : Bool :=
  s.fab.digestDone && match s.fab.digest with | some d => decide (s.now < d.a) | none => true

/-! ### Commands (02 R84 to R86) -/

/-- The longest configured course in ns at an instant: of each port, the bank active then, if its course runs, and the
bank of an accepted commit whose A has not passed then (02 R54). -/
def longestCourse (s : State) (a : Instant) : Nat :=
  s.crs.engines.foldl (fun n e =>
    let c := e.2
    let run := fun (b : Bank) => if b.idle then 0 else b.len
    match c.pend with
    | some w => if w.a ≤ a then max n (run c.shadow) else max n (max (run c.act) c.shadow.len)
    | none => max n (run c.act)) 0

/-- MAX_RESIDENCE 1,000 to 10,000,000 ns and STALL_LIMIT 1,000 to 1,000,000 ns (02 R84). -/
def okMortarSet (r : Req) : Bool :=
  decide (1000 ≤ r.w 4 ∧ r.w 4 ≤ 10000000) && decide (1000 ≤ r.w 5 ∧ r.w 5 ≤ 1000000)

def bodyMortarSet (c : Ctx) (s : State) : Res :=
  let r := c.r.w 4
  let l := c.r.w 5
  refuseIf (!okMortarSet c.r) State.stBadParam <|
  refuseIf (decide (r * 1000 < 2 * longestCourse s (s.effA c (us 50) false 1))) State.stConflict <|
  s.stageChange c (us 50) false [5] 0 [.mortar r l]

/-- The three words of EXCLUDED_n (02 R81): by command, power or isolation. -/
def excludedNow (s : State) : PortMask :=
  (List.range 68).foldl (fun m p =>
    if (s.input (pipeOf p) p).stalled then m ||| BitVec.ofNat 68 (2 ^ p) else m) s.cfgNow.excluded

/-- MORTAR_STATUS; EXCLUDED_ANY counts the stalled inputs of every merge point (02 R82). -/
def mortarStatus (s : State) : Word :=
  word (atBit (excludedNow s != 0 || s.fab.inputs.any fun e => e.2.stalled) 2 + atBit s.fab.stall 1 + atBit s.fab.slow 0)

def bodyMortarGet (_ : Ctx) (s : State) : Res :=
  .done s ([word s.cfgNow.maxRes, word s.cfgNow.stallLimit, word s.fab.ringCount]
    ++ mask68Words (excludedNow s) ++ [mortarStatus s])

/-- INTERVAL 1 to 1,000,000 µs and a mask of ports, not empty (02 R86). -/
def okDigestRun (r : Req) : Bool :=
  decide (1 ≤ r.w 4 ∧ r.w 4 ≤ 1000000) && r.mask68 5 != 0 && r.only 7 0xF

def bodyDigestRun (c : Ctx) (s : State) : Res :=
  let mask := c.r.mask68 5
  match c.a with
  | none => .fail State.stBadParam
  | some a =>
    refuseIf (!okDigestRun c.r) State.stBadParam <|
    refuseIf s.fab.digest.isSome State.stBusy <|
    refuseIf (decide (a < c.t + us 50)) State.stTooLate <|
    .wait { s with fab := { s.fab with
      digest := some { a, until_ := a + us (c.r.w 4), mask, jid := some c.jid } } }

end Sys2Proof.Machine
end

