-- ==== Sys2Proof/Machine/Pipeline.lean ====
section
/-! DEFINITION. The lookup pipelines: stages 1 to 8 at the lead key (03 R88 to R110, R624; 04 R122,
R123, R131, R132, R143 to R151) and stage 9 at the end key (03 R89, R106, R111; 04 R135). -/

namespace Sys2Proof.Machine

/-! ### Streams, windows, meters (03) -/

/-- Whether an IP entry matches: fields marked ANY match all (03 R100). -/
def Stream.matchesIp (e : Stream) (p : Parsed) (vid : Nat) : Bool :=
  match p.ip with
  | none => false
  | some ip =>
    e.valid && e.method == 2 && e.mac == p.dmac && e.vid == vid && e.ipv6 == ip.v6 && e.dip == ip.dst
      && (flag e.any 4 || e.sip == ip.src)
      && (flag e.any 3 || e.dscp == ip.dscp)
      && (flag e.any 2 || e.proto == ip.proto)
      && (flag e.any 1 || (match p.ports with | some q => e.sport == q.1 | none => false))
      && (flag e.any 0 || (match p.ports with | some q => e.dport == q.2 | none => false))

/-- How many of the five fields are marked ANY. -/
def anyCount (a : Nat) : Nat := (List.range 5).foldl (fun n i => if flag a i then n + 1 else n) 0

/-- Stage 3 (03 R101): the stream index of a frame, 0 where no entry matches. -/
def streamOf (c : Cfg) (p : Parsed) (vid : Nat) : Nat :=
  let better := fun (best : Option (Nat × Stream)) (e : Nat × Stream) =>
    if e.1 ≠ 0 ∧ e.2.matchesIp p vid then
      match best with
      | none => some e
      | some b =>
        if anyCount e.2.any < anyCount b.2.any
            ∨ (anyCount e.2.any = anyCount b.2.any ∧ e.2.any < b.2.any) then some e else best
    else best
  match c.streams.foldl better none with
  | some e => e.1
  | none =>
    let hit := fun (m mac : Nat) => c.streams.find? fun e =>
      e.1 != 0 && e.2.valid && e.2.method == m && e.2.mac == mac && e.2.vid == vid
    match hit 0 p.dmac with
    | some e => e.1
    | none =>
      match hit 1 p.smac with
      | some e => e.1
      | none => 0

/-- Whether a window is open at a stamp (03 R103). -/
def Window.isOpen (w : Window) (s : Instant) : Bool :=
  let per := ns w.period
  let phase := ((s : Int) - w.base) % per
  let o : Int := ns w.opens
  let c : Int := ns w.closes
  if w.opens < w.closes then decide (o ≤ phase ∧ phase < c)
  else if w.closes < w.opens then decide (o ≤ phase ∨ phase < c)
  else false

/-- The class of stage 5 (03 R104). -/
def classOf (c : Cfg) (port : Nat) (p : Parsed) (st : Stream) (vl : Vlan) : Nat :=
  let g := c.ing port
  if st.clsEn then st.cls
  else if vl.clsOvrEn then vl.clsOvr
  else
    match p.ip, p.tag, g.trust with
    | some ip, _, 2 => Tbl.get 0 g.dscpMap ip.dscp
    | _, some (pcp, _, _), 1 => field g.pcpMap (3 * pcp) 3
    | _, some (pcp, _, _), 2 => field g.pcpMap (3 * pcp) 3
    | _, _, _ => g.defClass

/-- What a bucket accrues over an interval at a rate in kb/s, in 1/8,000,000 of its unit of 2^-16 byte, on top of what
the accruals before have left below one unit: the sum stays exact (03 R106). A part of a unit counts once it is whole:
the direction in which the unit rounds is the model's choice (DESIGN CHOICE, assumption 123). -/
def accrual (kbps dt rem : Nat) : Nat := kbps * dt + rem

/-- A bucket after an accrual, and what is left below one unit; a full bucket keeps nothing. -/
def fillTo (top have_ : Int) (acc : Nat) : Int × Nat :=
  if top ≤ have_ + (acc / 8000000 : Nat) then (top, 0) else (have_ + (acc / 8000000 : Nat), acc % 8000000)

/-- Stage 6, at the lead key: the buckets accrue and colour the frame (03 R106, R107). -/
def meterLead (m : Meter) (b : Bucket) (s : Instant) : Bucket × Colour :=
  let cbs : Int := m.cbs * 65536
  let ebs : Int := m.ebs * 65536
  let dt := s - b.tLast
  let c := if b.full then (cbs, 0) else fillTo cbs b.c (accrual m.cir dt b.cRem)
  let e := if b.full then (ebs, 0) else fillTo ebs b.e (accrual m.eir dt b.eRem)
  let b' := { b with full := false, c := c.1, e := e.1, cRem := c.2, eRem := e.2, tLast := s }
  if 0 ≤ c.1 then (b', .green)
  else if m.mode = 1 ∧ 0 ≤ e.1 then (b', .yellow)
  else (b', .red)

/-- Stage 9: the charge of a coloured frame. -/
def meterEnd (m : Meter) (b : Bucket) (col : Colour) (len : Nat) : Bucket :=
  let l : Int := ((if m.overhead then len + 20 else len) * 65536 : Nat)
  match col with
  | .green => { b with c := b.c - l }
  | .yellow => { b with e := b.e - l }
  | .red => b

/-! ### L2, host table, trie (04) -/

/-- The 8 key bytes of an L2 entry (04 R131). -/
def l2KeyBytes (vid mac : Nat) : List Byte := bytesBE 2 vid ++ bytesBE 6 mac
/-- The position of an L2 key in way `w`: way × 32,768 + index. -/
def l2Pos (vid mac w : Nat) : Nat := w * 32768 + crc32c (wayInit w) (l2KeyBytes vid mac) % 32768
/-- The number that CC1 keeps a key under. -/
def l2Key (vid mac : Nat) : Nat := vid * 2 ^ 48 + mac

/-- The 5 or 17 key bytes of a host entry (04 R144). -/
def hostKeyBytes (v6 : Bool) (addr : Nat) : List Byte :=
  if v6 then 6#8 :: bytesBE 16 addr else 4#8 :: bytesBE 4 (addr / 2 ^ 96)
def hostPos (v6 : Bool) (addr w : Nat) : Nat :=
  w * 16384 + crc32c (wayInit w) (hostKeyBytes v6 addr) % 16384

/-- A word marked invalid in one copy reads as a miss, as EMPTY or as not valid, by table (04 R129). -/
def badWord (s : State) (copy table i : Nat) : Bool := s.tab.badWords.contains (copy, table, i)

/-- The lookup of one copy: the lower way wins (04 R132). -/
def l2Find (s : State) (c : Cfg) (copy vid mac : Nat) : Option (Nat × L2Entry) :=
  (List.range 4).foldl (fun r w =>
    match r with
    | some _ => r
    | none =>
      let pos := l2Pos vid mac w
      match c.l2At pos with
      | some e => if e.vid = vid ∧ e.mac = mac ∧ !badWord s copy 0 pos then some (pos, e) else none
      | none => none) none

def hostFind (s : State) (c : Cfg) (copy : Nat) (v6 : Bool) (addr : Nat) : Option Action :=
  (List.range 4).foldl (fun r w =>
    match r with
    | some _ => r
    | none =>
      let pos := hostPos v6 addr w
      match c.hostAt pos with
      | some e => if e.v6 = v6 ∧ e.addr = addr ∧ !badWord s copy 1 pos then some e.goes else none
      | none => none) none

/-- The trie lookup of one copy: a word invalid in it reads as EMPTY (04 R129, R147). -/
def trieFind (s : State) (c : Cfg) (copy : Nat) (v6 : Bool) (addr : Nat) : Option (Nat × Action) :=
  c.trie.find (badWord s copy 2) v6 addr

/-- The valid interface bound to a VID, if there is one (04 R142). -/
def rifOf (c : Cfg) (vid : Nat) : Option (Nat × Rif) :=
  c.rifs.find? fun e => e.2.valid && e.2.vid == vid

/-- IPv6 link-local addresses, fe80::/10. -/
def linkLocal (a : Nat) : Bool := a / 2 ^ 118 == 0x3FA

/-- What stage 8 decides. -/
inductive Verdict
  | unicast (p : Nat)
  | multicast (g : Nat)
  | flood (v : Nat)
  | discard (reason : Nat)
  deriving DecidableEq, Repr

/-- The verdict with what comes with it: entry mirror, TTL trap, routed with a rewrite and a VID. -/
structure Lookup where
  verdict : Verdict
  entryMirror : Bool := false
  ttlTrap : Bool := false
  routed : Option (Rewrite × Nat) := none
  deriving DecidableEq, Repr

/-- route(x) of 04 R143. -/
def routeOf (s : State) (c : Cfg) (copy : Nat) (ip : IpInfo) : Lookup :=
  let res := match hostFind s c copy ip.v6 ip.dst with
    | some a => some a
    | none => (trieFind s c copy ip.v6 ip.dst).map Prod.snd
  match res with
  | none => { verdict := .discard 0x11 }
  | some a =>
    if a.act = 2 then { verdict := .discard 0x12 }
    else if a.act = 3 then { verdict := .unicast 64 }
    else if ip.ttl ≤ 1 then { verdict := .unicast 64, ttlTrap := true }
    else if ip.v6 && (linkLocal ip.src || linkLocal ip.dst) then { verdict := .unicast 64 }
    else
      let n := c.nh a.nh
      let o := c.rif n.rif
      if !n.valid || badWord s copy 3 a.nh || !o.valid || badWord s copy 4 n.rif then { verdict := .discard 0x13 }
      else
        match (if n.ff then
            (let g := c.ffg n.target; if g.valid && !badWord s copy 6 n.target then g.member else none)
          else some n.target) with
        | none => { verdict := .discard 0x14 }
        | some p =>
          if !hasPort (c.vlan o.vid).member p then { verdict := .discard 0x18 }
          else if o.mtu < ip.len then { verdict := .discard 0x17 }
          else { verdict := .unicast p, routed := some (⟨n.mac, o.mac⟩, o.vid) }

/-- A flooded ARP or NDP frame of a VLAN with a valid router interface reaches port 64 as well (04 R124). -/
def floodTo64 (c : Cfg) (vid : Nat) (p : Parsed) : Bool := p.arpNdp && (rifOf c vid).isSome

/-- The ports that a flood of a VLAN selects; `to64` as `floodTo64` has it (04 R124). -/
def floodSet (c : Cfg) (vid inPort : Nat) (p : Parsed) (to64 : Bool) : PortMask :=
  let admits := fun (q : Nat) =>
    let l := c.l2port q
    if macBroadcast p.dmac then l.bc else if macGroup p.dmac then l.unkMc else l.unkUc
  let m := (List.range 68).foldl (fun (m : PortMask) q =>
    if hasPort (c.vlan vid).member q ∧ q ≠ inPort ∧ admits q then m ||| BitVec.ofNat 68 (2 ^ q) else m) 0
  if to64 && inPort != 64 then m ||| BitVec.ofNat 68 (2 ^ 64) else m

/-- The ports of a multicast group, less the ingress port (04 R150). -/
def groupSet (c : Cfg) (g inPort : Nat) : PortMask := c.mcg g &&& ~~~ BitVec.ofNat 68 (2 ^ inPort)

/-- A reserved address: 01-80-C2-00-00-00 to 01-80-C2-00-00-0F (03 R93). -/
def reservedMac (mac : Nat) : Bool := mac / 16 == 0x0180C200000

/-- Stage 8 (04 R122). In footing a dynamic entry reads as a miss (09 R383). A frame to a reserved
address that stage 2 has let through goes to port 64 (03 R93). An IP header in error makes the frame non-IP, and one
that would be routed is discarded (03 R92). -/
def lookup (s : State) (c : Cfg) (copy inPort vid : Nat) (p : Parsed) : Lookup :=
  if reservedMac p.dmac then { verdict := .unicast 64 }
  else
    match rifOf c vid with
    | some (ri, r) =>
      if p.dmac = r.mac ∧ !badWord s copy 4 ri then
        if p.arpNdp then { verdict := .unicast 64 }
        else
          match p.ipErr with
          | some v6 =>
            if (if v6 then r.v6 else r.v4) then { verdict := .discard 0x07 } else { verdict := .discard 0x19 }
          | none =>
            match p.ip with
            | some ip =>
              if (if ip.v6 then r.v6 else r.v4) then routeOf s c copy ip else { verdict := .discard 0x19 }
            | none => { verdict := .discard 0x19 }
      else l2 ()
    | none => l2 ()
where
  l2 (_ : Unit) : Lookup :=
    match (l2Find s c copy vid p.dmac).filter fun e => e.2.static || !c.footing with
    | some (_, e) =>
      let v := match e.dkind with
        | .port => if e.target = inPort then .discard 0x15 else .unicast e.target
        | .group =>
          if groupSet c e.target inPort = 0 ∨ badWord s copy 5 e.target then .discard 0x1A else .multicast e.target
        | .failover =>
          let g := c.ffg e.target
          match (if g.valid && !badWord s copy 6 e.target then g.member else none) with
          | some q => .unicast q
          | none => .discard 0x14
        | .drop => .discard 0x10
      { verdict := v, entryMirror := e.mirror }
    | none =>
      if floodSet c vid inPort p (floodTo64 c vid p) = 0 then { verdict := .discard 0x1A } else { verdict := .flood vid }

/-! ### Stages 1 to 8 -/

/-- A frame that a stage discards: HB3 and the counter (02 R46, 03 R99). -/
def discardFrame (f : Frame) (reason : Nat) (s : State) : Frame × State :=
  ({ f with kind := .discard, dest := reason }, s.countP f.inPort (32 + reason))

/-- PTP and ESMC frames are trapped at stage 1 (03 R90, R624). 'UDP port 319 or 320' is read as the destination port,
which the spec does not say (DESIGN CHOICE, assumption 133). A port in a plant-port mode treats PTP as ordinary frames
(07 R288). -/
def trapped (s : State) (port : Nat) (bs : List Byte) (p : Parsed) : Bool :=
  let role := (Tbl.get ({} : PtpCfg) s.tk.ptpCfg port).role
  let ptp := p.etype == 0x88F7 || (match p.ip, p.ports with
    | some ip, some q => ip.proto == 17 && (q.2 == 319 || q.2 == 320)
    | _, _ => false)
  let sy := Tbl.get ({} : SynceCfg) s.tk.synceCfg port
  let sub := u8 bs (p.afterMac + 2 + (if p.rtag.isSome then 6 else 0))
  let plant := (Tbl.get (Lane.reset port) s.lan.lanes port).cfg.mode != 0
  decide (port < 64) && ((ptp && plant && (role == 1 || role == 2))
    || (p.etype == 0x8809 && sub == 0x0A && sy.en && sy.rx))

/-- Stages 2 to 7. -/
def stages2to7 (f0 : Frame) (p : Parsed) (pipe : Nat) (s0 : State) : Frame × State :=
  let c := s0.cfgAt f0.stamp
  let g := c.ing f0.inPort
  let vid := match p.tag with
    | some (_, _, v) => if v = 0 then g.pvid else v
    | none => g.pvid
  let f := { f0 with vid := vid, inVid := vid }
  let vl := c.vlan vid
  let hasVidTag : Bool := match p.tag with | some (_, _, v) => v != 0 | none => false
  -- stage 2
  if vid = 4095 ∨ !vl.valid ∨ badWord s0 pipe 7 vid then discardFrame f 0x01 s0
  else if g.filter && !hasPort vl.member f.inPort then discardFrame f 0x02 s0
  else if (g.accept == 1 && !hasVidTag) || (g.accept == 2 && hasVidTag) then discardFrame f 0x03 s0
  else if reservedMac p.dmac && !g.trapLl then discardFrame f 0x06 s0
  else
    -- stage 3
    let si := if s0.tab.badWords.isEmpty then streamOf c p vid
      else
        let k := streamOf c p vid
        if badWord s0 pipe 8 k then 0 else k
    let st := c.stream si
    let f := { f with stream := si }
    -- stage 4
    if si ≠ 0 ∧ st.window ≠ 0 ∧ !(c.window st.window).isOpen f.stamp then discardFrame f 0x04 s0
    else
      -- stage 5
      let cls := classOf c f.inPort p (if si = 0 then {} else st) vl
      let dei := match p.tag with | some (_, d, _) => d | none => false
      let f := { f with cls := cls, queue := cls, dp := g.deiDp && dei
                        launch := if si ≠ 0 ∧ st.clsEn ∧ cls = 7 then st.launch else 0x7FF }
      -- stage 6
      let mi := st.meter
      let bk := meterLead (c.meter mi) (s0.bucket pipe mi) f.stamp
      let use := mi ≠ 0 && !badWord s0 pipe 9 mi
      let s1 := if use then s0.setBucket pipe mi bk.1 else s0
      let s2 := if use then s1.countP f.inPort (match bk.2 with | .green => 13 | .yellow => 14 | .red => 15) else s1
      let f := if use then { f with colour := some (mi, bk.2), dp := f.dp || bk.2 == .yellow } else f
      if use && bk.2 == .red then discardFrame f 0x05 s2
      -- stage 7
      else if si ≠ 0 ∧ st.gen then
        if st.genPipe ≠ pipe then discardFrame f 0x08 s2
        else
          let n := Tbl.get 0 s2.tab.seqGen si
          let s3 := { s2 with tab := { s2.tab with seqGen := Tbl.set 0 s2.tab.seqGen si ((n + 1) % 65536) } }
          let s4 := if p.rtag.isSome then s3.countP f.inPort 16 else s3
          ({ f with rtag := some n, seqValid := true }, s4)
      else if si ≠ 0 ∧ st.recovery ≠ 0 then
        let fi := st.recovery
        let rc := c.recov fi
        if rc.pipe ≠ pipe then
          let s3 := s2.countP f.inPort 17
          discardFrame f 0x08 (s3.raiseLimited 3 0x0305 100 [bytesBE 1 f.inPort, bytesBE 2 fi] f.stamp)
        else
          match p.rtag with
          | some q => ({ f with seqValid := true, recov := some (fi, q), pop := st.pop }, s2)
          | none =>
            let s3 := s2.countR fi 5
            if rc.takeNoSeq then ({ f with pop := st.pop }, s3) else discardFrame f 0x09 s3
      else (f, s2)

/-- The learning part of stage 8: HIT, FLAP_SUPPRESS, SA_MULTICAST, or a notice due (04 R135). -/
def learnLead (f : Frame) (p : Parsed) (pipe : Nat) (s : State) : Frame × State :=
  let c := s.cfgAt f.stamp
  if macGroup p.smac then (f, s.countP f.inPort 18)
  else
    let want := (c.vlan f.vid).learn && (c.l2port f.inPort).learnEn && !c.footing
    match l2Find s c pipe f.vid p.smac with
    | none => ({ f with learn := if want then some false else none }, s)
    | some (_, e) =>
      if e.dkind = .port ∧ e.target = f.inPort then
        let k := l2Key f.vid p.smac
        let h := Tbl.get 0 s.tab.hit k ||| BitVec.ofNat 5 (2 ^ pipe)
        let ctl := Tbl.get ({} : L2Ctl) s.tab.ctl k
        (f, { s with tab := { s.tab with
          hit := Tbl.set 0 s.tab.hit k h, ctl := Tbl.set {} s.tab.ctl k { ctl with lastHit := f.stamp } } })
      else if e.static then (f, s)
      else if e.locked then (f, s.countP f.inPort 19)
      else ({ f with learn := if want then some true else none }, s)

/-- An uncorrectable table word: it is invalid in that copy, logged and reported (04 R129). -/
def eccWord (s : State) (copy table index : Nat) (t : Instant) : State :=
  let s1 := { s with tab := { s.tab with
    eccUncorr := true, eccLog := some (copy, table, index)
    badWords := if s.tab.badWords.contains (copy, table, index) then s.tab.badWords
                else (copy, table, index) :: s.tab.badWords } }
  let s2 := s1.raise 0x0200 93 [bytesBE 1 copy, bytesBE 1 table, bytesBE 4 index] t
  -- CC1 rewrites the word in all five copies no later than 1 ms after (R129)
  s2.stage { a := s2.earliestTxn 1 (t + us 20), jids := [], txn := true, units := [0, 1, 2, 3, 4], words := 1
             change := [.rewrite copy table index] }

/-- Stage 8 for a frame that no earlier stage discarded. -/
def stage8 (f0 : Frame) (p : Parsed) (pipe : Nat) (ecc : Option (Nat × Nat)) (s0 : State) : Frame × State :=
  let f1 := { f0 with stage8 := true }
  match ecc with
  | some (tb, ix) =>
    let x := learnLead f1 p pipe (eccWord s0 pipe tb ix s0.now)
    discardFrame x.1 0x16 x.2
  | none =>
    let x := learnLead f1 p pipe s0
    let f := x.1
    let s := x.2
    let c := s.cfgAt f.stamp
    let r := lookup s c pipe f.inPort f.vid p
    let s := if r.ttlTrap then s.countP f.inPort 21 else s
    match r.verdict with
    | .discard reason => discardFrame f reason s
    | v =>
      let kd : Kind × Nat := match v with
        | .unicast q => (.unicast, q)
        | .multicast g => (.multicast, g)
        | .flood w => (.flood, w)
        | .discard q => (.discard, q)
      let st := c.stream f.stream
      let f := { f with
        kind := kd.1, dest := kd.2, to64 := floodTo64 c f.vid p
        ctElig := (c.ing f.inPort).ctEn && (f.stream == 0 || st.ctAllow) && (f.stream == 0 || st.recovery == 0)
        mirror := (c.ing f.inPort).mirror || st.mirror || r.entryMirror }
      match r.routed with
      | some (w, vid) => ({ f with rewrite := some w, vid := vid }, s.countP f.inPort 22)
      | none => (f, s)

/-- Stages 1 to 8 of a lead tile that is carried out under its key. -/
def State.leadStages (pipe id : Nat) (f : Frame) (ecc : Option (Nat × Nat)) (t : Instant) (s : State) : State :=
  let s3 := (s.applyUnit pipe f.stamp t).countP f.inPort 0
  let p := parse f.bytes
  let f := { f with tgen := s3.tgenOf pipe }
  let s4 := match p.ipErr with
    | some true => s3.countP f.inPort 12
    | some false => s3.countP f.inPort 11
    | none => s3
  let x := if trapped s3 f.inPort f.bytes p then
      ({ f with cls := 5, queue := 5, kind := .unicast, dest := 64 }, s4)
    else
      let y := stages2to7 f p pipe s4
      if y.1.kind = .discard then y else stage8 y.1 p pipe ecc y.2
  let s5 := x.2.setFrame id (some x.1)
  if x.1.kind = .discard then s5 else s5.pushItem 5 pipe (.lead id)

/-- A lead tile passes stages 1 to 8 of a pipeline and, unless it is discarded, goes on to the merge (03 R88). -/
def State.leadPass (s : State) (pipe id : Nat) (f : Frame) (ecc : Option (Nat × Nat)) (t : Instant) : State :=
  s.keyedAt f.stamp (State.leadStages pipe id f ecc t)

/-- PIPELINE_LEAD: the lead tile at the head of a pipeline. `ecc` names a table word that the lookup finds
uncorrectable. -/
def execPipelineLead (pipe : Nat) (ecc : Option (Nat × Nat)) (t : Instant) (s : State) :
    Host.Outcome State Fault Refusal :=
  let s1 := s.tick t
  match s1.outq pipe with
  | .lead id :: rest =>
    if 5 ≤ pipe then .next s1
    else
      let s2 := s1.setOutq pipe rest
      match s2.frame id with
      | none => .next (State.flushPipe pipe rest.length s2)
      | some f => .next (State.flushPipe pipe rest.length (s2.leadPass pipe id f ecc t))
  | _ => .next s1

/-! ### Stage 9 -/

/-- The recovery verdict for sequence number q at end stamp t: state, counters to raise, passed
(03 R111). -/
def recoveryVerdict (rc : Recovery) (f0 : RecovState) (q : Nat) (t : Instant) :
    RecovState × List (Nat × Nat) × Bool :=
  let late := decide (f0.tPass + ms rc.reset ≤ t)
  let f := if late then { f0 with takeAny := true } else f0
  let pre : List (Nat × Nat) := if late then [(6, 1)] else []
  if f.takeAny then
    ({ rsn := q, hist := 1, takeAny := false, tPass := t }, pre ++ [(0, 1)], true)
  else
    let d : Int := ((q : Int) - f.rsn + 32768) % 65536 - 32768
    let h : Int := rc.history
    if h ≤ d ∨ d ≤ -h then (f, pre ++ [(3, 1)], false)
    else if d ≤ 0 then
      let b := (-d).toNat
      if f.hist.getLsbD b then (f, pre ++ [(1, 1)], false)
      else ({ f with hist := f.hist ||| BitVec.ofNat 64 (2 ^ b), tPass := t }, pre ++ [(2, 1), (0, 1)], true)
    else
      let n := d.toNat
      let lost := ((List.range n).filter fun i => !f.hist.getLsbD (rc.history - 1 - i)).length
      let hist := BitVec.ofNat 64 ((f.hist.toNat * 2 ^ n) % 2 ^ rc.history + 1)
      ({ rsn := q, hist := hist, takeAny := false, tPass := t }, pre ++ [(4, lost), (0, 1)], true)

/-- A pipeline posts a learn notice, unless its filter holds a repeat (04 R135). -/
def postNotice (s : State) (pipe : Nat) (n : LearnNotice) (endNs : Nat) (t : Instant) : State :=
  let flt := (Tbl.get [] s.tab.filter pipe).filter fun e => decide (t < e.2.2.2 + ms 1)
  if flt.any fun e => e.1 == n.mac && e.2.1 == n.vid && e.2.2.1 == n.inPort then s
  else
    let s1 := { s with tab := { s.tab with
      filter := Tbl.set [] s.tab.filter pipe (((n.mac, n.vid, n.inPort, t) :: flt).take 64) } }
    s1.pushItem 6 pipe (.notice n endNs)

/-- Stage 9 at the end key: it charges the meter, takes the recovery verdict and may post a learn notice (03 R89). A
frame whose lead key is before the configuration's A is not charged (03 R107); one that ends good at this stage, with
no POISON and no inverted FCS, be it from its port or kept through loopback (03 R96), may be learned from (04 R137). A
good frame of a recovery stream that stage 8 has discarded takes no verdict: the spec does not say whether it does
(DESIGN CHOICE, assumption 124). -/
def State.endStage (pipe id : Nat) (f : Frame) (t : Instant) (s : State) : State :=
  let e := ns (f.endNs.getD 0)
  let s2 := (s.applyUnit pipe e t).countP f.inPort 1 f.bytes.length
  let s3 := match f.colour with
    | some (m, col) =>
      let b := s2.bucket pipe m
      if f.stamp < b.since then s2
      else s2.setBucket pipe m (meterEnd ((s2.cfgAt f.stamp).meter m) b col f.bytes.length)
    | none => s2
  let good := f.poison.isNone && !f.rxMark && !marked f.bytes
  let x : Frame × State :=
    match f.recov with
    | some (fi, q) =>
      if good ∧ f.kind ≠ .discard then
        let v := recoveryVerdict ((s3.cfgAt e).recov fi) (s3.recov fi) q e
        let sa := s3.setRecov fi v.1
        ({ f with discardMark := !v.2.2 }, v.2.1.foldl (fun s c => s.countR fi c.1 c.2) sa)
      else (f, s3)
    | none => (f, s3)
  let f' := x.1
  let s4 := match f'.learn with
    | some mv =>
      if good && !f'.discardMark && !(s3.cfgAt e).footing then
        postNotice x.2 pipe ⟨f'.stamp, f'.inPort, pipe, f'.inVid, (parse f'.bytes).smac, mv⟩ (f'.endNs.getD 0) e
      else x.2
    | none => x.2
  if f'.kind = .discard then s4.setFrame id none else (s4.setFrame id (some f')).pushItem 5 pipe (.fin id)

/-- An end key passes stage 9 (03 R89). -/
def State.endPass (s : State) (pipe id : Nat) (f : Frame) (t : Instant) : State :=
  s.keyedAt (ns (f.endNs.getD 0)) (State.endStage pipe id f t)

/-- END_KEY_STAGE: the end key at the head of a pipeline. -/
def execEndKeyStage (pipe : Nat) (t : Instant) (s : State) : Host.Outcome State Fault Refusal :=
  let s1 := s.tick t
  match s1.outq pipe with
  | .fin id :: rest =>
    if 5 ≤ pipe then .next s1
    else
      let s2 := s1.setOutq pipe rest
      match s2.frame id with
      | none => .next (State.flushPipe pipe rest.length s2)
      | some f => .next (State.flushPipe pipe rest.length (s2.endPass pipe id f t))
  | _ => .next s1

end Sys2Proof.Machine
end

