-- ==== Sys2Proof/Machine/Egress.lean ====
section
/-! DEFINITION. Admission, end keys, binding to course occurrences, aging, bad frames and PAUSE
(05 R171 to R200; 06 R220 to R223, R239; 09 R384). -/

namespace Sys2Proof.Machine

/-- floor(F × 2^k) (05 R179). -/
def limOf (f k : Int) : Int := if 0 ≤ k then f * 2 ^ k.toNat else f / 2 ^ (-k).toNat

/-- The pool of a frame's copy on a port (05 R176). -/
def poolFor (cls inPort p : Nat) : Pool :=
  if cls = 7 then .class7 else if p = 64 ∨ inPort = 64 then .firmware else .shared

/-- A copy that footing drops (09 R384). -/
def footingDrops (inPort p q : Nat) : Bool :=
  (decide (65 ≤ p ∧ p ≤ 67)) || (p != 64 && inPort != 64 && decide (q < 7))

/-- The ports that a frame's HB3 selects (04 R124, R150). -/
def selected (c : Cfg) (f : Frame) : List Nat :=
  let all := fun (m : PortMask) => (List.range 68).filter fun p => hasPort m p
  match f.kind with
  | .unicast => if f.dest < 68 then [f.dest] else []
  | .multicast => all (groupSet c f.dest f.inPort)
  | .flood => all (floodSet c f.dest f.inPort (parse f.bytes) f.to64)
  | .discard => []

/-- The copies of a frame in the order of decision: port, queue, mirror (05 R178). -/
def copiesOf (c : Cfg) (f : Frame) : List (Nat × Nat × Bool) :=
  (selected c f).map (fun p => (p, f.queue, false))
    ++ (if f.mirror && c.mirror.valid then [(c.mirror.port, c.mirror.queue, true)] else [])

/-- The need length of a frame: with MAX_FRAME of its port at its stamp, or its own length (05 R177). -/
def Frame.needLen (f : Frame) : Nat := if f.inPort < 64 then f.maxLen + 10 else f.final.length

namespace State

/-- The payload rate at which a frame came in. -/
def rateIn (s : State) (p : Nat) : Nat := (s.model p).rate

/-- The cut-through conditions of 05 R188. -/
def cutOk (s : State) (f : Frame) (p q nl : Nat) (mir : Bool) : Bool :=
  let m := s.model p
  let u := f.stamp + ns 64
  f.ctElig && !mir && decide (f.inPort < 64) && decide (p < 64) && m.up && !m.parked
    && (s.equeue (8 * p + q)).copies.isEmpty
    && decide (m.rate ≤ s.rateIn f.inPort)
    && decide (q < 7) && f.cls != 7
    && (if q = 6 then decide (0 ≤ s.credit6 p f.stamp) else !m.paused ((s.cfgAt f.stamp).pause p) f.stamp)
    && s.fits p q nl u
    && s.idleAt p q u 64 f.stamp

/-- A drop at admission: its counter, its flag and event (05 R182), its digest record. -/
def dropCopy (s : State) (f : Frame) (p q item : Nat) : State :=
  let s1 := (s.countQ p q item).digestAdd p f.stamp (digestRecord f.stamp f.inPort true false false q)
  let ev := fun (s : State) (key code : Nat) =>
    s.raiseLimited key 0x0131 96 [bytesBE 1 code, bytesBE 1 p] f.stamp
  if item = 8 then { (ev s1 10 0) with egr := { (ev s1 10 0).egr with sharedEmpty := true } }
  else if item = 9 then { (ev s1 11 1) with egr := { (ev s1 11 1).egr with c7Empty := true } }
  else if item = 10 then { (ev s1 12 2) with egr := { (ev s1 12 2).egr with fwEmpty := true } }
  else s1

/-- The drop that the tests of 05 R179 give a copy, as its counter's item; none where it is admitted. -/
def admitTest (s : State) (c : Cfg) (f : Frame) (p q n : Nat) (r : Int) (mir : Bool) : Option Nat :=
  let g := c.queue (8 * p + q)
  let d := s.depth (8 * p + q)
  let min_ := if c.footing ∧ q ≠ 7 then 0 else g.min
  let pool := poolFor f.cls f.inPort p
  let lim : Int := min_ + limOf s.egr.freeShared g.alpha
  if c.footing && footingDrops f.inPort p q then some 21
  else if !(s.model p).up || (decide (p < 64) && c.disabled.getLsbD p) then some 5
  else if (f.dp || mir) && decide (g.dpTh ≤ d) then some 6
  else if g.qmax < d + n then some 7
  else if pool == .shared && decide (lim < (d + n : Nat)) then some 8
  else if s.freeOf pool < r then
    some (match pool with | .shared => 8 | .class7 => 9 | .firmware => 10)
  else none

/-- Admits or drops one copy (05 R179). The Bool says whether the frame is charged. Each copy adds a digest record of
its own, also where the normal and the mirror copy of a frame go to one port (02 R80; DESIGN CHOICE, assumption 125). -/
def admitCopy (c : Cfg) (f : Frame) (id n nl : Nat) (acc : State × Bool) (x : Nat × Nat × Bool) : State × Bool :=
  let s := acc.1
  let p := x.1
  let q := x.2.1
  let mir := x.2.2
  let g := c.queue (8 * p + q)
  let min_ := if c.footing ∧ q ≠ 7 then 0 else g.min
  let v := s.equeue (8 * p + q)
  let m : Int := if acc.2 then 0 else min (n : Int) (min_ - v.minused)
  let r : Int := if acc.2 then 0 else n - m
  match s.admitTest c f p q n r mir with
  | some item => (s.dropCopy f p q item, acc.2)
  | none =>
    let pool := poolFor f.cls f.inPort p
    let d := s.depth (8 * p + q)
    let above := !mir && g.ecnEn && decide (g.ecnTh ≤ d)
    let ecn := match (parse f.bytes).ip with | some ip => ip.ecn | none => 0
    let ce := above && (ecn == 1 || ecn == 2)
    let s1 := if above then s.countQ p q (if ce then 18 else if ecn = 3 then 19 else 20) else s
    let ct := s1.cutOk f p q nl mir
    let s2 := if q = 6 then s1.touchCredit p f.stamp else s1
    let copy : Copy := { fid := id, stamp := f.stamp, inPort := f.inPort, need := n, lenNow := nl, ce := ce
                         ct := ct, tagged := !hasPort (c.vlan f.vid).untag p, mirror := mir
                         bound := if p < 64 then (s2.course p).boundAt f.stamp else 0 }
    let v2 := s2.equeue (8 * p + q)
    let s3 := s2.setEqueue (8 * p + q) { v2 with
      copies := v2.copies ++ [copy], minused := v2.minused + m }
    let s4 := match s3.charge id with
      | some h => s3.setCharge id (some { h with held := h.held + 1, admitted := h.admitted ++ [(8 * p + q, copy.tagged)] })
      | none => (s3.addFree pool (-r)).setCharge id
          (some { q := 8 * p + q, n := n, m := m, pool := pool, r := r, held := 1
                  admitted := [(8 * p + q, copy.tagged)] })
    let use := (c.sharedSize - s4.egr.freeShared).toNat
    let s5 := { s4 with egr := { s4.egr with peak := max s4.egr.peak use } }
    let mo := s5.model p
    let s6 := if ct then
        s5.setModel p { mo with next := some { cls := q, fid := id, mirror := mir, ct := true, start := f.stamp + ns 64 } }
      else if mo.parked && mo.parkFrom.isNone then s5.setModel p { mo with parkFrom := some f.stamp }
      else s5
    let s7 := s6.countQ p q 0
    let s8 := if ct then s7.countQ p q 4 else s7
    ((s8.refusePark p).digestAdd p f.stamp (digestRecord f.stamp f.inPort false ce ct q), true)

/-- Admission of a frame at its lead key (05 R177 to R179). -/
def admitLead (s : State) (id : Nat) (f : Frame) : State :=
  let c := s.cfgAt f.stamp
  let nl := f.needLen
  s.keyedAt f.stamp fun s => ((copiesOf c f).foldl (admitCopy c f id (tilesOf nl) nl) (s, false)).1

/-! ### Binding to occurrences (06 R221, R223, R239) -/

/-- A class-7 copy is removed at its claim point: its counter among the ten of 06 R247. -/
def dropLaunch (s : State) (p : Nat) (c : Copy) (item : Nat) (key : Instant) : State :=
  (s.removeCopy (q7 p) c.fid c.mirror key).countP p item

/-- An occurrence of an entry that no copy may take any more: one at or before a claim of the same
launch queue, or one that 06 R238 makes unavailable. -/
def occTaken (s : State) (p k bank : Nat) (u : Instant) : Bool :=
  ((s.equeue (q7 p)).copies.any fun c => match c.claim with
    | some h => h.entry == k && h.bank == bank && decide (u ≤ h.at_)
    | none => false)
  || ((s.course p).unavailable.contains u && bank == (s.course p).active)

def setClaim (s : State) (p : Nat) (c : Copy) (cp : Instant) (h : Claim) : State :=
  s.updCopy (q7 p) c.fid c.mirror fun x => { x with claimPt := some cp, claim := some h }

/-- LAUNCH_LATE is counted, its bit set and its event raised (06 R247). -/
def countLate (s : State) (p k : Nat) (key : Instant) : State :=
  let s1 := s.countP p 70
  { s1 with crs := { s1.crs with late := s1.crs.late ||| BitVec.ofNat 64 (2 ^ p) } }.raiseLimited
    (0x100 + p) 0x0300 98 [bytesBE 1 p, bytesBE 2 k] key

/-- LAUNCH_NO_ENTRY is counted and its event raised (06 R247). -/
def noEntry (s : State) (p : Nat) (c : Copy) (k : Nat) (key : Instant) : State :=
  (s.dropLaunch p c 73 key).raiseLimited (0x200 + p) 0x0301 98 [bytesBE 1 p, bytesBE 2 k] key

/-- The first free occurrence from an instant on, over `n` tries. -/
def freeOcc (s : State) (p k bank base len off : Nat) : Nat → Nat → Option (Instant × Nat)
  | 0, _ => none
  | n + 1, no =>
    let u := occAt base len off no
    let used := ((s.equeue (q7 p)).copies.any fun c => match c.claim with
        | some h => h.entry == k && h.bank == bank && h.at_ == u
        | none => false) || (s.course p).unavailable.contains u
    if used then freeOcc s p k bank base len off n (no + 1) else some (u, no)

/-- A copy that lost its claim at a swap with CARRY = 1 takes an occurrence of the new bank (06 R239). -/
def rebind (s : State) (p : Nat) (c : Copy) (k bank : Nat) (base a cp : Instant) : State :=
  let b := (s.course p).bank bank
  let e := b.entry k
  if k = 0x7FF ∨ !e.act.launches ∨ e.slot < c.lenNow then s.dropLaunch p c 75 cp
  else
    let from_ := max (a + ns 320) (cp + ns 320)
    let tries := (s.equeue (q7 p)).copies.length + (s.course p).unavailable.length + 1
    match s.freeOcc p k bank base b.len e.offset tries (courseFrom base b.len e.offset from_) with
    | none => s.dropLaunch p c 75 cp
    | some (u, no) => (s.setClaim p c cp ⟨k, u, no, false, bank⟩).countP p 69

/-- Binds one copy at its claim point (06 R223). -/
def bindCopy (s : State) (p : Nat) (c : Copy) (k : Nat) (cp : Instant) : State :=
  let co := s.course p
  let lost : Option (Instant × Bool × Nat × Instant) :=
    match co.pend with
    | some w => if w.a ≤ cp ∧ c.stamp < w.a then some (w.a, w.carry, 1 - co.active, w.a)
                else if c.stamp < co.swapA then some (co.swapA, co.swapCarry, co.active, co.base) else none
    | none => if c.stamp < co.swapA then some (co.swapA, co.swapCarry, co.active, co.base) else none
  if co.misfit then s.noEntry p c k cp
  else
    match lost with
    | some (a, carry, bank, base) =>
      if carry then s.rebind p c k bank base a cp else s.dropLaunch p c 75 cp
    | none =>
      let bank := c.bound
      let b := co.bank bank
      let base := co.baseOf bank
      let e := b.entry k
      if k = 0x7FF ∨ !e.act.launches then s.noEntry p c k cp
      else if e.slot < c.lenNow then s.dropLaunch p c 74 cp
      else
        let no := courseFrom base b.len e.offset c.stamp
        let u := occAt base b.len e.offset no
        let need := cp + ns 320
        if !s.occTaken p k bank u && decide (need ≤ u) then
          (s.setClaim p c cp ⟨k, u, no, false, bank⟩).countP p 69
        else
          let s1 := s.countLate p k cp
          let m := u + ns b.len
          if !e.lateDrop && !s1.occTaken p k bank m && decide (need ≤ m) then
            s1.setClaim p c cp ⟨k, m, no + 1, true, bank⟩
          else s1.dropLaunch p c 71 cp

/-- A copy of a bad frame, which leaves at its end key and claims nothing (03 R96). -/
def badCopy (s : State) (c : Copy) : Bool :=
  (s.frame c.fid).any fun f => f.poison.isSome || marked f.final

/-- The claim points of a launch queue, in lead-key order: a copy whose end key has come is bound once the copy before it
has been; behind a bad copy, not before that one's end key (06 R223). -/
def bindLoop (p k : Nat) : List Copy → Instant → State → State
  | [], _, s => s
  | c :: r, prev, s =>
    match c.claimPt with
    | some x => bindLoop p k r (max prev x) s
    | none =>
      if c.ended then
        let cp := if k = 0x7FF then c.endAt else max prev c.endAt
        bindLoop p k r cp (if s.badCopy c then s else s.bindCopy p c k cp)
      else if k = 0x7FF then bindLoop p k r prev s
      else s

/-- Binds what can be bound in the launch queue of an entry. -/
def bindQueue (s : State) (p k : Nat) : State :=
  let mine := (s.equeue (q7 p)).copies.filter fun c => match s.frame c.fid with
    | some f => f.launch == k
    | none => false
  bindLoop p k mine 0 s

/-! ### End keys -/

/-- The end key comes to a copy: its actual tile count and length replace the need (05 R180). -/
def endCopy (n : Nat) (f : Frame) (key : Instant) (c : Copy) : Copy :=
  let len := match f.poison with | some _ => f.bytes.length | none => (copyBytes f c.tagged c.ce).length
  { c with need := min c.need n, lenNow := len, ended := true, endAt := key }

/-- The charge gives back tiles, first from r and then from m (05 R180). -/
def refund (s : State) (id d : Nat) : State :=
  match s.charge id with
  | none => s
  | some c =>
    let dr : Int := min c.r d
    let dm : Int := d - dr
    let v := s.equeue c.q
    ((s.setEqueue c.q { v with minused := v.minused - dm }).addFree c.pool dr).setCharge id
      (some { c with r := c.r - dr, m := c.m - dm, ended := true })

/-- A stored copy of a bad frame leaves at its end key: a marked one is counted EGRESS_BAD_DISCARD; a
model transmission it had begun takes no time (03 R96). Port 67 does not check the mark. -/
def dropBad (f : Frame) (key : Instant) (s : State) (q : Nat) (c : Copy) : State :=
  let p := q / 8
  if c.fid = 0 ∨ c.ct ∨ (f.poison.isNone ∧ p = 67) then s
  else
    let m := s.model p
    let s1 := match m.tx with
      | some x => if x.fid = c.fid ∧ x.mirror = c.mirror then
          s.setModel p { m with tx := none, freeAt := x.prevFree
                                phys := m.phys.filter fun y => !(y.fid == c.fid && y.mirror == c.mirror) }
        else s
      | none => s
    let s2 := s1.removeCopy q c.fid c.mirror key
    if f.poison.isSome then s2 else s2.countQ p (q % 8) 12

/-- The frame that the transmitters hold is brought up to date at its end. -/
def updPhys (s : State) (p fid : Nat) (f : Frame) : State :=
  let m := s.model p
  if m.phys.any fun y => y.fid == fid then
    s.setModel p { m with phys := m.phys.map fun y => if y.fid = fid then { y with frame := f } else y }
  else s

/-- The bytes of each copy admitted are counted, at their actual length (05 R205). -/
def countEnq (s : State) (f : Frame) (ch : Charge) : State :=
  ch.admitted.foldl (fun s x =>
    let len := match f.poison with | some _ => f.bytes.length | none => (copyBytes f x.2 false).length
    s.countQ (x.1 / 8) (x.1 % 8) 1 len) s

/-- The end key comes to every copy held of a frame in a queue, and to what its transmitter owes. -/
def endQueue (id n : Nat) (f : Frame) (key : Instant) (s : State) (q : Nat) : State :=
  let v := s.equeue q
  (s.setEqueue q { v with copies := v.copies.map fun c => if c.fid = id then endCopy n f key c else c }).updPhys (q / 8) id f

/-- What an end grout does at admission, carried out under its key. -/
def endAdmitted (id : Nat) (f : Frame) (key : Instant) (s : State) : State :=
  match s.charge id with
  | none => s.setFrame id none
  | some ch =>
    let n := match f.poison with | some _ => tilesPoison f.bytes.length | none => tilesOf f.final.length
    let qs := (ch.admitted.map fun x => x.1).eraseDups
    let s1 := s.countEnq f ch
    if ch.held = 0 then (s1.setCharge id none).setFrame id none
    else
      let s2 := (qs.foldl (endQueue id n f key) s1).refund id (ch.n - n)
      let s3 := qs.foldl (fun s q => if q % 8 = 7 ∧ q / 8 < 64 then s.bindQueue (q / 8) f.launch else s) s2
      let drop := fun (s : State) (q : Nat) =>
        ((s.equeue q).copies.filter fun c => c.fid == id).foldl (fun s c => dropBad f key s q c) s
      if f.poison.isSome || marked f.final then qs.foldl drop s3 else s3

/-- The end grout of a frame reaches admission: lengths and charge, the copies that class 7 binds, and the stored copies
that a bad frame loses (05 R180; 06 R223; 03 R96). A frame whose copies have all left keeps no record. -/
def admitEnd (s : State) (id : Nat) (f : Frame) (key : Instant) : State := s.keyedAt key (endAdmitted id f key)

end State

/-- ADMISSION: the lead tile at the head of the merged output reaches the admission points (05 R179). -/
def execAdmission (t : Instant) (s : State) : Host.Outcome State Fault Refusal :=
  let s1 := s.tick t
  match s1.outq 5 with
  | .lead id :: rest =>
    let s2 := s1.setOutq 5 rest
    match s2.frame id with
    | none => .next s2
    | some f => .next ((s2.egressTo f.stamp t).admitLead id f)
  | _ => .next s1

/-- END_KEY_ADMISSION: the end grout at the head of the merged output reaches the admission points
(05 R180, 06 R223). -/
def execEndKeyAdmission (t : Instant) (s : State) : Host.Outcome State Fault Refusal :=
  let s1 := s.tick t
  match s1.outq 5 with
  | .fin id :: rest =>
    let s2 := s1.setOutq 5 rest
    match s2.frame id with
    | none => .next s2
    | some f =>
      let key := ns (f.endNs.getD 0)
      .next ((s2.egressTo key t).admitEnd id f key)
  | _ => .next s1

/-! ### Aging (02 R54) -/

/-- AGING: copies that reach their stamp plus MAX_RESIDENCE leave without transmission (02 R54). -/
def execAging (port : Nat) (t : Instant) (s : State) : Host.Outcome State Fault Refusal :=
  let s1 := s.tick t
  .next (if 68 ≤ port then s1 else s1.egressPort port t)

/-- MODEL_START: the model of a port begins the copies whose instants have come (02 R78). -/
def execModelStart (port : Nat) (t : Instant) (s : State) : Host.Outcome State Fault Refusal :=
  let s1 := s.tick t
  .next (if 68 ≤ port then s1 else s1.egressPort port t)

/-! ### The physical transmitter (02 R79, 05 R189 to R192, R173) -/

namespace State

/-- The transmit stage holds the lead tile and the next tile of a cut-through copy, up to 48 bytes of the frame, or its
end grout. The bytes arrive at the ingress port's rate behind 8 byte times of preamble and start (05 R189; DEDUCED,
assumption 128). -/
def ctHeld (s : State) (y : PhysTx) (t : Instant) : Bool :=
  y.frame.endNs.isSome || decide (y.frame.stamp + txTime (s.rateIn y.frame.inPort) (8 + min y.frame.bytes.length 48) ≤ t)

/-- The transmitter of a port may begin a copy of the model's order: a stored copy has its end grout, a cut-through copy
its first two tiles (05 R189), and no frame of classes 0 to 6 reaches into the window of a claimed occurrence (06
R228). -/
def physReady (s : State) (port : Nat) (y : PhysTx) (t : Instant) : Bool :=
  let whole := y.frame.endNs.isSome
  let len := if whole then (copyBytes y.frame y.tagged y.ce).length else y.frame.needLen
  let v := (s.windowAt port len t).2
  let clear := (s.claimedWindows port).all fun w => decide (w.2 ≤ t ∨ v ≤ w.1)
  !y.begun && (whole || (y.ct && s.ctHeld y t)) && clear

end State

/-- PHYSICAL_TX_START: the transmitter of a port begins the next frame of the model's order. -/
def execPhysicalTxStart (port : Nat) (t : Instant) (s : State) : Host.Outcome State Fault Refusal :=
  let s1 := (s.tick t).sendPhys port
  let m := s1.model port
  if 64 ≤ port then .next s1
  else
    match m.phys with
    | y :: rest =>
      if !s1.physReady port y t then .next s1
      else .next ((s1.setModel port { m with phys := { y with begun := true, begunAt := t } :: rest }).sendPhys port)
    | [] => .next s1

/-- CUT_POISON: a cut-through copy meets POISON or a marked FCS (05 R191). -/
def execCutPoison (port : Nat) (t : Instant) (s : State) : Host.Outcome State Fault Refusal :=
  let s1 := s.tick t
  match (s1.model port).phys.find? PhysTx.bad with
  | some y => .next (s1.endEarly port y 13 (State.allButFour y))
  | none => .next s1

/-- The bytes of a copy that are through the line at an instant. -/
def State.sentBy (s : State) (port : Nat) (y : PhysTx) (t : Instant) : Nat :=
  arrivedBy (s.model port).rate (t - y.begunAt) (copyBytes y.frame y.tagged y.ce).length

/-- CUT_UNDERRUN: the next tile of a cut-through copy is missing when the line needs it (05 R192). -/
def execCutUnderrun (port : Nat) (t : Instant) (s : State) : Host.Outcome State Fault Refusal :=
  let s1 := s.tick t
  match (s1.model port).phys.find? fun y => y.ct && y.begun with
  | some y =>
    let s2 := s1.endEarly port y 14 (s1.sentBy port y t)
    .next ({ s2 with egr := { s2.egr with underrun := true } }.raise 0x0132 96 [bytesBE 1 port] t)
  | none => .next s1

/-- A tile with more than one bit in error: its copy ends as a bad frame with POISON reason 0x04, or is dropped before it
begins, the tile is retired and the event raised (05 R173). -/
def State.tileBad (s : State) (port addr : Nat) (t : Instant) : State :=
  let s2 := match (s.model port).phys with
    | y0 :: _ =>
      let y := { y0 with frame := { y0.frame with poison := some 0x04 } }
      if y.begun then s.endEarly port y 13 (s.sentBy port y0 t)
      else ((s.markBad port y.fid y.mirror (some 0x04)).dropPhys port y.fid y.mirror).countQ port y.cls 15
    | [] => s
  let fresh := !s2.egr.retired.contains addr && decide (s2.egr.retired.length < 1024)
  let s3 := { s2 with egr := { s2.egr with
    eccUncorr := true, eccLog := some addr
    retired := if fresh then addr :: s2.egr.retired else s2.egr.retired } }
  let s4 := if fresh then
      s3.stage { a := t + ms 1, jids := [], txn := false, units := [5], words := 0, change := [.retire] }
    else s3
  s4.raise 0x0130 96 [bytesBE 4 addr] t

/-- TX_TILE_READ: a transmit stage reads a tile with no error, one bit in error, or more (05 R173). -/
def execTxTileRead (port addr errors : Nat) (t : Instant) (s : State) : Host.Outcome State Fault Refusal :=
  let s1 := (s.tick t).sendPhys port
  if errors = 0 ∨ 524288 ≤ addr then .next s1
  else if errors = 1 then .next (s1.countD 5)
  else .next (s1.tileBad port addr t)

/-! ### PAUSE (05 R199, R200) -/

/-- PAUSE_RX: a MAC control frame that has ended on a port takes effect at its end key (05 R199). -/
def execPauseRx (port : Nat) (t : Instant) (s : State) : Host.Outcome State Fault Refusal :=
  let s1 := s.tick t
  .next (if 64 ≤ port then s1 else s1.egressPort port t)

/-- PAUSE_END: the paused interval of a port expires (05 R199). -/
def execPauseEnd (port : Nat) (t : Instant) (s : State) : Host.Outcome State Fault Refusal :=
  let s1 := s.tick t
  .next (if 64 ≤ port then s1 else s1.egressPort port t)

/-- PAUSE_CEILING: the paused interval reaches its ceiling (05 R200). -/
def execPauseCeiling (port : Nat) (t : Instant) (s : State) : Host.Outcome State Fault Refusal :=
  let s1 := s.tick t
  .next (if 64 ≤ port then s1 else s1.egressPort port t)

/-- PAUSE_REARM_END: the port accepts PAUSE again (05 R200). -/
def execPauseRearmEnd (port : Nat) (t : Instant) (s : State) : Host.Outcome State Fault Refusal :=
  let s1 := (s.tick t).egressPort port t
  let m := s1.model port
  match m.ignoreUntil with
  | some x => if x ≤ min t (s1.unitBound 5) then .next (s1.setModel port { m with ignoreUntil := none }) else .next s1
  | none => .next s1

/-! ### Ports 64 to 67 (05 R187, 02 R52, 13 R532, R533) -/

namespace State

/-- A frame goes into the extraction ring of a core, or is dropped because it finds no room (13 R533). -/
def extractTo (s : State) (c : AppCore) (p : Nat) (y : PhysTx) : State :=
  let a := s.ac c
  let bs := copyBytes y.frame y.tagged y.ce
  let k := a.extCfg % 16
  let slot := field a.extCfg 8 4 * 1024
  let n := 2 ^ k
  if (a.extWr + 1) % n = a.extRd % n ∨ slot < bs.length + 16 then s.countQ p y.cls 17
  else
    let hdr := wordsBytes [word (y.frame.inPort * 65536 + bs.length), y.frame.hb1, y.frame.hb2, y.frame.hb0]
    let s1 := s.setAc c { a with
      tcm := a.tcm.writeN (a.extBase + slot * a.extWr) (hdr ++ bs), extWr := (a.extWr + 1) % n }
    (s1.countQ p y.cls 2).countQ p y.cls 3 bs.length

end State

/-- A copy of port 64 goes to the vendor cores (05 R187). -/
def State.extract64 (s : State) (y : PhysTx) : State :=
  let bs := copyBytes y.frame y.tagged y.ce
  ((s.countQ 64 y.cls 2).countQ 64 y.cls 3 bs.length).emit (.frame 64 bs y.start)

/-- EXTRACT_FRAME: the transmit stage of port 64, 65 or 66 moves its next whole frame into its ring.
`fwFull` says whether the vendor cores' own ring has room (05 R187). -/
def execExtractFrame (port : Nat) (fwFull : Bool) (t : Instant) (s : State) :
    Host.Outcome State Fault Refusal :=
  let s1 := s.tick t
  let m := s1.model port
  if port < 64 ∨ 66 < port then .next s1
  else
    match m.phys with
    | y :: rest =>
      if y.ended.isNone then .next s1
      else
        let s2 := s1.setModel port { m with phys := rest }
        if port = 64 then
          if fwFull then .next (s2.countQ 64 y.cls 17)
          else
            .next (s2.extract64 y)
        else .next (s2.extractTo (if port = 65 then .ac0 else .ac1) port y)
    | [] => .next s1

namespace State

/-- The stamp of a frame injected through port 64, 65 or 66: its TK time, but past the last horizon that the boundary
sent, and past the frame that crossed before it (02 R52; DEDUCED for ports 65 and 66, assumption 127). -/
def injectStamp (s : State) (port : Nat) (t : Instant) : Instant :=
  let x := max (max t (Tbl.get 0 s.fab.injEnd port)) (ns (Tbl.get 0 s.fab.sentHz port + 1))
  match s.lastStampOf port with
  | some l => if x ≤ l then l + 1 else x
  | none => x

/-- A frame enters at an injection boundary: its lead tile and its end grout (02 R52). Before forwarding starts it is
discarded and counted like a frame of a front port (02 R87, 14 R583; DEDUCED, assumption 126). -/
def inject (s : State) (f0 : Frame) (t : Instant) : State :=
  let mp := if f0.pipe = 5 then 5 else pipeOf f0.inPort
  if s.fab.rebase.isSome then s.countP f0.inPort 8
  else if !s.fab.forwarding ∨ t < s.fab.fwdStart then s.countP f0.inPort 9
  else if (s.input mp f0.inPort).stalled then s.countP f0.inPort 10
  else
    let st := s.injectStamp f0.inPort t
    let e := nsCeil (st + txTime 10000 (f0.bytes.length + 7))
    let f := { f0 with stamp := st, endNs := some e }
    let s1 := { s with fab := { s.fab with injEnd := Tbl.set 0 s.fab.injEnd f.inPort (ns e) } }
    let x := s1.newFrame f
    (x.1.pushItem mp f.inPort (.lead x.2)).pushItem mp f.inPort (.fin x.2)

def kindOf : Nat → Kind
  | 0 => .unicast | 1 => .multicast | 2 => .flood | _ => .discard

/-- A frame with the fields that an injecting core writes into HB3 and HB0 (02 R45, 13 R532). The words stand as the core
writes them: a LAUNCH below class 7 is kept, and KIND 0b11 comes to admission, which makes no copy of it and counts none
(02 R46; DESIGN CHOICE, assumption 129). -/
def directFrame (s : State) (port hb3 hb0 : Nat) (bs : List Byte) (t : Instant) : Frame :=
  let vid := if field hb3 16 2 = 2 then field hb3 0 12 else match (parse bs).tag with
    | some (_, _, v) => if v = 0 then ((s.cfgAt t).ing port).pvid else v
    | none => ((s.cfgAt t).ing port).pvid
  let to64 := floodTo64 (s.cfgAt t) (field hb3 0 12) (parse bs)
  { inPort := port, stamp := t, bytes := bs, pipe := 5, to64, inVid := vid, dp := flag hb0 16, mirror := flag hb0 15
    seqValid := flag hb0 14, ctElig := flag hb0 13, cls := field hb0 10 3, launch := field hb3 21 11
    queue := field hb3 18 3, kind := kindOf (field hb3 16 2), dest := field hb3 0 16, vid := vid }

/-- Reads one descriptor of a core's inject ring and its frame (13 R532). -/
def injectFrom (s : State) (c : AppCore) (t : Instant) : State :=
  let a := s.ac c
  let n := 2 ^ (a.injCfg % 16)
  if a.injRd % n = a.injWr % n then s
  else
    let base := a.injBase + 16 * a.injRd
    let w := fun i => (a.tcm.readWord (base + 4 * i)).toNat
    let len := field (w 0) 0 14
    let addr := field (w 1) 2 16 * 4
    let direct := flag (w 0) 31
    let raw := a.tcm.readN addr len
    let bs := if flag (w 0) 30 then raw ++ goodFcs raw else raw
    let s1 := s.setAc c { a with injRd := (a.injRd + 1) % n }
    if (direct && !a.permits.getLsbD 1) || (!direct && !a.permits.getLsbD 0) || decide (bs.length < 64)
        || decide (9216 < bs.length) || decide (262144 < addr + len) || outerType bs == 0x88B5 then
      s1.countA c 2
    else
      let f : Frame := if direct then s1.directFrame c.port (w 2) (w 3) bs t
        else { inPort := c.port, stamp := t, bytes := bs, pipe := pipeOf c.port }
      (s1.inject f t).countA c 1

end State

/-- INJECT_DESCRIPTOR: a frame is injected by a core or by the vendor cores (13 R532, 02 R52). -/
def execInjectDescriptor (src : InjectSource) (t : Instant) (s : State) : Host.Outcome State Fault Refusal :=
  let s1 := s.tick t
  match src with
  | .core c => .next (s1.injectFrom c t)
  | .firmware direct hb3 hb0 bs =>
    if bs.length < 64 ∨ 9216 < bs.length ∨ State.outerType bs = 0x88B5 then .next s1
    else
      let f : Frame := if direct then s1.directFrame 64 hb3.toNat hb0.toNat bs t
        else { inPort := 64, stamp := t, bytes := bs, pipe := 0 }
      .next (s1.inject f t)

/-- The frame that the model of port 67 has begun re-enters IP1, its stamp the model start plus 320 ns (02 R52). A
link-local timing frame is not forwarded: it does not re-enter (00 R12). -/
def State.loopStart (s : State) (y : PhysTx) (rest : List PhysTx) : State :=
  let s1 := s.setModel 67 { s.model 67 with phys := { y with begun := true } :: rest }
  let bs := copyBytes y.frame y.tagged y.ce
  if State.outerType bs = 0x88B5 then s1
  else
    let x := s1.newFrame { inPort := 67, stamp := y.start + ns 320, bytes := bs, pipe := 1 }
    (x.1.setRx 67 (some x.2)).pushItem 1 67 (.lead x.2)

/-- The re-entered frame ends 320 ns after the model end (02 R52). -/
def State.loopEnd (s : State) (rest : List PhysTx) (e : Instant) : State :=
  let s1 := s.setModel 67 { s.model 67 with phys := rest }
  match s1.rxOf 67 with
  | none => s1
  | some id =>
    let s2 := s1.setRx 67 none
    match s2.frame id with
    | some f => (s2.setFrame id (some { f with endNs := some (nsCeil (e + ns 320)) })).pushItem 1 67 (.fin id)
    | none => s2

/-- LOOPBACK_REENTRY: a copy of port 67 re-enters, and ends once the model has ended it. -/
def execLoopbackReentry (t : Instant) (s : State) : Host.Outcome State Fault Refusal :=
  let s1 := s.tick t
  match (s1.model 67).phys with
  | y :: rest =>
    let s2 := if y.begun then s1 else s1.loopStart y rest
    match y.ended with
    | some e => .next (s2.loopEnd rest e)
    | none => .next s2
  | [] => .next s1

/-! ### Commands (05 R206 to R211) -/

/-- The need of 05 R177 for a port's MAX_FRAME; a frame of an injection port is at most 9,216 bytes. -/
def needTiles (c : Cfg) (p : Nat) : Nat := tilesOf ((c.ing p).maxFrame + 10)

/-- Whether the shared pool keeps 4,096 tiles in every configuration from an instant on (05 R175). -/
def poolsOk (s : State) (a : Instant) (chs : List Change) : Bool :=
  (s.cfgsWith a chs).all fun c => decide (4096 ≤ c.sharedNormal)

/-- C7_POOL at most 262,144 tiles, FW_POOL 1,024 to 65,536 (05 R207). -/
def okPoolSet (r : Req) : Bool :=
  r.only 4 0x7FFFF && r.only 5 0x1FFFF && decide (r.f 4 0 19 ≤ 262144) && decide (1024 ≤ r.f 5 0 17 ∧ r.f 5 0 17 ≤ 65536)

def bodyPoolSet (c : Ctx) (s : State) : Res :=
  let a := c.r.f 4 0 19
  let b := c.r.f 5 0 17
  refuseIf (!okPoolSet c.r) State.stBadParam <|
  refuseIf (!poolsOk s (s.effA c (us 200) false 1) [.pools a b]) State.stResource <|
  s.stageChange c (us 200) false [5] 0 [.pools a b]

def bodyPoolGet (_ : Ctx) (s : State) : Res :=
  let v := s.cfgNow
  .done s [word v.c7Pool, word v.fwPool, word (v.sharedNormal % 4294967296).toNat, word s.egr.retired.length]

/-- The queue that QUEUE_SET gives. -/
def queueOf (r : Req) : QueueCfg :=
  { min := r.f 5 0 15, qmax := r.f 6 0 19, ecnEn := r.b 7 31, ecnTh := r.f 7 0 19, dpTh := r.f 8 0 19
    alpha := signed 4 (r.w 9) }

/-- The ports of a QUEUE_SET: one, or with ALL every front port. -/
def queuePorts (r : Req) : List Nat := if r.b 4 15 then List.range 64 else [r.f 4 8 7]

/-- The ranges of QUEUE_SET and its reserved bits (05 R208). -/
def okQueueSet (r : Req) : Bool :=
  let all := r.b 4 15
  let v := queueOf r
  r.only 4 0xFF07 && r.only 5 0x7FFF && r.only 6 0x7FFFF && r.only 7 0x8007FFFF && r.only 8 0x7FFFF
    && r.only 9 0xF && (all || decide (r.f 4 8 7 ≤ 67)) && decide (v.min ≤ 16384)
    && decide (1 ≤ v.qmax ∧ v.qmax ≤ 524287) && decide (-6 ≤ v.alpha ∧ v.alpha ≤ 3)

def queueChanges (r : Req) : List Change := (queuePorts r).map fun p => Change.queue (8 * p + r.f 4 0 3) (queueOf r)

def bodyQueueSet (c : Ctx) (s : State) : Res :=
  let a := s.effA c (us 200) false 1
  let chs := queueChanges c.r
  refuseIf (!okQueueSet c.r || (queuePorts c.r).any fun p => decide ((queueOf c.r).qmax < needTiles (s.cfgAt a) p))
    State.stBadParam <|
  refuseIf (!poolsOk s a chs) State.stResource <|
  s.stageChange c (us 200) false [5] 0 chs

def QueueCfg.words (v : QueueCfg) : List Word :=
  [word v.min, word v.qmax, word (atBit v.ecnEn 31 + v.ecnTh), word v.dpTh, word (v.alpha % 16).toNat]

def bodyQueueGet (c : Ctx) (s : State) : Res :=
  let p := c.r.f 4 8 7
  refuseIf (!c.r.only 4 0x7F07 || decide (67 < p)) State.stBadParam <|
  .done s (word (c.r.w 4) :: (s.cfgNow.queue (8 * p + c.r.f 4 0 3)).words)

/-- A port's SCHED_SET settings. -/
def schedOf (r : Req) : SchedCfg :=
  { strict := r.f 5 0 6
    weight := [r.f 6 0 7, r.f 6 8 7, r.f 6 16 7, r.f 6 24 7, r.f 7 0 7, r.f 7 8 7]
    slope := r.w 8, hi := r.f 9 0 16, lo := r.f 10 0 16 }

/-- The ranges of SCHED_SET and its reserved bits (05 R209). -/
def okSchedSet (r : Req) : Bool :=
  let p := r.f 4 0 7
  let v := schedOf r
  r.only 4 0x7F && r.only 5 0x3F && r.only 6 0x7F7F7F7F && r.only 7 0x7F7F && r.only 9 0xFFFF
    && r.only 10 0xFFFF && decide (p ≤ 67) && (v.weight.all fun w => decide (1 ≤ w)) && decide (v.slope ≤ 25000000)

/-- SCHED_SET, given the payload rate in Mb/s of the port's configured mode (05 R209). -/
def schedSet (rate : Nat → Nat) (c : Ctx) (s : State) : Res :=
  let p := c.r.f 4 0 7
  let v := schedOf c.r
  refuseIf (!okSchedSet c.r || decide (rate p * 1000 < v.slope)) State.stBadParam <|
  s.stageChange c (us 200) false [5] 0 [.sched p v]

/-- The words of SCHED_GET's reply: what SCHED_SET was given for port p (05 R209). -/
def SchedCfg.words (p : Nat) (v : SchedCfg) : List Word :=
  let w := fun i => v.weight.getD i 8
  [word p, word v.strict, word (w 3 * 2 ^ 24 + w 2 * 65536 + w 1 * 256 + w 0), word (w 5 * 256 + w 4), word v.slope,
    word v.hi, word v.lo]

def bodySchedGet (c : Ctx) (s : State) : Res :=
  let p := c.r.f 4 0 7
  refuseIf (!c.r.only 4 0x7F || decide (67 < p)) State.stBadParam <|
  .done s ((s.cfgNow.sched p).words p)

def pauseOf (r : Req) : PauseCfg := { en := r.b 5 31, ceiling := r.f 5 0 17, rearm := r.f 6 0 14 }

/-- The ranges of PAUSE_SET and its reserved bits (05 R210). -/
def okPauseSet (r : Req) : Bool :=
  r.only 4 0x7F && r.only 5 0x8001FFFF && r.only 6 0x3FFF && decide (r.f 4 0 7 ≤ 63)
    && decide (10 ≤ (pauseOf r).ceiling ∧ (pauseOf r).ceiling ≤ 100000)
    && decide (1 ≤ (pauseOf r).rearm ∧ (pauseOf r).rearm ≤ 10000)

def bodyPauseSet (c : Ctx) (s : State) : Res :=
  refuseIf (!okPauseSet c.r) State.stBadParam <|
  s.stageChange c (us 200) false [5] 0 [.pause (c.r.f 4 0 7) (pauseOf c.r)]

def bodyPauseGet (c : Ctx) (s : State) : Res :=
  let p := c.r.f 4 0 7
  refuseIf (!c.r.only 4 0x7F || decide (63 < p)) State.stBadParam <|
  let v := s.cfgNow.pause p
  .done s [word p, word (atBit v.en 31 + v.ceiling), word v.rearm]

def mirrorOf (r : Req) : MirrorCfg := { valid := r.b 4 31, queue := r.f 4 8 3, port := r.f 4 0 7 }

/-- The ranges of MIRROR_SET (05 R211). -/
def okMirrorSet (r : Req) : Bool :=
  r.only 4 0x8000077F && decide ((mirrorOf r).queue ≤ 5) && (decide ((mirrorOf r).port ≤ 64) || (mirrorOf r).port == 67)

def bodyMirrorSet (c : Ctx) (s : State) : Res :=
  refuseIf (!okMirrorSet c.r) State.stBadParam <| s.stageChange c (us 200) false [5] 0 [.mirror (mirrorOf c.r)]

def bodyMirrorGet (_ : Ctx) (s : State) : Res :=
  let v := s.cfgNow.mirror
  .done s [word (atBit v.valid 31 + v.queue * 256 + v.port)]

end Sys2Proof.Machine
end

