-- ==== Sys2Proof/Machine/Courses.lean ====
section
/-! DEFINITION. Course occurrences, swaps, the rebase of egress state, and the course commands
(06 R226 to R257, 02 R55, R622). -/

namespace Sys2Proof.Machine

/-! ### The departure stamp (06 R230, R231) -/

/-- The UDP checksum after bytes of the payload change, in 16-bit words counted from the UDP header. -/
def udpFix (old new : List Byte) (off lo n : Nat) : List Byte :=
  let a := off + (lo - off) / 2 * 2
  let words := (lo + n - a + 1) / 2
  let ck0 := u16 old (off + 6)
  let ck := (List.range words).foldl (fun ck i => sumUpdate ck (u16 old (a + 2 * i)) (u16 new (a + 2 * i))) ck0
  patch new (off + 6) (bytesBE 2 (if ck = 0 then 0xFFFF else ck))

/-- Writes the departure instant into a frame as it leaves; none where the stamp is skipped. -/
def stampFrame (e : Entry) (d : Instant) (bs : List Byte) : Option (List Byte) :=
  if bs.length < e.stampOff + 16 then none
  else
    let body := bodyOf bs
    let new := patch body e.stampOff (State.instantBytes d)
    if !e.udpFix then some (reFcs bs new)
    else
      match (parse bs).ip with
      | none => none
      | some ip =>
        match ip.l4 with
        | none => none
        | some off =>
          if ip.proto ≠ 17 ∨ (parse bs).ports.isNone ∨ e.stampOff < off + 8
              ∨ off + u16 bs (off + 4) < e.stampOff + 12 then none
          else if !ip.v6 && u16 bs (off + 6) == 0 then some (reFcs bs new)
          else some (reFcs bs (udpFix body new off e.stampOff 12))

namespace State

/-- Whether `t` is an occurrence of an entry of the active bank (06 R214). -/
def isOccurrence (c : Course) (e : Entry) (t : Instant) : Bool :=
  decide (c.base + e.offset ≤ t) && (t - (c.base + e.offset)) % ns c.act.len == 0

/-- The number of the course an instant lies in; 0 while the course is idle (06 R249). -/
def courseOf (c : Course) (t : Instant) : Nat :=
  if c.act.idle ∨ t < c.base then 0 else (t - c.base) / ns c.act.len

def setReport (s : State) (p k : Nat) (r : Report) : State :=
  let c := s.course p
  s.setCourse p { c with reports := Tbl.set {} c.reports k r }

/-- Launches a claimed copy at its instant (06 R226, R229): `error` is the departure instant less the instant; `whole`
says whether the frame is whole in the launch stage. The model takes the launch at its key (02 R77, R78). The window stands to its end either way (06 R228, R229). -/
def launch (s : State) (p k : Nat) (c : Copy) (h : Claim) (e : Entry) (error : Nat) (whole : Bool)
    (t : Instant) : State :=
  let no := h.course % 65536
  let s := s.setCourse p { s.course p with lastWin := some (s.windowAt p c.lenNow t) }
  let m := s.model p
  let take := fun (gone : Bool) => s.setModel p { m with
    launched := m.launched ++ [{ at_ := t, fid := c.fid, mirror := c.mirror, gone }] }
  if !whole || !c.ended then
    let s1 := ((take true).countP p 77).setReport p k { status := 5, course := no }
    (s1.setCourse p { s1.course p with missing := true }).raise 0x0302 98 [bytesBE 1 p, bytesBE 2 k] t
  else
    if m.gran ≠ 0 ∧ m.gran * 65536 ≤ error * 1000 then s
    else
      let s2 := (take false).setReport p k { status := if h.late then 2 else 1, course := no, error := error }
      let bs := match s.frame c.fid with | some f => copyBytes f c.tagged c.ce | none => []
      if e.act = .launchStamp then
        match stampFrame e (t + error) bs with
        | some x => s2.emit (.frame p x (t + error))
        | none => (s2.countP p 78).emit (.frame p bs (t + error))
      else s2.emit (.frame p bs (t + error))

end State

/-- A copy holds the claim of an entry's occurrence at `t` (06 R226). -/
def Copy.claims (x : Copy) (entry : Nat) (t : Instant) : Bool :=
  match x.claim with
  | some h => h.entry == entry && h.at_ == t
  | none => false

/-- COURSE_OCCURRENCE: an occurrence of an entry of the active bank arrives (06 R216, R226, R241, R246). To a GATE entry
no copy is ever bound: its record says EMPTY, or DOWN while the port is down (DEDUCED, assumption 130). -/
def execCourseOccurrence (port entry error : Nat) (whole : Bool) (t : Instant) (s : State) :
    Host.Outcome State Fault Refusal :=
  let s1 := (s.tick t).egressPort port t
  let c := s1.course port
  let e := c.act.entry entry
  if 64 ≤ port ∨ 1024 ≤ entry ∨ e.act = .none ∨ !State.isOccurrence c e t then .next s1
  else
    let no := State.courseOf c t % 65536
    if e.act = .gate then
      .next ((s1.setCourse port { c with gates := e.gates }).setReport port entry
        { status := if (s1.model port).up then 3 else 4, course := no })
    else if !(s1.model port).up then .next (s1.setReport port entry { status := 4, course := no })
    else
      let mine := (s1.equeue (q7 port)).copies.find? fun x => x.claims entry t && !s1.isLaunched port x
      match mine with
      | some x =>
        match x.claim with
        | some h => .next ((s1.launch port entry x h e error whole t).runPort port (min t (s1.unitBound 5)))
        | none => .next s1
      | none => .next ((s1.countP port 72).setReport port entry { status := 3, course := no })

/-- WINDOW_RELEASE: the window of an unclaimed occurrence is released 320 ns before its instant; the
port's model may then choose (06 R232). -/
def execWindowRelease (port entry : Nat) (t : Instant) (s : State) : Host.Outcome State Fault Refusal :=
  let s1 := s.tick t
  let c := s1.course port
  let e := c.act.entry entry
  let u := t + ns 320
  let claimed := (s1.equeue (q7 port)).copies.any fun x => x.claims entry u
  if 64 ≤ port ∨ !e.act.launches ∨ !State.isOccurrence c e u ∨ claimed then .next s1
  else .next (s1.egressPort port t)

/-! ### Swaps (06 R237 to R243) -/

namespace State

/-- A committed course whose recorded rate is not the port's is misfit from then on (06 R243). -/
def setMisfit (s : State) (p : Nat) (t : Instant) : State :=
  let c := s.course p
  let m := s.model p
  let bad := m.up && c.rate != 0 && m.rate != c.rate
  if bad = c.misfit then s
  else
    let s1 := s.setCourse p { c with misfit := bad }
    if bad then s1.raise 0x0303 98 [bytesBE 1 p] t else s1

/-- The occurrences of the new bank that a transmission still under way at A makes unavailable
(06 R238). -/
def madeUnavailable (s : State) (p : Nat) (w : SwapPending) : List Instant :=
  let c := s.course p
  let m := s.model p
  match m.tx with
  | none => []
  | some x =>
    if x.cls = 7 ∨ c.swapFrom w ≤ x.start then []
    else
      let len := match s.findCopy (8 * p + x.cls) x.fid x.mirror with | some y => y.lenNow | none => 0
      let e := (match s.txEnd p with | some e => e | none => x.start + txTime m.rate len) + overhead m.rate
      if e ≤ w.a then []
      else
        let n := (e - w.a) / ns c.shadow.len + 1
        c.shadow.entries.flatMap fun k =>
          if k.2.act.launches then
            ((List.range n).map fun i => occAt w.a c.shadow.len k.2.offset i).filter fun u => decide (u < e)
          else []

/-- A copy of the old bank whose target lies at or after A loses its claim (06 R239). -/
def carryOver (p : Nat) (w : SwapPending) (s : State) (c : Copy) : State :=
  match c.claim with
  | none => s
  | some h =>
    if h.at_ < w.a then s
    else if w.carry then
      let s1 := s.updCopy (q7 p) c.fid c.mirror fun x => { x with claim := none }
      s1.rebind p { c with claim := none } h.entry (s1.course p).active w.a w.a w.a
    else s.dropLaunch p c 75 w.a

/-- An event pin in COURSE keeps what the old bank gave it, for pulses whose DELAY reaches past A (11 R455). -/
def pinsAtSwap (s : State) (p : Nat) (a : Instant) : State :=
  let c := s.course p
  { s with tio := { s.tio with pins := s.tio.pins.map fun e =>
      if e.2.cfg.mode = 4 ∧ e.2.cfg.port = p then
        (e.1, { e.2 with oldBank :=
          if c.act.idle then none else some (c.base, c.act.len, (c.act.entry e.2.cfg.entry).offset, a) })
      else e } }

/-- The swap of a port's banks at A (06 R237, R239, R240, R242). -/
def courseSwap (s : State) (p : Nat) (t : Instant) : State :=
  let c := s.course p
  match c.pend with
  | none => s
  | some w =>
    let m := s.model p
    if m.parked && (c.shadow.entries.any fun e => e.2.act.launches) then
      (s.setCourse p { c with pend := none }).finishOpt w.jid stConflict [] t
    else
      let old := (s.equeue (q7 p)).copies.filter fun x => decide (x.stamp < w.a)
      let un := s.madeUnavailable p w
      let new := c.shadow
      let c1 : Course := { c with
        active := 1 - c.active, base := w.a, rate := w.rate, pend := none, reports := []
        gates := gatesOf new w.a w.a, unavailable := un, swapA := w.a, swapCarry := w.carry }
      let c2 := if w.copy then (if c1.active = 0 then { c1 with bank1 := new } else { c1 with bank0 := new }) else c1
      let s1 := ((s.pinsAtSwap p w.a).setCourse p c2).setMisfit p w.a
      let s2 := old.foldl (carryOver p w) s1
      (s2.raise 0x0304 99 [bytesBE 1 p, instantBytes w.a] w.a).finishOpt w.jid stOk w.words (max t w.a)

end State

/-- COURSE_SWAP: at A, which the horizon of the egress units has reached, the shadow bank becomes the active one (06
R239, 02 R622). -/
def execCourseSwap (port : Nat) (t : Instant) (s : State) : Host.Outcome State Fault Refusal :=
  let s1 := s.tick t
  match (s1.course port).pend with
  | some w =>
    let k := min t (s1.unitBound 5)
    if w.a ≤ k then .next ((s1.egressTo w.a t).courseSwap port t) else .next s1
  | none => .next s1

/-! ### The rebase (02 R55, R622; 06 R244) -/

/-- An instant moved by a step; none goes below 0. -/
def moveBy (step : Int) (t : Instant) : Instant := ((t : Int) + step).toNat
def moveOpt (step : Int) : Option Instant → Option Instant
  | some t => some (moveBy step t)
  | none => none
def moveNs (step : Int) (n : Nat) : Nat := ((n : Int) + step / 65536).toNat

def Frame.moved (d : Int) (f : Frame) : Frame :=
  { f with stamp := moveBy d f.stamp, endNs := f.endNs.map (moveNs d) }

def PortModel.moved (d : Int) (m : PortModel) : PortModel :=
  { m with
    tx := m.tx.map fun x => { x with start := moveBy d x.start, prevFree := moveBy d x.prevFree }
    next := m.next.map fun x => { x with start := moveBy d x.start }
    launched := m.launched.map fun x => { x with at_ := moveBy d x.at_ }
    freeAt := moveBy d m.freeAt, creditT := moveBy d m.creditT, c6Until := moveBy d m.c6Until
    parkFrom := moveOpt d m.parkFrom, pauseUntil := moveOpt d m.pauseUntil, pauseFrom := moveBy d m.pauseFrom
    pauseMark := moveBy d m.pauseMark, pauseEnded := moveOpt d m.pauseEnded, ran := moveBy d m.ran
    ignoreUntil := moveOpt d m.ignoreUntil, drainEnd := moveOpt d m.drainEnd
    phys := m.phys.map fun y => { y with
      start := moveBy d y.start, begunAt := moveBy d y.begunAt, ended := moveOpt d y.ended, frame := y.frame.moved d } }

/-- Items that carry an instant of their own: grout holds bits [31:0] of a horizon. -/
def Item.moved (d : Int) : Item → Item
  | .lead f => .lead f
  | .fin f => .fin f
  | .grout v => .grout (((v : Int) + d / 65536) % 4294967296).toNat
  | .fence f => .fence (moveNs d f)
  | .notice n e => .notice { n with stamp := moveBy d n.stamp } (moveNs d e)

def MergeIn.moved (d : Int) (m : MergeIn) : MergeIn :=
  { m with hz := nsFloor (moveBy d (ns m.hz)), lastT := if m.lastT = 0 then 0 else moveBy d m.lastT
           items := m.items.map (Item.moved d) }

/-- The fabric's instants of the old timescale: horizons, stamps, open fences. -/
def Fabric.moved (d : Int) (f : Fabric) : Fabric :=
  { f with
    inputs := f.inputs.map fun e => (e.1, e.2.moved d)
    outs := f.outs.map fun e => (e.1, e.2.map (Item.moved d))
    frames := f.frames.map fun e => (e.1, e.2.map (Frame.moved d))
    lastStamp := f.lastStamp.map fun e => (e.1, moveOpt d e.2)
    sentHz := f.sentHz.map fun e => (e.1, moveNs d e.2)
    injEnd := f.injEnd.map fun e => (e.1, moveBy d e.2)
    fences := f.fences.map fun r => { r with f := moveNs d r.f, left := r.left.map fun e => (e.1, moveBy d e.2) }
    admHz := nsFloor (moveBy d (ns f.admHz)) }

/-- A course after a step: its boundaries stay, its gates are those of the new instant, and what tells old copies from
new moves with their stamps (06 R244, R249). -/
def Course.moved (d : Int) (now : Instant) (c : Course) : Course :=
  { c with
    gates := gatesOf c.act c.base now, swapA := moveBy d c.swapA
    lastWin := c.lastWin.map fun w => (moveBy d w.1, moveBy d w.2) }

def Copy.moved (d : Int) (c : Copy) : Copy :=
  { c with stamp := moveBy d c.stamp, endAt := moveBy d c.endAt, claimPt := moveOpt d c.claimPt }

namespace State

/-- Every claim on every port is dropped and its copy removed as LAUNCH_STEP (06 R244). -/
def dropClaims (s : State) (key : Instant) : State :=
  (List.range 64).foldl (fun s p =>
    ((s.equeue (q7 p)).copies.filter fun c => c.claim.isSome).foldl (fun s c =>
      if s.inTx p 7 c then s else s.dropLaunch p c 76 key) s) s

/-- Whether an item keyed before S still waits at a merge point or for a unit. -/
def heldBefore (s : State) (key : Instant) : Bool :=
  let old := fun (it : Item) => match s.itemKey it with
    | some k => decide (k.1 < key)
    | none => false
  s.fab.inputs.any (fun e => !e.2.stalled && e.2.items.any old) || s.fab.outs.any fun e => e.2.any old

/-- A bank swap that a forward step skips applies at the rebase; every copy held then belongs to the old bank (06 R244,
02 R622). -/
def skipSwap (r : RebaseRun) (upto t : Instant) (s : State) (p : Nat) : State :=
  match (s.course p).pend with
  | some w =>
    if w.a ≤ upto then
      let s1 := s.courseSwap p t
      if (s1.course p).pend.isNone then s1.setCourse p { s1.course p with swapA := r.s } else s1
    else s
  | none => s

/-- A digest run whose end a forward step skips ends at the rebase (02 R86). -/
def skipDigest (upto t : Instant) (s : State) : State :=
  match s.fab.digest with
  | some d => if d.until_ ≤ upto then s.digestEnd t else s
  | none => s

/-- The fabric's part of a step: the models run up to S, what a forward step skips applies; horizons, models and stamps
move (02 R55, R622). -/
def rebase (s : State) (r : RebaseRun) (t : Instant) : State :=
  let d := r.step
  let upto := if 0 < d then moveBy (d - 1) r.s else r.s - 1
  let s1 := (s.runAll r.s).applyAllUnits upto r.s t
  let s2 := (List.range 64).foldl (skipSwap r upto t) s1
  let s3 := (s2.dropClaims r.s).skipDigest upto t
  let fab := { s3.fab.moved d with rebase := none }
  let egr := { s3.egr with
    models := s3.egr.models.map fun e => (e.1, e.2.moved d)
    queues := s3.egr.queues.map fun e => (e.1, { e.2 with copies := e.2.copies.map (Copy.moved d) }) }
  let crs := { s3.crs with engines := s3.crs.engines.map fun e => (e.1, e.2.moved d (moveBy d r.s)) }
  { s3 with fab := fab, egr := egr, crs := crs }

end State

/-- REBASE: after a step of TK time, once every item keyed before S is released (02 R55). -/
def execRebase (t : Instant) (s : State) : Host.Outcome State Fault Refusal :=
  let s1 := s.tick t
  match s1.fab.rebase with
  | none => .next s1
  | some r => if s1.heldBefore r.s then .next s1 else .next (s1.rebase r t)

/-! ### Commands (06 R250 to R256) -/

/-- The port of a course command, where it is one of 0 to 63. -/
def coursePort (r : Req) : Nat := r.f 4 0 7

/-- Changes the shadow bank of a port. -/
def State.setShadow (s : State) (p : Nat) (f : Bank → Bank) : State :=
  let c := s.course p
  s.setCourse p (if c.active = 0 then { c with bank1 := f c.bank1 } else { c with bank0 := f c.bank0 })

/-- A front port and a length of 2,000 to 1,000,000,000 ns (06 R251). -/
def okCourseSet (r : Req) : Bool :=
  r.only 4 0x7F && decide (coursePort r ≤ 63) && r.only 5 0x3FFFFFFF && decide (2000 ≤ r.f 5 0 30 ∧ r.f 5 0 30 ≤ 1000000000)
def okCourseClear (r : Req) : Bool := r.only 4 0x7F && decide (coursePort r ≤ 63)

def bodyCourseSet (c : Ctx) (s : State) : Res :=
  let p := coursePort c.r
  refuseIf (s.course p).pend.isSome State.stState <|
  refuseIf (!okCourseSet c.r) State.stBadParam <|
  .done (s.setShadow p fun b => { b with len := c.r.f 5 0 30 })

def bodyCourseClear (c : Ctx) (s : State) : Res :=
  let p := coursePort c.r
  refuseIf (s.course p).pend.isSome State.stState <|
  refuseIf (!okCourseClear c.r) State.stBadParam <|
  .done (s.setShadow p fun b => { b with entries := [] })

def actOf : Nat → Act
  | 0 => .none | 1 => .launch | 2 => .launchStamp | _ => .gate
def Act.code : Act → Nat
  | .none => 0 | .launch => 1 | .launchStamp => 2 | .gate => 3

/-- One entry from its three words (06 R252). -/
def entryOf (r : Req) (i : Nat) : Entry :=
  { offset := ns (r.f i 0 30) + r.f (i + 1) 16 16, act := actOf (r.f (i + 1) 14 2), lateDrop := r.b (i + 1) 13
    udpFix := r.b (i + 1) 12, gates := r.f (i + 1) 0 7, stampOff := r.f (i + 2) 16 14, slot := r.f (i + 2) 0 14 }

def Entry.words (e : Entry) : List Word :=
  [word (nsFloor e.offset), word (e.offset % 65536 * 65536 + e.act.code * 16384 + atBit e.lateDrop 13
    + atBit e.udpFix 12 + e.gates), word (e.stampOff * 65536 + e.slot)]

/-- The ranges of an entry, and 0 in the fields its action does not use (06 R217). -/
def Entry.okFor (e : Entry) (len : Nat) : Bool :=
  decide (nsFloor e.offset < len) &&
  match e.act with
  | .none => !e.lateDrop && !e.udpFix && e.gates == 0 && e.stampOff == 0 && e.slot == 0
  | .gate => !e.lateDrop && !e.udpFix && e.stampOff == 0 && e.slot == 0
  | .launch => !e.udpFix && e.gates == 0 && e.stampOff == 0 && decide (64 ≤ e.slot ∧ e.slot ≤ 9226)
  | .launchStamp => e.gates == 0 && decide (64 ≤ e.slot ∧ e.slot ≤ 9226)
      && decide (14 ≤ e.stampOff ∧ e.stampOff + 16 ≤ e.slot)

/-- COUNT entries from FIRST on, each in range for a bank of length `len` (06 R217, R252). -/
def okCourseEntrySet (r : Req) (len : Nat) : Bool :=
  let n := r.f 4 16 7
  r.only 4 0x7F007F && r.only 5 0x3FF && decide (coursePort r ≤ 63) && decide (1 ≤ n ∧ n ≤ 64)
    && decide (r.f 5 0 10 + n ≤ 1024)
    && (List.range n).all fun i => r.only (6 + 3 * i) 0x3FFFFFFF && r.only (7 + 3 * i) 0xFFFFF07F
      && r.only (8 + 3 * i) 0x3FFF3FFF && (entryOf r (6 + 3 * i)).okFor len

/-- Writes the packet's entries into a bank's table. -/
def putEntries (r : Req) (t : Tbl Entry) : Tbl Entry :=
  (List.range (r.f 4 16 7)).foldl (fun t i => Tbl.set {} t (r.f 5 0 10 + i) (entryOf r (6 + 3 * i))) t

def bodyCourseEntrySet (c : Ctx) (s : State) : Res :=
  let p := coursePort c.r
  refuseIf (s.course p).pend.isSome State.stState <|
  refuseIf (!okCourseEntrySet c.r (s.course p).shadow.len) State.stBadParam <|
  .done (s.setShadow p fun b => { b with entries := putEntries c.r b.entries })

/-- The relations that a bank must meet at its commit (06 R218, R253). -/
def bankOk (b : Bank) (rate : Nat) : Bool :=
  let launches := b.entries.filter fun e => e.2.act.launches
  let gates := b.entries.filter fun e => e.2.act == .gate
  let c := ns b.len
  (b.entries.all fun e => decide (e.2.offset < c))
    && (launches.all fun e => decide (e.2.offset + windowLen rate e.2.slot ≤ c)
        && (e.2.act != .launchStamp || decide (e.2.stampOff + 16 ≤ e.2.slot)))
    && (launches.all fun e => launches.all fun f => e.1 == f.1
        || decide (e.2.offset + windowLen rate e.2.slot ≤ f.2.offset)
        || decide (f.2.offset + windowLen rate f.2.slot ≤ e.2.offset))
    && (gates.all fun e => gates.all fun f => e.1 == f.1 || e.2.offset != f.2.offset)

/-- A is a boundary of the course that runs, or none runs (06 R253). -/
def commitBoundary (co : Course) (a : Instant) : Bool :=
  co.act.idle || (decide (co.base ≤ a) && (a - co.base) % ns co.act.len == 0)
/-- The instant from which the minimum lead counts. -/
def commitStart (co : Course) (a : Instant) : Instant := if co.act.idle then a else a - ns co.act.len
/-- MAX_RESIDENCE is shorter than twice the course (02 R54). -/
def commitTooLong (s : State) (sh : Bank) (a : Instant) : Bool :=
  decide (s.cfgPlanned.maxRes * 1000 < 2 * sh.len) || decide ((s.cfgAt a).maxRes * 1000 < 2 * sh.len)
def launchEntries (sh : Bank) : Tbl Entry := sh.entries.filter fun e => e.2.act.launches
/-- The reply of COURSE_COMMIT: launches, the ns reserved, gates. -/
def commitWords (sh : Bank) (rate : Nat) : List Word :=
  [word (launchEntries sh).length,
   word (nsCeil (txTime rate ((launchEntries sh).foldl (fun n e => n + (e.2.slot + 20)) 0))),
   word (sh.entries.filter fun e => e.2.act == .gate).length]

/-- COURSE_COMMIT, given the payload rate of the configured line mode, whether the port is allowed to
park, and whether an event pin in COURSE mode would have overlapping pulses (06 R253, R242; 11 R455). -/
def courseCommit (rate : Nat → Nat) (parkEn : Nat → Bool) (pinClash : Nat → Bank → Instant → Bool)
    (c : Ctx) (s : State) : Res :=
  let r := c.r
  let p := coursePort r
  let co := s.course p
  let sh := co.shadow
  match c.a with
  | none => .fail State.stBadParam
  | some a =>
    refuseIf (!r.only 4 0xC000007F || decide (63 < p) || !commitBoundary co a) State.stBadParam <|
    refuseIf (!bankOk sh (rate p) || commitTooLong s sh a
        || (!(launchEntries sh).isEmpty && (parkEn p || (s.model p).parked)) || pinClash p sh a) State.stConflict <|
    refuseIf co.pend.isSome State.stBusy <|
    refuseIf (decide (commitStart co a < c.t + us 500)) State.stTooLate <|
    let words := commitWords sh (rate p)
    .wait (s.setCourse p { co with
      pend := some { a := a, carry := r.b 4 31, copy := r.b 4 30, rate := rate p, jid := some c.jid, words := words } }) words

/-- The reply of COURSE_GET: length, base and recorded rate of the active bank, length of the shadow bank (06 R254). -/
def courseGetWords (co : Course) (sh : Bool) : List Word :=
  [word (if sh then co.shadow else co.act).len]
    ++ (if sh || co.act.idle then [0, 0, 0, 0] else instantWords co.base) ++ [word (if sh then 0 else co.rate)]

def bodyCourseGet (c : Ctx) (s : State) : Res :=
  let p := coursePort c.r
  refuseIf (!c.r.only 4 0x17F || decide (63 < p)) State.stBadParam <|
  .done s (word (c.r.w 4) :: courseGetWords (s.course p) (c.r.b 4 8))

/-- COUNT and FIRST in range (06 R252, R255, R256). -/
def rangeOk (r : Req) (mask : Nat) : Bool :=
  r.only 4 mask && r.only 5 0x3FF && decide (coursePort r ≤ 63)
    && decide (1 ≤ r.f 4 16 7 ∧ r.f 4 16 7 ≤ 64) && decide (r.f 5 0 10 + r.f 4 16 7 ≤ 1024)

def bodyCourseEntryGet (c : Ctx) (s : State) : Res :=
  let r := c.r
  refuseIf (!rangeOk r 0x7F017F) State.stBadParam <|
  let co := s.course (coursePort r)
  let b := if r.b 4 8 then co.shadow else co.act
  .done s ([word (r.w 4), word (r.w 5)]
    ++ (List.range (r.f 4 16 7)).flatMap fun i => (b.entry (r.f 5 0 10 + i)).words)

/-- The two words of a report: the outcome and the course, and the error of a launch (06 R256). -/
def Report.words (x : Report) : List Word :=
  [word (x.status * 2 ^ 29 + x.course), word (if x.status = 1 ∨ x.status = 2 then x.error else 0)]

def bodyCourseReportGet (c : Ctx) (s : State) : Res :=
  let r := c.r
  refuseIf (!rangeOk r 0x7F007F) State.stBadParam <|
  let co := s.course (coursePort r)
  .done s ([word (r.w 4), word (r.w 5)]
    ++ (List.range (r.f 4 16 7)).flatMap fun i => (Tbl.get ({} : Report) co.reports (r.f 5 0 10 + i)).words)

end Sys2Proof.Machine
end

