-- ==== Sys2Proof/Machine/TimeStep.lean ====
section
/-! DEFINITION. Accessors of the keepers, the bond, link timing, lanes and timed I/O, and what a step of
TK time does to the whole device (07 R284; 02 R55; 08 R319, R323; 11 R459, R476; 13 R535). -/

namespace Sys2Proof

def Tk.code : Tk → Nat
  | .a => 0 | .b => 1
def Tk.other : Tk → Tk
  | .a => .b | .b => .a

namespace Machine

/-- The servo cycle, 1/1,024 s, in sub-ns units (07 R263). -/
def servoPeriod : Nat := 64000000000
/-- The first servo cycle at or after an instant. -/
def servoFrom (t : Instant) : Instant := (t + (servoPeriod - 1)) / servoPeriod * servoPeriod
/-- The number of the mark of a servo cycle (08 R310). -/
def markNumber (t : Instant) : Nat := t / servoPeriod
/-- An AON tick, 1/32,768 s, in sub-ns units (01 R14, R16). -/
def aonTick : Nat := 2000000000

/-- What the tolerance of the AON oscillator takes off an interval at most: 100 ppm while XO trims it, 1 % on its last
trim or before the first (01 R16). -/
def aonShort (trimmed : Bool) (d : Nat) : Nat := if trimmed then d / 10000 else d / 100

def KCond.runs : KCond → Bool
  | .run => true | .trim _ => true | .watch _ => true | _ => false

namespace State

/-! ### Accessors -/

def keeper (s : State) : Tk → Keeper
  | .a => s.tk.a
  | .b => s.tk.b
def setKeeper (s : State) (k : Tk) (v : Keeper) : State :=
  match k with
  | .a => { s with tk := { s.tk with a := v } }
  | .b => { s with tk := { s.tk with b := v } }
def setBond (s : State) (v : Bond) : State := { s with tk := { s.tk with bond := v } }
def bk (s : State) : Tk → BondKeeper
  | .a => s.tk.bond.ka
  | .b => s.tk.bond.kb
def setBk (s : State) (k : Tk) (v : BondKeeper) : State :=
  match k with
  | .a => s.setBond { s.tk.bond with ka := v }
  | .b => s.setBond { s.tk.bond with kb := v }
/-- The earliest end of an interval counted in AON ticks: how long its ticks are within their tolerance the spec leaves
open, so the interval may end from there on, and the event that ends it says when (01 R16; DESIGN CHOICE, assumption
137). -/
def aonLeast (s : State) (d : Nat) : Nat := d - aonShort (s.tk.aonTrim.isSome && !s.tk.xoLost) d
/-- The leaseholder (09 R355). -/
def holder (s : State) : Option Tk := s.tk.bond.holder
/-- A keeper counts. -/
def runs (s : State) (k : Tk) : Bool := (s.bk k).cond.runs
/-- d of R264: a keeper's time minus the stamp timescale, 0 for the holder. -/
def dOf (s : State) (k : Tk) : Int :=
  if s.holder = some k then 0
  else match k with
  | .a => s.tk.bond.dA
  | .b => s.tk.bond.dB
def setD (s : State) (k : Tk) (d : Int) : State :=
  match k with
  | .a => s.setBond { s.tk.bond with dA := d }
  | .b => s.setBond { s.tk.bond with dB := d }
def cand (s : State) (i : Nat) : Cand := Tbl.get {} s.tk.cands i
def candSt (s : State) (i : Nat) : CandState := Tbl.get {} s.tk.candSt i
def setCandSt (s : State) (i : Nat) (v : CandState) : State :=
  { s with tk := { s.tk with candSt := Tbl.set {} s.tk.candSt i v } }
def refCfg (s : State) (i : Nat) : RefCfg := Tbl.get {} s.tk.refCfg i
def refSt (s : State) (i : Nat) : RefState := Tbl.get {} s.tk.refSt i
def setRefSt (s : State) (i : Nat) (v : RefState) : State :=
  { s with tk := { s.tk with refSt := Tbl.set {} s.tk.refSt i v } }
def servoCfg (s : State) (i : Nat) : ServoCfg := Tbl.get (ServoCfg.reset i) s.tk.servo i
def ptpCfg (s : State) (p : Nat) : PtpCfg := Tbl.get {} s.tk.ptpCfg p
def ptpSt (s : State) (p : Nat) : PtpState := Tbl.get {} s.tk.ptp p
def setPtpSt (s : State) (p : Nat) (v : PtpState) : State :=
  { s with tk := { s.tk with ptp := Tbl.set {} s.tk.ptp p v } }
def synceCfg (s : State) (p : Nat) : SynceCfg := Tbl.get {} s.tk.synceCfg p
def esmc (s : State) (p : Nat) : EsmcState := Tbl.get {} s.tk.esmc p
def setEsmc (s : State) (p : Nat) (v : EsmcState) : State :=
  { s with tk := { s.tk with esmc := Tbl.set {} s.tk.esmc p v } }
def tkFlag (s : State) (bit : Nat) : State :=
  { s with tk := { s.tk with flags := s.tk.flags ||| BitVec.ofNat 6 (2 ^ bit) } }
def bondFlag (s : State) (bit : Nat) : State :=
  s.setBond { s.tk.bond with flags := s.tk.bond.flags ||| BitVec.ofNat 6 (2 ^ bit) }
def link (s : State) (p : Nat) : Link := Tbl.get {} s.lt.links p
def setLink (s : State) (p : Nat) (v : Link) : State :=
  { s with lt := { s.lt with links := Tbl.set {} s.lt.links p v } }
def vernier (s : State) (q : Nat) : Vernier := Tbl.get {} s.lt.verniers q
def setVernier (s : State) (q : Nat) (v : Vernier) : State :=
  { s with lt := { s.lt with verniers := Tbl.set {} s.lt.verniers q v } }
def quad (s : State) (q : Nat) : Quad := Tbl.get {} s.lan.quads q
def setQuad (s : State) (q : Nat) (v : Quad) : State :=
  { s with lan := { s.lan with quads := Tbl.set {} s.lan.quads q v } }
def bus (s : State) (q : Nat) : I2cBus := Tbl.get {} s.lan.buses q
def setBus (s : State) (q : Nat) (v : I2cBus) : State :=
  { s with lan := { s.lan with buses := Tbl.set {} s.lan.buses q v } }
def sensor (s : State) (i : Nat) : Sensor := Tbl.get {} s.lan.sensors i
def setSensor (s : State) (i : Nat) (v : Sensor) : State :=
  { s with lan := { s.lan with sensors := Tbl.set {} s.lan.sensors i v } }
def pin (s : State) (p : Nat) : EvtPin := Tbl.get {} s.tio.pins p
def setPin (s : State) (p : Nat) (v : EvtPin) : State :=
  { s with tio := { s.tio with pins := Tbl.set {} s.tio.pins p v } }
def chan (s : State) (c : Nat) : TimChan := Tbl.get {} s.tio.chans c
def setChan (s : State) (c : Nat) (v : TimChan) : State :=
  { s with tio := { s.tio with chans := Tbl.set {} s.tio.chans c v } }
def cko (s : State) (n : Nat) : Cko := Tbl.get {} s.tio.ckos n
def setCko (s : State) (n : Nat) (v : Cko) : State :=
  { s with tio := { s.tio with ckos := Tbl.set {} s.tio.ckos n v } }

/-- Item i of a keeper (13 R551). -/
def countK (s : State) (k : Tk) (i : Nat) : State := s.count (0x7E00 + 16 * k.code + i)
/-- Item i of an event pin. -/
def countE (s : State) (p i : Nat) (n : Nat := 1) : State := s.count (0x7E40 + 8 * p + i) n
/-- Item i of an interval channel. -/
def countT (s : State) (c i : Nat) : State := s.count (0x7E80 + 8 * c + i)
/-- Item i of a clock output. -/
def countO (s : State) (o i : Nat) : State := s.count (0x7EA0 + 4 * o + i)

/-- A port's line is Tuireane, by the mode of its last entry into ACTIVE (10 R435). -/
def isTl (s : State) (p : Nat) : Bool := (s.lane p).rate == 3 || (s.lane p).rate == 4
def isActive (s : State) (p : Nat) : Bool := (s.lane p).state == .active

end State

/-! ### Intervals across a step (assumption 5)

A step moves the timescale and no happening outside. Instants that bound an interval counted on XO or on
the keepers' own cycles move with it, so that the interval keeps its length. -/

def Keeper.moved (d : Int) (k : Keeper) : Keeper :=
  let pair := fun (x : Instant × Int) => (moveBy d x.1, x.2)
  { k with
    meas := k.meas.map pair, closedAt := moveBy d k.closedAt, lastUsed := moveOpt d k.lastUsed
    used := k.used.map pair, steers := k.steers.map pair, lockedAt := moveBy d k.lockedAt
    lockSumAt := moveBy d k.lockSumAt, holdFrom := moveOpt d k.holdFrom
    buildPrev := k.buildPrev.map (· + d) }

def BondKeeper.moved (d : Int) (k : BondKeeper) : BondKeeper := 
  { k with attempts := k.attempts.map (moveBy d), fails := k.fails.map (moveBy d) }
def Cell.moved (d : Int) (c : Cell) : Cell := { c with reloads := c.reloads.map (moveBy d) }

def Bond.moved (d : Int) (b : Bond) : Bond :=
  { b with
    ka := b.ka.moved d, kb := b.kb.moved d, renewed := moveBy d b.renewed
    cell0 := b.cell0.moved d, cell1 := b.cell1.moved d, cell2 := b.cell2.moved d }

def Keepers.moved (d : Int) (k : Keepers) : Keepers :=
  { k with
    a := k.a.moved d, b := k.b.moved d, voteAt := moveBy d k.voteAt, aonTrim := moveOpt d k.aonTrim
    candSt := k.candSt.map fun e => (e.1, { e.2 with since := moveBy d e.2.since })
    refSt := k.refSt.map fun e => (e.1, { e.2 with
      lastPps := moveOpt d e.2.lastPps, phase := e.2.phase.map (· + d), ppsOff := none })
    ptp := k.ptp.map fun e => (e.1, { e.2 with
      announce := e.2.announce.map fun a => (a.1, a.2.1, a.2.2.1, moveBy d a.2.2.2)
      sync := none, t12 := none, req := none, resp := none, prevPair := none, offset := none })
    esmc := k.esmc.map fun e => (e.1, { e.2 with at_ := moveBy d e.2.at_ })
    bond := k.bond.moved d }

def HostState.moved (d : Int) (h : HostState) : HostState :=
  { h with
    sem := { h.sem with expiry := moveBy d h.sem.expiry }
    slots := h.slots.map fun e => (e.1, e.2.map fun n => { n with t := moveBy d n.t, until_ := moveBy d n.until_ })
    batch := h.batch.map fun e => (e.1, moveBy d e.2) }

def CoresState.moved (d : Int) (c : CoresState) : CoresState :=
  { c with
    ac0 := { c.ac0 with lastKick := moveBy d c.ac0.lastKick }
    ac1 := { c.ac1 with lastKick := moveBy d c.ac1.lastKick }
    limiter := c.limiter.map fun e => (e.1, moveBy d e.2) }

def Faults.moved (d : Int) (f : Faults) : Faults :=
  { f with restarts0 := f.restarts0.map (moveBy d), restarts1 := f.restarts1.map (moveBy d)
           since := moveOpt d f.since, coolFrom := moveBy d f.coolFrom }

def Lane.moved (d : Int) (l : Lane) : Lane :=
  { l with since := moveBy d l.since, parkFrom := moveOpt d l.parkFrom, exitFrom := moveOpt d l.exitFrom
           heldUntil := moveOpt d l.heldUntil }

/-- Slots of timing frames: one already due stays due (08 R319). -/
def Slot.moved (now : Instant) (d : Int) (x : Slot) : Slot :=
  { x with stepped := true, at_ := if x.at_ ≤ now then min x.at_ (moveBy d now) else x.at_ }

/-- Marks still waiting keep their wait; a departure in the old timescale is no measurement's (08 R336). -/
def Link.moved (now : Instant) (d : Int) (l : Link) : Link :=
  { l with slots := l.slots.map (Slot.moved now d)
           marks := l.marks.map fun m => if m.dep.isSome then m else { m with at_ := moveBy d m.at_ } }

namespace State

/-- Moves every instant that bounds an interval counted outside TK time. -/
def moveIntervals (s : State) (d : Int) : State :=
  { s with
    tk := s.tk.moved d
    lt := { s.lt with links := s.lt.links.map fun e => (e.1, e.2.moved s.now d)
                      first := s.lt.first.map fun f => { f with at_ := moveBy d f.at_ } }
    host := s.host.moved d
    cores := s.cores.moved d
    flt := s.flt.moved d
    lan := { s.lan with lanes := s.lan.lanes.map fun e => (e.1, e.2.moved d) }
    pwr := { s.pwr with update := s.pwr.update.map fun u => { u with last := moveBy d u.last } } }

/-- A timer whose instant a forward step to `now'` skips fires once and reloads (13 R535). -/
def stepTimer (s : State) (t : Target) (src : Nat) (now' : Instant) (get : EvcTarget → EvcTimer)
    (put : EvcTarget → EvcTimer → EvcTarget) : State :=
  let tm := get (s.target t)
  match tm.next with
  | none => s
  | some c =>
    if c < s.now ∨ now' ≤ c then s
    else
      let n := if tm.per = 0 then none else some (c + ((now' - c) / ns tm.per + 1) * ns tm.per)
      (s.setTarget t (put (s.target t) { tm with next := n })).raisePrivate t src

def stepTimers (s : State) (now' : Instant) : State :=
  [Target.h0, .h1, .cc0, .cc1, .ac0, .ac1].foldl (fun s t =>
    (s.stepTimer t 160 now' (fun v => v.timer0) (fun v x => { v with timer0 := x })).stepTimer t 161 now'
      (fun v => v.timer1) (fun v x => { v with timer1 := x })) s

/-- Event pins at a step: the next record carries STEPPED; a forward step drops the queued edges that it
skips (11 R459). -/
def stepPins (s : State) (now' : Instant) : State :=
  (List.range 8).foldl (fun s p =>
    let v := s.pin p
    let skip := fun (e : Instant × Bool) => decide (s.now ≤ e.1 ∧ e.1 < now')
    let n := (v.queue.filter skip).length
    (s.setPin p { v with stepped := true, queue := v.queue.filter (fun e => !skip e) }).countE p 6 n) s

/-- Every RUNNING output re-aligns to Φ in the new timescale (11 R476). -/
def stepCkos (s : State) : State :=
  (List.range 8).foldl (fun s o =>
    let v := s.cko o
    if v.state = .running then (s.setCko o { v with stepEv := true }).countO o 2 else s) s

/-- A step of the stamp timescale by `d` at the present instant, as the fabric and every unit but the
keepers' own counters take it. -/
def stampStep (s : State) (d : Int) : State :=
  if d = 0 then s
  else
    let now' := moveBy d s.now
    let s0 := match s.fab.rebase with
      | some r => s.rebase r s.now
      | none => s
    let s1 := ((s0.stepTimers now').stepPins now').stepCkos
    let g := (((s1.tk.grid5 : Int) + 5 * d) % 524288).toNat
    let s2 := s1.moveIntervals d
    { s2 with
      now := now'
      fab := { s2.fab with rebase := some ⟨s.now, d⟩ }
      tk := { s2.tk with grid5 := g }
      lt := { s2.lt with stepped := true, steps := s2.lt.steps + 1 } }

/-- Both keepers step, each by its own amount; the stamp timescale steps with the leaseholder (07 R284).
`da` and `db` are the steps of TK-A and TK-B. -/
def keeperStep (s : State) (da db : Int) : State :=
  let lead := match s.holder with | some .b => db | _ => da
  let cnt := fun (s : State) (k : Tk) => if s.runs k then s.countK k 3 else s
  let s1 := cnt (cnt s .a) .b
  (s1.setBond { s1.tk.bond with
    dA := s1.tk.bond.dA + da - lead, dB := s1.tk.bond.dB + db - lead }).stampStep lead

end State
end Machine
end Sys2Proof
end

