-- ==== Sys2Proof/Machine/Servo.lean ====
section
/-! DEFINITION. One keeper's servo, lock test, refusals, memory and holdover estimate (07 R261, R272 to
R286). The integrator i is held in units of the steering word × 2^-64, and π and the square roots of R273
to 30 decimal places (assumption 40). -/

namespace Sys2Proof.Machine

/-- The clamp of the steering word, ±200 ppm (07 R261). -/
def steerMax : Int := 819200000000
def clampSteer (x : Int) : Int := max (-steerMax) (min steerMax x)
/-- The unit of i below the steering word. -/
def fineUnit : Int := 18446744073709551616
/-- Steering units for one of fractional frequency: 4.096 × 10^15 (07 R273). -/
def steerUnit : Int := 4096000000000000
/-- Decimal places of the constants below. -/
def dec30 : Nat := 1000000000000000000000000000000
/-- π × 10^30. -/
def pi30 : Nat := 3141592653589793238462643383279

/-- The natural frequency wn of R273 in rad/s × 10^30, from the bandwidth in µHz and ζ in tenths. -/
def omega30 (v : ServoCfg) : Nat :=
  let a := 50 + v.damping * v.damping                            -- 50 (1 + 2ζ²)
  let r := isqrt ((a * a + 2500) * (dec30 * dec30))              -- 50 sqrt((1 + 2ζ²)² + 1) × 10^30
  let d := isqrt ((a * dec30 + r) * dec30 / 50)                  -- the outer root × 10^30
  2 * pi30 * v.bandwidth * dec30 / (d * 1000000)

/-- 8 loop time constants, at least 50 ms, in sub-ns units (07 R275). -/
def dwellOf (v : ServoCfg) : Nat :=
  max (ms 50) (8 * sec 1 * 1000000 * dec30 / (2 * pi30 * v.bandwidth))

/-- wn² × T × e in the units of i: T and e in sub-ns units. -/
def integralTerm (v : ServoCfg) (T : Nat) (e : Int) : Int :=
  let w := omega30 v
  divRound ((w * w * T : Nat) * e * steerUnit * fineUnit) (dec30 * dec30 * (sec 1 * sec 1))
/-- 2ζ × wn × e in the units of i. -/
def proportionalTerm (v : ServoCfg) (e : Int) : Int :=
  divRound ((2 * v.damping * omega30 v : Nat) * e * steerUnit * fineUnit) (10 * dec30 * sec 1)

/-- Takes a new steering word, keeping its history (07 R275, R285). -/
def Keeper.steerTo (k : Keeper) (x : Int) (t : Instant) : Keeper :=
  if k.steer = x then k
  else { k with
    steer := x
    steers := (t, x) :: k.steers
    lockSum := k.lockSum + k.steer * ((t : Int) - k.lockSumAt)
    lockSumAt := t }

/-- One update of R273, with the offset e. -/
def Keeper.update (k : Keeper) (v : ServoCfg) (e : Int) (t : Instant) : Keeper × Bool :=
  let T := match k.lastUsed with | some u => t - u | none => servoPeriod
  let i := k.integ - integralTerm v T e
  let x := divRound (i - proportionalTerm v e) fineUnit.toNat
  let k1 := { k with lastUsed := some t, used := (t, e) :: k.used, offset := e }
  if x < -steerMax ∨ steerMax < x then (k1.steerTo (clampSteer x) t, true)
  else ({ k1 with integ := i }.steerTo x t, false)

/-- The slope of a least-squares fit, in steering units: e and time in sub-ns units (07 R278). -/
def fitSlope (ms : List (Instant × Int)) : Int :=
  let n : Int := ms.length
  let st := ms.foldl (fun a x => a + (x.1 : Int)) 0
  let se := ms.foldl (fun a x => a + x.2) 0
  let stt := ms.foldl (fun a x => a + (x.1 : Int) * x.1) 0
  let ste := ms.foldl (fun a x => a + (x.1 : Int) * x.2) 0
  divRound ((n * ste - st * se) * steerUnit) (n * stt - st * st).toNat

/-- The mean of integers, rounded to the nearest. -/
def meanOf (xs : List Int) : Int := divRound (xs.foldl (· + ·) 0) xs.length

/-- The values S has taken from an instant on, the one in force at it included. -/
def steersFrom (u : Instant) : List (Instant × Int) → List Int
  | [] => []
  | (a, x) :: r => if u < a then x :: steersFrom u r else [x]

/-- The lock condition of R275; `carries` says that the input carries time and uses LOCK_PHASE. -/
def Keeper.lockHolds (k : Keeper) (v : ServoCfg) (carries : Bool) (t : Instant) : Bool :=
  let from_ := t - dwellOf v
  let es := k.used.filter fun x => decide (from_ ≤ x.1)
  let ss := k.steer :: steersFrom from_ k.steers
  let hi := ss.foldl max k.steer
  let lo := ss.foldl min k.steer
  k.loop == .closed && decide (k.closedAt + dwellOf v ≤ t) && !es.isEmpty
    && (!carries || es.all fun x => decide (x.2.natAbs * 1000 ≤ v.lockPhase * 65536))
    && decide (hi - lo ≤ (v.lockFreq * 4096 : Nat))

/-- The integral of S from `u` on, by the changes of S from newest to oldest, up to `t`. -/
def steerIntegral (u : Instant) (now : Int) : Instant → List (Instant × Int) → Int
  | t, [] => now * ((t : Int) - u)
  | t, (a, x) :: r =>
    if a ≤ u then x * ((t : Int) - u) else if t ≤ a then steerIntegral u now t r
    else x * ((t : Int) - a) + steerIntegral u now a r

/-- What leaving LOCKED at `t` does to the memory (07 R285). -/
def Keeper.takeMemory (k : Keeper) (c : KeeperCfg) (t : Instant) : Keeper :=
  let b := t - sec c.memGuard
  let a := b - sec c.memWindow
  if sec (c.memGuard + c.memWindow) ≤ t ∧ k.lockedAt ≤ a then
    { k with memory := divRound (steerIntegral a k.steer b k.steers) (b - a), memValid := true }
  else k

/-- The mean of S over the LOCKED interval (07 R277). -/
def Keeper.lockMean (k : Keeper) (t : Instant) : Int :=
  if t ≤ k.lockedAt then k.steer
  else divRound (k.lockSum + k.steer * ((t : Int) - k.lockSumAt)) (t - k.lockedAt)

/-- The holdover estimate (07 R286) with the denominator `estDen`, in sub-ns units. -/
def estDen : Nat := 2000000000000000 * sec 1
def Keeper.estimate (k : Keeper) (c : KeeperCfg) (t : Instant) : Nat :=
  match k.holdFrom with
  | none => 0
  | some f =>
    let u := k.unc.getD c.freqUnc
    let dt := t - f
    k.te0 * estDen + u * dt * (estDen / 1000000000000) + c.drift * dt * dt

/-- HOLD_EST in ps, saturating, as it stood at the last servo cycle (07 R286, R294). -/
def Keeper.holdEst (k : Keeper) (c : KeeperCfg) (t : Instant) : Nat :=
  min 0xFFFFFFFF ((2 * k.estimate c (t / servoPeriod * servoPeriod) * 1000 + 65536 * estDen) / (2 * 65536 * estDen))

/-- The magnitude of the mean of the offsets used in the last second (07 R286). -/
def Keeper.lastMean (k : Keeper) (t : Instant) : Nat :=
  (meanOf ((k.used.filter fun x => decide (t < x.1 + sec 1)).map fun x => x.2)).natAbs

/-- A run of refusals and its pending step end (07 R280, R281). The pending value stays behind for a step
already accepted (R282). -/
def Keeper.clearRun (k : Keeper) : Keeper :=
  { k with stepPending := false, run := [], runFirst := 0, runLen := 0 }

/-- What a refused offset did (07 R280, R281). -/
structure Refused where
  k     : Keeper
  first : Bool      -- the first of its run
  pend  : Bool      -- the run reached 16 offsets

/-- A refused offset in LOCKED or HOLDOVER (07 R280, R281). -/
def Keeper.refuse (k : Keeper) (c : KeeperCfg) (e : Int) : Refused :=
  let near := fun (x : Int) => decide ((e - x).natAbs ≤ ns c.consistTh)
  let k0 := { k with offset := e }
  let begin_ : Refused := ⟨{ k0.clearRun with run := [e], runFirst := e, runLen := 1 }, true, false⟩
  if k0.stepPending then
    if near k0.pending then
      let run := (e :: k0.run).take 16
      ⟨{ k0 with run := run, runLen := k0.runLen + 1, pending := meanOf run }, false, false⟩
    else begin_
  else if k0.runLen = 0 ∨ !near k0.runFirst then begin_
  else
    let run := (e :: k0.run).take 16
    let k1 := { k0 with run := run, runLen := k0.runLen + 1 }
    if k1.runLen = 16 then ⟨{ k1 with stepPending := true, pending := meanOf run }, false, true⟩
    else ⟨k1, false, false⟩

/-- Phase build-out of a frequency-only candidate (07 R272): the offset to steer on, and whether a change
was absorbed. -/
def Keeper.buildOut (k : Keeper) (c : KeeperCfg) (phase : Int) : Keeper × Int × Bool :=
  match k.buildPrev with
  | none => ({ k with buildPrev := some phase, buildAcc := 0 }, 0, false)
  | some p =>
    let d := phase - p
    if ns c.jumpTh < d.natAbs then ({ k with buildPrev := some phase }, k.buildAcc, true)
    else ({ k with buildPrev := some phase, buildAcc := k.buildAcc + d }, k.buildAcc + d, false)

end Sys2Proof.Machine
end

