-- ==== Sys2Proof/Machine/Candidates.lean ====
section
/-! DEFINITION. Candidates: servo inputs, qualification, the vote and the selection (07 R265 to R271), and
the events of the reference inputs, PTP and SyncE ports (07 R266, R268, R288 to R291). -/

namespace Sys2Proof.Machine

/-- An interval in ps as sub-ns units. -/
def psUnits (p : Int) : Int := divRound (p * 65536) 1000

namespace State

/-- The servo input of a candidate (07 R266, numbered as in R300). -/
def inputOf (s : State) (c : Cand) : Nat :=
  match c.kind with
  | 0 => 0
  | 1 => if (s.refCfg 0).mode = 3 then 2 else 1
  | 2 => if (s.refCfg 1).mode = 3 then 2 else 1
  | 3 => 4
  | _ => 3

/-- The candidate carries time (07 R265). -/
def carries (s : State) (c : Cand) : Bool :=
  match c.kind with
  | 0 => true
  | 1 => (s.refCfg 0).mode = 1 || (s.refCfg 0).mode = 3
  | 2 => (s.refCfg 1).mode = 1 || (s.refCfg 1).mode = 3
  | 3 => true
  | _ => false

end State

/-- QUAL_TIME in sub-ns units (07 R265, R298). -/
def Cand.qual (c : Cand) : Nat :=
  if c.qualTime ≠ 0 then ms c.qualTime
  else ms (match c.kind with | 0 => 100 | 1 => 2000 | 2 => 2000 | 3 => 10000 | 4 => 10000 | _ => 0)

/-- QL codes from the best to the worst; a code of no place in option 1 is worst (07 R291). -/
def qlRank : Nat → Nat
  | 0x2 => 0 | 0x4 => 1 | 0x8 => 2 | 0xB => 3 | 0xF => 4 | _ => 5

/-- 2^log2 seconds in sub-ns units. -/
def logInterval (l : Int) : Nat := if 0 ≤ l then sec 1 * 2 ^ l.toNat else sec 1 / 2 ^ (-l).toNat

namespace State

/-- The source of a candidate is present (07 R267, R294). -/
def sourcePresent (s : State) (i : Nat) (t : Instant) : Bool :=
  let c := s.cand i
  match c.kind with
  | 0 => s.isActive c.port && s.isTl c.port
  | 3 =>
    let p := s.ptpCfg c.port
    match (s.ptpSt c.port).announce with
    | some (_, _, _, at_) => p.role == 1 && decide (t ≤ at_ + 3 * logInterval p.logAnnounce)
    | none => false
  | 4 => s.isActive c.port
  | 5 => !s.tk.xoLost
  | k =>
    let m := (s.refCfg (k - 1)).mode
    let r := s.refSt (k - 1)
    !(m == 0 || ((m == 1 || m == 2) && !r.clock) || ((m == 1 || m == 3) && !r.ppsOk))

/-- The failing condition of R267, coded as the reason of R308; none where every condition holds. A
frequency not yet measured over a whole VOTE_WINDOW fails nothing (assumption 41). -/
def candProblem (s : State) (i : Nat) (t : Instant) : Option Nat :=
  let c := s.cand i
  let st := s.candSt i
  let freq : Option Nat := match st.freqXo with
    | some f => if s.tk.cfg.freqWin * 1000000 < f.natAbs then some 2 else none
    | none => none
  if s.tk.xoLost then some 1
  else if !s.sourcePresent i t then some 1
  else
    match c.kind with
    | 0 =>
      let l := s.link c.port
      if !(l.state == .coarse || l.state == .fine) || !l.calibrated then some 7
      else
        match l.far with
        | none => some 7
        | some f =>
          if f.state = 1 ∨ 4 ≤ f.state then some 5
          else if s.tk.cfg.hopMax ≤ f.hop then some 6
          else freq
    | 3 =>
      let p := s.ptpCfg c.port
      match (s.ptpSt c.port).announce with
      | some (_, cls, ts, _) => if p.classMax < cls ∨ !ts then some 5 else freq
      | none => some 1
    | 4 =>
      let y := s.synceCfg c.port
      if y.en && y.rx && decide (qlRank y.qlMin < qlRank ((s.esmc c.port).ql.getD 0xF)) then some 5
      else freq
    | 5 => none
    | k =>
      if (s.refCfg (k - 1)).mode = 1 ∧ !(s.refSt (k - 1)).posOk then some 7 else freq

/-- Changes what the device keeps of a candidate's qualification, and reports it. -/
def setQual (s : State) (i q reason : Nat) (since t : Instant) : State :=
  let st := s.candSt i
  let s1 := s.setCandSt i { st with qstate := q, reason := reason, since := since }
  if st.qstate = q ∧ st.reason = reason then s1
  else s1.raise 0x0402 85 [bytesBE 1 i, bytesBE 1 q, bytesBE 1 reason] t

/-- A qualified candidate is disqualified: its FORCE and its disputes end (07 R268 to R270). -/
def disqualify (s : State) (i reason : Nat) (t : Instant) : State :=
  let s1 := (s.setQual i 3 reason 0 t).count (0x7E20 + i)
  { s1 with tk := { s1.tk with
      force := if s1.tk.force = some i then none else s1.tk.force
      disputes := s1.tk.disputes.filter fun d => d.1 != i && d.2 != i } }

/-- A candidate whose conditions have held for QUAL_TIME qualifies (07 R267). -/
def qualifyDue (s : State) (i : Nat) (t : Instant) : State :=
  let st := s.candSt i
  if st.qstate = 1 ∧ st.hold = 0 ∧ st.since + (s.cand i).qual ≤ t then s.setQual i 2 0 0 t else s

/-- What was measured of a candidate's source is forgotten; a hold stays until CLEAR (07 R268). -/
def forgetCand (s : State) (i : Nat) : State :=
  s.setCandSt i { s.candSt i with freqXo := none, freqDco := 0, lastOff := 0 }

/-- One candidate at a servo cycle (07 R267, R268). A candidate held by vote or by the host stays disqualified. -/
def evalCand (t : Instant) (s : State) (i : Nat) : State :=
  let st := s.candSt i
  if !(s.cand i).valid then (s.setQual i 0 0 0 t).forgetCand i
  else if st.hold ≠ 0 then s.setQual i 3 st.hold 0 t
  else
    match s.candProblem i t with
    | some p =>
      if st.qstate = 2 then s.disqualify i p t
      else s.setQual i (if p = 1 then 0 else 3) p 0 t
    | none =>
      if st.qstate = 2 then s
      else if st.qstate = 1 then s.qualifyDue i t
      else (s.setQual i 1 0 t t).qualifyDue i t

def qualified (s : State) (i : Nat) : Bool := (s.cand i).valid && (s.candSt i).qstate == 2

/-- Q of R269 for a keeper whose present selection is `cur`. -/
def selectable (s : State) (cur : Option Nat) : List Nat :=
  let q := (List.range 16).filter s.qualified
  let xo := q.filter fun i => (s.cand i).kind == 5
  let q1 := q.filter fun i => xo.all fun x => decide ((s.cand i).rank ≤ (s.cand x).rank)
  q1.filter fun i => cur == some i || s.tk.disputes.all fun d => d.1 != i && d.2 != i

def leastRank (s : State) : List Nat → Nat
  | [] => 16
  | i :: r => min (s.cand i).rank (s.leastRank r)

/-- The selection rule (07 R269). -/
def select (s : State) (cur : Option Nat) : Option Nat :=
  let q := s.selectable cur
  let forced : Option Nat := match s.tk.force with
    | some f => if q.contains f then some f else none
    | none => none
  match forced with
  | some f => some f
  | none =>
    let r := s.leastRank q
    match cur with
    | some c => if q.contains c && (s.cand c).rank == r then some c else q.find? fun i => (s.cand i).rank == r
    | none => q.find? fun i => (s.cand i).rank == r

/-- The selection where it is of kinds 0 to 4. -/
def realSel (s : State) : Option Nat → Option Nat
  | some i => if (s.cand i).kind = 5 then none else some i
  | none => none

/-! ### The vote (07 R270) -/

def freqOf (s : State) (i : Nat) : Option Int := (s.candSt i).freqXo
def differ (s : State) (i j : Nat) : Bool :=
  match s.freqOf i, s.freqOf j with
  | some a, some b => decide (s.tk.cfg.disagreeTh < (a - b).natAbs)
  | _, _ => false

/-- The qualified candidate of kinds 0 to 4 with the smallest RANK outside a pair, the lowest index
among equals. -/
def voter (s : State) (i j : Nat) : Option Nat :=
  let q := (List.range 16).filter fun v => s.qualified v && (s.cand v).kind != 5 && v != i && v != j
  q.find? fun v => (s.cand v).rank == s.leastRank q

/-- One pair of the preferred rank. -/
def votePair (t : Instant) (s : State) (pr : Nat × Nat) : State :=
  let i := pr.1
  let j := pr.2
  if !(s.qualified i && s.qualified j && s.differ i j) then s
  else
    let ev := fun (s : State) (k : Tk) =>
      if s.runs k then s.raise 0x0405 86 [bytesBE 1 k.code, bytesBE 1 i, bytesBE 1 j] t else s
    let s1 := (ev (ev s .a) .b).tkFlag 2
    let out : Option Nat := match s1.voter i j with
      | some v =>
        if s1.differ i v && !s1.differ j v then some i
        else if s1.differ j v && !s1.differ i v then some j
        else none
      | none => none
    match out with
    | some x =>
      let s2 := s1.disqualify x 3 t
      s2.setCandSt x { s2.candSt x with hold := 3 }
    | none =>
      if s1.tk.disputes.contains pr then s1
      else { s1 with tk := { s1.tk with disputes := s1.tk.disputes ++ [pr] } }

/-- The end of a VOTE_WINDOW: the vote is among the qualified candidates of kinds 0 to 4 of the preferred rank, which is
that of R269, with the present selection of the keepers. -/
def vote (s : State) (fs : List FreqMeas) (t : Instant) : State :=
  let put := fun (s : State) (f : FreqMeas) =>
    if f.cand < 16 then s.setCandSt f.cand { s.candSt f.cand with freqXo := some f.xo, freqDco := f.dco } else s
  let s1 := fs.foldl put s
  let s2 := { s1 with tk := { s1.tk with
    voteAt := t
    disputes := s1.tk.disputes.filter fun d => s1.qualified d.1 && s1.qualified d.2 && s1.differ d.1 d.2 } }
  let q := (List.range 16).filter fun v => s2.qualified v && (s2.cand v).kind != 5
  let rank := s2.leastRank (s2.selectable (s2.keeper (s2.holder.getD .a)).sel)
  let top := q.filter fun v => (s2.cand v).rank == rank
  let pairs := top.flatMap fun i => (top.filter fun j => decide (i < j)).map fun j => (i, j)
  pairs.foldl (votePair t) s2

end State

/-- VOTE_WINDOW_END (07 R270): the averages of the window that ends, and the vote. -/
def execVoteWindowEnd (fs : List FreqMeas) (t : Instant) (s : State) : Host.Outcome State Fault Refusal :=
  let s1 := s.tick t
  if t < s1.tk.voteAt + ms s1.tk.cfg.voteWindow then .next s1 else .next (s1.vote fs t)

/-- CANDIDATE_QUALIFY (07 R267). -/
def execCandidateQualify (cand : Nat) (t : Instant) (s : State) : Host.Outcome State Fault Refusal :=
  let s1 := s.tick t
  if cand < 16 ∧ (s1.cand cand).valid ∧ s1.candProblem cand t = none then .next (s1.qualifyDue cand t)
  else .next s1

/-! ### Reference inputs (07 R266, R268; 15 R612) -/

/-- An instant less its nearest whole second, within ±0.5 s (07 R266). -/
def fromSecond (t : Instant) : Int :=
  let f : Int := ((t % sec 1 : Nat) : Int)
  if (sec 1 : Nat) < 2 * f then f - (sec 1 : Nat) else f

/-- Wrapped to ±0.5 s. -/
def wrapSecond (x : Int) : Int :=
  let f := x % ((sec 1 : Nat) : Int)
  if ((sec 1 : Nat) : Int) < 2 * f then f - (sec 1 : Nat) else f

/-- The clock period of a reference input in sub-ns units (07 R302). -/
def RefCfg.period (c : RefCfg) : Nat := if c.freq25 then ns 40 else ns 100

/-- A PPS edge at `t` lies within 1 ms of one second after the last (07 R266). -/
def RefState.ppsInStep (r : RefState) (t : Instant) : Bool :=
  match r.lastPps with
  | some l => decide (l + sec 1 ≤ t + ms 1 ∧ t ≤ l + sec 1 + ms 1)
  | none => false

/-- No PPS edge has come for 1.001 s (07 R266). -/
def RefState.ppsDue (r : RefState) (t : Instant) : Bool :=
  match r.lastPps with
  | some l => decide (l + sec 1 + ms 1 ≤ t)
  | none => true

/-- REF_PPS_EDGE: a PPS edge at the ball at `t`, which counts if PPS_EDGE selects it (07 R302). In clock+PPS it fixes the whole-period part and its position against the clock
is tested. -/
def execRefPpsEdge (input : Nat) (edge : PpsEdge) (t : Instant) (s : State) :
    Host.Outcome State Fault Refusal :=
  let s1 := s.tick t
  let c := s1.refCfg input
  if 2 ≤ input ∨ ¬(c.mode = 1 ∨ c.mode = 3) ∨ c.falling ≠ edge.falling then .next s1
  else
    let r := s1.refSt input
    let e := fromSecond t
    let r1 := { r with lastPps := some t, ppsOk := r.ppsInStep t }
    if c.mode = 3 then .next (s1.setRefSt input { r1 with ppsOff := some e })
    else
      match edge.phase with
      | none => .next (s1.setRefSt input r1)
      | some p =>
        let w := divRound (e - p) c.period * c.period
        let off := (e - p - w).natAbs
        .next (s1.setRefSt input { r1 with
          whole := some w, posOk := decide (off * 100 ≤ 40 * c.period) })

/-- PPS_MISSING: no edge 1.001 s after the previous one. -/
def execPpsMissing (input : Nat) (t : Instant) (s : State) : Host.Outcome State Fault Refusal :=
  let s1 := s.tick t
  let r := s1.refSt input
  if input < 2 ∧ r.ppsDue t then .next (s1.setRefSt input { r with ppsOk := false }) else .next s1

/-- REF_CLOCK_LOST. -/
def execRefClockLost (input : Nat) (t : Instant) (s : State) : Host.Outcome State Fault Refusal :=
  let s1 := s.tick t
  if input < 2 then .next (s1.setRefSt input { s1.refSt input with clock := false, phase := none })
  else .next s1

/-! ### PTP (07 R288 to R290) -/

namespace State

/-- The address of a port: the base MAC address plus the port (14 R578). -/
def portMac (s : State) (p : Nat) : Nat := (s.pwr.baseMac + p) % 2 ^ 48

/-- meanPathDelay: the mean of the last 16 delay measurements (07 R288). -/
def meanDelay (s : State) (p : Nat) : Option Int :=
  match (s.ptpSt p).delays with
  | [] => none
  | l => some (meanOf l)

/-- Completes a Sync: the offset t2 − t1 − meanPathDelay − correctionField − delayAsymmetry (07 R288). -/
def ptpOffset (s : State) (p : Nat) (t1 t2 : Instant) (corr : Int) : State :=
  let v := s.ptpSt p
  let v1 := { v with t12 := some (t1, t2, corr), sync := none }
  match s.meanDelay p with
  | none => s.setPtpSt p v1
  | some d =>
    let e := (t2 : Int) - t1 - d - corr - psUnits (s.ptpCfg p).asym
    s.setPtpSt p { v1 with offset := some e, lastOff := e }

def addDelay (s : State) (p : Nat) (d : Int) : State :=
  let v := s.ptpSt p
  s.setPtpSt p { v with delays := (d :: v.delays).take 16, req := none, resp := none }

/-- A peer delay: half of the round trip less the responder's residence at the neighbour's rate (07 R290). -/
def peerDelay (s : State) (p : Nat) (t1 t2 t3 t4 : Instant) (corr : Int) : State :=
  let v := s.ptpSt p
  let ratio : Int × Nat := match v.prevPair with
    | some (a, b) => if b < t4 then ((t3 : Int) - a, t4 - b) else v.ratio
    | none => v.ratio
  let round := ((t4 : Int) - t1) * ratio.1 / ratio.2 - ((t3 : Int) - t2)
  let s1 := s.addDelay p (divRound (round - corr) 2)
  s1.setPtpSt p { s1.ptpSt p with prevPair := some (t3, t4), ratio := ratio }

end State

/-- PTP_RX: a receiver takes a message with its ingress stamp. -/
def execPtpRx (port : Nat) (msg : PtpMsg) (stamp t : Instant) (s : State) :
    Host.Outcome State Fault Refusal :=
  let s1 := s.tick t
  let c := s1.ptpCfg port
  let v := s1.ptpSt port
  if 64 ≤ port ∨ c.role = 0 then .next s1
  else
    match msg with
    | .sync q two origin corr =>
      if c.role ≠ 1 then .next s1
      else if two then .next (s1.setPtpSt port { v with sync := some (q, stamp, corr) })
      else .next (s1.ptpOffset port origin stamp corr)
    | .followUp q origin corr =>
      match v.sync with
      | some (q', t2, c') => if q = q' then .next (s1.ptpOffset port origin t2 (corr + c')) else .next s1
      | none => .next s1
    | .delayResp q rx corr =>
      match v.req, v.t12 with
      | some (q', t3), some (t1, t2, c') =>
        if q = q' ∧ c.profile = 0 then
          .next (s1.addDelay port (divRound ((t2 : Int) - t1 + (rx - t3) - corr - c') 2))
        else .next s1
      | _, _ => .next s1
    | .pdelayResp q rx corr =>
      match v.req with
      | some (q', _) =>
        if q = q' ∧ c.profile = 1 then .next (s1.setPtpSt port { v with resp := some (q, rx, stamp, corr) })
        else .next s1
      | none => .next s1
    | .pdelayRespFollowUp q origin corr =>
      match v.req, v.resp with
      | some (_, t1), some (q', t2, t4, c') =>
        if q = q' then .next (s1.peerDelay port t1 t2 origin t4 (corr + c')) else .next s1
      | _, _ => .next s1
    | .announce sender cls ts _ =>
      if c.role ≠ 1 then .next s1
      else
        let keep : Bool := match v.announce with
          | some (w, _, _, at_) => w == sender || decide (at_ + 3 * logInterval c.logAnnounce < t)
          | none => true
        if keep then .next (s1.setPtpSt port { v with announce := some (sender, cls, ts, t) }) else .next s1
    | .delayReq _ => .next s1
    | .pdelayReq _ => .next s1

/-- clockClass of the leaseholder's state (07 R289, 09 R371). -/
def State.clockClass (s : State) : Nat :=
  match s.holder with
  | none => 248
  | some k =>
    let v := s.keeper k
    if v.timeValid then (match v.state with | .locked => 6 | .holdover => 7 | _ => 248) else 248

/-- PTP_TX: a transmitter sends Sync (0) or Announce (1); 2 is the departure instant of the last
Pdelay_Resp, which Pdelay_Resp_Follow_Up carries (a Delay_Resp leaves with PTP_DELAY_REQ_RX). `t` is the
departure instant. In one-step mode the stage writes its whole ns into originTimestamp and its sub-ns units
into correctionField; in two-step mode Follow_Up carries it (07 R289). -/
def execPtpTx (port kind : Nat) (t : Instant) (s : State) : Host.Outcome State Fault Refusal :=
  let s1 := s.tick t
  let c := s1.ptpCfg port
  let v := s1.ptpSt port
  if 64 ≤ port then .next s1
  else if kind = 0 ∧ c.role = 2 then
    let q := v.seqTx
    let s2 := s1.setPtpSt port { v with seqTx := (q + 1) % 65536 }
    if c.twoStep then
      .next ((s2.emit (.ptp port c.transport (.sync q true 0 0))).emit (.ptp port c.transport (.followUp q (ns (nsFloor t)) (t % 65536 : Nat))))
    else .next (s2.emit (.ptp port c.transport (.sync q false (ns (nsFloor t)) (t % 65536 : Nat))))
  else if kind = 1 ∧ c.role = 2 then
    .next (s1.emit (.ptp port c.transport (.announce (s1.portMac port) s1.clockClass true s1.tk.cfg.utcOffset)))
  else if kind = 2 ∧ c.profile = 1 then
    match v.rxSeq with
    | some (q, _) =>
      .next ((s1.setPtpSt port { v with rxSeq := none }).emit
        (.ptp port c.transport (.pdelayRespFollowUp q (ns (nsFloor t)) (t % 65536 : Nat))))
    | none => .next s1
  else .next s1

/-- PTP_DELAY_REQ_TX: a receiver, or a port of IEEE 802.1AS, sends Delay_Req or Pdelay_Req, which departs at `t`. -/
def execPtpDelayReqTx (port : Nat) (t : Instant) (s : State) : Host.Outcome State Fault Refusal :=
  let s1 := s.tick t
  let c := s1.ptpCfg port
  let v := s1.ptpSt port
  if 64 ≤ port ∨ c.role = 0 ∨ (c.role = 2 ∧ c.profile = 0) then .next s1
  else
    let q := v.seqTx
    let s2 := s1.setPtpSt port { v with seqTx := (q + 1) % 65536, req := some (q, t), resp := none }
    .next (s2.emit (.ptp port c.transport (if c.profile = 0 then .delayReq q else .pdelayReq q)))

/-- PTP_DELAY_REQ_RX: the request with its ingress stamp, answered with Delay_Resp or Pdelay_Resp. -/
def execPtpDelayReqRx (port : Nat) (msg : PtpMsg) (stamp t : Instant) (s : State) :
    Host.Outcome State Fault Refusal :=
  let s1 := s.tick t
  let c := s1.ptpCfg port
  let v := s1.ptpSt port
  if 64 ≤ port ∨ c.role = 0 then .next s1
  else
    match msg with
    | .delayReq q =>
      if c.role = 2 ∧ c.profile = 0 then
        .next (s1.emit
          (.ptp port c.transport (.delayResp q (ns (nsFloor stamp)) (-((stamp % 65536 : Nat) : Int)))))
      else .next s1
    | .pdelayReq q =>
      if c.profile = 1 then
        .next ((s1.setPtpSt port { v with rxSeq := some (q, stamp) }).emit
          (.ptp port c.transport (.pdelayResp q (ns (nsFloor stamp)) (-((stamp % 65536 : Nat) : Int)))))
      else .next s1
    | _ => .next s1

/-! ### ESMC (07 R291) -/

namespace State

/-- The QL that a port sends (07 R291, 09 R371). -/
def qlToSend (s : State) (p : Nat) : Nat :=
  match s.holder with
  | none => 0xB
  | some k =>
    let v := s.keeper k
    let sel := match v.sel with | some i => s.cand i | none => {}
    if v.sel.isSome && sel.kind == 4 && sel.port == p then 0xF
    else if v.state = .locked then
      if sel.kind = 4 then (s.esmc sel.port).ql.getD 0xF else (s.synceCfg p).refQl
    else 0xB

end State

/-- ESMC_RX: the received QL is held. -/
def execEsmcRx (port ql : Nat) (t : Instant) (s : State) : Host.Outcome State Fault Refusal :=
  let s1 := s.tick t
  let c := s1.synceCfg port
  if 64 ≤ port ∨ !c.en ∨ !c.rx then .next s1
  else .next (s1.setEsmc port { s1.esmc port with ql := some (ql % 16), at_ := t })

/-- ESMC_QL_TIMEOUT: a QL held for more than 5 s becomes QL-DNU. -/
def execEsmcQlTimeout (port : Nat) (t : Instant) (s : State) : Host.Outcome State Fault Refusal :=
  let s1 := s.tick t
  let v := s1.esmc port
  if v.ql.isSome ∧ v.at_ + sec 5 < t then .next (s1.setEsmc port { v with ql := some 0xF }) else .next s1

/-- ESMC_TX: one PDU a second, and one at once on a change of the QL. -/
def execEsmcTx (port : Nat) (t : Instant) (s : State) : Host.Outcome State Fault Refusal :=
  let s1 := s.tick t
  let c := s1.synceCfg port
  if 64 ≤ port ∨ !c.en ∨ !c.tx then .next s1
  else
    let q := s1.qlToSend port
    .next ((s1.setEsmc port { s1.esmc port with sent := some q }).emit (.esmc port q))

end Sys2Proof.Machine
end

