-- ==== Sys2Proof/Machine/Links.lean ====
section
/-! DEFINITION. Link timing (08): marks, timing frames, phases, measurements, link timing states, delay and
vernier runs, asymmetry, and the commands of 08 R348. -/

namespace Sys2Proof.Machine

/-! ### Phases and instants (08 R321 to R327)

Instants on the NCLK grid are counted in 25ths of a sub-ns unit, in which 1.6 ns, 0.8 ns and 0.32 ns are
whole numbers. -/

def grid25 : Nat := 2621440       -- 1.6 ns
def block25 : Nat := 10485760     -- 6.4 ns

namespace State

/-- The period of a port's phase, in 25ths: 6.4 ns on the 64b/66b modes (08 R328). -/
def phasePeriod (s : State) (p : Nat) : Nat :=
  if (s.lane p).rate = 5 ∨ (s.lane p).rate = 6 then block25 else grid25
/-- The samples that a servo cycle averages (08 R322, R328). -/
def phaseCount (s : State) (p : Nat) : Nat :=
  if (s.lane p).rate = 5 ∨ (s.lane p).rate = 6 then 8 else 32
/-- The symbol time in 25ths (08 R324). -/
def symbol25 (s : State) (p : Nat) : Nat := if (s.lane p).rate = 4 then 524288 else 1310720

end State

/-- A difference of phases wrapped to half a period; both in 25ths. -/
def wrap25 (m : Nat) (x : Int) : Int :=
  let f := x % (m : Int)
  if (m : Int) < 2 * f then f - m else f

/-- The mean of phase samples, taken about the newest, in sub-ns units. -/
def phaseMean (m : Nat) (l : List Nat) : Nat :=
  match l with
  | [] => 0
  | x :: _ =>
    let d := l.foldl (fun (a : Int) (y : Nat) => a + wrap25 m (25 * (y : Int) - 25 * x)) 0
    let v := 25 * (x : Int) + divRound d l.length
    (divRound (v % (m : Int)) 25).toNat

namespace State

/-- A servo cycle takes the means of a port's samples (08 R322). -/
def takeBeats (s : State) (p : Nat) : State :=
  let l := s.link p
  s.setLink p { l with
    meanRx := phaseMean (s.phasePeriod p) l.phiRx, meanTx := phaseMean (s.phasePeriod p) l.phiTx }

/-- f of R324: the recovered clock against the NCLK grid, in 25ths. -/
def phi25 (s : State) (p : Nat) : Nat := (25 * ((s.link p).meanRx + (s.link p).meanTx)) % s.phasePeriod p

/-- The departure instant of a symbol (08 R326): cycle `m`, index `i` in its word. -/
def departure (s : State) (p m i : Nat) : Instant :=
  let x : Int := 5 * (s.tk.grid5 : Int) + m * grid25 + i * s.symbol25 p
  (divRound x 25 + (s.link p).meanTx + (s.link p).fixedTx).toNat

/-- The receive instant of a symbol (08 R324), from the local cycle that took its word. -/
def arrival (s : State) (p m i : Nat) : Instant :=
  let g : Int := 5 * (s.tk.grid5 : Int)
  let edge : Int :=
    if (s.link p).fine then
      let f := s.phi25 p
      let n := divRound ((m * grid25 : Nat) - (f : Int)) grid25
      g + n * grid25 + f
    else g + m * grid25
  (divRound (edge + i * s.symbol25 p) 25 - (s.link p).fixedRx).toNat

/-! ### Link timing states (08 R339) -/

/-- Enters a link timing state and reports it. -/
def setLt (s : State) (p : Nat) (x : LtState) (t : Instant) : State :=
  let l := s.link p
  if l.state = x then s
  else (s.setLink p { l with state := x }).raise 0x0105 p [bytesBE 1 p, bytesBE 1 l.state.code, bytesBE 1 x.code] t

/-- The measurement history is cleared (08 R336, R339). -/
def clearHistory (s : State) (p : Nat) : State :=
  s.setLink p { s.link p with fHist := [], held := [], misses := 0, kept := [], frames := [] }

/-- To OFF: history, far values and CALIBRATED are cleared. -/
def ltOff (s : State) (p : Nat) (t : Instant) : State :=
  let s1 := (s.clearHistory p).setLt p .off t
  s1.setLink p { s1.link p with
    farCal := none, farNext := none, far := none, farCand := false, calibrated := false, loopDone := false
    liveDone := false, marks := [], slots := [], lastKept := none, running := false, runWanted := false
    runPending := none, delayStale := false, meas := none, mismatchSeen := none }

/-- The port enters ACTIVE (08 R339, 10 R416): WAIT, and the first live run at the next servo cycle. -/
def ltActive (s : State) (p : Nat) (t : Instant) : State :=
  let l := s.link p
  if l.cfg.en && s.isTl p && l.state == .off then
    (s.setLink p { l with runWanted := true, liveDone := false }).setLt p .wait t
  else s

/-- COARSE or FINE as the detector gives. -/
def ltByDetector (s : State) (p : Nat) (t : Instant) : State :=
  s.setLt p (if (s.link p).fine then .fine else .coarse) t

/-- To WAIT from a delivering state or from STALE (08 R336, R339). -/
def ltWait (s : State) (p : Nat) (t : Instant) : State := (s.clearHistory p).setLt p .wait t

end State

/-- One beat period gives a port a sample of each phase; Δf comes from the drift of φ_rx, and the detector is FINE or
COARSE by it (08 R322, R327, R328). -/
def State.sampleBeat (s1 : State) (port phiRx phiTx : Nat) : State :=
  let l := s1.link port
  let m := s1.phasePeriod port
  let beat : Nat := if m = block25 then 524288 else 131072        -- the beat period in fifths of a ns
  let d25 : Int := match l.phiRx.head? with
    | some x => wrap25 m (25 * (phiRx : Int) - 25 * x)
    | none => 0
  let df := divRound (d25 * 1000000000000) (5 * 65536 * beat)
  let run := if df.natAbs ≤ 2000000 then l.fineRun + 1 else 0
  let fine := if 4000000 < df.natAbs then false else l.fine || decide (32 ≤ run)
  let n := s1.phaseCount port
  s1.setLink port { l with
    phiRx := (phiRx :: l.phiRx).take n, phiTx := (phiTx :: l.phiTx).take n
    df := df, fineRun := run, fine := fine }

/-- A STALE port may go on: it has left PARK at most 40 µs ago (08 R339). -/
def State.relocks (s : State) (port : Nat) (t : Instant) : Bool :=
  match (s.lane port).exitFrom with
  | some e => decide (t ≤ e + us 40)
  | none => true

/-- BEAT_SAMPLE: the samples of one beat period; a port that is measuring goes on by its detector. -/
def execBeatSample (port phiRx phiTx : Nat) (t : Instant) (s : State) : Host.Outcome State Fault Refusal :=
  let s1 := s.tick t
  if 64 ≤ port then .next s1
  else
    let l := s1.link port
    let s2 := s1.sampleBeat port phiRx phiTx
    if l.state = .coarse ∨ l.state = .fine ∨ (l.state = .stale ∧ s2.isActive port ∧ s2.relocks port t) then
      .next (s2.ltByDetector port t)
    else .next s2

/-- 40 µs have passed since a PARK exit burst of the port (08 R339). -/
def State.relockPast (s : State) (port : Nat) (t : Instant) : Bool :=
  match (s.lane port).exitFrom with
  | some e => decide (e + us 40 ≤ t)
  | none => false

/-- LT_RELOCK_TIMEOUT: 40 µs after a PARK exit burst without detector re-lock (08 R339). -/
def execLtRelockTimeout (port : Nat) (t : Instant) (s : State) : Host.Outcome State Fault Refusal :=
  let s1 := s.tick t
  if (s1.link port).state = .stale ∧ s1.isActive port ∧ s1.relockPast port t then .next (s1.ltWait port t) else .next s1

/-! ### Marks (08 R310 to R315) -/

/-- Odd number of ones. -/
def oddOnes (n : Nat) : Bool := ((List.range 24).filter fun i => flag n i).length % 2 == 1

namespace State

/-- STATE, TIME_VALID and HOP that a keeper reports; LOST while no keeper holds the lease (09 R371). -/
def hopOf (s : State) (k : Tk) : Nat :=
  match (s.keeper k).sel with
  | some i =>
    if (s.cand i).kind = 0 then
      match (s.link (s.cand i).port).far with
      | some f => min 255 (f.hop + 1)
      | none => 0
    else 0
  | none => 0

def reportState (s : State) (k : Tk) : Nat :=
  if s.holder.isNone then 4 else (s.keeper k).state.code

/-- SRCFLAGS of a mark of a keeper (08 R312). -/
def srcFlags (s : State) (k : Tk) (seq : Nat) : Nat :=
  let f := k.code * 128 + atBit (s.holder == some k) 6 + s.reportState k * 8 + atBit (s.keeper k).timeValid 2
  f + atBit (oddOnes (seq + 65536 * f)) 0

/-- A port whose link timing is STALE sends no marks and no timing or CAL frames (08 R319, R339; log 103). -/
def sendsTiming (s : State) (p : Nat) : Bool := s.isActive p && s.isTl p && (s.link p).state != .stale

/-- A keeper issues its mark of the servo cycle on every ACTIVE Tuireane port (08 R310). -/
def issueMark (k : Tk) (t : Instant) (s : State) (p : Nat) : State :=
  if !(s.sendsTiming p && s.runs k) then s
  else
    let seq := markNumber t % 65536
    let m : OwnMark := { seq := seq, src := k, at_ := moveBy (-(s.dOf k)) t, flags := s.srcFlags k seq
                         epoch := s.lt.steps }
    let l := s.link p
    let ahead := l.marks.filter fun x => x.dep.isSome || decide (x.at_ ≤ m.at_)
    let after := l.marks.filter fun x => !(x.dep.isSome || decide (x.at_ ≤ m.at_))
    s.setLink p { l with marks := ahead ++ [m] ++ after }

/-- The slot of the timing frame of mark k falls TF_DELAY after it; each number has one slot at most
(08 R319). -/
def addSlot (t : Instant) (s : State) (p : Nat) : State :=
  let l := s.link p
  if !(s.sendsTiming p && l.cfg.en) then s
  else
    let k := markNumber t
    s.setLink p { l with slots := l.slots ++ [{
      at_ := t + us l.cfg.tfDelay, seq := k % 65536, cal := k % 1024 == 0, stepped := s.lt.stepped }] }

/-- Marks and slots of a servo cycle. -/
def issueMarks (s : State) (t : Instant) : State :=
  let ports := List.range 64
  let s1 := ports.foldl (issueMark .b t) (ports.foldl (issueMark .a t) s)
  let new : Bool := match s1.lt.lastK with | some k => decide (k < markNumber t) | none => true
  let s2 := if new then ports.foldl (addSlot t) s1 else s1
  { s2 with lt := { s2.lt with
      stepped := false, lastK := if new then some (markNumber t) else s2.lt.lastK } }

end State

/-- Four symbol positions of the line are idle from `t` on: no copy or timing frame occupies them, and no claimed window
does (08 R313, 06 R226). -/
def State.lineIdle (s : State) (p : Nat) (t : Instant) : Bool :=
  let m := s.model p
  let v := t + txTime m.rate 4
  (m.phys.all fun y => !y.begun || decide (State.lineEnd m y ≤ t)) && decide (m.freeAt ≤ t + overhead m.rate)
    && (s.claimedWindows p).all fun w => decide (w.2 ≤ t ∨ v ≤ w.1)

/-- No TMARK sent takes a symbol position of one that leaves at `d` and lasts `len`: a second one follows in the next four
idle positions (08 R313). -/
def Link.clearOfMarks (l : Link) (d len : Nat) : Bool :=
  l.marks.all fun x => match x.dep with
    | some e => decide (e + len ≤ d ∨ d + len ≤ e)
    | none => true

/-- TMARK_TX: the first waiting mark takes four idle positions; `cycle` and `sym` say where its /K28.1/
stands, and its departure is recorded (08 R313, R314). -/
def execTmarkTx (port cycle sym : Nat) (t : Instant) (s : State) : Host.Outcome State Fault Refusal :=
  let s1 := s.tick t
  let l := s1.link port
  if 64 ≤ port ∨ !s1.sendsTiming port then .next s1
  else
    match l.marks.find? fun m => m.dep.isNone with
    | none => .next s1
    | some m =>
      let d := s1.departure port cycle sym
      if t < m.at_ ∨ !s1.lineIdle port t ∨ !l.clearOfMarks d (txTime (s1.model port).rate 4) then .next s1
      else
        let upd := fun (x : OwnMark) =>
          if x == m then { x with dep := some d, epoch := s1.lt.steps } else x
        .next ((s1.setLink port { l with marks := l.marks.map upd }).emit
          (.tmark port [m.seq % 256, m.seq / 256, m.flags] d))

/-- A valid mark with a new number is kept with its receive instant, and the marks missed before it are counted
(08 R315). -/
def State.keepMark (s1 : State) (port seq : Nat) (srcB : Bool) (cycle sym : Nat) : State :=
  let l := s1.link port
  let skipped := match l.lastKept with
    | some x => min 255 ((seq + 65535 - x) % 65536)
    | none => 0
  let src : Tk := if srcB then .b else .a
  let s2 := (s1.countP port 82).countP port 85 skipped
  let s3 := if skipped = 0 then s2 else s2.countP port 86
  s3.setLink port { l with
    lastKept := some seq, keptSrc := srcB, markMiss := l.markMiss || skipped != 0
    kept := l.kept ++ [⟨seq, src, s1.arrival port cycle sym, l.fine, s1.lt.steps⟩] }

/-- TMARK_RX: a mark is kept, discarded or counted (08 R315). -/
def execTmarkRx (port : Nat) (symbols : List Nat) (codeError : Bool) (cycle sym : Nat) (t : Instant)
    (s : State) : Host.Outcome State Fault Refusal :=
  let s1 := s.tick t
  if 64 ≤ port then .next s1
  else
    match symbols with
    | [b0, b1, b2] =>
      let seq := (b0 + 256 * b1) % 65536
      if codeError ∨ oddOnes (seq + 65536 * b2) ∨ !s1.isActive port ∨ !s1.isTl port then .next (s1.countP port 84)
      else
        let l := s1.link port
        if l.lastKept = some seq ∨ l.kept.any (fun m => m.seq == seq) then .next (s1.countP port 83)
        else .next (s1.keepMark port seq (flag b2 7) cycle sym)
    | _ => .next (s1.countP port 84)

/-! ### Timing frames (08 R316 to R320) -/

namespace State

/-- A link-local frame with its FCS (08 R316). -/
def localFrame (s : State) (p : Nat) (payload : List Byte) : List Byte :=
  let pad := payload ++ List.replicate (46 - payload.length) 0#8
  let body := bytesBE 6 0x0180C200000E ++ bytesBE 6 (s.portMac p) ++ bytesBE 2 0x88B5 ++ pad
  body ++ goodFcs body

/-- This port is named by a valid kind-0 candidate (08 R317, R340). -/
def namedUpstream (s : State) (p : Nat) : Bool :=
  (List.range 16).any fun i => (s.cand i).valid && (s.cand i).kind == 0 && (s.cand i).port == p

/-- The payload of the TIMING frame of a slot (08 R317). -/
def timingPayload (s : State) (p : Nat) (x : Slot) : List Byte :=
  let l := s.link p
  let depOf := fun (k : Tk) => (l.marks.find? fun m => m.seq == x.seq && m.src == k).bind fun m => m.dep
  let lead := s.holder.getD .a
  let rx := l.kept.find? fun m => m.seq == x.seq
  let inst := fun (o : Option Instant) => match o with | some u => instantBytes u | none => bytesBE 12 0
  let b1 := atBit (depOf .a).isSome 7 + atBit (depOf .b).isSome 6 + atBit rx.isSome 5
    + atBit (rx.any fun m => m.src == .b) 4 + atBit (rx.any fun m => m.fine) 3 + atBit x.stepped 2
    + atBit (s.namedUpstream p) 1 + atBit (s.holder.isSome && (s.keeper lead).timeValid) 0
  bytesBE 1 0x11 ++ bytesBE 1 b1 ++ bytesBE 1 (lead.code * 16 + s.reportState lead) ++ bytesBE 1 (s.hopOf lead)
    ++ bytesBE 2 x.seq ++ inst (depOf .a) ++ inst (depOf .b) ++ inst (rx.map fun m => m.rx)

/-- The CAL payload (08 R318). -/
def calPayload (s : State) (p : Nat) : List Byte :=
  let l := s.link p
  bytesBE 1 0x12 ++ bytesBE 1 (atBit l.calibrated 7) ++ bytesBE 2 0 ++ bytesBE 4 l.fixedTx ++ bytesBE 4 l.fixedRx
    ++ bytesBE 4 l.asym.extTx ++ bytesBE 4 l.asym.extRx ++ bytesBE 4 (l.asym.alpha % 4294967296).toNat

/-- Sends one link-local frame at a model start. -/
def sendLocal (s : State) (p : Nat) (payload : List Byte) (t : Instant) : State :=
  let m := s.model p
  let s1 := s.setModel p { m with freeAt := t + txTime m.rate 84 }
  (s1.countP p 79).emit (.frame p (s1.localFrame p payload) t)

end State

/-- TIMING_FRAME_TX: the earliest due slot of a port sends its TIMING frame, then its CAL frame, each at an
instant at which the model is idle and the frame fits (08 R319). In CALX the port sends CAL frames alone
(10 R414). -/
def execTimingFrameTx (port : Nat) (t : Instant) (s : State) : Host.Outcome State Fault Refusal :=
  let s1 := s.tick t
  if 64 ≤ port then .next s1
  else if (s1.lane port).state = .calx then
    if !(s1.link port).loopDone || (s1.lane port).calxCal then .next s1
    else .next ((s1.countP port 79).emit (.frame port (s1.localFrame port (s1.calPayload port)) t))
  else if !s1.sendsTiming port then .next s1
  else
    let l := s1.link port
    let m := s1.model port
    match l.slots with
    | [] => .next s1
    | x :: rest =>
      if t < x.at_ ∨ m.tx.isSome ∨ t < m.freeAt ∨ !s1.fitsWindow port 64 t then .next s1
      else if x.timing then
        let cal := x.cal || l.calSend
        let left := if cal then { x with timing := false, cal := true } :: rest else rest
        let s2 := s1.sendLocal port (s1.timingPayload port x) t
        .next (s2.setLink port { s2.link port with slots := left, calSend := false })
      else
        let s2 := s1.sendLocal port (s1.calPayload port) t
        .next (s2.setLink port { s2.link port with slots := rest })

/-- The instant in the layout of 06 R230 at an offset of a frame. -/
def instantAt (bs : List Byte) (o : Nat) : Instant :=
  let g := fun (a n : Nat) => natBE ((bs.drop a).take n)
  sec (g o 6) + ns (g (o + 6) 4) + g (o + 10) 2

/-- Bytes of the payload of a link-local timing frame. -/
def timingByte (bytes : List Byte) (a n : Nat) : Nat := natBE ((bytes.drop (14 + a)).take n)

/-- A link-local timing frame: 64 bytes, its EtherType, a good FCS and a known kind (08 R316). -/
def goodTiming (bytes : List Byte) : Bool :=
  let kind := timingByte bytes 0 1
  bytes.length == 64 && natBE ((bytes.drop 12).take 2) == 0x88B5
    && fcsOf bytes == goodFcs (bodyOf bytes) && (kind == 0x11 || kind == 0x12)

/-- The TIMING payload (08 R317). -/
def farFrameOf (bytes : List Byte) : FarFrame :=
  let g := timingByte bytes
  let b1 := g 1 1
  let at_ := fun (bit o : Nat) => if flag b1 bit then some (instantAt bytes (14 + o)) else none
  let src : Tk := if flag b1 4 then .b else .a
  { seq := g 4 2, txA := at_ 7 6, txB := at_ 6 18
    rx := (at_ 5 30).map fun u => (src, u, flag b1 3)
    stepped := flag b1 2, cand := flag b1 1, timeValid := flag b1 0
    lease := if flag (g 2 1) 4 then .b else .a, state := g 2 1 % 8, hop := g 3 1 }

/-- The CAL payload (08 R318). -/
def farCalOf (bytes : List Byte) : FarCal :=
  let g := timingByte bytes
  { calibrated := flag (g 1 1) 7, fixedTx := g 4 4, fixedRx := g 8 4, extTx := g 12 4
    extRx := g 16 4, alpha := signed 32 (g 20 4) }

/-- The port timing unit takes a TIMING frame (08 R317). -/
def State.takeTiming (s : State) (port : Nat) (f : FarFrame) : State :=
  let l := s.link port
  s.setLink port { l with far := some f, farCand := f.cand, frames := (l.frames ++ [f]) }

/-- The port timing unit takes a CAL frame, adopted at the next servo cycle (08 R320). -/
def State.takeCal (s : State) (port : Nat) (c : FarCal) : State :=
  let s3 := s.setLink port { s.link port with farNext := some c }
  if (s3.lane port).state = .calx then s3.setLane port { s3.lane port with calxCal := true } else s3

/-- TIMING_FRAME_RX: the port timing unit takes a link-local frame (08 R316 to R318, R320). -/
def execTimingFrameRx (port : Nat) (bytes : List Byte) (t : Instant) (s : State) :
    Host.Outcome State Fault Refusal :=
  let s1 := s.tick t
  if 64 ≤ port then .next s1
  else if !goodTiming bytes then .next (s1.countP port 81)
  else
    let s2 := s1.countP port 80
    .next (if timingByte bytes 0 1 = 0x11 then s2.takeTiming port (farFrameOf bytes) else s2.takeCal port (farCalOf bytes))

/-! ### Measurement (08 R334 to R337) -/

/-- The four instants of a number, once all are held (08 R334), with the far and the kept mark. -/
structure Quadruple where
  far  : FarFrame
  kept : KeptMark
  own  : OwnMark
  t1   : Instant
  t3   : Instant
  t4   : Instant
  fine : Bool

def Link.quadruple (l : Link) (seq : Nat) : Option Quadruple :=
  match l.frames.find? (fun f => f.seq == seq), l.kept.find? (fun m => m.seq == seq) with
  | some f, some k =>
    match (match k.src with | .a => f.txA | .b => f.txB), f.rx with
    | some t1, some (src, t4, fine4) =>
      match l.marks.find? fun m => m.seq == seq && m.src == src with
      | some m =>
        match m.dep with
        | some t3 => some ⟨f, k, m, t1, t3, t4, k.fine && fine4⟩
        | none => none
      | none => none
    | _, _ => none
  | _, _ => none

/-- The timing frame for a mark number is still to send. -/
def Link.owes (l : Link) (seq : Nat) : Bool := l.slots.any fun x => x.timing && x.seq == seq

/-- Drops what is held of numbers done with whose timing frame has gone, and while the port does not measure the marks
sent before mark `k` − 1. -/
def Link.tidy (l : Link) (k : Nat) : Link :=
  let keep := fun (q : Nat) => !l.done.contains q || l.owes q
  let young := fun (m : OwnMark) => m.dep.isNone || l.owes m.seq || (k + 65536 - m.seq) % 65536 < 2
  let idle : Bool := l.state == .off || l.state == .stale
  { l with
    done := l.done.filter l.owes
    marks := l.marks.filter fun m => keep m.seq && (!idle || young m)
    kept := l.kept.filter fun m => keep m.seq
    frames := l.frames.filter fun f => !idle && !l.done.contains f.seq }

/-- The numbers of which a port holds an instant. -/
def Link.numbers (l : Link) : List Nat :=
  (((l.marks.map fun m => m.seq) ++ (l.kept.map fun m => m.seq) ++ (l.frames.map fun f => f.seq)).filter
    fun q => !l.done.contains q).eraseDups

/-- The measurement of R335. -/
def Link.compute (l : Link) (c : FarCal) (seq : Nat) (q : Quadruple) : Meas :=
  let r : Int := ((q.t4 : Int) - q.t1) - ((q.t3 : Int) - q.kept.rx)
  let f := r - (c.extTx + l.asym.extRx + l.asym.extTx + c.extRx : Nat)
  let din := c.extTx + divRound (f * (1000000000 + l.asym.alpha)) 2000000000 + l.asym.extRx
  let dout := l.asym.extTx + divRound (f * (1000000000 - l.asym.alpha)) 2000000000 + c.extRx
  { seq := seq, r := r, f := f, din := din, dout := dout
    e := (q.kept.rx : Int) - q.t1 - din, fine := q.fine }

namespace State

/-- Delivers a measurement: WAIT ends with the first one (08 R337, R339). -/
def deliver (s : State) (p : Nat) (m : Meas) (hist : List Int) (t : Instant) : State :=
  let l := s.link p
  let s1 := (s.setLink p { l with
    meas := some m, newMeas := true, lastSeq := m.seq, misses := 0, held := [], fHist := hist }).countP p 87
  if l.state = .wait then s1.ltByDetector p t else s1

/-- The checks of R336, in their order. -/
def checkMeas (s : State) (p : Nat) (q : Quadruple) (m : Meas) (t : Instant) : State :=
  let l := s.link p
  let miss := fun (s : State) => s.setLink p { s.link p with misses := (s.link p).misses + 1 }
  if q.far.stepped ∨ q.kept.epoch ≠ q.own.epoch then miss (s.countP p 89)
  else if m.f < 0 then miss (s.countP p 90)
  else
    let th := (psUnits l.cfg.rttTh).toNat
    let near := fun (x : Int) => decide ((m.f - x).natAbs ≤ th)
    if l.fHist.isEmpty || near (meanOf l.fHist) then s.deliver p m ((m.f :: l.fHist).take 16) t
    else
      let s1 := miss (s.countP p 91)
      let first := match l.held.getLast? with | some x => x.f | none => m.f
      let held := if near first then m :: l.held else [m]
      if held.length < 16 then s1.setLink p { s1.link p with held := held }
      else
        let new := held.map fun x => x.f
        let s2 := (s1.deliver p m new t).raise 0x0106 p
          [bytesBE 1 p, intervalBytes (meanOf l.fHist), intervalBytes (meanOf new)] t
        s2.setLink p { s2.link p with rttJump := true }

/-- A mark number is done with; its instants stay held while its own timing frame is still to send (08 R314). -/
def dropSeq (s : State) (p seq : Nat) : State :=
  let l := s.link p
  let frames := l.frames.filter fun f => f.seq != seq
  s.setLink p (if l.owes seq then { l with done := seq :: l.done, frames := frames }
    else { l with marks := l.marks.filter fun m => m.seq != seq
                  kept := l.kept.filter fun m => m.seq != seq
                  frames := frames })

/-- One mark number at a servo cycle: measured once complete, dropped at k + 2 (08 R334). -/
def measureSeq (p k : Nat) (c : Option FarCal) (t : Instant) (s : State) (seq : Nat) : State :=
  let l := s.link p
  let drop := fun (s : State) => s.dropSeq p seq
  match c, l.quadruple seq with
  | some c, some q => drop (s.checkMeas p q (l.compute c seq q) t)
  | _, _ =>
    let age := (k + 65536 - seq) % 65536
    if 2 ≤ age ∧ age < 32768 then
      let s1 := s.countP p 88
      drop (s1.setLink p { s1.link p with misses := (s1.link p).misses + 1 })
    else s

/-- Link timing of one port at a servo cycle: runs apply and start, CAL values are adopted, measurements
are delivered or dropped (08 R320, R332, R334, R339). -/
def linkCycle (t : Instant) (s : State) (p : Nat) : State :=
  let l0 := (s.link p).tidy (markNumber t % 65536)
  let s1 := s.setLink p { l0 with newMeas := false }
  let l := s1.link p
  let s2 := match l.runPending with
    | some (ftx, frx, rtx, rrx) =>
      let done := l.loopDone
      s1.setLink p { l with
        fixedTx := ftx, fixedRx := frx, resTx := rtx, resRx := rrx, runPending := none, running := false
        delayStale := false, liveDone := true, calibrated := l.calibrated || done, calSend := true }
    | none => s1
  let l2 := s2.link p
  let s3 := if l2.runWanted && s2.isActive p then
      s2.setLink p { l2 with runWanted := false, running := true, delayStale := true }
    else s2
  let l3 := s3.link p
  let s4 := match l3.farNext with
    | some c => s3.setLink p { l3 with farCal := some c, farNext := none }
    | none => s3
  let l4 := s4.link p
  let s5 := match l4.farCal with
    | some c =>
      if c.alpha ≠ -l4.asym.alpha then
        if l4.mismatchSeen = some (l4.asym.alpha, c.alpha) then s4
        else (s4.setLink p { l4 with mismatch := true, mismatchSeen := some (l4.asym.alpha, c.alpha) }).raise
          0x0107 p [bytesBE 1 p, bytesBE 4 (l4.asym.alpha % 4294967296).toNat, bytesBE 4 (c.alpha % 4294967296).toNat] t
      else s4.setLink p { l4 with mismatchSeen := none }
    | none => s4
  let st := (s5.link p).state
  if st = .off ∨ st = .stale then s5
  else
    let s6 := (s5.link p).numbers.foldl (measureSeq p (markNumber t % 65536) (s5.link p).farCal t) s5
    let l6 := s6.link p
    if (l6.state = .coarse ∨ l6.state = .fine) ∧ l6.cfg.missLimit ≤ l6.misses then s6.ltWait p t else s6

/-- A vernier's new table applies at a servo cycle (08 R329). -/
def vernierCycle (s : State) (q : Nat) : State :=
  let v := s.vernier q
  match v.next with
  | some d => s.setVernier q { v with valid := true, running := false, dnl := d, next := none }
  | none => s

/-- CAL_DELAY_RUN and CAL_VERNIER_RUN complete once their results apply (08 R353). -/
def runCompletions (s : State) (t : Instant) : State :=
  let s1 := match s.lt.delayJid with
    | some (j, ports, n) =>
      let left := ports.filter fun p => (s.link p).running || (s.link p).runWanted
      if left.isEmpty then
        let s2 := { s with lt := { s.lt with delayJid := none } }
        (s2.finish j stOk [word n] t).raise 0x0900 102 [bytesBE 1 0, bytesBE 8 s.lt.delayMask] t
      else { s with lt := { s.lt with delayJid := some (j, left, n) } }
    | none => s
  match s1.lt.vernJid with
  | some (j, qs) =>
    let left := qs.filter fun q => (s1.vernier q).running
    if left.isEmpty then
      let s2 := { s1 with lt := { s1.lt with vernJid := none } }
      (s2.finish j stOk [] t).raise 0x0900 102 [bytesBE 1 1, bytesBE 8 s1.lt.vernMask] t
    else { s1 with lt := { s1.lt with vernJid := some (j, left) } }
  | none => s1

end State

/-- DELAY_RUN_DONE: a live run ends; its results apply at the next servo cycle (08 R332). -/
def execDelayRunDone (port fixedTx fixedRx resTx resRx : Nat) (t : Instant) (s : State) :
    Host.Outcome State Fault Refusal :=
  let s1 := s.tick t
  let l := s1.link port
  if 64 ≤ port ∨ !l.running then .next s1
  else .next (s1.setLink port { l with runPending := some (fixedTx, fixedRx, resTx, resRx) })

/-- VERNIER_CAL_DONE: a code-density run ends; its table applies at the next servo cycle (08 R329). -/
def execVernierCalDone (quad dnl : Nat) (t : Instant) (s : State) : Host.Outcome State Fault Refusal :=
  let s1 := s.tick t
  let v := s1.vernier quad
  if 4 ≤ quad ∨ (!v.running && v.valid) then .next s1
  else .next (s1.setVernier quad { v with next := some (min 0xFFFF dnl) })

/-! ### Registers (08 R346) -/

def Link.status (l : Link) : Word :=
  word (l.state.code * 2 ^ 29 + atBit l.calibrated 28 + atBit l.delayStale 27 + atBit l.farCand 26
    + atBit l.keptSrc 25 + atBit l.mismatch 24 + atBit l.rttJump 23 + atBit l.markMiss 22 + l.lastSeq)

def Vernier.status (v : Vernier) : Word := word (atBit v.valid 31 + atBit v.running 30 + v.dnl)

/-! ### Changes held until a servo cycle (07 R297) -/

/-- The instant of a keeper change: A, or the first servo cycle 2 ms after the command (07 R297). -/
def tkInstant (a : Option Instant) (t : Instant) : Instant :=
  match a with
  | some a => a
  | none => servoFrom (t + ms 2)

/-- A keeper change waits for its instant. -/
def State.putTk (s : State) (a : Instant) (jid : Nat) (ch : TkChange) : State :=
  { s with tk := { s.tk with staged := s.tk.staged ++ [⟨a, some jid, ch⟩] } }

/-- Stages a change for the first servo cycle at or after A, or 2 ms after the command without one. -/
def stageTk (c : Ctx) (s : State) (ch : TkChange) : Res :=
  let a := tkInstant c.a c.t
  if c.a.isSome ∧ a < c.t + ms 2 then .fail State.stTooLate
  else .wait (s.putTk a c.jid ch)

/-- The candidates with every accepted change. -/
def State.candPlanned (s : State) (i : Nat) : Cand :=
  s.tk.staged.foldl (fun v e => match e.change with
    | .cand j x => if j = i then x else v
    | _ => v) (s.cand i)
def State.ptpPlanned (s : State) (p : Nat) : PtpCfg :=
  s.tk.staged.foldl (fun v e => match e.change with
    | .ptp q x => if q = p then x else v
    | _ => v) (s.ptpCfg p)
def State.syncePlanned (s : State) (p : Nat) : SynceCfg :=
  s.tk.staged.foldl (fun v e => match e.change with
    | .synce q x => if q = p then x else v
    | _ => v) (s.synceCfg p)
def State.namedPlanned (s : State) (kind p : Nat) : Bool :=
  (List.range 16).any fun i =>
    (s.candPlanned i).valid && (s.candPlanned i).kind == kind && (s.candPlanned i).port == p

/-! ### Commands (08 R348 to R353) -/

/-- A front port, and no other bit. -/
def okPortKey (r : Req) : Bool := decide (r.f 4 0 7 ≤ 63) && r.only 4 0x7F

def ltCfgOf (r : Req) : LtCfg := { en := r.b 4 31, tfDelay := r.f 5 0 10, missLimit := r.f 6 16 8, rttTh := r.f 6 0 16 }

/-- TF_DELAY 100 to 900 ns, MISS_LIMIT 1 to 255, RTT_TH 10 or more (08 R349). -/
def okLinkTimingSet (r : Req) : Bool :=
  let v := ltCfgOf r
  decide (r.f 4 0 7 ≤ 63) && r.only 4 0x8000007F && r.only 5 0x3FF && r.only 6 0xFFFFFF
    && decide (100 ≤ v.tfDelay ∧ v.tfDelay ≤ 900) && v.missLimit != 0 && decide (10 ≤ v.rttTh)

def bodyLinkTimingSet (c : Ctx) (s : State) : Res :=
  let p := c.r.f 4 0 7
  refuseIf (!okLinkTimingSet c.r) State.stBadParam <|
  refuseIf (!(ltCfgOf c.r).en && s.namedPlanned 0 p) State.stConflict <|
  stageTk c s (.link p (ltCfgOf c.r))

def LtCfg.words (p : Nat) (v : LtCfg) : List Word :=
  [word (atBit v.en 31 + p), word v.tfDelay, word (v.missLimit * 65536 + v.rttTh)]

def bodyLinkTimingGet (c : Ctx) (s : State) : Res :=
  let p := c.r.f 4 0 7
  refuseIf (!okPortKey c.r) State.stBadParam <| .done s ((s.link p).cfg.words p)

def asymCfgOf (r : Req) : AsymCfg := { alpha := signed 32 (r.w 5), extTx := r.w 6, extRx := r.w 7 }

/-- ALPHA within 10,000,000, EXT_TX and EXT_RX at most 6,553,600 (08 R350). -/
def okAsymSet (r : Req) : Bool :=
  let v := asymCfgOf r
  decide (r.f 4 0 7 ≤ 63) && r.only 4 0x7F && decide (v.alpha.natAbs ≤ 10000000)
    && decide (v.extTx ≤ 6553600) && decide (v.extRx ≤ 6553600)

def bodyAsymSet (c : Ctx) (s : State) : Res :=
  refuseIf (!okAsymSet c.r) State.stBadParam <| stageTk c s (.asym (c.r.f 4 0 7) (asymCfgOf c.r))

def AsymCfg.words (p : Nat) (v : AsymCfg) : List Word :=
  [word p, word (v.alpha % 4294967296).toNat, word v.extTx, word v.extRx]

def bodyAsymGet (c : Ctx) (s : State) : Res :=
  let p := c.r.f 4 0 7
  refuseIf (!okPortKey c.r) State.stBadParam <| .done s ((s.link p).asym.words p)

/-- The reply of LINK_STATUS_GET (08 R351). -/
def linkStatusWords (s : State) (p : Nat) : List Word :=
  let l := s.link p
  let f : FarCal := l.farCal.getD {}
  let m : Meas := l.meas.getD ⟨0, 0, 0, 0, 0, 0, false⟩
  let w26 := match l.far with
    | some x => atBit x.timeValid 23 + x.state * 65536 + x.hop * 256
    | none => 0
  [word p, l.status, word l.fixedTx, word l.fixedRx, word (l.resRx * 65536 + l.resTx),
      word f.fixedTx, word f.fixedRx, word f.extTx, word f.extRx, word (f.alpha % 4294967296).toNat]
    ++ intervalWords m.r ++ intervalWords m.f ++ intervalWords m.din ++ intervalWords m.dout ++ intervalWords m.e
    ++ [word l.meanRx, word (l.df % 4294967296).toNat, word w26]

/-- The reply as the last servo cycle left it (08 R351). -/
def State.linkStatus (s : State) (p : Nat) : List Word :=
  Tbl.get (word p :: List.replicate 22 0#32) s.lt.status p

/-- A servo cycle notes the reply of each port (08 R351). -/
def State.noteLink (s : State) (p : Nat) : State :=
  { s with lt := { s.lt with
      status := Tbl.set (word p :: List.replicate 22 0#32) s.lt.status p (linkStatusWords s p) } }

def bodyLinkStatusGet (c : Ctx) (s : State) : Res :=
  refuseIf (!okPortKey c.r) State.stBadParam <| .done s (s.linkStatus (c.r.f 4 0 7))

/-- Ends an open ASYM_MEASURE without a result (08 R343, R352). -/
def State.asymAbort (s : State) (t : Instant) : State :=
  match s.lt.asym with
  | none => s
  | some a => ({ s with lt := { s.lt with asym := none } }).finish a.jid State.stAborted [] t

def State.selected (s : State) : Option Nat := (s.keeper (s.holder.getD .a)).sel

/-- SECOND has no FIRST to go with: none held, an hour old or older, of another port or another selection, or on the
selected candidate's own port (08 R343, R352). -/
def asymNoFirst (s : State) (p : Nat) (t : Instant) : Bool :=
  match s.lt.first with
  | none => true
  | some f => decide (f.at_ + sec 3600 ≤ t) || f.port != p || f.sel != s.selected
      || (match s.selected with
          | some i => (s.cand i).kind == 0 && (s.cand i).port == p
          | none => false)

/-- A front port, an ACTION of 0 to 2, and but for CANCEL a duration of 1 to 3,600 s (08 R352). -/
def okAsymMeasure (r : Req) : Bool :=
  let act := r.f 4 30 2
  decide (r.f 4 0 7 ≤ 63) && act != 3 && r.only 4 0xF000007F && r.only 5 0xFFF
    && (act == 2 || decide (1 ≤ r.f 5 0 12 ∧ r.f 5 0 12 ≤ 3600))

/-- The window that ASYM_MEASURE opens. -/
def asymOpen (s : State) (r : Req) (jid : Nat) (t : Instant) : State :=
  { s with lt := { s.lt with
    first := if r.f 4 30 2 = 0 then none else s.lt.first
    asym := some { jid := jid, port := r.f 4 0 7, second := r.f 4 30 2 == 1, apply := r.b 4 29, keep := r.b 4 28
                   until_ := t + sec (r.f 5 0 12), w4 := r.w 4, w5 := r.w 5, sel := s.selected, es := [], fs := [] } } }

def bodyAsymMeasure (c : Ctx) (s : State) : Res :=
  let r := c.r
  let act := r.f 4 30 2
  refuseIf (s.lt.asym.isSome && act != 2) State.stBusy <|
  refuseIf (act == 1 && asymNoFirst s (r.f 4 0 7) c.t) State.stState <|
  refuseIf (!okAsymMeasure r) State.stBadParam <|
  if act = 2 then
    let s1 := s.asymAbort c.t
    .done { s1 with lt := { s1.lt with first := none } }
  else .wait (asymOpen s r c.jid c.t)

/-- One servo cycle of an open window: it takes the offset, computed with ALPHA 0, or it aborts (08 R342,
R343). -/
def State.asymCycle (s : State) (t : Instant) : State :=
  match s.lt.asym with
  | none => s
  | some a =>
    let l := s.link a.port
    let locked := fun (k : Tk) => !s.runs k || (s.keeper k).state == .locked
    if s.selected ≠ a.sel ∨ !(locked .a) ∨ !(locked .b) ∨ l.state ≠ .fine then s.asymAbort t
    else
      match l.newMeas, l.meas with
      | true, some m =>
        let e0 := m.e + divRound (m.f * (1000000000 + l.asym.alpha)) 2000000000 - divRound m.f 2
        { s with lt := { s.lt with asym := some { a with es := e0 :: a.es, fs := m.f :: a.fs } } }
      | _, _ => s

/-- The population standard deviation, rounded to the nearest unit. -/
def stdDev (xs : List Int) : Nat :=
  let n := xs.length
  let su := xs.foldl (· + ·) 0
  let q := xs.foldl (fun a x => a + x * x) 0
  let v := ((n : Int) * q - su * su).toNat
  if n = 0 then 0 else (isqrt (4 * v) / n + 1) / 2

/-- The reply words of a window: the command's two, the means of e and f, the deviation of e (08 R352). -/
def AsymOpen.words (a : AsymOpen) : List Word :=
  [word a.w4, word a.w5] ++ intervalWords (meanOf a.es) ++ intervalWords (meanOf a.fs) ++ [word (stdDev a.es)]

/-- The end of the window of FIRST: its sums are held, and the command replies with the means (08 R342, R352). -/
def State.asymFirstEnd (s : State) (a : AsymOpen) (t : Instant) : State :=
  let f : AsymFirst := { port := a.port, sel := a.sel, at_ := t, n := a.es.length
                         eSum := a.es.foldl (· + ·) 0, fSum := a.fs.foldl (· + ·) 0 }
  ({ s with lt := { s.lt with asym := none, first := some f } }).finish a.jid State.stOk a.words t

/-- The end of the window of SECOND: the ALPHA of the orientation that KEEP names, applied where APPLY is set
(08 R342, R352). -/
def State.asymSecondEnd (s : State) (a : AsymOpen) (t : Instant) : State :=
  let n := a.es.length
  let es := a.es.foldl (· + ·) 0
  let s2 := { s with lt := { s.lt with asym := none } }
  match s2.lt.first with
  | none => s2.finish a.jid State.stState [] t
  | some f =>
    let f1 := divRound f.fSum f.n
    let f2 := meanOf a.fs
    if (psUnits 100).toNat < (f2 - f1).natAbs then s2.finish a.jid State.stConflict [] t
    else
      let num := (f.eSum * n - es * f.n) * 1000000000
      let al := if f.fSum < 0 then -(divRound num (n * f.fSum.natAbs)) else divRound num (n * f.fSum.natAbs)
      let al' := if a.keep then -al else al
      let ws' := a.words ++ [word (al' % 4294967296).toNat, word (-al' % 4294967296).toNat]
      let s3 := if a.apply then
          { s2 with tk := { s2.tk with staged := s2.tk.staged ++ [⟨t + ms 2, none, .asymApply a.port al'⟩] } }
        else s2
      s3.finish a.jid State.stOk ws' t

/-- ASYM_WINDOW_END: the window of an ASYM_MEASURE ends. -/
def execAsymWindowEnd (t : Instant) (s : State) : Host.Outcome State Fault Refusal :=
  let s1 := s.tick t
  match s1.lt.asym with
  | none => .next s1
  | some a =>
    if t < a.until_ then .next s1
    else .next (if a.second then s1.asymSecondEnd a t else s1.asymFirstEnd a t)

/-- A live run is wanted on a port at the next servo cycle. -/
def State.wantRun (s : State) (p : Nat) : State := s.setLink p { s.link p with runWanted := true }

/-- The delay of a port may be measured: it is ACTIVE on a Tuireane line and its STALE has ended (10 R425). -/
def State.calReady (s : State) (p : Nat) : Bool := s.isActive p && (s.link p).state != .stale

/-- Calibration runs that fall due together (10 R425): a VERNIER run merged into one under way follows it, a
deferred EQ run starts, and a DELAY run starts once the quad's VERNIER run and the port's EQ run have applied. -/
def State.startRuns (s : State) : State :=
  let quadRun := fun (s : State) (q : Nat) =>
    if s.lan.vernPend.getLsbD q && !(s.vernier q).running then
      { s.setVernier q { s.vernier q with running := true } with
        lan := { s.lan with vernPend := s.lan.vernPend &&& ~~~ BitVec.ofNat 4 (2 ^ q) } }
    else s
  let eq := fun (s : State) (p : Nat) =>
    let l := s.lane p
    if l.eqPend && !l.eqRun && s.calReady p then s.setLane p { l with eqPend := false, eqRun := true } else s
  let delay := fun (s : State) (p : Nat) =>
    let l := s.lane p
    if l.delayPend && !l.eqPend && !l.eqRun && !(s.vernier (p / 16)).running && s.calReady p && s.isTl p
        && !(s.link p).running then
      (s.setLane p { l with delayPend := false }).wantRun p
    else s
  let ports := List.range 64
  ports.foldl delay (ports.foldl eq ((List.range 4).foldl quadRun s))

/-- The ports of a CAL_DELAY_RUN that can run: those that are ACTIVE (08 R353). -/
def calPorts (s : State) (mask : Nat) : List Nat :=
  (List.range 64).filter fun p => mask.testBit p && s.isActive p

/-- A live run is in progress, of a command or of a trigger (08 R353). -/
def delayBusy (s : State) : Bool := s.lt.delayJid.isSome || (List.range 64).any fun p => (s.link p).running

/-- A code-density run is in progress, of a command or of a trigger (08 R353). -/
def vernierBusy (s : State) : Bool := s.lt.vernJid.isSome || (List.range 4).any fun q => (s.vernier q).running

def bodyCalDelayRun (c : Ctx) (s : State) : Res :=
  let ports := calPorts s (c.r.u64 4)
  refuseIf (delayBusy s) State.stBusy <|
  let s1 := ports.foldl State.wantRun s
  .wait { s1 with lt := { s1.lt with
    delayJid := some (c.jid, ports, ports.length)
    delayMask := ports.foldl (fun m p => m + 2 ^ p) 0 } }

/-- The vernier runs of the quads of a mask begin (08 R329, R353). -/
def startVerniers (s : State) (mask : Nat) : State :=
  ((List.range 4).filter fun q => mask.testBit q).foldl
    (fun s q => s.setVernier q { s.vernier q with running := true }) s

def bodyCalVernierRun (c : Ctx) (s : State) : Res :=
  let mask := c.r.w 4
  let qs := (List.range 4).filter fun q => mask.testBit q
  refuseIf (!c.r.only 4 0xF) State.stBadParam <|
  refuseIf (vernierBusy s) State.stBusy <|
  let s1 := startVerniers s mask
  .wait { s1 with lt := { s1.lt with vernJid := some (c.jid, qs), vernMask := mask } }

end Sys2Proof.Machine
end

