-- ==== Sys2Proof/Machine/Bond.lean ====
section
/-! DEFINITION. The bond (09 R355 to R376): the lease, its cells, eligibility, running in step, handovers,
stopping and rejoining a keeper, and the commands of group 0x08xx that move them. -/

namespace Sys2Proof.Machine

/-- d in sub-ns units lies within a bound given in fs × 10^-3 of a ps, that is, in thousandths of a ps. -/
def withinMilliPs (d : Int) (m : Nat) : Bool := decide (d.natAbs * 1000000 ≤ m * 65536)

/-- The largest move of the rejoin trim, 100 ps, in whole sub-ns units (09 R376). -/
def trimStep : Int := 6553

namespace State

/-- The keepers count: both band searches are over (07 R309). -/
def started (s : State) : Bool := s.tk.bond.ka.cond != .boot && s.tk.bond.kb.cond != .boot

/-- Eligible to take the lease (09 R365): IN_STEP at the latest servo cycle among the rest. -/
def eligible (s : State) (k : Tk) : Bool :=
  let b := s.bk k
  b.cond == .run && !b.failed && b.outCount == 0 && !b.disagree

/-- The bond's votes: what a cell that serves votes for a holder. -/
def voteOf : Option Tk → CellVote
  | none => .none
  | some .a => .a
  | some .b => .b

def cells (s : State) : List Cell := [s.tk.bond.cell0, s.tk.bond.cell1, s.tk.bond.cell2]

/-- Every cell in service takes the state of the lease. -/
def setVotes (s : State) : State :=
  let v := voteOf s.holder
  let f := fun (c : Cell) => if c.isolated then c else { c with vote := v }
  let b := s.tk.bond
  s.setBond { b with cell0 := f b.cell0, cell1 := f b.cell1, cell2 := f b.cell2 }

/-- The lease can move: two cells in service agree on its state (09 R358). -/
def canMove (s : State) : Bool :=
  2 ≤ (s.cells.filter fun c => !c.isolated && c.vote == voteOf s.holder).length

/-- LEASE_CYCLES × 32 + 8 AON ticks of the nominal length (09 R355). How long a tick is within its tolerance the spec leaves
open: the lease ends from `aonLeast` on, and LEASE_LEFT counts nominal ticks (01 R16; DESIGN CHOICE, assumption 137). -/
def leaseTime (s : State) : Nat := (s.tk.bond.lease * 32 + 8) * aonTick

/-- The lease goes to keeper `k` at `t`; `step` says that the fabric takes the change of the stamp
timescale as a step (09 R368 to R371, R373). Answers the step too. -/
def handover (s : State) (k : Tk) (step : Bool) (t : Instant) : State × Int :=
  let d := s.dOf k
  let old : Nat := match s.holder with | some h => h.code | none => 0xFF
  let s1 := s.raise 0x0800 88 [bytesBE 1 old, bytesBE 1 k.code, intervalBytes d] t
  let s2 := if step then s1.stampStep d
    else { s1 with now := moveBy d s1.now
                   tk := { s1.tk with grid5 := (((s1.tk.grid5 : Int) + 5 * d) % 524288).toNat } }
  let s3 := s2.setBond { s2.tk.bond with
    holder := some k, dA := s.dOf .a - d, dB := s.dOf .b - d, renewed := moveBy d t, lastHandover := t, grantedOnce := true }
  (((s3.countD 7).bondFlag 0).setVotes, d)

/-- The lease becomes free at `t`: it passes to the other keeper if that is eligible, else no keeper holds
it (09 R356, R371). -/
def freeLease (s : State) (expired : Bool) (t : Instant) : State :=
  match s.holder with
  | none => s
  | some h =>
    let s1 := if expired then (s.countD 8).bondFlag 1 else s
    if s1.eligible h.other && s1.canMove then (s1.handover h.other false t).1
    else ((s1.setD h 0).setBond { (s1.setD h 0).tk.bond with holder := none }).setVotes

/-- The fault bit of a keeper in FAULT_CAUSE. -/
def setFault (s : State) (k : Tk) (v : Bool) : State :=
  match k with
  | .a => s.setBond { s.tk.bond with faultA := v }
  | .b => s.setBond { s.tk.bond with faultB := v }

/-- What the bond keeps of a stopped keeper. -/
def stopped (s : State) (k : Tk) (c : KCond) : State :=
  let b := s.bk k
  ((s.setD k 0).setBk k { b with
    cond := c, outCount := 0, outOfStep := false, disagree := false, agreeCount := 0, failed := true
    wants := false }).setKeeper k {}

/-- Starts a rejoin (09 R376): step 1. -/
def startRejoin (s : State) (k : Tk) (t : Instant) : State :=
  let b := s.bk k
  (s.setBk k { b with cond := .loading, attempts := t :: b.attempts, wants := false }).countK k 7

/-- The attempts within the last 10 s. -/
def recentAttempts (s : State) (k : Tk) (t : Instant) : Nat :=
  ((s.bk k).attempts.filter fun a => decide (t < a + sec 10)).length

/-- An attempt that is wanted starts once the keeper's domain is powered and fewer than 3 lie within the last 10 s
(09 R362, R376). -/
def retryRejoin (t : Instant) (s : State) (k : Tk) : State :=
  let b := s.bk k
  if b.cond == .down && b.wants && b.supply && decide (s.recentAttempts k t < 3) then s.startRejoin k t else s

/-- With AUTO_REJOIN a stopped keeper rejoins, but not after the third failed attempt (09 R362). -/
def autoRejoin (s : State) (k : Tk) (t : Instant) : State :=
  let b := s.bk k
  if !s.tk.bond.autoRejoin || b.dead then s else retryRejoin t (s.setBk k { b with wants := true }) k

/-- A failed attempt; the third within 10 s leaves the keeper stopped (09 R362). -/
def noteFail (s : State) (k : Tk) (t : Instant) : State :=
  let b := s.bk k
  match b.cond with
  | .run => s
  | _ =>
    let fs := t :: b.fails.filter fun x => decide (t < x + sec 10)
    s.setBk k { b with fails := fs, dead := b.dead || decide (3 ≤ fs.length) }

/-- A keeper is stopped by the failure of a check (09 R362). -/
def stopKeeper (s : State) (k : Tk) (check : Nat) (t : Instant) : State :=
  let s0 := s.noteFail k t
  let s1 := if s0.holder = some k then s0.freeLease false t else s0
  let s2 := (s1.stopped k .down).setFault k true
  (s2.raise 0x0803 89 [bytesBE 1 k.code, bytesBE 1 check] t).autoRejoin k t

end State

/-- LEASE_EXPIRY: no renewal for the lease interval (09 R355, R356). -/
def execLeaseExpiry (t : Instant) (s : State) : Host.Outcome State Fault Refusal :=
  let s1 := s.tick t
  if s1.holder.isSome ∧ s1.tk.bond.renewed + s1.aonLeast s1.leaseTime ≤ t then .next (s1.freeLease true t) else .next s1

/-- KEEPER_CHECK_FAIL: a releasing check of 09 R361 fails. While XO is absent the NCLK check is suspended. -/
def execKeeperCheckFail (k : Tk) (check : Nat) (t : Instant) (s : State) :
    Host.Outcome State Fault Refusal :=
  let s1 := s.tick t
  let s2 := if check = 1 then s1.setBk k { s1.bk k with supply := false } else s1
  if 7 ≤ check ∨ (check = 3 ∧ s2.tk.xoLost) then .next s1
  else
    match (s2.bk k).cond with
    | .boot => .next s2
    | .off => .next s2
    | .down => .next s2
    | .loading => .next (s2.stopKeeper k 8 t)
    | .seed => .next (s2.stopKeeper k 8 t)
    | .trim _ => .next (s2.stopKeeper k check t)
    | .watch _ => .next (s2.stopKeeper k check t)
    | .run => .next (s2.stopKeeper k check t)

/-- KEEPER_SUPPLY_RETURN: the domain of a stopped keeper is powered again and its rejoin starts. -/
def execKeeperSupplyReturn (k : Tk) (t : Instant) (s : State) : Host.Outcome State Fault Refusal :=
  let s1 := s.tick t
  let b := s1.bk k
  if b.supply then .next s1
  else
    let s2 := s1.setBk k { b with supply := true }
    .next (State.retryRejoin t s2 k)

/-- REJOIN_BAND_DONE: firmware load and band search of a rejoining keeper end (09 R376, steps 1 and 2). -/
def execRejoinBandDone (k : Tk) (ok : Bool) (t : Instant) (s : State) : Host.Outcome State Fault Refusal :=
  let s1 := s.tick t
  if (s1.bk k).cond ≠ .loading then .next s1
  else if ok then .next (s1.setBk k { s1.bk k with cond := .seed })
  else .next (s1.stopKeeper k 8 t)

def State.setCell (s : State) (cell : Nat) (c : Cell) : State :=
  let b := s.tk.bond
  if cell = 0 then s.setBond { b with cell0 := c }
  else if cell = 1 then s.setBond { b with cell1 := c }
  else s.setBond { b with cell2 := c }

/-- BOND_CELL_DISAGREE: a cell differs from two that agree and is reloaded, and isolated at its third reload
within 1 s. With a cell already isolated no two cells can outvote it; it then only votes NONE until the next
renewal (09 R357, R358). -/
def execBondCellDisagree (cell : Nat) (t : Instant) (s : State) : Host.Outcome State Fault Refusal :=
  let s1 := s.tick t
  match s1.cells[cell]? with
  | none => .next s1
  | some c =>
    if c.isolated then .next s1
    else if s1.cells.any fun x => x.isolated then .next (s1.setCell cell { c with vote := .none })
    else
      let rs := t :: c.reloads.filter fun r => decide (t < r + sec 1)
      let s2 := (s1.countD 9).bondFlag 5
      if rs.length < 3 then .next (s2.setCell cell { c with vote := State.voteOf s1.holder, reloads := rs })
      else
        .next (((s2.setCell cell { vote := .none, reloads := rs, isolated := true }).bondFlag 4).raise 0x0802 88
          [bytesBE 1 cell] t)

/-- The end of a keeper's first band search: it runs on the band found, which never changes while it runs (07 R262), or
it is down with its fault (09 R360). -/
def State.bandEnd (s1 : State) (k : Tk) (band : Option Nat) : State :=
  let s2 := s1.setBk k { s1.bk k with
    cond := if band.isSome then .run else .down, band := band.getD (s1.bk k).band }
  if band.isSome then s2
  else
    let s' := s2.setFault k true
    match k with
    | .a => { s' with pwr := { s'.pwr with bandFailA := true } }
    | .b => { s' with pwr := { s'.pwr with bandFailB := true } }

/-- TK-A takes the first lease, or TK-B where TK-A is down (09 R360). -/
def State.bandGrant (s3 : State) (t : Instant) : State :=
  let grant : Option Tk :=
    if (s3.bk .a).cond = .run then some .a
    else if (s3.bk .a).cond = .down ∧ (s3.bk .b).cond = .run then some .b
    else none
  match grant with
  | some g => if s3.holder.isSome then s3
    else (s3.setBond { s3.tk.bond with holder := some g, renewed := t, grantedOnce := true }).setVotes
  | none => s3

/-- TK time starts at 0 at `t` (07 R309). -/
def State.startTime (s4 : State) (t : Instant) : State :=
  let s5 := s4.moveIntervals (-(t : Int))
  { s5 with
    now := 0
    pwr := { s5.pwr with
      tkStart := if s5.pwr.fwd then s5.pwr.tkStart else t
      fwdAt := s5.pwr.fwdAt.map fun f => (f - t + (ms 1 - 1)) / ms 1 * ms 1 } }

/-- KEEPER_BAND_SEARCH_DONE: a keeper's first band search ends (07 R262, R309; 09 R360). TK time starts at 0
once both searches are over. -/
def execKeeperBandSearchDone (k : Tk) (band : Option Nat) (t : Instant) (s : State) :
    Host.Outcome State Fault Refusal :=
  let s1 := s.tick t
  if (s1.bk k).cond ≠ .boot ∨ s1.pwr.inReset then .next s1
  else
    let s4 := (s1.bandEnd k band).bandGrant t
    if s4.started then .next (s4.startTime t) else .next s4

/-! ### One servo cycle (09 R355, R364 to R367, R376) -/

namespace State

/-- The keepers agree on selection, state, STEP_PENDING and TIME_VALID (09 R366). -/
def agree (s : State) : Bool :=
  s.tk.a.sel == s.tk.b.sel && s.tk.a.state == s.tk.b.state && s.tk.a.stepPending == s.tk.b.stepPending
    && s.tk.a.timeValid == s.tk.b.timeValid

/-- IN_STEP and OUT_OF_STEP of a running non-holder (09 R364). -/
def stepTest (s : State) (k : Tk) (d : Int) (t : Instant) : State :=
  let b := s.bk k
  if withinMilliPs d 1500 then s.setBk k { b with outCount := 0, outOfStep := false }
  else
    let n := min 4 (b.outCount + 1)
    let s1 := s.setBk k { b with outCount := n, outOfStep := b.outOfStep || decide (4 ≤ n) }
    if !b.outOfStep && decide (4 ≤ n) then
      (s1.bondFlag 3).raise 0x0801 88 [bytesBE 1 k.code, bytesBE 1 0] t
    else s1

/-- The agreement test of a running non-holder (09 R366). -/
def agreeTest (s : State) (k : Tk) (t : Instant) : State :=
  let b := s.bk k
  if !s.agree then
    let s1 := (s.setBk k { b with disagree := true, agreeCount := 0 }).bondFlag 2
    if b.disagree then s1 else s1.raise 0x0801 88 [bytesBE 1 k.code, bytesBE 1 1] t
  else if !b.disagree then s
  else if s.tk.bond.rejoin ≤ b.agreeCount + 1 then s.setBk k { b with disagree := false, agreeCount := 0 }
  else s.setBk k { b with agreeCount := b.agreeCount + 1 }

/-- What a rejoining keeper is seeded with: the holder's servo; with no holder, the state after reset. -/
def seedOf (s : State) (h : Option Tk) : Keeper :=
  match h with
  | some h => s.keeper h
  | none => { steer := s.tk.cfg.xoTrim }

/-- The bond's work on a keeper `k` that does not hold the lease at a servo cycle, with d measured and the holder
`h` (09 R364 to R367, R376). -/
def nonHolder (s0 : State) (k : Tk) (h : Option Tk) (d : Int) (t : Instant) : State :=
  let far : Bool := decide (ns 100 < d.natAbs)
  let s := if s0.runs k && !far then
      let s1 := s0.stepTest k d t
      if h.isSome then s1.agreeTest k t else s1
    else s0
  let b := s.bk k
  let put := fun (c : KCond) => s.setBk k { b with cond := c, failed := false }
  match b.cond with
  | .boot => s
  | .off => s
  | .down => s
  | .loading => s
  | .seed => (s.setKeeper k (s.seedOf h)).setBk k { b with cond := .trim 0 }
  | .trim n =>
    if far then s.stopKeeper k 7 t
    else if withinMilliPs d 500 then put (.watch 0)
    else if 8 ≤ n + 1 then s.stopKeeper k 8 t
    else
      let s1 := put (.trim (n + 1))
      s1.setD k (d - max (-trimStep) (min trimStep d))
  | .watch n =>
    if far then s.stopKeeper k 7 t
    else if !(withinMilliPs d 1500 && (s.agree || h.isNone)) then put (.watch 0)
    else if n + 1 < s.tk.bond.rejoin then put (.watch (n + 1))
    else ((put .run).setFault k false).raise 0x0804 89 [bytesBE 1 k.code] t
  | .run =>
    if far then s.stopKeeper k 7 t else put .run

/-- The bond's measurements of d at a servo cycle; a keeper that does not run has none (09 R364). -/
def takeD (s : State) (m : ServoIn) : State :=
  (s.setD .a (if s.runs .a && s.holder != some .a then m.dA else 0)).setD .b
    (if s.runs .b && s.holder != some .b then m.dB else 0)

/-- The bond at a servo cycle, d having been measured. The holder renews; the non-holder is measured against it. Without a holder an
eligible keeper takes the lease, and the fabric takes its d as a step (09 R371). -/
def bondCycle (s : State) (m : ServoIn) (t : Instant) : State :=
  let dOf := fun (k : Tk) => match k with | .a => m.dA | .b => m.dB
  let s' := match s.holder with
    | some h =>
      let k := h.other
      let s1 := s.setBk h { s.bk h with failed := false, outCount := 0, outOfStep := false, disagree := false }
      let s2 := (s1.setBond { s1.tk.bond with renewed := t }).setVotes
      s2.nonHolder k (some h) (dOf k) t
    | none =>
      let s2 := (s.nonHolder .a none m.dA t).nonHolder .b none m.dB t
      let grant := fun (s : State) (k : Tk) =>
        if s.holder.isNone && s.eligible k && s.canMove then (s.handover k true t).1 else s
      grant (grant s2 .a) .b
  retryRejoin t (retryRejoin t s' .a) .b

/-! ### Commanded changes (09 R372 to R375) -/

/-- BOND_HANDOVER at its servo cycle. -/
def doHandover (s : State) (force : Bool) (jid : Option Nat) (t : Instant) : State :=
  match s.holder with
  | none => s.finishOpt jid stState [] t
  | some h =>
    let k := h.other
    if !s.canMove || !s.runs k || (!s.eligible k && !force) then s.finishOpt jid stState [] t
    else
      let big := !s.eligible k && decide (ns 1 < (s.dOf k).natAbs)
      let r := s.handover k big t
      r.1.finishOpt jid stOk (intervalWords r.2) t

/-- KEEPER_DISABLE at its servo cycle (09 R374). -/
def doDisable (s : State) (k : Tk) (force : Bool) (jid : Option Nat) (t : Instant) : State :=
  let off := fun (s : State) => (s.stopped k .off).setFault k false
  if s.holder ≠ some k then (off s).finishOpt jid stOk (intervalWords 0) t
  else
    let o := k.other
    if !s.canMove then s.finishOpt jid stState [] t
    else if s.eligible o then
      let r := s.handover o false t
      (off r.1).finishOpt jid stOk (intervalWords r.2) t
    else if force && s.runs o then
      let r := s.handover o (decide (ns 1 < (s.dOf o).natAbs)) t
      let s1 := off r.1
      (s1.setKeeper o { s1.keeper o with empty := 16 }).finishOpt jid stOk (intervalWords r.2) t
    else s.finishOpt jid stState [] t

/-- KEEPER_ENABLE at its servo cycle (09 R375, R395). -/
def doEnable (s : State) (k : Tk) (jid : Option Nat) (t : Instant) : State :=
  let c := (s.bk k).cond
  if !(c == .off || c == .down) then s.finishOpt jid stState [] t
  else
    let s0 := s.setBk k { s.bk k with cond := .down, dead := false, fails := [], wants := true }
    let s1 := if (s0.bk k).supply then s0.startRejoin k t else s0
    s1.finishOpt jid stOk [] t

end State

/-! ### Registers (09 R391, R392) -/

/-- The condition code of a keeper in BOND_STATUS. -/
def State.condCode (s : State) (k : Tk) : Nat :=
  let b := s.bk k
  if s.holder = some k then 5
  else match b.cond with
  | .boot => 0
  | .off => 0
  | .down => 1
  | .loading => 2
  | .seed => 2
  | .trim _ => 2
  | .watch _ => 2
  | .run =>
    if b.outOfStep then 3 else if s.eligible k then 4 else 6

def State.bondStatus (s : State) (t : Instant) : Word :=
  let b := s.tk.bond
  let hold := match s.holder with | none => 0 | some .a => 1 | some .b => 2
  let left := match s.holder with
    | none => 0
    | some _ => min 1023 ((b.renewed + s.leaseTime - t + (aonTick - 1)) / aonTick)
  word (hold * 2 ^ 30 + atBit (!b.cell2.isolated) 29 + atBit (!b.cell1.isolated) 28 + atBit (!b.cell0.isolated) 27
    + s.condCode .b * 2 ^ 24 + s.condCode .a * 2 ^ 21 + min 3 (s.recentAttempts .b t) * 2 ^ 19
    + min 3 (s.recentAttempts .a t) * 2 ^ 17 + left)

/-- BOND_PHASE: d, saturating; 0 while the non-holder is not running. With no holder it is d of TK-A, or of TK-B
where TK-A does not run. -/
def State.bondPhase (s : State) : Word :=
  let k : Tk := match s.holder with
    | some h => h.other
    | none => if s.runs .a then .a else .b
  if s.runs k then
    let d := max (-0x7FFFFFFF) (min 0x7FFFFFFF (s.dOf k))
    word (d % 4294967296).toNat
  else 0

/-! ### Commands (09 R394, R395) -/

/-- LEASE 2 to 16 servo cycles, REJOIN 8 or more (09 R394). -/
def okBondCfgSet (r : Req) : Bool :=
  r.only 4 0x11F && r.only 5 0xFF && decide (2 ≤ r.f 4 0 5 ∧ r.f 4 0 5 ≤ 16) && decide (8 ≤ r.f 5 0 8)

def bodyBondCfgSet (c : Ctx) (s : State) : Res :=
  refuseIf (!okBondCfgSet c.r) State.stBadParam <|
  stageTk c s (.bond (c.r.b 4 8) (c.r.f 4 0 5) (c.r.f 5 0 8))

def bodyBondCfgGet (_ : Ctx) (s : State) : Res :=
  let b := s.tk.bond
  .done s [word (atBit b.autoRejoin 8 + b.lease), word b.rejoin]

/-- R372 decides STATE at the servo cycle at which the lease would move. -/
def bodyBondHandover (c : Ctx) (s : State) : Res :=
  refuseIf (!c.r.only 4 0x80000000) State.stBadParam <|
  stageTk c s (.handover (c.r.b 4 31))

/-- The keeper a command names. -/
def keeperOf (r : Req) : Tk := if r.b 4 0 then .b else .a

def bodyKeeperDisable (c : Ctx) (s : State) : Res :=
  refuseIf (!c.r.only 4 0x80000001) State.stBadParam <|
  stageTk c s (.disable (keeperOf c.r) (c.r.b 4 31))

def bodyKeeperEnable (c : Ctx) (s : State) : Res :=
  let cond := (s.bk (keeperOf c.r)).cond
  refuseIf (!(cond == .off || cond == .down)) State.stState <|
  refuseIf (!c.r.only 4 1) State.stBadParam <|
  stageTk c s (.enable (keeperOf c.r))

end Sys2Proof.Machine
end

