-- ==== Sys2Proof/Machine/Crypto.lean ====
section
/-! DEFINITION. The two functions of public standards that 13 R563 and 14 R579, R592 name: SHA-384 (FIPS 180-4)
and the verification of an ECDSA signature on the curve P-384 (FIPS 186-4). The spec names them and does not
give them; they are taken from those standards (PRESUMED, assumption 90). -/

namespace Sys2Proof

/-! ### SHA-384

The constants are computed from what the standard says they are. A block is compressed in the form of two
recurrences: each round adds one value to a sequence A and one to a sequence E, of which the last four are held, and
takes one word from a window of 16 that the schedule keeps full. -/

/-- The largest number whose `k`-th power is at most `x`, below 2 ^ `n`: its bits from the top. -/
def rootBits (k x n : Nat) : Nat :=
  (List.range n).foldr (fun i r => if (r + 2 ^ i) ^ k ≤ x then r + 2 ^ i else r) 0

/-- The first 64 bits of the fraction of the `k`-th root of a small number. -/
def rootFraction (k p : Nat) : BitVec 64 := BitVec.ofNat 64 (rootBits k (p * 2 ^ (64 * k)) 70)

/-- The first 80 primes: those up to 409. -/
def firstPrimes : List Nat :=
  (List.range 410).filter fun p => 2 ≤ p && (List.range p).all fun d => d < 2 || p % d != 0

/-- The round constants, from the cube roots of the first 80 primes. -/
def roundKeys : List (BitVec 64) := firstPrimes.map (rootFraction 3)

/-- The sum modulo 2 of a word turned right by each of some amounts. -/
def turned (by_ : List Nat) (x : BitVec 64) : BitVec 64 := by_.foldl (fun acc n => acc ^^^ x.rotateRight n) 0

/-- The sequences A and E of a block's rounds, the last four values of each, newest first, and the next 16 words of
the message schedule. -/
structure Rounds where
  as     : List (BitVec 64)
  es     : List (BitVec 64)
  window : List (BitVec 64)
  deriving DecidableEq, Repr

/-- The value a history had `i` rounds ago. -/
def ago (l : List (BitVec 64)) (i : Nat) : BitVec 64 := l.getD i 0

/-- One round with its constant. -/
def Rounds.next (r : Rounds) (key : BitVec 64) : Rounds :=
  let e1 := ago r.es 0
  let a1 := ago r.as 0
  let choice := ago r.es 2 ^^^ (e1 &&& (ago r.es 1 ^^^ ago r.es 2))
  let most := (a1 &&& (ago r.as 1 ||| ago r.as 2)) ||| (ago r.as 1 &&& ago r.as 2)
  let step := ago r.es 3 + turned [14, 18, 41] e1 + choice + key + ago r.window 0
  let w1 := ago r.window 1
  let w14 := ago r.window 14
  let more := ago r.window 0 + (turned [1, 8] w1 ^^^ w1 >>> 7) + ago r.window 9 + (turned [19, 61] w14 ^^^ w14 >>> 6)
  { as := (step + turned [28, 34, 39] a1 + most) :: r.as.take 3
    es := (ago r.as 3 + step) :: r.es.take 3
    window := r.window.drop 1 ++ [more] }

/-- A chaining value: the four values of A, then the four of E. -/
abbrev Chain := List (BitVec 64)

/-- The chaining value before the first block, from the square roots of the ninth to the sixteenth prime. -/
def Chain.start : Chain := ((firstPrimes.drop 8).take 8).map (rootFraction 2)

/-- The chaining value after a block of 128 bytes. -/
def Chain.absorb (h : Chain) (block : List Byte) : Chain :=
  let words := (List.range 16).map fun i => BitVec.ofNat 64 (natBE ((block.drop (8 * i)).take 8))
  let r := roundKeys.foldl Rounds.next { as := h.take 4, es := h.drop 4, window := words }
  List.zipWith (· + ·) h (r.as ++ r.es)

/-- Absorbs `n` blocks. -/
def Chain.absorbAll : Nat → Chain → List Byte → Chain
  | 0, h, _ => h
  | n + 1, h, m => absorbAll n (h.absorb (m.take 128)) (m.drop 128)

/-- The SHA-384 of a message, 48 bytes: a one bit, zeros and the bit length fill it up to whole blocks of 128 bytes,
and the first six words of the last chaining value are the digest. -/
def sha384 (m : List Byte) : List Byte :=
  let blocks := (m.length + 17 + 127) / 128
  let filled := m ++ 0x80#8 :: List.replicate (128 * blocks - m.length - 17) 0#8 ++ bytesBE 16 (8 * m.length)
  ((Chain.start.absorbAll blocks filled).take 6).flatMap fun w => bytesBE 8 w.toNat

/-! ### ECDSA on P-384 -/

namespace P384

/-- The prime of the field. -/
def p : Nat := 2 ^ 384 - 2 ^ 128 - 2 ^ 96 + 2 ^ 32 - 1
/-- The order of the group. -/
def n : Nat := 0xffffffffffffffffffffffffffffffffffffffffffffffffc7634d81f4372ddf581a0db248b0a77aecec196accc52973
def b : Nat := 0xb3312fa7e23ee7e4988e056be3f82d19181d9c6efe8141120314088f5013875ac656398d8a2ed19d2a85c8edd3ec2aef
def gx : Nat := 0xaa87ca22be8b05378eb1c71ef320ad746e1d3b628ba79b9859f741e082542a385502f25dbf55296c3a545e3872760ab7
def gy : Nat := 0x3617de4a96262c6f5d9e98bf9292dc29f8f41dbd289a147ce9da3113b5f0b8c00a60b1ce1d7e819d7a431d7c90ea0e5f

/-- Subtraction modulo p. -/
def sub (x y : Nat) : Nat := (x + p - y % p) % p

/-- `x` to the power `e` modulo `m`, over the 384 bits of `e`. -/
def power (m x e : Nat) : Nat :=
  (List.range 384).foldl (fun acc i =>
    let a := acc * acc % m
    if flag e (383 - i) then a * x % m else a) 1

/-- A point in Jacobian coordinates; `z` is 0 at infinity. -/
structure Point where
  x : Nat
  y : Nat
  z : Nat
  deriving DecidableEq, Repr

def inf : Point := ⟨1, 1, 0⟩

def dbl (a : Point) : Point :=
  if a.z = 0 ∨ a.y = 0 then inf
  else
    let yy := a.y * a.y % p
    let zz := a.z * a.z % p
    let s := 4 * a.x * yy % p
    let m := 3 * (sub a.x zz) * (a.x + zz) % p
    let x := sub (m * m) (2 * s)
    ⟨x, sub (m * sub s x) (8 * yy * yy), 2 * a.y * a.z % p⟩

def add (a c : Point) : Point :=
  if a.z = 0 then c
  else if c.z = 0 then a
  else
    let z1 := a.z * a.z % p
    let z2 := c.z * c.z % p
    let u1 := a.x * z2 % p
    let u2 := c.x * z1 % p
    let s1 := a.y * z2 * c.z % p
    let s2 := c.y * z1 * a.z % p
    if u1 = u2 then if s1 = s2 then dbl a else inf
    else
      let h := sub u2 u1
      let r := sub s2 s1
      let hh := h * h % p
      let hhh := h * hh % p
      let v := u1 * hh % p
      let x := sub (r * r) (hhh + 2 * v)
      ⟨x, sub (r * sub v x) (s1 * hhh), h * a.z * c.z % p⟩

/-- `k` times a point, over the 384 bits of `k`. -/
def mul (k : Nat) (a : Point) : Point :=
  (List.range 384).foldl (fun acc i =>
    let d := dbl acc
    if flag k (383 - i) then add d a else d) inf

def onCurve (x y : Nat) : Bool :=
  decide (x < p) && decide (y < p) && (y * y % p == (sub (x * x * x) (3 * x) + b) % p)

end P384

/-- Whether (r, s) is a signature over a digest by the key X then Y, 96 bytes. -/
def ecdsaOk (key : List Byte) (digest : List Byte) (r s : Nat) : Bool :=
  let x := natBE (key.take 48)
  let y := natBE (key.drop 48)
  let w := P384.power P384.n s (P384.n - 2)
  let u1 := natBE digest * w % P384.n
  let u2 := r * w % P384.n
  let q := P384.add (P384.mul u1 ⟨P384.gx, P384.gy, 1⟩) (P384.mul u2 ⟨x, y, 1⟩)
  let zi := P384.power P384.p q.z (P384.p - 2)
  decide (key.length = 96 ∧ 0 < r ∧ r < P384.n ∧ 0 < s ∧ s < P384.n) && P384.onCurve x y
    && q.z != 0 && (q.x * zi % P384.p * zi % P384.p) % P384.n == r

end Sys2Proof
end

