-- ==== Sys2Proof/Machine/KeeperCycle.lean ====
section
/-! DEFINITION. A keeper's reference states (07 R276 to R287), the servo cycle of both keepers with the bond
and link timing (07 R263), loss and return of XO, PPS outputs, and the commands and registers of chapter 7. -/

namespace Sys2Proof.Machine

/-! ### What a candidate delivers at a servo cycle (07 R264 to R266) -/

/-- A new measurement of a candidate. -/
inductive Delivery
  | time (e : Int)     -- an offset against the stamp timescale
  | phase (x : Int)    -- a phase of a frequency-only candidate
  deriving DecidableEq, Repr

namespace State

/-- What a candidate delivers to keeper `k`, before d is added. A SyncE phase repeats every period; it is
taken nearest to the keeper's last one. -/
def delivery (s : State) (k : Tk) (i : Nat) : Option Delivery :=
  let c := s.cand i
  match c.kind with
  | 0 =>
    let l := s.link c.port
    match l.newMeas, l.meas with
    | true, some m => some (.time m.e)
    | _, _ => none
  | 3 => (s.ptpSt c.port).offset.map .time
  | 4 =>
    let m := s.phasePeriod c.port
    let x := s.phi25 c.port
    match (s.keeper k).buildPrev with
    | some p =>
      let q := p - s.dOf k
      some (.phase (q + divRound (wrap25 m ((x : Int) - 25 * q)) 25))
    | none => some (.phase (divRound (x : Int) 25))
  | 5 => none
  | n =>
    let f := s.refCfg (n - 1)
    let r := s.refSt (n - 1)
    let dl := psUnits f.delay
    if f.mode = 3 then r.ppsOff.map fun e => .time (wrapSecond (e - dl))
    else if f.mode = 1 then
      match r.phase, r.whole with
      | some p, some w => some (.time (wrapSecond (p + w - dl)))
      | _, _ => none
    else if f.mode = 2 then r.phase.map .phase
    else none

/-- The last offset of every time-carrying candidate is kept for REF_STATUS_GET. -/
def noteOffsets (s : State) : State :=
  (List.range 16).foldl (fun s i =>
    if !(s.cand i).valid then s
    else
      match s.delivery .a i with
      | some (.time e) => s.setCandSt i { s.candSt i with lastOff := e }
      | _ => s) s

/-- One-shot offsets are used once. -/
def clearOffsets (s : State) : State :=
  { s with tk := { s.tk with
    refSt := s.tk.refSt.map fun e => (e.1, { e.2 with ppsOff := none })
    ptp := s.tk.ptp.map fun e => (e.1, { e.2 with offset := none }) } }

/-! ### Transitions (07 R277) -/

/-- A transition of keeper `k`: EV_TK_STATE with both states and the reason. -/
def goto (s : State) (k : Tk) (new : RState) (reason : Nat) (t : Instant) (f : Keeper → Keeper) : State :=
  let old := (s.keeper k).state
  let v := f (s.keeper k)
  let v1 := { v with state := new, reason := reason }
  let v2 := if new = .locked ∧ old ≠ .locked then
      { v1 with lockedAt := t, lockSum := 0, lockSumAt := t, steers := [(t, v1.steer)], closedAt := t
                holdFrom := none, te0 := 0, unc := none, loop := .closed }
    else v1
  let s1 := s.setKeeper k v2
  let s2 := if new = .holdover ∧ old ≠ .holdover then s1.countK k 5
    else if new = .lost ∧ old ≠ .lost then s1.countK k 6 else s1
  s2.raise 0x0400 85 [bytesBE 1 k.code, bytesBE 1 old.code, bytesBE 1 new.code, bytesBE 1 reason] t

end State

/-- The keeper enters HOLDOVER at `t`, holding `x` (07 R285, R286). -/
def Keeper.toHoldover (x : Int) (te0 : Nat) (unc : Option Nat) (t : Instant) (k : Keeper) : Keeper :=
  { k.steerTo x t with holdFrom := some t, te0 := te0, unc := unc, fresh := false, loop := .closed }

/-- The keeper enters FREE_RUN holding `x`; a new XO_TRIM takes effect there without memory (07 R276, R301). -/
def Keeper.toFreeRun (trim x : Int) (t : Instant) (k : Keeper) : Keeper :=
  let y := if k.trimNew && !k.memValid then trim else x
  { k.steerTo y t with
    fresh := false, loop := .closed, stepPending := false
    trimNew := k.trimNew && k.memValid }

/-- The procedure of ACQUIRING begins (07 R278). -/
def Keeper.restart (k : Keeper) : Keeper :=
  { k.clearRun with loop := .fit, meas := [], count := 0, buildPrev := none, buildAcc := 0, fresh := false }

/-- The loop closes (07 R278). -/
def Keeper.close (t : Instant) (k : Keeper) : Keeper :=
  { k with loop := .closed, closedAt := t, used := [], steers := [(t, k.steer)], lastUsed := some t
           stepPending := false }

/-- Offsets older than the servo and the holdover estimate look back are dropped. -/
def Keeper.prune (v : ServoCfg) (t : Instant) (k : Keeper) : Keeper :=
  let w := max (sec 1) (dwellOf v)
  { k with used := k.used.filter fun x => decide (t ≤ x.1 + w) }

namespace State

/-- The servo input settings of a selected candidate. -/
def servoOf (s : State) (i : Nat) : ServoCfg := s.servoCfg (s.inputOf (s.cand i))

/-- A frequency-only delivery as an offset by phase build-out, a time-carrying one as e_x (07 R264, R272). -/
def offsetOf (s : State) (k : Tk) (d : Delivery) : State × Int × Bool :=
  match d with
  | .time e => (s, e + s.dOf k, true)
  | .phase x =>
    let r := (s.keeper k).buildOut s.tk.cfg (x + s.dOf k)
    let s1 := s.setKeeper k r.1
    (if r.2.2 then s1.countK k 4 else s1, r.2.1, false)

/-- An offset is used in the servo (07 R273, R276). -/
def useOffset (s : State) (k : Tk) (i : Nat) (e : Int) (carries : Bool) (t : Instant) : State :=
  let v := s.servoOf i
  let r := (s.keeper k).update v e t
  let near : Bool := decide (e.natAbs ≤ ns s.tk.cfg.jumpTh)
  let k1 := { r.1.prune v t with timeValid := r.1.timeValid || (carries && near) }
  let s1 := s.setKeeper k k1
  if r.2 then (s1.countK k 1).tkFlag 4 else s1

/-- An offset is refused (07 R280, R281). -/
def refuseOffset (s : State) (k : Tk) (i : Nat) (e : Int) (t : Instant) : State :=
  let r := (s.keeper k).refuse s.tk.cfg e
  let s1 := ((s.setKeeper k r.k).countK k 0).tkFlag 0
  let s2 := if r.first then
      s1.raise 0x0403 86 [bytesBE 1 k.code, bytesBE 1 i, intervalBytes e] t else s1
  if r.pend then (s2.tkFlag 1).raise 0x0404 86 [bytesBE 1 k.code, intervalBytes r.k.pending] t else s2

/-- The 16th measurement of ACQUIRING (07 R278, steps 1 and 2). -/
def fitDone (s : State) (k : Tk) (e : Int) (carries : Bool) (t : Instant) : State :=
  let c := s.tk.cfg
  let v := s.keeper k
  let i := clampSteer (v.steer - fitSlope v.meas)
  let v1 := { v.steerTo i t with integ := i * fineUnit }
  if !carries ∨ e.natAbs ≤ ns c.jumpTh then s.setKeeper k (v1.close t)
  else if !v1.firstUsed ∧ s.pwr.policy.getLsbD 0 then s.setKeeper k { v1 with loop := .stepNext (-e) }
  else if e.natAbs ≤ ns c.stepLimit then s.setKeeper k (v1.close t)
  else
    let p := meanOf (v1.meas.map fun x => x.2)
    ((s.setKeeper k { v1 with loop := .waiting, stepPending := true, pending := p }).tkFlag 1).raise 0x0404 86
      [bytesBE 1 k.code, intervalBytes p] t

/-- A measurement in ACQUIRING: none is refused (07 R278). -/
def acquire (s : State) (k : Tk) (i : Nat) (e : Int) (carries : Bool) (t : Instant) : State :=
  let v := s.keeper k
  match v.loop with
  | .closed => s.useOffset k i e carries t
  | .stepNext _ => s
  | .fit =>
    let v1 := { v with meas := ((t, e) :: v.meas).take 16, count := v.count + 1, offset := e }
    let s1 := s.setKeeper k v1
    if v1.count < 16 then s1 else s1.fitDone k e carries t
  | .waiting =>
    let m := ((t, e) :: v.meas).take 16
    s.setKeeper k { v with meas := m, offset := e, pending := meanOf (m.map fun x => x.2) }

/-- The steering word HOLDOVER runs on after leaving LOCKED (07 R277, R285). -/
def leaveLocked (c : KeeperCfg) (t : Instant) (v : Keeper) : Keeper × Int :=
  let v1 := v.takeMemory c t
  (v1, if v1.memValid then v1.memory else v1.lockMean t)

/-- LOCKED, with the keeper's present selection (07 R277). -/
def lockedCycle (s : State) (k : Tk) (rs : Option Nat) (changed : Bool) (t : Instant) : State :=
  let c := s.tk.cfg
  let v := s.keeper k
  match rs with
  | none =>
    let r := leaveLocked c t v
    if r.1.memValid then s.goto k .holdover 3 t fun _ => r.1.toHoldover r.2 (v.lastMean t) none t
    else s.goto k .freeRun 3 t fun _ => r.1.toFreeRun c.xoTrim r.2 t
  | some i =>
    let d := s.delivery k i
    let switch := fun (s : State) => (s.countK k 2).goto k .locked 1 t fun v => { v with fresh := false }
    if !(s.carries (s.cand i)) then
      let s1 := if changed || v.fresh then switch s else s
      match d with
      | none => s1
      | some x =>
        let r := s1.offsetOf k x
        r.1.useOffset k i r.2.1 false t
    else
      match d with
      | none => s
      | some x =>
        let r := s.offsetOf k x
        let e := r.2.1
        if e.natAbs ≤ ns c.jumpTh then
          let s1 := if v.fresh then switch s else s
          (s1.setKeeper k (s1.keeper k).clearRun).useOffset k i e true t
        else
          let s1 := s.refuseOffset k i e t
          let q := leaveLocked c t (s1.keeper k)
          s1.goto k .holdover 4 t fun _ => q.1.toHoldover q.2 (v.lastMean t) none t

/-- HOLDOVER ends: i takes the memory, or the held S without one (07 R277). -/
def backToLocked (s : State) (k : Tk) (t : Instant) : State :=
  s.goto k .locked 10 t fun v =>
    { v.clearRun with integ := (if v.memValid then v.memory else v.steer) * fineUnit, fresh := false }

def holdoverCycle (s : State) (k : Tk) (rs : Option Nat) (t : Instant) : State :=
  let c := s.tk.cfg
  let v := s.keeper k
  if ns c.lostBudget * estDen < v.estimate c t then
    s.goto k .lost 5 t fun v => { v.clearRun with timeValid := false }
  else
    match rs with
    | none => s
    | some i =>
      if !(s.carries (s.cand i)) then
        let s1 := s.backToLocked k t
        match s1.delivery k i with
        | none => s1
        | some x =>
          let r := s1.offsetOf k x
          r.1.useOffset k i r.2.1 false t
      else
        match s.delivery k i with
        | none => s
        | some x =>
          let e := (s.offsetOf k x).2.1
          if e.natAbs ≤ ns c.jumpTh then (s.backToLocked k t).useOffset k i e true t
          else s.refuseOffset k i e t

/-- The measurement of candidate `i` at this servo cycle, where there is one, goes into the procedure of ACQUIRING. -/
def acquireFirst (s : State) (k : Tk) (i : Nat) (t : Instant) : State :=
  match s.delivery k i with
  | none => s
  | some x =>
    let r := s.offsetOf k x
    r.1.acquire k i r.2.1 r.2.2 t

/-- Measures in ACQUIRING and tests the lock condition (07 R275, R277, R278). -/
def acquiringCycle (s : State) (k : Tk) (rs : Option Nat) (changed : Bool) (old : Option Nat) (t : Instant) :
    State :=
  let v := s.keeper k
  let locks := fun (s : State) (i : Option Nat) =>
    match i with
    | some i => (s.keeper k).lockHolds (s.servoOf i) (s.carries (s.cand i)) t
    | none => false
  let take := fun (s : State) (i : Nat) => s.acquireFirst k i t
  if changed then
    if locks s old then s.goto k .locked 2 t fun v => { v with fresh := rs.isSome }
    else
      match rs with
      | none => s.goto k .freeRun 3 t fun v =>
          v.toFreeRun s.tk.cfg.xoTrim (divRound v.integ fineUnit.toNat) t
      | some i => take (s.goto k .acquiring 1 t Keeper.restart) i
  else
    match rs with
    | none => s.goto k .freeRun 3 t fun _ => v.toFreeRun s.tk.cfg.xoTrim (divRound v.integ fineUnit.toNat) t
    | some i =>
      let s1 := take s i
      if locks s1 rs then s1.goto k .locked 2 t id else s1

/-- One keeper at a servo cycle: selection, then its state (07 R269, R272, R277). Where a row of R277 for TIME_SET or
TIME_ACCEPT_STEP has applied at this cycle, no later row does: only the procedure of ACQUIRING starts again with a new
selection (R278). -/
def keeperCycle (t : Instant) (stepped : Bool) (s : State) (k : Tk) : State :=
  if !s.runs k then s
  else
    let v := s.keeper k
    let new := if 0 < v.empty then none else s.select v.sel
    let changed : Bool := new != v.sel
    let old := s.realSel v.sel
    let rs := s.realSel new
    let v1 := { v with sel := new, empty := v.empty - 1 }
    let s1 := if changed then
        let code := fun (o : Option Nat) => match o with | some i => i | none => 0xFF
        let v2 := { v1.clearRun with
          buildPrev := none, buildAcc := 0, fresh := v.state == .locked && rs.isSome
          stepPending := v.stepPending && v.state == .acquiring }
        ((s.setKeeper k v2).tkFlag 3).raise 0x0401 85
          [bytesBE 1 k.code, bytesBE 1 (code v.sel), bytesBE 1 (code new)] t
      else s.setKeeper k v1
    if stepped then
      if changed && v.state == .acquiring && rs.isSome then s1.setKeeper k (s1.keeper k).restart else s1
    else
    match v.state with
    | .freeRun =>
      match rs with
      | none => s1
      | some i => (s1.goto k .acquiring 1 t fun v =>
          { v.restart with firstUsed := v.firstUsed && v.timeValid }).acquireFirst k i t
    | .lost =>
      match rs with
      | none => s1
      | some i => (s1.goto k .acquiring 1 t fun v => { v.restart with firstUsed := false }).acquireFirst k i t
    | .acquiring => s1.acquiringCycle k rs changed old t
    | .locked => s1.lockedCycle k rs changed t
    | .holdover => s1.holdoverCycle k rs t

/-! ### Changes that a servo cycle applies (07 R297) -/

/-- A keeper takes TIME_SET (07 R277, R283). -/
def timeSetKeeper (s : State) (k : Tk) (t : Instant) : State :=
  if !s.runs k then s
  else
    let v := s.keeper k
    let clear := fun (v : Keeper) =>
      { v.clearRun with
        pending := 0, timeValid := true, te0 := 0
        holdFrom := if v.state = .holdover ∨ v.state = .lost then some t else none
        loop := if v.loop = .waiting then .fit else v.loop
        meas := if v.loop = .waiting then [] else v.meas
        count := if v.loop = .waiting then 0 else v.count }
    match v.state with
    | .lost =>
      if v.memValid then s.goto k .holdover 7 t fun v => (clear v).steerTo v.memory t
      else s.goto k .freeRun 7 t fun v => { (clear v).toFreeRun s.tk.cfg.xoTrim v.steer t with holdFrom := none }
    | x => s.goto k x 7 t clear

/-- A keeper takes the accepted step (07 R277, R282). -/
def acceptKeeper (s : State) (k : Tk) (t : Instant) : State :=
  if !s.runs k then s
  else
    match (s.keeper k).state with
    | .holdover => s.goto k .locked 6 t fun v => { v.clearRun with pending := 0, timeValid := true }
    | x => s.goto k x 6 t fun v =>
        let v1 := { v.clearRun with pending := 0, timeValid := true }
        if x = .acquiring ∧ v.loop = .waiting then v1.close t else v1

/-- A keeper has taken its first step (07 R278, R279). -/
def firstStepKeeper (s : State) (k : Tk) (t : Instant) : State :=
  if !s.runs k then s
  else
    match (s.keeper k).loop with
    | .stepNext _ => s.goto k (s.keeper k).state 6 t fun v =>
        { v.close t with firstUsed := true, timeValid := true }
    | _ => s

/-- Writes a candidate. A change of the selected one disqualifies it, and it qualifies afresh; so does a
change of source (07 R298). A hold stays until CLEAR (R268). -/
def applyCand (s : State) (i : Nat) (v : Cand) (t : Instant) : State :=
  let old := s.cand i
  let s1 := { s with tk := { s.tk with cands := Tbl.set {} s.tk.cands i v } }
  let isSel : Bool := s.tk.a.sel == some i || s.tk.b.sel == some i
  if old ≠ v ∧ (isSel || old.kind != v.kind || old.port != v.port || old.valid != v.valid) then
    (if (s.candSt i).qstate = 2 then s1.disqualify i 4 t else s1.setQual i 0 0 0 t).forgetCand i
  else s1

/-- REF_CMD at its servo cycle (07 R268 to R270, R299). -/
def applyRefCmd (s : State) (i act : Nat) (jid : Option Nat) (t : Instant) : State :=
  let s0 := { s with tk := { s.tk with
    disputes := s.tk.disputes.filter fun d => d.1 != i && d.2 != i } }
  let ok := fun (s : State) => s.finishOpt jid stOk [] t
  match act with
  | 0 =>
    let s1 := if (s0.candSt i).qstate = 2 then s0.disqualify i 4 t else s0.setQual i 3 4 0 t
    ok (s1.setCandSt i { s1.candSt i with hold := 4 })
  | 1 =>
    let c := s0.candSt i
    ok (if c.hold = 0 then s0 else s0.setCandSt i { c with hold := 0, qstate := 3, since := 0 })
  | 2 =>
    if s0.qualified i ∧ (s0.cand i).kind ≠ 5 then ok { s0 with tk := { s0.tk with force := some i } }
    else s.finishOpt jid stState [] t
  | _ => ok { s0 with tk := { s0.tk with force := none } }

/-- XO_TRIM takes effect at once only in FREE_RUN without memory (07 R301). -/
def applyTrim (s : State) (trim : Int) (k : Tk) (t : Instant) : State :=
  let v := s.keeper k
  if v.state = .freeRun ∧ !v.memValid then s.setKeeper k { v.steerTo trim t with trimNew := false }
  else s.setKeeper k { v with trimNew := true }

/-- A due change that is neither a step nor a bond move. -/
def applyTkChange (t : Instant) (s : State) (e : TkStaged) : State :=
  let ok := fun (s : State) => s.finishOpt e.jid stOk [] t
  match e.change with
  | .cand i v => ok (s.applyCand i v t)
  | .servo i v => ok { s with tk := { s.tk with servo := Tbl.set (ServoCfg.reset i) s.tk.servo i v } }
  | .keeper v =>
    let old := s.tk.cfg.xoTrim
    let s1 := { s with tk := { s.tk with cfg := v } }
    ok (if old = v.xoTrim then s1 else (s1.applyTrim v.xoTrim .a t).applyTrim v.xoTrim .b t)
  | .ptp p v =>
    let old := s.ptpCfg p
    let s1 := { s with tk := { s.tk with ptpCfg := Tbl.set {} s.tk.ptpCfg p v } }
    ok (if old.role = v.role ∧ old.profile = v.profile ∧ old.domain = v.domain then s1 else s1.setPtpSt p {})
  | .synce p v =>
    let s1 := { s with tk := { s.tk with synceCfg := Tbl.set {} s.tk.synceCfg p v } }
    ok (if v.en then s1 else s1.setEsmc p {})
  | .refin i v => ok ({ s with tk := { s.tk with refCfg := Tbl.set {} s.tk.refCfg i v } }.setRefSt i {})
  | .refCmd i act => s.applyRefCmd i act e.jid t
  | .link p v =>
    let s1 := s.setLink p { s.link p with cfg := v }
    ok (if v.en then s1 else s1.ltOff p t)
  | .asym p v => ok (s.setLink p { s.link p with asym := v, calSend := true })
  | .asymApply p al =>
    let l := s.link p
    ok ((s.setLink p { l with asym := { l.asym with alpha := al }, calSend := true }).raise 0x0407 102
      [bytesBE 1 p, bytesBE 4 (al % 4294967296).toNat] t)
  | .bond a l r => ok (s.setBond { s.tk.bond with autoRejoin := a, lease := l, rejoin := r })
  | _ => s

def isStep : TkChange → Bool
  | .timeSet _ _ => true
  | .acceptStep => true
  | _ => false
def isMove : TkChange → Bool
  | .handover _ => true
  | .disable _ _ => true
  | .enable _ => true
  | _ => false

/-- The step of TIME_SET against the old timescale (07 R283). -/
def setStep (target a : Instant) (secondsOnly : Bool) : Int :=
  if secondsOnly then ((sec (target / sec 1) : Nat) : Int) - (sec (a / sec 1) : Nat) else (target : Int) - a

/-- A due step of TK time (07 R282 to R284). Answers the amount by which the stamp timescale moved. -/
def applyStep (t : Instant) (s : State) (e : TkStaged) : State × Int :=
  let lead := s.holder.getD .a
  match e.change with
  | .timeSet target so =>
    let d := setStep target e.a so
    let s1 := s.keeperStep d d
    let t1 := moveBy d t
    let s2 := (s1.timeSetKeeper .a t1).timeSetKeeper .b t1
    (s2.finishOpt e.jid stOk (intervalWords d) t1, d)
  | .acceptStep =>
    let step := fun (k : Tk) => if s.runs k then -(s.keeper k).pending else 0
    let d := step lead
    let s1 := s.keeperStep (step .a) (step .b)
    let t1 := moveBy d t
    let s2 := (s1.acceptKeeper .a t1).acceptKeeper .b t1
    (s2.finishOpt e.jid stOk (intervalWords (step .a) ++ intervalWords (step .b)) t1, d)
  | _ => (s, 0)

/-- The first steps of ACQUIRING that are due (07 R278, R279). -/
def firstSteps (s : State) (t : Instant) : State × Int × Bool :=
  let amount := fun (k : Tk) => match (s.keeper k).loop with
    | .stepNext d => if s.runs k then d else 0
    | _ => 0
  let isDue := fun (k : Tk) => match (s.keeper k).loop with
    | .stepNext _ => s.runs k
    | _ => false
  if isDue .a || isDue .b then
    let d := amount (s.holder.getD .a)
    let s1 := s.keeperStep (amount .a) (amount .b)
    (((s1.firstStepKeeper .a (moveBy d t)).firstStepKeeper .b (moveBy d t)), d, true)
  else (s, 0, false)

/-- The bond moves that are due. -/
def applyMove (t : Instant) (s : State) (e : TkStaged) : State :=
  match e.change with
  | .handover f => s.doHandover f e.jid t
  | .disable k f => s.doDisable k f e.jid t
  | .enable k => s.doEnable k e.jid t
  | _ => s

/-- The clock phases of REFA and REFB (07 R264, R265). -/
def takePhase (s : State) (i : Nat) (p : Option Int) : State :=
  let m := (s.refCfg i).mode
  if m = 1 ∨ m = 2 then s.setRefSt i { s.refSt i with clock := p.isSome, phase := p } else s

/-- A keeper in HOLDOVER goes on on its memory after XO has come back, or on the held S without one (R287). -/
def xoResumeKeeper (s : State) (t : Instant) (k : Tk) : State :=
  let v := s.keeper k
  if s.runs k && v.state == .holdover && v.memValid then s.setKeeper k (v.steerTo v.memory t) else s

/-- The keepers after XO has come back. -/
def xoResume (s : State) (t : Instant) : State :=
  if s.tk.xoBack then
    let s1 := (s.xoResumeKeeper t .a).xoResumeKeeper t .b
    { s1 with tk := { s1.tk with xoBack := false } }
  else s

/-- The work of one servo cycle (07 R263, 08 R310, R334, 09 R355, R364). -/
def servoCycle (s : State) (m : ServoIn) (t : Instant) : State :=
  let s1 := (s.xoResume t).issueMarks t
  let due := s1.tk.staged.filter fun e => decide (e.a ≤ t)
  let s2 := { s1 with tk := { s1.tk with staged := s1.tk.staged.filter fun e => decide (t < e.a) } }
  let s3 := (due.filter fun e => !isStep e.change && !isMove e.change).foldl (applyTkChange t) s2
  let steps := due.filter fun e => isStep e.change
  let r4 := steps.foldl (fun (x : State × Int) e =>
    let y := x.1.applyStep (moveBy x.2 t) e
    (y.1, x.2 + y.2)) (s3, (0 : Int))
  let r5 := r4.1.firstSteps (moveBy r4.2 t)
  let stepped : Bool := !steps.isEmpty || r5.2.2
  let t1 := moveBy (r4.2 + r5.2.1) t
  let s6 := (List.range 64).foldl takeBeats ((r5.1.takePhase 0 m.refA).takePhase 1 m.refB)
  let s7 := if stepped then s6.clearOffsets
    else
      let a := (List.range 64).foldl (linkCycle t1) s6
      ((((List.range 4).foldl vernierCycle a).runCompletions t1).startRuns).noteOffsets
  let s8 := if stepped then
      { s7 with
        tk := { s7.tk with refSt := s7.tk.refSt.map fun e => (e.1, { e.2 with phase := none }) }
        lt := { s7.lt with links := s7.lt.links.map fun e => (e.1, { e.2 with newMeas := false }) } }
    else s7
  let s9 := (List.range 16).foldl (evalCand t1) (s8.takeD m)
  let row : Bool := !steps.isEmpty
  let s10 := ((keeperCycle t1 row (keeperCycle t1 row s9 .a) .b).clearOffsets).asymCycle t1
  let s11 := s10.bondCycle m t1
  (List.range 64).foldl noteLink ((due.filter fun e => isMove e.change).foldl (applyMove t1) s11)

end State

/-- SERVO_CYCLE: every k/1,024 s of TK time. -/
def execServoCycle (m : ServoIn) (t : Instant) (s : State) : Host.Outcome State Fault Refusal :=
  let s1 := s.tick t
  if t % servoPeriod = 0 ∧ s1.started ∧ !s1.pwr.inReset then .next (s1.servoCycle m t) else .next s1

/-! ### XO (07 R287) and AON (01 R16) -/

/-- A keeper at the loss of XO. -/
def State.xoLostKeeper (s : State) (t : Instant) (k : Tk) : State :=
  if !s.runs k then s
  else
    let v := s.keeper k
    let mem := fun (v : Keeper) => if v.state = .locked then v.takeMemory s.tk.cfg t else v
    if v.state = .lost then s.goto k .lost 8 t id
    else if v.timeValid then
      s.goto k .holdover 8 t fun v => (mem v).toHoldover v.steer 0 (some 2000000) t
    else s.goto k .freeRun 8 t fun v => { mem v with loop := .closed, fresh := false, stepPending := false }

/-- XO_LOST. -/
def execXoLost (t : Instant) (s : State) : Host.Outcome State Fault Refusal :=
  let s1 := s.tick t
  if s1.tk.xoLost then .next s1
  else
    let s2 := { s1 with tk := { s1.tk with xoLost := true } }
    let s3 := ((s2.setBond { s2.tk.bond with xoFault := true }).tkFlag 5).raise 0x0406 87 [] t
    .next ((s3.xoLostKeeper t .a).xoLostKeeper t .b)

/-- XO_RESUME: XO_CLK has been present for 1 s. The keepers go on with S as held; S changes at servo cycles only, so a
keeper in HOLDOVER takes its memory from the next one on (R260, R287). -/
def execXoResume (t : Instant) (s : State) : Host.Outcome State Fault Refusal :=
  let s1 := s.tick t
  if s1.tk.xoLost then .next { s1 with tk := { s1.tk with xoLost := false, xoBack := true } } else .next s1

/-- AON_TRIM: the AON oscillator is trimmed against XO. -/
def execAonTrim (t : Instant) (s : State) : Host.Outcome State Fault Refusal :=
  let s1 := s.tick t
  if s1.tk.xoLost then .next s1 else .next { s1 with tk := { s1.tk with aonTrim := some t } }

/-! ### PPS and time (07 R292, R295; 09 R359) -/

/-- TK time of a keeper; a stopped keeper's reads 0. -/
def State.tkTime (s : State) (k : Tk) (t : Instant) : Instant :=
  if s.runs k then moveBy (s.dOf k) t else 0

/-- PPS_OUTPUT: PPS_MON_A (0) and PPS_MON_B (1) rise at a keeper's whole second, PPS_OUT (2) at one of the
stamp timescale. -/
def execPpsOutput (which : Nat) (t : Instant) (s : State) : Host.Outcome State Fault Refusal :=
  let s1 := s.tick t
  let whole := fun (k : Tk) => s1.started && s1.runs k && s1.tkTime k t % sec 1 == 0
  match which with
  | 0 =>
    if whole .a then .next ({ s1 with tk := { s1.tk with ppsMonA := s1.tkTime .a t } }.emit (.pps 0 t))
    else .next s1
  | 1 =>
    if whole .b then .next ({ s1 with tk := { s1.tk with ppsMonB := s1.tkTime .b t } }.emit (.pps 1 t))
    else .next s1
  | 2 =>
    if s1.started && t % sec 1 == 0 then .next ({ s1 with tk := { s1.tk with ppsOut := t } }.emit (.pps 2 t))
    else .next s1
  | _ => .next s1

/-- What a counter reads at an instant of its time: it advances by 0.8 ns at each TK cycle, five cycles to a group of
4 ns (07 R259). -/
def counterAt (t : Instant) : Instant :=
  let start := t / ns 4 * ns 4
  start + [0, 52429, ns 1 + 39322, ns 2 + 26214, ns 3 + 13107].getD ((t - start) * 5 / ns 4) 0

/-- Both counters go into TIME_A and TIME_B at one edge (07 R295). -/
def State.latchTime (s : State) (t : Instant) : State :=
  { s with tk := { s.tk with
    timeA := instantWords (counterAt (s.tkTime .a t)), timeB := instantWords (counterAt (s.tkTime .b t)) } }

/-- TIME_LATCH. -/
def execTimeLatch (t : Instant) (s : State) : Host.Outcome State Fault Refusal :=
  .next ((s.tick t).latchTime t)

/-! ### Registers (07 R293, R294) -/

def State.tkState (s : State) (k : Tk) : Word :=
  let v := s.keeper k
  word (s.hopOf k * 2 ^ 24 + v.sel.getD 0 * 65536 + atBit v.sel.isSome 15
    + atBit (v.sel.isSome && v.sel == s.tk.force) 14 + atBit v.stepPending 13 + atBit v.firstUsed 12
    + atBit v.memValid 11 + atBit v.timeValid 10 + v.reason * 16 + v.state.code)

/-- REF_QUAL: candidates present and qualified. -/
def State.refQual (s : State) : Word :=
  let present := fun i => (s.cand i).valid && s.sourcePresent i s.now
  word ((List.range 16).foldl (fun n i => n + atBit (present i) (16 + i) + atBit (s.qualified i) i) 0)

/-- S sign-extended to 64 bits. -/
def Keeper.steerWords (k : Keeper) : List Word := intervalWords k.steer

/-! ### Commands (07 R297 to R308) -/

/-- The reply of TK_STATUS_GET at instant `t` (07 R307). -/
def tkStatusWords (s : State) (t : Instant) : List Word :=
  let lead := s.keeper (s.holder.getD .a)
  let p := if lead.stepPending then lead.pending else 0
  [s.tkState .a, s.tkState .b] ++ instantWords (counterAt (s.tkTime .a t)) ++ instantWords (counterAt (s.tkTime .b t))
    ++ s.tk.a.steerWords ++ s.tk.b.steerWords ++ intervalWords s.tk.a.offset ++ intervalWords s.tk.b.offset
    ++ [word (s.tk.a.holdEst s.tk.cfg t), word (s.tk.b.holdEst s.tk.cfg t)] ++ intervalWords p ++ [s.refQual]

def bodyTkStatusGet (c : Ctx) (s : State) : Res := .done s (tkStatusWords s c.t)

/-- Words 5 on of the reply of REF_STATUS_GET for a candidate at instant `t` (07 R308). -/
def refStatusWords (s : State) (i : Nat) (t : Instant) : List Word :=
  let v := s.cand i
  let st := s.candSt i
  let left := if st.qstate = 1 then (st.since + v.qual + (ms 1 - 1) - t) / ms 1 else 0
  let q := match v.kind with
    | 0 => match (s.link v.port).far with
      | some f => f.state + 256 * f.hop
      | none => 0
    | 3 => match (s.ptpSt v.port).announce with
      | some a => a.2.1
      | none => 0
    | 4 => (s.esmc v.port).ql.getD 0
    | _ => 0
  [word (st.qstate * 2 ^ 28 + st.reason * 2 ^ 24 + min 0xFFFF left), word (st.freqDco % 4294967296).toNat]
    ++ intervalWords (if s.carries v && v.valid then st.lastOff else 0) ++ [word q]

def bodyRefStatusGet (c : Ctx) (s : State) : Res :=
  refuseIf (!c.r.only 4 0xF0000) State.stBadParam <|
  .done s (word (c.r.w 4) :: refStatusWords s (c.r.f 4 16 4) c.t)

/-- A step whose apply-at instant lies within 1 ms of an accepted one (07 R284). -/
def State.stepNear (s : State) (a : Instant) : Bool := s.tk.stepAt.any fun x => decide (x ≤ a + ms 1 ∧ a ≤ x + ms 1)

/-- The instant of an accepted step is kept while others could come near it. -/
def State.noteStep (s : State) (a : Instant) : State :=
  { s with tk := { s.tk with stepAt := a :: s.tk.stepAt.filter fun x => decide (s.now ≤ x + ms 1) } }

/-- A step is accepted for its instant. -/
def stageStep (c : Ctx) (s : State) (ch : TkChange) : Res :=
  let a := tkInstant c.a c.t
  refuseIf (s.stepNear a) State.stConflict <|
  stageTk c (s.noteStep a) ch

/-- The holder follows a candidate that carries time, so that TIME_SET has no place (07 R283); `so` is SECONDS_ONLY. -/
def timeSetBlocked (s : State) (so : Bool) : Bool :=
  let k := s.keeper (s.holder.getD .a)
  let input := fun i => s.inputOf (s.cand i)
  match s.realSel k.sel with
  | some i =>
    s.carries (s.cand i) && (k.state == .acquiring || k.state == .locked || k.state == .holdover)
      && !(so && (input i == 1 || input i == 2))
  | none => false

/-- An interval within ±2^47 ns, as two words hold it (00 R7). -/
def intervalOk (d : Int) : Bool := decide (-(2 ^ 63 : Int) ≤ d ∧ d < (2 ^ 63 : Int))

/-- TIME_SET: the step that it would make, which its reply carries, must be an interval of R7, with SECONDS_ONLY too
(DEDUCED, assumption 138). -/
def bodyTimeSet (c : Ctx) (s : State) : Res :=
  let so := c.r.b 8 0
  let d := State.setStep (c.r.instant 4) (tkInstant c.a c.t) so
  refuseIf (timeSetBlocked s so) State.stState <|
  refuseIf (!c.r.instantOk 4 || !c.r.only 8 1 || !intervalOk d) State.stBadParam <|
  stageStep c s (.timeSet (c.r.instant 4) so)

def bodyTimeAcceptStep (c : Ctx) (s : State) : Res :=
  let tol := c.r.f 6 0 30
  let k := s.keeper (s.holder.getD .a)
  refuseIf (!k.stepPending) State.stState <|
  refuseIf (!c.r.only 6 0x3FFFFFFF || decide (1000000000 < tol)) State.stBadParam <|
  refuseIf (decide (ns tol < (-k.pending - c.r.interval 4).natAbs)) State.stConflict <|
  stageStep c s .acceptStep

def bodyRefCmd (c : Ctx) (s : State) : Res :=
  let i := c.r.f 4 16 4
  let act := c.r.f 4 0 2
  refuseIf (act == 2 && (!s.qualified i || (s.cand i).kind == 5)) State.stState <|
  refuseIf (!c.r.only 4 0xF0003) State.stBadParam <|
  stageTk c s (.refCmd i act)

/-- Two entries name one source (07 R265). -/
def sameSource (a b : Cand) : Bool :=
  a.valid && b.valid && a.kind == b.kind && (a.kind == 1 || a.kind == 2 || a.kind == 5 || a.port == b.port)

def candOf (r : Req) : Cand :=
  { valid := r.b 4 31, rank := r.f 4 20 4, kind := r.f 4 8 3, port := r.f 4 0 7, qualTime := r.f 5 0 16 }

/-- The ranges of REF_SET and its reserved bits (07 R298). -/
def okRefSet (r : Req) : Bool :=
  let v := candOf r
  let noPort : Bool := v.kind == 1 || v.kind == 2 || v.kind == 5
  r.only 4 0x80FF077F && r.only 5 0xFFFF && decide (v.kind ≤ 5) && !(noPort && v.port != 0)
    && decide (v.qualTime ≤ 60000) && !((v.kind == 3 || v.kind == 4) && decide (64 ≤ v.port))

/-- The source cannot serve, valid or not, or another valid entry names it (07 R265, R298). -/
def refClash (s : State) (i : Nat) (v : Cand) : Bool :=
  (v.kind == 0 && decide (64 ≤ v.port))
    || (List.range 16).any (fun j => j != i && sameSource v (s.candPlanned j))
    || (v.kind == 3 && (s.ptpPlanned v.port).role == 0)
    || (v.kind == 4 && !(s.syncePlanned v.port).en)

def bodyRefSet (c : Ctx) (s : State) : Res :=
  let i := c.r.f 4 16 4
  refuseIf (!okRefSet c.r) State.stBadParam <|
  refuseIf (refClash s i (candOf c.r)) State.stConflict <|
  stageTk c s (.cand i (candOf c.r))

def Cand.words (i : Nat) (v : Cand) : List Word :=
  [word (atBit v.valid 31 + v.rank * 2 ^ 20 + i * 2 ^ 16 + v.kind * 256 + v.port), word v.qualTime]

def bodyRefGet (c : Ctx) (s : State) : Res :=
  let i := c.r.f 4 16 4
  refuseIf (!c.r.only 4 0xF0000) State.stBadParam <| .done s ((s.cand i).words i)

/-- The bandwidth range of a servo input in µHz (07 R274). -/
def bandRange : Nat → Nat × Nat
  | 0 => (1000000, 100000000)
  | 1 => (50000, 5000000)
  | 2 => (2000, 100000)
  | 3 => (10000, 10000000)
  | _ => (500, 100000)

def servoFromReq (r : Req) : ServoCfg :=
  { bandwidth := r.w 5, damping := r.f 6 0 6, lockPhase := r.w 7, lockFreq := r.f 8 0 20 }

/-- The ranges of SERVO_SET for its input (07 R274, R300). -/
def okServoSet (r : Req) : Bool :=
  let v := servoFromReq r
  let g := bandRange (r.f 4 0 3)
  r.only 4 7 && decide (r.f 4 0 3 ≤ 4) && r.only 6 0x3F && r.only 8 0xFFFFF
    && decide (g.1 ≤ v.bandwidth ∧ v.bandwidth ≤ g.2) && decide (7 ≤ v.damping ∧ v.damping ≤ 40)
    && decide (1 ≤ v.lockPhase ∧ v.lockPhase ≤ 1000000000) && decide (1 ≤ v.lockFreq ∧ v.lockFreq ≤ 1000000)

def bodyServoSet (c : Ctx) (s : State) : Res :=
  refuseIf (!okServoSet c.r) State.stBadParam <| stageTk c s (.servo (c.r.f 4 0 3) (servoFromReq c.r))

def bodyServoGet (c : Ctx) (s : State) : Res :=
  let i := c.r.f 4 0 3
  let v := s.servoCfg i
  refuseIf (!c.r.only 4 7 || decide (5 ≤ i)) State.stBadParam <|
  .done s [word i, word v.bandwidth, word v.damping, word v.lockPhase, word v.lockFreq]

/-- XO_TRIM of KEEPER_CFG_SET, 48 bits signed. -/
def xoTrimOf (r : Req) : Int := signed 48 (r.w 13 + 2 ^ 32 * r.f 14 0 16)
def keeperCfgOf (r : Req) : KeeperCfg :=
  { jumpTh := r.f 4 0 30, lostBudget := r.f 5 0 20, freqUnc := r.f 6 0 24, drift := r.f 7 0 24
    memGuard := r.f 8 16 16, memWindow := r.f 8 0 16, disagreeTh := r.f 9 0 24, hopMax := r.f 10 24 8
    freqWin := r.f 10 16 8, voteWindow := r.f 10 0 16, stepLimit := r.f 11 0 30, consistTh := r.f 12 0 20
    xoTrim := xoTrimOf r, utcOffset := r.f 15 0 8 }

/-- The ranges of KEEPER_CFG_SET (07 R301). -/
def okKeeperCfgSet (r : Req) : Bool :=
  let v := keeperCfgOf r
  let inR := fun (x lo hi : Nat) => decide (lo ≤ x ∧ x ≤ hi)
  r.only 4 0x3FFFFFFF && r.only 5 0xFFFFF && r.only 6 0xFFFFFF && r.only 7 0xFFFFFF
    && r.only 9 0xFFFFFF && r.only 11 0x3FFFFFFF && r.only 12 0xFFFFF && r.only 14 0xFFFF && r.only 15 0xFF
    && inR v.jumpTh 1 1000000000 && inR v.lostBudget 1 1000000 && inR v.freqUnc 0 10000000
    && inR v.drift 0 10000000 && inR v.memGuard 0 60 && inR v.memWindow 16 3600
    && inR v.disagreeTh 1000 10000000 && inR v.hopMax 1 254 && inR v.freqWin 1 190
    && inR v.voteWindow 100 10000 && inR v.stepLimit 0 1000000000 && inR v.consistTh 1 1000000
    && decide (v.xoTrim.natAbs ≤ steerMax) && decide (v.jumpTh ≤ v.stepLimit)

def bodyKeeperCfgSet (c : Ctx) (s : State) : Res :=
  refuseIf (!okKeeperCfgSet c.r) State.stBadParam <| stageTk c s (.keeper (keeperCfgOf c.r))

def KeeperCfg.words (v : KeeperCfg) : List Word :=
  let x := (v.xoTrim % 281474976710656).toNat
  [word v.jumpTh, word v.lostBudget, word v.freqUnc, word v.drift,
    word (v.memGuard * 65536 + v.memWindow), word v.disagreeTh,
    word (v.hopMax * 2 ^ 24 + v.freqWin * 65536 + v.voteWindow), word v.stepLimit, word v.consistTh,
    word x, word (x / 4294967296), word v.utcOffset]

def bodyKeeperCfgGet (_ : Ctx) (s : State) : Res := .done s s.tk.cfg.words

def ptpCfgOf (r : Req) : PtpCfg :=
  { role := r.f 4 30 2, profile := r.f 4 28 2, transport := r.f 4 24 2, twoStep := r.b 4 20, domain := r.f 4 8 8
    classMax := r.f 5 24 8, logAnnounce := signed 8 (r.f 5 16 8), logDelayReq := signed 8 (r.f 5 8 8)
    logSync := signed 8 (r.f 5 0 8), asym := signed 32 (r.w 6) }

/-- The ranges of PTP_PORT_SET (07 R303). -/
def okPtpPortSet (r : Req) : Bool :=
  let v := ptpCfgOf r
  decide (r.f 4 0 7 ≤ 63) && r.only 4 0xF310FF7F && v.role != 3 && decide (v.profile ≤ 1) && v.transport != 3
    && decide (6 ≤ v.classMax) && decide (-3 ≤ v.logAnnounce ∧ v.logAnnounce ≤ 4)
    && decide (-7 ≤ v.logDelayReq ∧ v.logDelayReq ≤ 4) && decide (-7 ≤ v.logSync ∧ v.logSync ≤ 0)

/-- The port runs timing slots, its mode does not carry the profile, or another receiver has the domain (07 R303). -/
def ptpClash (s : State) (p : Nat) (v : PtpCfg) : Bool :=
  let m := (s.lane p).cfg.mode
  m == 0 || (v.profile == 1 && !(m == 3 || m == 4))
    || (v.role == 1 && (List.range 64).any fun q =>
        q != p && (s.ptpPlanned q).role == 1 && (s.ptpPlanned q).domain == v.domain)

def bodyPtpPortSet (c : Ctx) (s : State) : Res :=
  let p := c.r.f 4 0 7
  refuseIf (!okPtpPortSet c.r) State.stBadParam <|
  refuseIf (ptpClash s p (ptpCfgOf c.r)) State.stConflict <|
  stageTk c s (.ptp p (ptpCfgOf c.r))

def PtpCfg.words (p : Nat) (v : PtpCfg) : List Word :=
  let b8 := fun (x : Int) => (x % 256).toNat
  [word (v.role * 2 ^ 30 + v.profile * 2 ^ 28 + v.transport * 2 ^ 24 + atBit v.twoStep 20
      + v.domain * 256 + p),
    word (v.classMax * 2 ^ 24 + b8 v.logAnnounce * 65536 + b8 v.logDelayReq * 256 + b8 v.logSync),
    word (v.asym % 4294967296).toNat]

def bodyPtpPortGet (c : Ctx) (s : State) : Res :=
  let p := c.r.f 4 0 7
  refuseIf (!okPortKey c.r) State.stBadParam <| .done s ((s.ptpCfg p).words p)

def synceOf (r : Req) : SynceCfg :=
  { tx := r.b 4 31, rx := r.b 4 30, en := r.b 4 29, qlMin := r.f 4 16 4, refQl := r.f 4 8 4 }
def okSynceSet (r : Req) : Bool := decide (r.f 4 0 7 ≤ 63) && r.only 4 0xE00F0F7F

def bodySynceSet (c : Ctx) (s : State) : Res :=
  let p := c.r.f 4 0 7
  refuseIf (!okSynceSet c.r) State.stBadParam <|
  refuseIf (!(synceOf c.r).en && s.namedPlanned 4 p) State.stConflict <|
  stageTk c s (.synce p (synceOf c.r))

def SynceCfg.words (p : Nat) (v : SynceCfg) : List Word :=
  [word (atBit v.tx 31 + atBit v.rx 30 + atBit v.en 29 + v.qlMin * 65536 + v.refQl * 256 + p)]

def bodySynceGet (c : Ctx) (s : State) : Res :=
  let p := c.r.f 4 0 7
  refuseIf (!okPortKey c.r) State.stBadParam <| .done s ((s.synceCfg p).words p)

def refinOf (r : Req) : RefCfg := { falling := r.b 5 8, freq25 := r.b 5 4, mode := r.f 5 0 2, delay := signed 32 (r.w 6) }
/-- PPS_DELAY within 2,000,000,000 ps (07 R302). -/
def okRefinSet (r : Req) : Bool := r.only 4 1 && r.only 5 0x113 && decide ((refinOf r).delay.natAbs ≤ 2000000000)

def bodyRefinSet (c : Ctx) (s : State) : Res :=
  refuseIf (!okRefinSet c.r) State.stBadParam <| stageTk c s (.refin (c.r.f 4 0 1) (refinOf c.r))

def RefCfg.words (i : Nat) (v : RefCfg) : List Word :=
  [word i, word (atBit v.falling 8 + atBit v.freq25 4 + v.mode), word (v.delay % 4294967296).toNat]

def bodyRefinGet (c : Ctx) (s : State) : Res :=
  let i := c.r.f 4 0 1
  refuseIf (!c.r.only 4 1) State.stBadParam <| .done s ((s.refCfg i).words i)

end Sys2Proof.Machine
end

