-- ==== Sys2Proof/Machine/IngressCmds.lean ====
section
/-! DEFINITION. The commands of ports, VLANs, streams, meters, windows and recovery functions
(03 R114 to R120). -/

namespace Sys2Proof.Machine

/-- The pipeline copies (04 R125). -/
def copies5 : List Nat := [0, 1, 2, 3, 4]
/-- The pipeline copies and the egress admission points. -/
def allUnits : List Nat := [0, 1, 2, 3, 4, 5]

/-! ### INGRESS_SET (R115) -/

/-- The DSCP map: DSCP d at bits 4 × (d mod 8) of word 8 + d / 8. -/
def dscpMapOf (r : Req) : Tbl Nat :=
  (List.range 64).foldl (fun t d => Tbl.set 0 t d (r.f (8 + d / 8) (4 * (d % 8)) 3)) []

def ingressOf (r : Req) : IngPort :=
  { trapLl := r.b 5 23, mirror := r.b 5 22, deiDp := r.b 5 21, ctEn := r.b 5 20, filter := r.b 5 19
    defClass := r.f 5 16 3, trust := r.f 5 14 2, accept := r.f 5 12 2, pvid := r.f 5 0 12
    maxFrame := r.f 6 0 14, pcpMap := r.f 7 0 24, dscpMap := dscpMapOf r }

def IngPort.words (g : IngPort) : List Word :=
  [word (atBit g.trapLl 23 + atBit g.mirror 22 + atBit g.deiDp 21 + atBit g.ctEn 20 + atBit g.filter 19
    + g.defClass * 65536 + g.trust * 16384 + g.accept * 4096 + g.pvid), word g.maxFrame, word g.pcpMap]
  ++ (List.range 8).map fun w =>
    word ((List.range 8).foldl (fun n i => n + Tbl.get 0 g.dscpMap (8 * w + i) * 16 ^ i) 0)

/-- The ranges of INGRESS_SET and its reserved bits (03 R115). -/
def okIngressSet (r : Req) : Bool :=
  let g := ingressOf r
  r.only 4 0x7F && r.only 5 0xFFFFFF && r.only 6 0x3FFF && r.only 7 0xFFFFFF
    && ((List.range 8).all fun i => r.only (8 + i) 0x77777777)
    && decide (r.f 4 0 7 ≤ 67) && decide (1 ≤ g.pvid ∧ g.pvid ≤ 4094) && decide (g.accept ≤ 2)
    && decide (g.trust ≤ 2) && decide (g.defClass ≤ 5)
    && ((List.range 8).all fun p => decide (field g.pcpMap (3 * p) 3 ≤ 5)) && g.dscpMap.all (fun e => decide (e.2 ≤ 5))
    && decide (64 ≤ g.maxFrame ∧ g.maxFrame ≤ 9216)

def bodyIngressSet (c : Ctx) (s : State) : Res :=
  refuseIf (!okIngressSet c.r) State.stBadParam <|
  s.stageChange c (us 200) true copies5 1 [.ingress (c.r.f 4 0 7) (ingressOf c.r)]

def bodyIngressGet (c : Ctx) (s : State) : Res :=
  let p := c.r.f 4 0 7
  refuseIf (!c.r.only 4 0x7F || decide (67 < p)) State.stBadParam <| .done s (word p :: (s.cfgNow.ing p).words)

/-! ### VLAN_SET (R116) -/

def vlanOf (r : Req) : Vlan :=
  { clsOvr := r.f 4 15 3, clsOvrEn := r.b 4 14, learn := r.b 4 13, valid := r.b 4 12
    member := r.mask68 5, untag := r.mask68 8 }

/-- VID 1 to 4,094, class 0 to 5, reserved bits (03 R116). -/
def okVlanSet (r : Req) : Bool :=
  r.only 4 0x3FFFF && r.only 7 0xF && r.only 10 0xF && decide (1 ≤ r.f 4 0 12 ∧ r.f 4 0 12 ≤ 4094)
    && decide ((vlanOf r).clsOvr ≤ 5)

def bodyVlanSet (c : Ctx) (s : State) : Res :=
  refuseIf (!okVlanSet c.r) State.stBadParam <|
  s.stageChange c (ms 5) true allUnits 1 [.vlan (c.r.f 4 0 12) (vlanOf c.r)]

def Vlan.words (i : Nat) (v : Vlan) : List Word :=
  [word (v.clsOvr * 32768 + atBit v.clsOvrEn 14 + atBit v.learn 13 + atBit v.valid 12 + i)]
    ++ mask68Words v.member ++ mask68Words v.untag

def bodyVlanGet (c : Ctx) (s : State) : Res :=
  let i := c.r.f 4 0 12
  refuseIf (!c.r.only 4 0xFFF || !(decide (1 ≤ i ∧ i ≤ 4094))) State.stBadParam <|
  .done s ((s.cfgNow.vlan i).words i)

/-! ### STREAM_SET (R117) -/

/-- The four words of a 128-bit value, the first word highest. -/
def words128 (n : Nat) : List Word := [word (n / 2 ^ 96), word (n / 2 ^ 64), word (n / 2 ^ 32), word n]

def streamFrom (r : Req) : Stream :=
  { valid := r.b 4 17, method := r.f 4 15 2, pop := r.b 5 31, genPipe := r.f 5 28 3, recovery := r.f 5 20 8
    window := r.f 5 12 8, gen := r.b 5 11, mirror := r.b 5 10, ctAllow := r.b 5 9, clsEn := r.b 5 8
    cls := r.f 5 0 3, launch := r.f 6 15 11, meter := r.f 6 0 15, vid := r.f 7 0 12, mac := r.mac 8
    proto := r.f 10 16 8, dscp := r.f 10 8 6, ipv6 := r.b 10 5, any := r.f 10 0 5
    dport := r.f 11 16 16, sport := r.f 11 0 16, sip := r.u128 12, dip := r.u128 16 }

def Stream.words (i : Nat) (e : Stream) : List Word :=
  [word (atBit e.valid 17 + e.method * 32768 + i),
   word (atBit e.pop 31 + e.genPipe * 2 ^ 28 + e.recovery * 2 ^ 20 + e.window * 4096 + atBit e.gen 11
     + atBit e.mirror 10 + atBit e.ctAllow 9 + atBit e.clsEn 8 + e.cls),
   word (e.launch * 32768 + e.meter), word e.vid] ++ macWords e.mac
  ++ [word (e.proto * 65536 + e.dscp * 256 + atBit e.ipv6 5 + e.any), word (e.dport * 65536 + e.sport)]
  ++ words128 e.sip ++ words128 e.dip

/-- The match key of an entry with its ANY flags; a field marked ANY is not part of it (R100). -/
def Stream.key (e : Stream) : List Nat :=
  if e.method ≠ 2 then [e.method, e.mac, e.vid]
  else
    let f := fun (bit v : Nat) => if flag e.any bit then 0 else v
    [2, e.mac, e.vid, if e.ipv6 then 1 else 0, e.dip, e.any, f 4 e.sip, f 3 e.dscp, f 2 e.proto, f 1 e.sport, f 0 e.dport]

/-- The combinations that STREAM_SET refuses (R102, R117). -/
def Stream.ok (e : Stream) : Bool :=
  decide (e.method ≤ 2) && decide (e.genPipe ≤ 4)
    && (decide (e.launch ≤ 1023) || e.launch == 0x7FF)
    && !(e.clsEn && e.cls == 7 && e.launch == 0x7FF)
    && !(e.launch != 0x7FF && !(e.clsEn && e.cls == 7))
    && !(e.gen && e.recovery != 0) && !(e.pop && e.recovery == 0)
    && (!e.valid || decide (1 ≤ e.vid ∧ e.vid ≤ 4094))
    && (e.ipv6 || (e.sip % 2 ^ 96 == 0 && e.dip % 2 ^ 96 == 0))

/-- The reserved bits of STREAM_SET and the combinations it takes; entry 0 has only its mirror bit and meter
(03 R102, R117). -/
def okStreamSet (r : Req) : Bool :=
  let i := r.f 4 0 15
  let e := streamFrom r
  let zero := fun (lo n : Nat) => (List.range n).all fun k => r.w (lo + k) == 0
  if i = 0 then r.w 4 == 0 && r.only 5 0x400 && r.only 6 0x7FFF && zero 7 13
    else r.only 4 0x3FFFF && r.only 5 0xFFFFFF07 && r.only 6 0x3FFFFFF && r.only 7 0xFFF && r.only 9 0xFFFF0000
      && r.only 10 0xFF3F3F && (e.method == 2 || zero 10 10) && e.ok

/-- Another valid entry has the key of `e` (03 R117). -/
def streamTwice (i : Nat) (e : Stream) (g : Cfg) : Bool :=
  i != 0 && e.valid && g.streams.any fun x => x.1 != 0 && x.1 != i && x.2.valid && x.2.key == e.key
/-- With `e` the valid IP entries would hold more than 16 combinations of ANY flags (03 R100, R117). -/
def streamCombos (i : Nat) (e : Stream) (g : Cfg) : Bool :=
  let anys := g.streams.filterMap fun x => if x.1 ≠ i ∧ x.2.valid = true ∧ x.2.method = 2 then some x.2.any else none
  i != 0 && e.valid && e.method == 2 && decide (16 < (e.any :: anys).eraseDups.length)

def bodyStreamSet (c : Ctx) (s : State) : Res :=
  let i := c.r.f 4 0 15
  let e := streamFrom c.r
  let cfgs := s.cfgsFrom (s.effA c (ms 5) true 1)
  refuseIf (!okStreamSet c.r) State.stBadParam <|
  refuseIf (cfgs.any (streamTwice i e)) State.stConflict <|
  refuseIf (cfgs.any (streamCombos i e)) State.stResource <|
  s.stageChange c (ms 5) true copies5 1 [.stream i e]

def bodyStreamGet (c : Ctx) (s : State) : Res :=
  let i := c.r.f 4 0 15
  refuseIf (!c.r.only 4 0x7FFF) State.stBadParam <| .done s (Stream.words i (s.cfgNow.stream i))

/-! ### METER_SET, WINDOW_SET, RECOVERY_SET (R118 to R120) -/

def meterOf (r : Req) : Meter :=
  { overhead := r.b 4 16, mode := r.f 4 15 1, cir := r.w 5, cbs := r.f 6 0 24, eir := r.w 7, ebs := r.f 8 0 24 }

/-- The ranges of METER_SET and its reserved bits (03 R118). -/
def okMeterSet (r : Req) : Bool :=
  let m := meterOf r
  r.only 4 0x1FFFF && r.only 6 0xFFFFFF && r.only 8 0xFFFFFF && decide (1 ≤ r.f 4 0 15)
    && decide (m.cir ≤ 25000000) && decide (64 ≤ m.cbs) && decide (m.eir ≤ 25000000)
    && (m.mode == 1 || (m.eir == 0 && m.ebs == 0))

def bodyMeterSet (c : Ctx) (s : State) : Res :=
  refuseIf (!okMeterSet c.r) State.stBadParam <|
  s.stageChange c (ms 5) true copies5 1 [.meter (c.r.f 4 0 15) (meterOf c.r)]

def Meter.words (i : Nat) (m : Meter) : List Word :=
  [word (atBit m.overhead 16 + m.mode * 32768 + i), word m.cir, word m.cbs, word m.eir, word m.ebs]

def bodyMeterGet (c : Ctx) (s : State) : Res :=
  let i := c.r.f 4 0 15
  refuseIf (!c.r.only 4 0x7FFF || i == 0) State.stBadParam <|
  .done s ((s.cfgNow.meter i).words i)

def windowOf (r : Req) : Window :=
  { base := r.instant 5, period := r.f 9 0 30, opens := r.f 10 0 30, closes := r.f 11 0 30 }

/-- The ranges of WINDOW_SET and its reserved bits (03 R119). -/
def okWindowSet (r : Req) : Bool :=
  let w := windowOf r
  r.only 4 0xFF && decide (1 ≤ r.f 4 0 8) && r.instantOk 5 && r.only 9 0x3FFFFFFF && r.only 10 0x3FFFFFFF
    && r.only 11 0x3FFFFFFF && decide (2000 ≤ w.period ∧ w.period ≤ 1000000000)
    && decide (w.opens < w.period) && decide (w.closes < w.period)

def bodyWindowSet (c : Ctx) (s : State) : Res :=
  refuseIf (!okWindowSet c.r) State.stBadParam <|
  s.stageChange c (ms 5) true copies5 1 [.window (c.r.f 4 0 8) (windowOf c.r)]

def recoveryOf (r : Req) : Recovery :=
  { pipe := r.f 4 8 3, history := r.f 4 16 7, reset := r.f 5 0 14, takeNoSeq := r.b 4 11 }

/-- The ranges of RECOVERY_SET and its reserved bits (03 R120). -/
def okRecoverySet (r : Req) : Bool :=
  let v := recoveryOf r
  r.only 4 0x7F0FFF && r.only 5 0x3FFF && decide (1 ≤ r.f 4 0 8) && decide (v.pipe ≤ 4)
    && decide (1 ≤ v.history ∧ v.history ≤ 64) && decide (1 ≤ v.reset ∧ v.reset ≤ 10000)

/-- A valid stream entry names the function with another pipeline (03 R120). -/
def recoveryClash (i : Nat) (v : Recovery) (g : Cfg) : Bool :=
  g.streams.any fun x => x.1 != 0 && x.2.valid && x.2.recovery == i && x.2.genPipe != v.pipe

def bodyRecoverySet (c : Ctx) (s : State) : Res :=
  let i := c.r.f 4 0 8
  let v := recoveryOf c.r
  refuseIf (!okRecoverySet c.r) State.stBadParam <|
  refuseIf ((s.cfgsFrom (s.effA c (ms 5) true 1)).any (recoveryClash i v)) State.stConflict <|
  s.stageChange c (ms 5) true copies5 1 [.recovery i v]

/-- The reply of RECOVERY_GET: settings, state and counters (03 R120). -/
def recoveryWords (s : State) (i : Nat) : List Word :=
  let v := s.cfgNow.recov i
  let x := s.recov i
  [word (v.history * 65536 + atBit v.takeNoSeq 11 + v.pipe * 256 + i), word v.reset, word (atBit x.takeAny 16 + x.rsn)]
    ++ (List.range 7).flatMap fun k => words64 (s.counter (0x6600 + 8 * i + k))

def bodyRecoveryGet (c : Ctx) (s : State) : Res :=
  let i := c.r.f 4 0 8
  refuseIf (!c.r.only 4 0xFF || i == 0) State.stBadParam <|
  .done s (recoveryWords s i)

def bodyRecoveryReset (c : Ctx) (s : State) : Res :=
  let i := c.r.f 4 0 8
  refuseIf (!c.r.only 4 0xFF || i == 0) State.stBadParam <|
  s.stageChange c (us 200) true copies5 1 [.recoveryReset i]

end Sys2Proof.Machine
end

