-- ==== Sys2Proof/Machine/Tables.lean ====
section
/-! DEFINITION. The forwarding tables: insertion, learning, aging, flushes, scrubbing, liveness and
FENCE, and their commands (04 R129, R134 to R141, R148, R151 to R169; 05 R183). -/

namespace Sys2Proof.Machine

/-! ### Cuckoo insertion (R134, R144) -/

/-- One step of the breadth-first search: every path, its last position first, is extended to the
alternate positions of the entry that its last position holds. -/
def extendPaths (alts : Nat → List Nat) (paths : List (List Nat)) : List (List Nat) :=
  paths.flatMap fun p => ((alts (p.headD 0)).filter fun x => !p.contains x).map fun x => x :: p

/-- A relocation path that ends at an empty position, of at most as many moves as `n`. -/
def searchPath (empty : Nat → Bool) (alts : Nat → List Nat) : Nat → List (List Nat) → Option (List Nat)
  | 0, paths => paths.find? fun p => empty (p.headD 0)
  | n + 1, paths =>
    match paths.find? fun p => empty (p.headD 0) with
    | some p => some p
    | none => searchPath empty alts n (extendPaths alts paths)

/-- Where a new key goes: a candidate that is free outright, else the relocations (from, to), from the far end on, that
end at a place free for one, and the position (R134). -/
def cuckoo (cands : List Nat) (free ends : Nat → Bool) (alts : Nat → List Nat) : Option (List (Nat × Nat) × Nat) :=
  match cands.find? free with
  | some x => some ([], x)
  | none =>
    match searchPath ends alts 8 (cands.map fun x => [x]) with
    | none => none
    | some p => some ((p.drop 1).zip p, p.getLastD 0)

/-! The L2 table and the host table are planned alike: entries with a key, which has its candidate positions. -/

/-- What an accepted change does to a table: the places that it fills or empties, and the keys whose content it writes. -/
structure Reach (κ : Type) where
  places : List Nat
  keys   : List κ

def Change.l2Reach : Change → Reach (Nat × Nat)
  | .l2Put pos e => ⟨[pos], [(e.vid, e.mac)]⟩
  | .l2Del vid mac => ⟨[], [(vid, mac)]⟩
  | .l2Lock vid mac _ => ⟨[], [(vid, mac)]⟩
  | .l2Move src dst => ⟨[src, dst], []⟩
  | _ => ⟨[], []⟩

def Change.hostReach : Change → Reach (Bool × Nat)
  | .hostPut pos e => ⟨[pos], [(e.v6, e.addr)]⟩
  | .hostDel v6 addr => ⟨[], [(v6, addr)]⟩
  | .hostMove src dst => ⟨[src, dst], []⟩
  | _ => ⟨[], []⟩

/-- The plan of one command or learning step for one table at its instant. -/
structure Plan (κ α : Type) where
  table : Tbl (Option α)     -- as it will stand then, with what is planned so far
  later : List Nat           -- places that accepted changes after it fill
  busy  : List Nat           -- places that are full or change within the 64 µs before it
  fixed : List κ             -- keys that no relocation may touch
  moves : List (Nat × Nat)   -- the relocations to make before it
  puts  : List (Nat × α)     -- the entries to write at it

/-- Makes one relocation: an entry that the plan itself writes is planned elsewhere; one that the table holds is moved
beforehand (R134). -/
def Plan.relocate {κ α : Type} [DecidableEq α] (p : Plan κ α) (m : Nat × Nat) : Plan κ α :=
  let table := Tbl.set none (Tbl.set none p.table m.2 (Tbl.get none p.table m.1)) m.1 none
  if p.puts.any (·.1 == m.1) then
    { p with table := table, puts := p.puts.map fun x => if x.1 = m.1 then (m.2, x.2) else x }
  else { p with table := table, moves := p.moves ++ [m] }

/-- Plans the writing of an entry: in place where the table holds its key, else in a free place, if need be after
relocations (R134). A place is free where no accepted change will fill it; an entry moves only if nothing changes its
content about that time, so that no entry changes while it is held twice. -/
def Plan.add {κ α : Type} [DecidableEq κ] [DecidableEq α] (keyOf : α → κ) (cands : κ → List Nat) (e : α) (p : Plan κ α) :
    Option (Plan κ α) :=
  let k := keyOf e
  match p.table.find? fun x => x.2.any fun v => decide (keyOf v = k) with
  | some x =>
    some { p with table := Tbl.set none p.table x.1 (some e), fixed := k :: p.fixed
                  puts := p.puts.filter (fun y => !decide (keyOf y.2 = k)) ++ [(x.1, e)] }
  | none =>
    let free := fun x => (Tbl.get none p.table x).isNone && !p.later.contains x
    let alts := fun x =>
      match Tbl.get none p.table x with
      | none => []
      | some v => if p.fixed.contains (keyOf v) then [] else cands (keyOf v)
    match cuckoo (cands k) free (fun x => free x && !p.busy.contains x) alts with
    | none => none
    | some x =>
      let q := x.1.foldl Plan.relocate p
      some { q with table := Tbl.set none q.table x.2 (some e), puts := q.puts ++ [(x.2, e)] }

/-- Plans several entries in order; none where one finds no place. -/
def planAll {κ α : Type} (f : α → Plan κ α → Option (Plan κ α)) : List α → Plan κ α → Option (Plan κ α)
  | [], p => some p
  | x :: r, p => match f x p with
    | some q => planAll f r q
    | none => none

def l2Cands (k : Nat × Nat) : List Nat := (List.range 4).map (l2Pos k.1 k.2)
def hostCands (k : Bool × Nat) : List Nat := (List.range 4).map (hostPos k.1 k.2)

def Plan.addL2 : L2Entry → Plan (Nat × Nat) L2Entry → Option (Plan (Nat × Nat) L2Entry) :=
  Plan.add (fun e => (e.vid, e.mac)) l2Cands
def Plan.addHost : HostEntry → Plan (Bool × Nat) HostEntry → Option (Plan (Bool × Nat) HostEntry) :=
  Plan.add (fun e => (e.v6, e.addr)) hostCands

/-- The changes of a plan: its relocations, each a transaction, and the entries it writes. -/
def Plan.l2Moves (p : Plan (Nat × Nat) L2Entry) : List Change := p.moves.map fun m => .l2Move m.1 m.2
def Plan.l2Puts (p : Plan (Nat × Nat) L2Entry) : List Change := p.puts.map fun x => .l2Put x.1 x.2
def Plan.hostMoves (p : Plan (Bool × Nat) HostEntry) : List Change := p.moves.map fun m => .hostMove m.1 m.2
def Plan.hostPuts (p : Plan (Bool × Nat) HostEntry) : List Change := p.puts.map fun x => .hostPut x.1 x.2

/-- The position of an L2 key in a configuration. -/
def l2Where (c : Cfg) (vid mac : Nat) : Option (Nat × L2Entry) :=
  (List.range 4).findSome? fun w => match c.l2At (l2Pos vid mac w) with
    | some e => if e.vid = vid ∧ e.mac = mac then some (l2Pos vid mac w, e) else none
    | none => none

namespace State

/-- The accepted changes from an instant on. -/
def changesFrom (s : State) (a : Instant) : List Change :=
  (s.fab.staged.filter fun e => decide (a ≤ e.a)).flatMap (·.change)

/-- The plan that a command or learning step at an instant starts from: the master image, which holds every accepted
change (R134). -/
def planFrom {κ α : Type} (s : State) (a : Instant) (table : Cfg → Tbl (Option α)) (reach : Change → Reach κ) : Plan κ α :=
  let near := (s.changesFrom (a - us 64)).map reach
  { table := table (s.cfgAt a)
    later := ((s.changesFrom (a + 1)).map reach).flatMap (·.places)
    busy := near.flatMap (·.places) ++ (table (s.cfgAt (a - us 64))).map (·.1)
    fixed := near.flatMap (·.keys), moves := [], puts := [] }

def l2PlanAt (s : State) (a : Instant) : Plan (Nat × Nat) L2Entry := s.planFrom a (·.l2) Change.l2Reach
def hostPlanAt (s : State) (a : Instant) : Plan (Bool × Nat) HostEntry := s.planFrom a (·.hosts) Change.hostReach

/-- A change that CC1 writes by itself, as a transaction at `a` (04 R126), for some learn notices. -/
def writeOne (s : State) (a : Instant) (notices : Nat) (ch : Change) : State :=
  s.stage { a := a, jids := [], txn := true, units := copies5, words := 1, notices := notices, change := [ch] }

/-- Relocations, the last one first, each a transaction before the next and all before `a`, 1 µs apart (R126, R134). -/
def stageMoves (s : State) (a : Instant) : List Change → State
  | [] => s
  | ch :: r => (s.writeOne (s.slotBefore a) 0 ch).stageMoves (s.slotBefore a) r

/-- A table, 0 L2 or 1 host, has no place left (R134). -/
def tableFull (s : State) (table : Nat) (t : Instant) : State :=
  { s with tab := { s.tab with l2Full := true } }.raiseLimited 4 0x0201 93 [bytesBE 1 table] t

/-- What CC1 keeps for a key. -/
def l2Ctl (s : State) (vid mac : Nat) : L2Ctl := Tbl.get {} s.tab.ctl (l2Key vid mac)
def putL2Ctl (s : State) (vid mac : Nat) (x : L2Ctl) : State :=
  { s with tab := { s.tab with ctl := Tbl.set {} s.tab.ctl (l2Key vid mac) x } }

/-- HIT of a key in every copy. -/
def setHit (s : State) (vid mac : Nat) (h : BitVec 5) : State :=
  { s with tab := { s.tab with hit := Tbl.set 0 s.tab.hit (l2Key vid mac) h } }

/-! ### Learning (R136 to R140) -/

/-- A port holds LEARN_LIMIT dynamic entries in CC1's master image (R136). -/
def atLearnLimit (s : State) (p : Nat) (t : Instant) : Bool :=
  let lim := ((s.cfgAt t).l2port p).learnLimit
  let mine := s.cfgPlanned.l2.filter fun e => e.2.any fun v => !v.static && v.dkind == .port && v.target == p
  decide (lim ≠ 0 ∧ lim ≤ mine.length)

/-- A notice about an address that no entry has: it is learned at `a`, or later by the relocations that it needs, unless
no place is found (R134, R138). -/
def learnNew (s : State) (n : LearnNotice) (a t : Instant) : State :=
  let e : L2Entry := { vid := n.vid, mac := n.mac, static := false, dkind := .port, target := n.inPort
                       mirror := false, locked := false }
  let later := s.earliestTxn 1 (a + us 8)
  let found := match Plan.addL2 e (s.l2PlanAt a) with
    | none => none
    | some p => if p.moves.isEmpty then some (p, a) else (Plan.addL2 e (s.l2PlanAt later)).map fun q => (q, later)
  match found with
  | none => (s.countD 1).tableFull 0 t
  | some (p, b) =>
    let s1 := (p.l2Puts.foldl (fun s ch => s.writeOne b 1 ch) s).stageMoves b p.l2Moves.reverse
    (s1.putL2Ctl n.vid n.mac { lastStamp := n.stamp, applied := true, lastHit := n.stamp, idleSince := b }).setHit n.vid n.mac 0

/-- A notice that an entry moves to another port: MOVE_LIMIT moves within MOVE_WINDOW are taken, one more locks the
entry for HOLD_TIME (R139). -/
def learnMove (s : State) (n : LearnNotice) (pos : Nat) (e : L2Entry) (a t : Instant) : State :=
  let x := s.l2Ctl n.vid n.mac
  let g := (s.cfgAt t).tableCfg
  let recent := x.moves.filter fun m => decide (n.stamp < m + ms g.moveWindow)
  if g.moveLimit < recent.length + 1 then
    let s3 := (s.putL2Ctl n.vid n.mac { x with holdUntil := some (n.stamp + ms g.holdTime) }).writeOne a 1
      (.l2Lock n.vid n.mac true)
    { s3 with tab := { s3.tab with flap := true } }.raise 0x0203 94
      [bytesBE 6 n.mac, bytesBE 2 n.vid, bytesBE 1 e.target, bytesBE 1 n.inPort,
       bytesBE 4 (stampNs x.lastStamp), bytesBE 4 (stampNs n.stamp)] t
  else
    ((s.countD 4).writeOne a 1 (.l2Put pos { e with target := n.inPort, dkind := .port })).putL2Ctl n.vid n.mac
      { x with lastStamp := n.stamp, applied := true, moves := recent ++ [n.stamp] }

/-- What CC1 learns from a notice, written at `a` (R136 to R139). Where a notice is both stale and at the limit, it is
counted as stale (DESIGN CHOICE, assumption 33). -/
def learn (s : State) (n : LearnNotice) (a t : Instant) : State :=
  let x := s.l2Ctl n.vid n.mac
  if x.applied ∧ n.stamp < x.lastStamp then s.countD 3
  else if !n.move ∧ s.atLearnLimit n.inPort t then s.countP n.inPort 20
  else
    match l2Where (s.cfgAt a) n.vid n.mac with
    | none => s.learnNew n a t
    | some (pos, e) =>
      if e.static then s
      else if e.locked ∨ x.holdUntil.isSome then s.countP n.inPort 19
      else if e.dkind = .port ∧ e.target = n.inPort then
        s.putL2Ctl n.vid n.mac { x with lastStamp := n.stamp, applied := true }
      else s.learnMove n pos e a t

/-- The learn notices in the transaction at an instant (R138). -/
def noticesAt (s : State) (a : Instant) : Nat :=
  (s.fab.staged.filter fun e => e.txn && e.a == a).foldl (fun n e => n + e.notices) 0

end State

/-- LEARN_NOTICE_APPLY: CC1 takes the notice at the head of the learn queue and writes at `a` what it learns, at most 16
notices in one transaction (R137 to R139). -/
def execLearnNoticeApply (a t : Instant) (s : State) : Host.Outcome State Fault Refusal :=
  let s1 := s.tick t
  match s1.tab.queue with
  | [] => .next s1
  | n :: rest =>
    if a < t + us 20 ∨ s1.txnNear a ∨ 64 ≤ s1.wordsAt a ∨ 16 ≤ s1.noticesAt a then .next s1
    else .next ({ s1 with tab := { s1.tab with queue := rest } }.learn n a t)

/-- FLAP_HOLD_END: HOLD_TIME ends; LOCKED and the move count are cleared at `a` (R139). -/
def execFlapHoldEnd (vid mac : Nat) (a t : Instant) (s : State) : Host.Outcome State Fault Refusal :=
  let s1 := s.tick t
  let x := s1.l2Ctl vid mac
  match x.holdUntil with
  | some u =>
    if u ≤ t ∧ t + us 20 ≤ a ∧ s1.txnNear a = false ∧ s1.wordsAt a < 64 then
      .next ((s1.putL2Ctl vid mac { x with holdUntil := none, moves := [] }).writeOne a 0 (.l2Lock vid mac false))
    else .next s1
  | none => .next s1

/-- One entry at an aging pass: a hit restarts its age; a whole AGE_TIME without one removes it (R140). -/
def ageEntry (age : Nat) (t : Instant) (acc : State × List Change) (v : L2Entry) : State × List Change :=
  let s := acc.1
  let x := s.l2Ctl v.vid v.mac
  if v.static || v.locked || x.holdUntil.isSome || decide (t < x.idleSince + sec age) || decide (64 ≤ acc.2.length) then acc
  else if Tbl.get 0 s.tab.hit (l2Key v.vid v.mac) = 0 then (s, acc.2 ++ [.l2Del v.vid v.mac])
  else ((s.setHit v.vid v.mac 0).putL2Ctl v.vid v.mac { x with idleSince := t }, acc.2)

/-- L2_AGE: CC1 ages the dynamic, unlocked entries, removing at `a` what has aged (R140). Footing stops
aging (09 R384). -/
def execL2Age (a t : Instant) (s : State) : Host.Outcome State Fault Refusal :=
  let s1 := s.tick t
  let age := (s1.cfgAt t).tableCfg.ageTime
  if age = 0 ∨ (s1.cfgAt t).footing ∨ a < t + us 20 ∨ s1.txnNear a then .next s1
  else
    let x := ((s1.cfgAt a).l2.filterMap (·.2)).foldl (ageEntry age t) (s1, [])
    if x.2.isEmpty ∨ 64 < x.2.length + s1.wordsAt a then .next x.1
    else .next (x.1.stage { a := a, jids := [], txn := true, units := copies5, words := x.2.length, change := x.2 })

/-! ### Flushes (R141) -/

/-- The words of the groups that so many matches take. -/
def flushWords (n : Nat) : List Nat := (List.range ((n + 63) / 64)).map fun k => min 64 (n - 64 * k)

/-- Stages the next group of a flush, at A + k µs: it removes the first 64 matches that it finds there. -/
def State.flushGroup (s : State) (f : Flush) : State :=
  let a := f.a + us f.k
  let n := (flushSet (s.cfgAt a) f.sel).length
  let s1 := { s with tab := { s.tab with flushes := s.tab.flushes.map fun g => if g = f then { f with k := f.k + 1 } else g } }
  s1.stage { a := a, jids := if f.jid = 0 then [] else [f.jid], txn := true, units := copies5, words := min 64 n
             change := [.l2Flush f.sel] }

/-- A flush without a match left and without a group on its way. -/
def State.flushIdle (s : State) (f : Flush) : Bool :=
  (s.flushAhead f).isEmpty && !s.fab.staged.any fun e => e.change.contains (.l2Flush f.sel)

/-- A flush ends: its command completes (R141). -/
def State.flushEnd (s : State) (f : Flush) (status : Nat) (t : Instant) : State :=
  let s1 := { s with tab := { s.tab with flushes := s.tab.flushes.filter (· != f) } }
  if f.jid = 0 then s1 else s1.finish f.jid status [] t

/-- L2_FLUSH_GROUP: the next group of a flush is removed; one that finds nothing more to remove is over (R141). -/
def execL2FlushGroup (jid : Nat) (t : Instant) (s : State) : Host.Outcome State Fault Refusal :=
  let s1 := s.tick t
  let mine := s1.tab.flushes.filter fun f => f.jid == jid
  match mine.find? fun f => !(s1.flushAhead f).isEmpty with
  | some f => .next (s1.flushGroup f)
  | none => .next ((mine.filter s1.flushIdle).foldl (fun s f => s.flushEnd f State.stOk t) s1)

/-! ### Scrubbing (R129) -/

/-- TABLE_SCRUB: the scrubber finds a bit error in a word of a copy. -/
def execTableScrub (copy table index : Nat) (uncorrectable : Bool) (t : Instant) (s : State) :
    Host.Outcome State Fault Refusal :=
  let s1 := s.tick t
  if 4 < copy ∨ 9 < table then .next s1
  else if uncorrectable then .next (eccWord s1 copy table index t)
  else .next (s1.countD 0)

/-! ### Liveness (R152) and down ports (05 R183) -/

namespace State

/-- A port stops being live FF_DEBOUNCE after `d`; a liveness that was to begin later is withdrawn. -/
def liveDown (s : State) (p : Nat) (d : Instant) : State :=
  let a := d + us (s.cfgAt d).tableCfg.ffDebounce
  let old := s.fab.staged.filter fun e => !(e.change == [.live p true] && decide (d ≤ e.a))
  let s1 := { s with
    fab := { s.fab with staged := old }
    tab := { s.tab with downAt := Tbl.set [] s.tab.downAt p (Tbl.get [] s.tab.downAt p ++ [a])
                        upAt := Tbl.set none s.tab.upAt p none } }
  s1.stage { a := a, jids := [], txn := false, units := allUnits, words := 0, change := [.live p false] }

/-- A port that enters ACTIVE becomes live FF_UP_HOLD later, and later than any down change that waits. -/
def liveUp (s : State) (p : Nat) (t : Instant) : State :=
  let base := (Tbl.get [] s.tab.downAt p).foldl max t
  let a := base + ms (s.cfgAt t).tableCfg.ffUpHold
  let s1 := { s with tab := { s.tab with upAt := Tbl.set none s.tab.upAt p (some a) } }
  s1.stage { a := a, jids := [], txn := false, units := allUnits, words := 0, change := [.live p true] }

/-- Removes every copy of a port's queues and counts it under an item. -/
def clearQueues (s : State) (p item : Nat) (keep : Copy → Nat → Bool) (key : Instant) : State :=
  (List.range 8).foldl (fun s k =>
    ((s.equeue (8 * p + k)).copies.filter fun c => !keep c k).foldl (fun s c =>
      (s.removeCopy (8 * p + k) c.fid c.mirror key).countQ p k item) s) s

/-- A front port goes down for egress at `d`: its copies are removed as DROP_DOWN, its model is free,
its liveness will end, and its learned entries are flushed where the port says so (05 R183; 04 R140, R152). -/
def portDown (s : State) (p : Nat) (d : Instant) : State :=
  let m0 := s.model p
  if 64 ≤ p ∨ !m0.up then s
  else
    let s1 := ((s.runPort p (min d (s.unitBound 5))).sendPhys p).touchCredit p d
    let m := s1.model p
    let s2 := s1.setModel p { m with
      up := false, tx := none, next := none, launched := [], parked := false, parkFrom := none, phys := []
      freeAt := if m.tx.isSome then d else m.freeAt, c6Until := min m.c6Until d }
    let s3 := (s2.clearQueues p 5 (fun _ _ => false) d).liveDown p d
    if ((s3.cfgAt d).l2port p).flushOnDown then
      let sel : FlushSel := { byPort := true, byVid := false, staticToo := false, port := p, vid := 0 }
      let n := (flushSet s3.cfgPlanned sel).length
      if n = 0 then s3
      else
        let f : Flush := { jid := 0, a := s3.earliestTxns (flushWords n) (d + us 20), k := 0, sel := sel }
        { s3 with tab := { s3.tab with flushes := s3.tab.flushes ++ [f] } }.flushGroup f
    else s3

end State

/-- FF_LIVENESS_DOWN: a scheduled down change of a port applies in every unit (R152). -/
def execFfLivenessDown (port : Nat) (t : Instant) (s : State) : Host.Outcome State Fault Refusal :=
  let s1 := s.tick t
  match Tbl.get [] s1.tab.downAt port with
  | d :: rest =>
    if d ≤ t then
      .next ({ s1 with tab := { s1.tab with downAt := Tbl.set [] s1.tab.downAt port rest } }.applyDue d t)
    else .next s1
  | [] => .next s1

/-- FF_LIVENESS_UP: a port becomes live in every unit (R152). -/
def execFfLivenessUp (port : Nat) (t : Instant) (s : State) : Host.Outcome State Fault Refusal :=
  let s1 := s.tick t
  match Tbl.get none s1.tab.upAt port with
  | some u =>
    if u ≤ t then
      .next ({ s1 with tab := { s1.tab with upAt := Tbl.set none s1.tab.upAt port none } }.applyDue u t)
    else .next s1
  | none => .next s1

/-! ### FENCE (R154, R155, R169) -/

/-- The admission horizon has reached F: every pipeline's FENCE brick has come, and what stands before it has been
decided (R154). -/
def fenceReached (s : State) (f : FenceRec) : Bool :=
  f.got == 0b11111#5 && decide (f.f ≤ s.fab.admHz) && (s.stampsIn ((s.outq 5).filter fun it => match it with
    | .lead _ => true
    | _ => false)).all fun k => decide (ns f.f ≤ k)

/-- Whether a port has fenced: the horizon has reached F, and no frame stamped before F is left in its queues. -/
def fenced (s : State) (f : FenceRec) (p : Nat) : Bool :=
  fenceReached s f && (List.range 8).all fun k =>
    (s.equeue (8 * p + k)).copies.all fun c => decide (ns f.f ≤ c.stamp)

def maskPorts (m : PortMask) : List Nat := (List.range 68).filter fun p => hasPort m p

/-- The fence after the ports that have fenced by now. -/
def fenceNow (s : State) (f : FenceRec) : FenceRec :=
  (maskPorts f.mask).foldl (fun g p =>
    if !hasPort g.done p && fenced s f p then { g with done := g.done ||| BitVec.ofNat 68 (2 ^ p) } else g) f

/-- When a port fenced: at F, or when the last frame stamped before F left it (R154). -/
def FenceRec.at_ (f : FenceRec) (p : Nat) : Instant := max (ns f.f) (Tbl.get 0 f.left p)

/-- The port that fenced last, the highest number among several at one instant (R169; DESIGN CHOICE, assumption 34). -/
def FenceRec.last (f : FenceRec) : Nat :=
  (maskPorts f.done).foldl (fun b p => if f.at_ b ≤ f.at_ p ∨ !hasPort f.done b then p else b) 0

/-- FENCE_COMPLETE: ports of a fence have fenced; it completes when all have (R154). -/
def execFenceComplete (jid : Nat) (t : Instant) (s : State) : Host.Outcome State Fault Refusal :=
  let s1 := s.tick t
  match s1.fab.fences.find? fun f => f.jid == jid with
  | none => .next s1
  | some f =>
    let g := fenceNow s1 f
    if g.done = g.mask then
      let s2 := { s1 with fab := { s1.fab with fences := s1.fab.fences.filter fun f => f.jid != jid } }
      .next (s2.finish jid State.stOk [word g.last] t)
    else .next { s1 with fab := { s1.fab with fences := s1.fab.fences.map fun f => if f.jid = jid then g else f } }

/-- FENCE_TIMEOUT: the timeout of a fence comes first (R154). -/
def execFenceTimeout (jid : Nat) (t : Instant) (s : State) : Host.Outcome State Fault Refusal :=
  let s1 := s.tick t
  match s1.fab.fences.find? fun f => f.jid == jid with
  | none => .next s1
  | some f =>
    if t < f.until_ then .next s1
    else
      let g := fenceNow s1 f
      let s2 := { s1 with fab := { s1.fab with fences := s1.fab.fences.filter fun f => f.jid != jid } }
      .next (s2.finish jid State.stTimeout (word g.last :: mask68Words (g.mask &&& ~~~g.done)) t)

/-- TIMEOUT in ms, 0 for 1,000; the mask, all zeros for every port (R169). -/
def fenceTmo (r : Req) : Nat := if r.f 4 0 14 = 0 then 1000 else r.f 4 0 14
def fenceMask (r : Req) : PortMask := if r.mask68 5 = 0 then BitVec.allOnes 68 else r.mask68 5
def okFence (r : Req) : Bool := r.only 4 0x3FFF && decide (fenceTmo r ≤ 10000) && r.only 7 0xF

/-- F: the apply-at instant, or the latest A of the transactions accepted before, a flush's later groups among them
(R154). -/
def fenceF (a : Option Instant) (t : Instant) (s : State) : Instant :=
  match a with
  | some a => a
  | none => s.txnSlots.foldl (fun m x => max m x.1) t

def bodyFence (c : Ctx) (s : State) : Res :=
  refuseIf (!okFence c.r) State.stBadParam <|
  refuseIf (decide (8 ≤ s.fab.fences.length)) State.stBusy <|
  .wait { s with fab := { s.fab with
    fences := s.fab.fences ++ [{ jid := c.jid, f := nsCeil (fenceF c.a c.t s), mask := fenceMask c.r, until_ := c.t + ms (fenceTmo c.r) }] } }

/-! ### L2 commands (R160, R161) -/

def dkindOf : Nat → DKind
  | 0 => .port | 1 => .group | 2 => .failover | _ => .drop
def DKind.code : DKind → Nat
  | .port => 0 | .group => 1 | .failover => 2 | .drop => 3

/-- Key words in range. -/
def l2KeyOk (r : Req) (i : Nat) : Bool :=
  decide (1 ≤ r.f i 0 12 ∧ r.f i 0 12 ≤ 4094) && r.only i 0xF0000FFF && r.only (i + 2) 0xFFFF0000

def l2EntryOf (r : Req) (i : Nat) : L2Entry :=
  { vid := r.f i 0 12, mac := r.mac (i + 1), static := r.b i 31, dkind := dkindOf (r.f i 29 2)
    target := r.f (i + 3) 0 13, mirror := r.b i 28, locked := false }

def L2Entry.targetOk (e : L2Entry) : Bool :=
  match e.dkind with
  | .port => decide (e.target ≤ 67)
  | .group => true
  | .failover => decide (e.target ≤ 4095)
  | .drop => true

def L2Entry.words (e : L2Entry) : List Word :=
  [word (atBit e.static 31 + e.dkind.code * 2 ^ 29 + atBit e.mirror 28 + e.vid)] ++ macWords e.mac ++ [word e.target]

/-- PW of a command that carries 1 to 16 items of `k` words. -/
def pwItems (k : Nat) (r : Req) : Bool := r.pw % k == 0 && decide (1 ≤ r.pw / k ∧ r.pw / k ≤ 16)

/-- Clears what CC1 keeps of holds and moves for keys that a command writes. -/
def State.clearHolds (s : State) (es : List (Nat × Nat)) : State :=
  es.foldl (fun s e => s.putL2Ctl e.1 e.2 { s.l2Ctl e.1 e.2 with holdUntil := none, moves := [] }) s

/-- Stages a command's transaction of these words at `a`, after the relocations it needs. -/
def stagePlan (c : Ctx) (s : State) (a : Instant) (words : Nat) (moves puts : List Change) (after : State → State) : Res :=
  match s.stageChange { c with a := some a } (ms 5) true copies5 words puts with
  | .wait s1 ws => .wait (after (s1.stageMoves a moves.reverse)) ws
  | x => x

/-- The entries of an L2_SET packet. -/
def l2Entries (r : Req) : List L2Entry := (List.range (r.pw / 4)).map fun i => l2EntryOf r (4 + 4 * i)
def okL2Set (r : Req) : Bool :=
  ((List.range (r.pw / 4)).all fun i => l2KeyOk r (4 + 4 * i) && r.only (7 + 4 * i) 0x1FFF)
    && (l2Entries r).all L2Entry.targetOk

/-- What CC1 keeps of the keys that L2_SET writes: no hold, no moves, and an age that starts at A. -/
def State.afterL2Set (s : State) (es : List L2Entry) (a : Instant) : State :=
  es.foldl (fun s e => (s.putL2Ctl e.vid e.mac { s.l2Ctl e.vid e.mac with idleSince := a }).setHit e.vid e.mac 0)
    (s.clearHolds (es.map fun e => (e.vid, e.mac)))

def bodyL2Set (c : Ctx) (s : State) : Res :=
  let es := l2Entries c.r
  let a := s.effA c (ms 5) true es.length
  refuseIf (!okL2Set c.r) State.stBadParam <|
  match planAll Plan.addL2 es (s.l2PlanAt a) with
  | none => .fail State.stResource [] (fun s => s.tableFull 0 c.t)
  | some p => stagePlan c s a p.puts.length p.l2Moves p.l2Puts fun s1 => s1.afterL2Set es a

/-- The word numbers at which the keys of an L2_DEL packet begin. -/
def l2DelIdx (r : Req) : List Nat := (List.range (r.pw / 3)).map fun i => 4 + 3 * i
def okL2Del (r : Req) : Bool := (l2DelIdx r).all (l2KeyOk r)
/-- The keys of a packet that have an entry. -/
def l2DelKeys (r : Req) (g : Cfg) : List (Nat × Nat) :=
  (((l2DelIdx r).map fun i => (r.f i 0 12, r.mac (i + 1))).eraseDups).filter fun k => (l2Where g k.1 k.2).isSome

def bodyL2Del (c : Ctx) (s : State) : Res :=
  let ks := l2DelKeys c.r (s.cfgAt (s.effA c (ms 5) true (l2DelIdx c.r).length))
  refuseIf (!okL2Del c.r) State.stBadParam <|
  s.stageChange c (ms 5) true copies5 ks.length (ks.map fun k => .l2Del k.1 k.2) [word ks.length]

/-- The reply of L2_GET (R160). An entry that was never hit counts the seconds from instant 0, and an entry that a command
writes anew keeps the last hit of its key: the spec gives no value for either (DESIGN CHOICE, assumption 134). -/
def bodyL2Get (c : Ctx) (s : State) : Res :=
  let r := c.r
  refuseIf (!l2KeyOk r 4) State.stBadParam <|
  match l2Where s.cfgNow (r.f 4 0 12) (r.mac 5) with
  | some (_, e) =>
    let age := min 0xFFFFF ((c.t - (s.l2Ctl e.vid e.mac).lastHit) / sec 1)
    .done s (e.words ++ [word (atBit true 31 + atBit e.locked 30 + age)])
  | none => .done s [word (r.w 4), word (r.w 5), word (r.w 6), 0, 0]

/-- BY_PORT with a port, BY_VID with a VID (R161). -/
def okL2Flush (r : Req) : Bool :=
  r.only 4 0xE007FFFF && (!r.b 4 31 || decide (r.f 4 12 7 ≤ 67))
    && (!r.b 4 30 || decide (1 ≤ r.f 4 0 12 ∧ r.f 4 0 12 ≤ 4094))

def flushSelOf (r : Req) : FlushSel :=
  { byPort := r.b 4 31, byVid := r.b 4 30, staticToo := r.b 4 29, port := r.f 4 12 7, vid := r.f 4 0 12 }

/-- The instant of a flush: that of its packet, or the earliest at which all its groups can stand. -/
def flushA (c : Ctx) (s : State) : Instant :=
  match c.a with
  | some a => a
  | none => s.earliestTxns (flushWords (flushSet s.cfgPlanned (flushSelOf c.r)).length) (c.t + ms 5)

/-- L2_FLUSH: its first group is staged, the others follow (R141). R126 holds for each group: a later one too close to
another transaction is a CONFLICT, one that would pass 64 words with it RESOURCE (DEDUCED, assumption 135). -/
def bodyL2Flush (c : Ctx) (s : State) : Res :=
  let sel := flushSelOf c.r
  let a := flushA c s
  let ws := flushWords (flushSet (s.cfgAt a) sel).length
  let later := (ws.zipIdx).drop 1
  refuseIf (!okL2Flush c.r) State.stBadParam <|
  refuseIf (later.any fun g => s.txnNear (a + us g.2)) State.stConflict <|
  refuseIf (later.any fun g => decide (64 < g.1 + s.wordsAt (a + us g.2))) State.stResource <|
  match s.stageChange { c with a := some a } (ms 5) true copies5 (ws.headD 0) [.l2Flush sel] with
  | .wait s1 rs =>
    .wait { s1 with tab := { s1.tab with flushes := s1.tab.flushes ++ [{ jid := c.jid, a := a, k := 1, sel := sel }] } } rs
  | x => x

def bodyL2Unlock (c : Ctx) (s : State) : Res :=
  let r := c.r
  let k := (r.f 4 0 12, r.mac 5)
  refuseIf (!l2KeyOk r 4) State.stBadParam <|
  if (l2Where (s.cfgAt (s.effA c (ms 5) true 1)) k.1 k.2).isSome then
    match s.stageChange c (ms 5) true copies5 1 [.l2Lock k.1 k.2 false] with
    | .wait s1 ws => .wait (s1.clearHolds [k]) ws
    | x => x
  else s.stageChange c (ms 5) true copies5 0 []

/-! ### Settings (R162, R163) -/

def tableCfgOf (r : Req) : TableCfg :=
  { ageTime := r.w 4, moveLimit := r.f 5 16 16, moveWindow := r.f 5 0 16, holdTime := r.w 6
    ffDebounce := r.f 7 0 8, ffUpHold := r.f 8 0 16 }

/-- The ranges of TABLE_CFG_SET (R162). -/
def okTableCfgSet (r : Req) : Bool :=
  let v := tableCfgOf r
  (v.ageTime == 0 || decide (10 ≤ v.ageTime ∧ v.ageTime ≤ 1000000))
    && decide (1 ≤ v.moveLimit ∧ v.moveLimit ≤ 1000) && decide (1 ≤ v.moveWindow ∧ v.moveWindow ≤ 60000)
    && decide (100 ≤ v.holdTime ∧ v.holdTime ≤ 3600000) && r.only 7 0xFF && decide (v.ffDebounce ≤ 240)
    && r.only 8 0xFFFF && decide (v.ffUpHold ≤ 60000)

def bodyTableCfgSet (c : Ctx) (s : State) : Res :=
  refuseIf (!okTableCfgSet c.r) State.stBadParam <| s.stageChange c (ms 5) true copies5 1 [.tableCfg (tableCfgOf c.r)]

def bodyTableCfgGet (_ : Ctx) (s : State) : Res :=
  let v := s.cfgNow.tableCfg
  .done s [word v.ageTime, word (v.moveLimit * 65536 + v.moveWindow), word v.holdTime, word v.ffDebounce, word v.ffUpHold]

def l2PortOf (r : Req) : L2Port :=
  { learnEn := r.b 5 31, flushOnDown := r.b 5 30, unkUc := r.b 5 29, unkMc := r.b 5 28
    bc := r.b 5 27, learnLimit := r.f 5 0 18 }

def okL2PortSet (r : Req) : Bool :=
  r.only 4 0x7F && r.only 5 0xF803FFFF && decide (r.f 4 0 7 ≤ 67) && decide ((l2PortOf r).learnLimit ≤ 131072)

def bodyL2PortSet (c : Ctx) (s : State) : Res :=
  refuseIf (!okL2PortSet c.r) State.stBadParam <|
  s.stageChange c (ms 5) true allUnits 1 [.l2port (c.r.f 4 0 7) (l2PortOf c.r)]

def L2Port.words (p : Nat) (v : L2Port) : List Word :=
  [word p, word (atBit v.learnEn 31 + atBit v.flushOnDown 30 + atBit v.unkUc 29 + atBit v.unkMc 28
    + atBit v.bc 27 + v.learnLimit)]

def bodyL2PortGet (c : Ctx) (s : State) : Res :=
  let p := c.r.f 4 0 7
  refuseIf (!c.r.only 4 0x7F || decide (67 < p)) State.stBadParam <|
  .done s ((s.cfgNow.l2port p).words p)

/-! ### Routing commands (R164 to R166) -/

def rifFrom (r : Req) : Rif :=
  { valid := r.b 4 31, v4 := r.b 4 30, v6 := r.b 4 29, mtu := r.f 5 16 14, vid := r.f 5 0 12, mac := r.mac 6 }

/-- The reserved bits of RIF_SET, and the ranges of a valid entry (R142, R164). For the MAC, which has a range but no
stated one, a group address is refused (DESIGN CHOICE, assumption 136). -/
def okRifSet (r : Req) : Bool :=
  let v := rifFrom r
  r.only 4 0xE00003FF && r.only 5 0x3FFF0FFF && r.only 7 0xFFFF0000
    && (!v.valid || (decide (68 ≤ v.mtu ∧ v.mtu ≤ 9216) && decide (1 ≤ v.vid ∧ v.vid ≤ 4094) && !macGroup v.mac))

/-- Another valid interface has the VID, or a valid next hop names the interface made invalid (R164). -/
def rifClash (i : Nat) (v : Rif) (g : Cfg) : Bool :=
  (v.valid && g.rifs.any fun e => e.1 != i && e.2.valid && e.2.vid == v.vid)
    || (!v.valid && g.nhs.any fun e => e.2.valid && e.2.rif == i)

def bodyRifSet (c : Ctx) (s : State) : Res :=
  let i := c.r.f 4 0 10
  let v := rifFrom c.r
  refuseIf (!okRifSet c.r) State.stBadParam <|
  refuseIf ((s.cfgsFrom (s.effA c (ms 5) true 1)).any (rifClash i v)) State.stConflict <|
  s.stageChange c (ms 5) true copies5 1 [.rif i v]

def Rif.words (i : Nat) (v : Rif) : List Word :=
  [word (atBit v.valid 31 + atBit v.v4 30 + atBit v.v6 29 + i), word (v.mtu * 65536 + v.vid)] ++ macWords v.mac

def bodyRifGet (c : Ctx) (s : State) : Res :=
  let i := c.r.f 4 0 10
  refuseIf (!c.r.only 4 0x3FF) State.stBadParam <|
  .done s ((s.cfgNow.rif i).words i)

/-- A route or host entry names a next hop in a configuration. -/
def nhNamed (g : Cfg) (i : Nat) : Bool :=
  g.routes.any (fun r => r.goes.act == 0 && r.goes.nh == i)
    || g.hosts.any fun e => match e.2 with
      | some h => h.goes.act == 0 && h.goes.nh == i
      | none => false

def nhFrom (r : Req) : NextHop :=
  { valid := r.b 4 31, ff := r.b 4 30, target := r.f 5 0 12, rif := r.f 5 16 10, mac := r.mac 6 }

def okNhSet (r : Req) : Bool :=
  let v := nhFrom r
  r.only 4 0xC0003FFF && r.only 5 0x3FF0FFF && r.only 7 0xFFFF0000 && !(v.valid && !v.ff && decide (63 < v.target))

/-- A valid next hop names an interface that is not, or a route names the next hop made invalid (R165). -/
def nhClash (i : Nat) (v : NextHop) (g : Cfg) : Bool := (v.valid && !(g.rif v.rif).valid) || (!v.valid && nhNamed g i)

def bodyNhSet (c : Ctx) (s : State) : Res :=
  let i := c.r.f 4 0 14
  let v := nhFrom c.r
  refuseIf (!okNhSet c.r) State.stBadParam <|
  refuseIf ((s.cfgsFrom (s.effA c (ms 5) true 1)).any (nhClash i v)) State.stConflict <|
  s.stageChange c (ms 5) true copies5 1 [.nh i v]

def NextHop.words (i : Nat) (v : NextHop) : List Word :=
  [word (atBit v.valid 31 + atBit v.ff 30 + i), word (v.rif * 65536 + v.target)] ++ macWords v.mac

def bodyNhGet (c : Ctx) (s : State) : Res :=
  let i := c.r.f 4 0 14
  refuseIf (!c.r.only 4 0x3FFF) State.stBadParam <|
  .done s ((s.cfgNow.nh i).words i)

/-- A route of five words; IPv4 prefixes stand in the top 32 of 128 bits. The field of PLEN has 7 bits, in which the 128
of an IPv6 host route reads 0: a prefix with bits set, which no /0 has, says that 128 is meant (R166; DESIGN CHOICE,
assumption 30). -/
def routeOfWords (r : Req) (i : Nat) : TrieRoute :=
  let plen := if r.b i 31 ∧ r.f i 24 7 = 0 ∧ r.u128 (i + 1) ≠ 0 then 128 else r.f i 24 7
  { v6 := r.b i 31, pfx := r.u128 (i + 1), plen := plen, goes := { act := r.f i 16 2, nh := r.f i 0 14 } }

/-- Prefix and length in range (R145, R166). -/
def TrieRoute.prefixOk (x : TrieRoute) : Bool :=
  (if x.v6 then decide (x.plen ≤ 64) || x.plen == 128 else decide (x.plen ≤ 32))
    && x.pfx % 2 ^ (128 - x.plen) == 0

def TrieRoute.isHost (x : TrieRoute) : Bool := if x.v6 then x.plen == 128 else x.plen == 32

def TrieRoute.words (x : TrieRoute) : List Word :=
  word (atBit x.v6 31 + x.plen % 128 * 2 ^ 24 + x.goes.act * 65536 + x.goes.nh) :: words128 x.pfx

/-- The same prefix. -/
def TrieRoute.same (x y : TrieRoute) : Bool := x.v6 == y.v6 && x.pfx == y.pfx && x.plen == y.plen

/-! The trie blocks (R148). -/

/-- The blocks that no new content may use: those in use now or in a change on its way, those taken for one, and those
released less than 10 µs ago. -/
def blocksBusy (s : State) (t : Instant) : List Nat :=
  (s.cfgsFrom 0).flatMap (·.trie.used)
    ++ (s.fab.staged.flatMap (·.change)).flatMap (fun ch => match ch with | .routes _ _ take => take | _ => [])
    ++ (s.tab.released.filter fun e => decide (t < e.2 + us 10)).map (·.1)

/-- The free blocks of a stage. -/
def freeBlocks (s : State) (stage : Nat) (t : Instant) : List Nat :=
  let busy := blocksBusy s t
  (stageRows stage).filter fun r => !busy.contains r

/-- The trie as a change of some prefixes at an instant leaves it, and the blocks it takes; none where a stage lacks a
free block (R148). -/
def planTrie (s : State) (a t : Instant) (del : Bool) (rs : List TrieRoute) : Option (TrieEdit × List Nat) :=
  let c := s.cfgAt a
  let free := ((List.range 8).drop 1).flatMap fun k => freeBlocks s k t
  (editTrie c.trie c.routes free del rs).map fun e => (e, free.filter fun r => !e.free.contains r)

/-- The change of the trie, if prefixes change. -/
def trieChange (del : Bool) (rs : List TrieRoute) (take : List Nat) : List Change :=
  if rs.isEmpty then [] else [.routes del rs take]

/-- The word numbers at which the routes of a packet begin, and the routes. -/
def routeIdx (r : Req) : List Nat := (List.range (r.pw / 5)).map fun i => 4 + 5 * i
def routesOf (r : Req) : List TrieRoute := (routeIdx r).map (routeOfWords r)

/-- Prefixes in range and not set beyond PLEN, ACT not 0b01, NH 0 unless ACT is 0b00 (R146, R166). -/
def okRouteSet (r : Req) : Bool :=
  ((routeIdx r).all fun i => r.only i 0xFF033FFF)
    && (routesOf r).all fun x => x.prefixOk && x.goes.act != 1 && (x.goes.act == 0 || x.goes.nh == 0)

/-- A route names a next hop that is not valid. -/
def routeDead (rs : List TrieRoute) (g : Cfg) : Bool := rs.any fun x => x.goes.act == 0 && !(g.nh x.goes.nh).valid

/-- The host entries of a packet's routes, and its prefixes. -/
def hostsOf (rs : List TrieRoute) : List HostEntry :=
  (rs.filter TrieRoute.isHost).map fun x => { v6 := x.v6, addr := x.pfx, goes := x.goes }
def prefixesOf (rs : List TrieRoute) : List TrieRoute := rs.filter fun x => !x.isHost

def bodyRouteSet (c : Ctx) (s : State) : Res :=
  let rs := routesOf c.r
  let a := s.effA c (ms 5) true rs.length
  refuseIf (!okRouteSet c.r) State.stBadParam <|
  refuseIf ((s.cfgsFrom a).any (routeDead rs)) State.stConflict <|
  match planAll Plan.addHost (hostsOf rs) (s.hostPlanAt a) with
  | none => .fail State.stResource [] (fun s => s.tableFull 1 c.t)
  | some p =>
    match planTrie s a c.t false (prefixesOf rs) with
    | none => .fail State.stResource
    | some e =>
      stagePlan c s a (p.puts.length + e.1.staged.length) p.hostMoves (p.hostPuts ++ trieChange false (prefixesOf rs) e.2) id

/-- Reserved bits, ACT and NH are 0 in ROUTE_DEL (R166). -/
def okRouteDel (r : Req) : Bool := ((routeIdx r).all fun i => r.only i 0xFF000000) && (routesOf r).all TrieRoute.prefixOk

/-- A host-table entry as a route. -/
def hostRoute (g : Cfg) (v6 : Bool) (addr : Nat) : Option TrieRoute :=
  (List.range 4).findSome? fun w => match g.hostAt (hostPos v6 addr w) with
    | some e => if e.v6 = v6 ∧ e.addr = addr then
        some ({ v6 := e.v6, pfx := e.addr, plen := if e.v6 then 128 else 32, goes := e.goes } : TrieRoute) else none
    | none => none

/-- The routes of a packet that are there. -/
def routesHere (g : Cfg) (rs : List TrieRoute) : List TrieRoute :=
  rs.filter fun x => if x.isHost then (hostRoute g x.v6 x.pfx).isSome else g.routes.any x.same

def bodyRouteDel (c : Ctx) (s : State) : Res :=
  let a := s.effA c (ms 5) true (routeIdx c.r).length
  let rs := routesHere (s.cfgAt a) (routesOf c.r)
  let hosts := hostsOf rs
  refuseIf (!okRouteDel c.r) State.stBadParam <|
  match planTrie s a c.t true (prefixesOf rs) with
  | none => .fail State.stResource
  | some e =>
    stagePlan c s a (hosts.length + e.1.staged.length) []
      ((hosts.map fun h => .hostDel h.v6 h.addr) ++ trieChange true (prefixesOf rs) e.2) id

/-- The route that ROUTE_GET returns: exact, or with LPM what route(x) takes, host table first (R166). -/
def routeHit (g : Cfg) (lpm : Bool) (x : TrieRoute) : Option TrieRoute :=
  if lpm then match hostRoute g x.v6 x.pfx with
    | some e => some e
    | none => (g.trie.find (fun _ => false) x.v6 x.pfx).map fun w =>
        { v6 := x.v6, pfx := topBits x.pfx w.1 * 2 ^ (128 - w.1), plen := w.1, goes := w.2 }
  else if x.isHost then hostRoute g x.v6 x.pfx
  else g.routes.find? x.same

def okRouteGet (r : Req) : Bool :=
  let x := routeOfWords r 4
  r.only 4 0xFF100000 && (r.b 4 20 || x.prefixOk) && (x.v6 || x.pfx % 2 ^ 96 == 0)

def bodyRouteGet (c : Ctx) (s : State) : Res :=
  let r := c.r
  refuseIf (!okRouteGet r) State.stBadParam <|
  match routeHit s.cfgNow (r.b 4 20) (routeOfWords r 4) with
  | some e => .done s (e.words ++ [word (2 ^ 31)])
  | none => .done s ([word (r.w 4), word (r.w 5), word (r.w 6), word (r.w 7), word (r.w 8)] ++ [0])

/-! ### Groups (R167, R168) -/

def bodyMcgSet (c : Ctx) (s : State) : Res :=
  let r := c.r
  refuseIf (!r.only 4 0x1FFF || !r.only 7 0xF) State.stBadParam <|
  s.stageChange c (ms 5) true allUnits 1 [.mcg (r.f 4 0 13) (r.mask68 5)]

def bodyMcgGet (c : Ctx) (s : State) : Res :=
  refuseIf (!c.r.only 4 0x1FFF) State.stBadParam <|
  .done s (word (c.r.f 4 0 13) :: mask68Words (s.cfgNow.mcg (c.r.f 4 0 13)))

/-- The eight member fields of FFG_SET; COUNT of them are the members. -/
def ffgFields (r : Req) : List Nat := (List.range 8).map fun i => r.f (5 + i / 4) (8 * (i % 4)) 7
def ffgMembers (r : Req) : List Nat := (ffgFields r).take (r.f 4 16 3 + 1)

/-- No member above 63, none twice (R168). -/
def okFfgSet (r : Req) : Bool :=
  r.only 4 0xC0070FFF && r.only 5 0x7F7F7F7F && r.only 6 0x7F7F7F7F
    && ((ffgMembers r).all fun p => decide (p ≤ 63)) && (ffgMembers r).eraseDups.length == r.f 4 16 3 + 1

def bodyFfgSet (c : Ctx) (s : State) : Res :=
  let r := c.r
  refuseIf (!okFfgSet r) State.stBadParam <|
  s.stageChange c (ms 5) true copies5 1 [.ffg (r.f 4 0 12) (r.b 4 31) (r.b 4 30) (ffgMembers r)]

/-- The reply of FFG_GET: the group, NONE_LIVE and the current position (R168). -/
def FfGroup.words (i : Nat) (g : FfGroup) : List Word :=
  let m := fun k => g.members.getD k 0
  let w := fun k => word (m (k + 3) * 2 ^ 24 + m (k + 2) * 65536 + m (k + 1) * 256 + m k)
  [word (atBit g.valid 31 + atBit g.revert 30 + (g.members.length - 1) * 65536 + i), w 0, w 4,
    word (atBit g.cur.isNone 31 + g.cur.getD 0)]

def bodyFfgGet (c : Ctx) (s : State) : Res :=
  let i := c.r.f 4 0 12
  refuseIf (!c.r.only 4 0xFFF) State.stBadParam <|
  .done s ((s.cfgNow.ffg i).words i)

end Sys2Proof.Machine
end

