-- ==== Sys2Proof/Machine/Lanes.lean ====
section
/-! DEFINITION. Serial lanes and link bring-up (10): line modes, quad PLLs, link states, PARK, disabling a port
or a quad, and what the models of egress ports do at their ends (05 R181, R185). -/

namespace Sys2Proof.Machine

/-! ### Line modes (10 R397; 06 R226) -/

/-- The payload rate in Mb/s of a rate code of LANE_STATUS.RATE. -/
def payloadOf : Nat → Nat
  | 1 => 1000 | 2 => 2500 | 3 => 10000 | 4 => 25000 | 5 => 10000 | 6 => 25000 | _ => 0
/-- The start granule in ps (06 R226). -/
def granOf : Nat → Nat
  | 1 => 16000 | 2 => 6400 | 3 => 800 | 4 => 320 | 5 => 3200 | 6 => 1280 | _ => 0
/-- The high-band rate that a line mode needs: 0 none, 1 31.25, 2 25.78125, 3 20.625 GHz. -/
def hbOf : Nat → Nat
  | 4 => 1 | 6 => 2 | 5 => 3 | _ => 0
/-- The rate code of a configured mode (10 R406). -/
def PortCfg.rate (c : PortCfg) : Nat :=
  match c.mode with
  | 0 => if c.tl25 then 4 else 3
  | 1 => 1
  | 2 => 2
  | 3 => 5
  | _ => 6
/-- A fixed mode: no auto-negotiation. -/
def PortCfg.fixed (c : PortCfg) : Bool := decide (2 ≤ c.mode)

/-- The transmit presets: PRE and POST (10 R417). -/
def presetOf : Nat → Nat × Nat
  | 0 => (0, 0) | 1 => (0, 4) | 2 => (0, 8) | 3 => (0, 12) | 4 => (4, 8) | 5 => (4, 12) | 6 => (6, 16) | _ => (8, 20)

namespace State

/-- The payload rate of a port's configured line mode (05 R209, 06 R243); ports 64 to 67 have one. -/
def confRate (s : State) (p : Nat) : Nat :=
  if p < 64 then payloadOf (s.lane p).cfg.rate else (PortModel.reset p).rate

/-! ### High-band PLLs (10 R399, R400) -/

def hb (s : State) (n : Nat) : HbPll := if n = 1 then s.lan.hb0 else s.lan.hb1
def setHb (s : State) (n : Nat) (v : HbPll) : State :=
  if n = 1 then { s with lan := { s.lan with hb0 := v } } else { s with lan := { s.lan with hb1 := v } }
/-- Some port uses a high-band PLL. -/
def hbUsed (s : State) (n : Nat) : Bool := (List.range 64).any fun p => (s.lane p).pll == n

/-- The band-run bit of a PLL. -/
def setBand (s : State) (n : Nat) (on : Bool) : State :=
  let b := BitVec.ofNat 2 (2 ^ (n - 1))
  { s with lan := { s.lan with bandRun := if on then s.lan.bandRun ||| b else s.lan.bandRun &&& ~~~b } }

/-- A band search of a rate begins; a sweep goes on through the rates after it (10 R400). -/
def startSearch (s : State) (n rate : Nat) (sweep : Bool) : State :=
  ((s.setHb n { s.hb n with search := some rate, sweep := sweep }).setBand n true).count (0x7EC4 + 2 * (n - 1) + 1)

/-- A PLL hops to a rate: a search under way on it is aborted, and the old result serves. -/
def hop (s : State) (n rate : Nat) : State :=
  ((s.setHb n { s.hb n with rate := rate, lock := false, search := none, sweep := false }).setBand n false).count
    (0x7EC4 + 2 * (n - 1))

/-- Port `p` takes the PLL of a high-band rate: one that runs at it, else one that no port uses. -/
def takePll (s : State) (p rate : Nat) : State :=
  if rate = 0 then s.setLane p { s.lane p with pll := 0 }
  else if (s.lane p).pll ≠ 0 ∧ (s.hb (s.lane p).pll).rate = rate then s
  else
    let s0 := s.setLane p { s.lane p with pll := 0 }
    let use := fun (s : State) (n : Nat) => s.setLane p { s.lane p with pll := n }
    if s0.lan.hb0.rate = rate then use s0 1
    else if s0.lan.hb1.rate = rate then use s0 2
    else if !s0.hbUsed 1 then use (s0.hop 1 rate) 1
    else if !s0.hbUsed 2 then use (s0.hop 2 rate) 2
    else s0

/-! ### Link states (10 R406) -/

/-- A change of link state with its reason. -/
def goLane (s : State) (p : Nat) (new : LState) (reason : Nat) (t : Instant) : State :=
  let l := s.lane p
  (s.setLane p { l with state := new, since := t }).raise 0x0100 p
    [bytesBE 1 p, bytesBE 1 l.state.code, bytesBE 1 new.code, bytesBE 1 reason] t

/-- A LINK_PARK that waits on a port completes. -/
def endPark (s : State) (p status : Nat) (t : Instant) : State :=
  let l := s.lane p
  let s1 := (s.finishOpt l.parkJid status [] t).finishOpt l.exitJid status [] t
  s1.setLane p { s1.lane p with parkJid := none, exitJid := none, parkFrom := none, parkWait := false }

/-- The port goes to DETECT, or starts afresh there. Pending runs are dropped (10 R425). -/
def toDetect (s : State) (p reason : Nat) (t : Instant) : State :=
  let old := (s.lane p).state
  let s1 := (s.endPark p stState t).ltOff p t
  let s2 := if old = .active then s1.countP p 93 else s1
  let s3 := if old = .detect then s2.setLane p { s2.lane p with since := t } else s2.goLane p .detect reason t
  let l := s3.lane p
  let s4 := s3.setLane p { l with
    going := 0, farReady := 0, calxRecv := 0, calxCal := false, exitFrom := none, updated := false, limits := 0
    fecOn := false, eqPend := false, eqRun := false, delayPend := false
    pll := if l.cfg.fixed && l.cfg.enable then l.pll else 0 }
  s4.portDown p t

/-- A port whose input footing or sleep excluded is included as it enters ACTIVE (09 R390, 14 R588). -/
def includeAgain (s : State) (p : Nat) (t : Instant) : State :=
  let l := s.lane p
  if !l.shut then s
  else
    let s1 := s.setLane p { l with shut := false }
    (s1.stage { a := t, jids := [], txn := false, units := copies5, words := 0
                change := [.exclude p false] }).applyDue t t

/-- The port enters ACTIVE (10 R406, R416; 05 R183; 04 R152; 06 R243; 08 R339). -/
def enterActive (s : State) (p rate : Nat) (fallen : Bool) (reason : Nat) (t : Instant) : State :=
  let s1 := (s.goLane p .active reason t).countP p 92
  let l := s1.lane p
  let s2 := s1.setLane p { l with
    rate := rate, fallen := fallen, activeAt := t, fecOn := decide (rate = 6) && l.cfg.fec
    fbReason := if fallen then l.fbReason else 0, fallbacks := if fallen then l.fallbacks else 0 }
  let wasUp := (s2.model p).up
  let m := s2.model p
  let s3 := s2.setModel p { m with up := true, rate := payloadOf rate, gran := granOf rate, parked := false }
  let s4 := if wasUp then s3 else s3.liveUp p t
  ((s4.setMisfit p t).ltActive p t).includeAgain p t

/-- A port enters FALLBACK (10 R415). -/
def toFallback (s : State) (p reason fb : Nat) (t : Instant) : State :=
  let s1 := (s.goLane p .fallback reason t).countP p 94
  let l := s1.lane p
  let n := if l.cfg.mode = 0 ∧ fb ≠ 1 then l.fallbacks + 1 else 0
  (s1.setLane p { l with
    fbReason := fb, fallbackEv := true, pll := 0, going := 1, fallbacks := n, limit := l.limit || decide (3 ≤ n) }).raise
    0x0101 p [bytesBE 1 p, bytesBE 1 fb] t

/-- FB_REASON of a state that fails (10 R435). -/
def fbOf : LState → Nat
  | .step => 4 | .train => 5 | .lock => 6 | .calx => 7 | _ => 0

/-- The port whose module serves port `p`: an SFF-8636 module serves four (10 R427). -/
def moduleOf (s : State) (p : Nat) : Nat :=
  let q := p / 4 * 4
  if 48 ≤ p ∧ (s.lane q).modKind = 2 then q else p

/-- The port may leave DETECT (10 R406, R407, R429; 14 R583). -/
def mayStart (s : State) (p : Nat) (t : Instant) : Bool :=
  let l := s.lane p
  let q := s.quad (p / 16)
  l.cfg.enable && q.powered && q.lbLock && !q.off && !q.starting && (!l.modPresent || l.modReady)
    && (match l.heldUntil with | some u => decide (u ≤ t) | none => true)
    && (!(s.lane (s.moduleOf p)).modPresent || (s.lane (s.moduleOf p)).modReady) && (s.model p).drainEnd.isNone && s.tk.bond.grantedOnce
    && (l.cfg.mode != 3 && l.cfg.mode != 4 || (l.pll != 0 && (s.hb l.pll).lock))

/-- The bytes that a frame in progress has brought by `t`. -/
def arrivedBy (s : State) (p : Nat) (t : Instant) : Nat :=
  match s.rxOf p with
  | none => 0
  | some id =>
    match s.frame id with
    | some f => (t - f.stamp) / max 1 (txTime (s.model p).rate 1)
    | none => 0

/-- Loss of symbol lock (02 R70, 10 R405). -/
def lockLoss (s : State) (p arrived reason : Nat) (t : Instant) : State :=
  let s1 := s.abortRx p arrived 1 3 t
  let s2 := if (s1.lane p).state = .active then s1.setLane p { s1.lane p with lockLost := true } else s1
  s2.toDetect p reason t

end State

/-- DETECT_HOLD_EXPIRY: receive energy has lasted DETECT_HOLD; the port leaves DETECT if nothing else holds it
(10 R406, R407). -/
def execDetectHoldExpiry (port : Nat) (t : Instant) (s : State) : Host.Outcome State Fault Refusal :=
  let s1 := s.tick t
  if 64 ≤ port then .next s1
  else
    let s2 := s1.setLane port { s1.lane port with energy := true }
    let l := s2.lane port
    if l.state ≠ .detect ∨ t < l.since + us (100 * l.cfg.hold) then .next s2
    else
      let s3 := if l.cfg.mode = 3 ∨ l.cfg.mode = 4 then s2.takePll port (hbOf l.cfg.rate) else s2
      if !s3.mayStart port t then .next s3
      else if l.cfg.fixed then
        let f := presetOf l.eq.preset
        .next ((s3.setLane port { s3.lane port with going := l.cfg.rate, pre := f.1, post := f.2 }).goLane port
          .lock 0 t)
      else .next (s3.goLane port .base 0 t)

/-- ENERGY_LOST: no receive energy for 1 ms. A port in PARK, whose far end is at electrical idle, stays there
(10 R406, R421). -/
def execEnergyLost (port : Nat) (t : Instant) (s : State) : Host.Outcome State Fault Refusal :=
  let s1 := s.tick t
  if 64 ≤ port then .next s1
  else
    let s2 := s1.setLane port { s1.lane port with energy := false }
    let st := (s2.lane port).state
    if st = .park then .next s2
    else if st = .detect then .next (s2.setLane port { s2.lane port with since := t })
    else .next (s2.lockLoss port (s2.arrivedBy port t) 5 t)

/-- LOSS_OF_SYMBOL_LOCK in ACTIVE (02 R70, 10 R405). -/
def execLossOfSymbolLock (port arrived : Nat) (t : Instant) (s : State) : Host.Outcome State Fault Refusal :=
  let s1 := s.tick t
  if port < 64 ∧ s1.isActive port then .next (s1.lockLoss port arrived 6 t) else .next s1

namespace State

/-- The port's rate is agreed and it moves to STEP (10 R408, R409). -/
def toStep (s : State) (p : Nat) (tl25 : Bool) (far : Nat) (t : Instant) : State :=
  let l := s.lane p
  let need := if tl25 then 31250 else 12500
  let offered : Bool := l.cfg.mode == 0 && !l.limit && (!tl25 || (l.cfg.tl25 && decide (48 ≤ p)))
    && ((s.lane (s.moduleOf p)).modRate == 0 || decide (need ≤ (s.lane (s.moduleOf p)).modRate))
  if !offered then s
  else
    let rate := if tl25 then 4 else 3
    let f := presetOf l.eq.preset
    let s1 := s.setLane p { l with going := rate, farMsg := far, pre := f.1, post := f.2, farReady := 0 }
    ((s1.takePll p (hbOf rate)).goLane p .step 0 t).emit (.train p (8 + l.eq.preset) 0)

/-- Symbol or block lock in LOCK (10 R412). -/
def lockTaken (s : State) (p : Nat) (t : Instant) : State :=
  let l := s.lane p
  if l.state ≠ .lock then s
  else if l.cfg.fixed then s.enterActive p l.cfg.rate false 0 t
  else (s.setLane p { l with calxRecv := 0, calxCal := false }).goLane p .calx 0 t

end State

/-- LINK_STATE_PROGRESS: the condition of a row of 10 R406 has come to hold. -/
def execLinkStateProgress (port : Nat) (p : LinkProgress) (t : Instant) (s : State) :
    Host.Outcome State Fault Refusal :=
  let s1 := s.tick t
  let l := s1.lane port
  if 64 ≤ port then .next s1
  else
    match l.state, p with
    | .base, .agreed tl25 far => .next (s1.toStep port tl25 far t)
    | .base, .noAgreement fb far =>
      let s2 := s1.setLane port { l with farMsg := far }
      .next (s2.toFallback port 9 (if l.limit then 8 else fb % 16) t)
    | .step, .farTrain => .next (s1.goLane port .train 0 t)
    | .train, .bothReady => if 8 ≤ l.farReady then .next (s1.goLane port .lock 0 t) else .next s1
    | .lock, .locked => .next (s1.lockTaken port t)
    | .calx, .calxDone =>
      if l.calxCal ∧ 4 ≤ l.calxRecv ∧ (s1.link port).loopDone then
        .next ((s1.emit (.capx port 1)).enterActive port l.going false 0 t)
      else .next s1
    | .fallback, .linkOk => .next (s1.enterActive port 1 true 0 t)
    | _, _ => .next s1

/-- The timeout of a state in sub-ns units (10 R406, R413). -/
def Lane.timeout (l : Lane) : Option Nat :=
  match l.state with
  | .step => some (us 200)
  | .train => some (ms 6)
  | .lock => some (if l.cfg.fixed then ms 10 else us 200)
  | .calx => some (us 2500)
  | .fallback => some (ms 100)
  | _ => none

/-- LINK_STATE_TIMEOUT (10 R406, R413). -/
def execLinkStateTimeout (port : Nat) (t : Instant) (s : State) : Host.Outcome State Fault Refusal :=
  let s1 := s.tick t
  let l := s1.lane port
  match l.timeout with
  | none => .next s1
  | some d =>
    if 64 ≤ port ∨ t < l.since + d then .next s1
    else if l.state = .fallback then .next (s1.toDetect port 10 t)
    else if l.cfg.fixed then .next (s1.toDetect port 7 t)
    else .next ((s1.ltOff port t).toFallback port 7 (State.fbOf l.state) t)

/-- One step of a FIR request: hold, increment or decrement (10 R403). -/
def firMove (cur req : Nat) : Option Nat :=
  match req with
  | 1 => some (cur + 1)
  | 2 => if cur = 0 then none else some (cur - 1)
  | _ => some cur

/-- A TRAIN request applied to the own transmitter (10 R410, R417). -/
def Lane.train (l : Lane) (req : Nat) : Lane :=
  if flag req 3 then
    let f := presetOf (req % 8)
    { l with pre := f.1, post := f.2, limits := 0, updated := true }
  else if req % 256 / 16 = 0 then { l with updated := false }
  else
    let okPre : Nat → Option Nat := fun post => match firMove l.pre (field req 6 2) with
      | some v => if v ≤ 12 ∧ v + post ≤ 32 then some v else none
      | none => none
    let okPost : Nat → Option Nat := fun pre => match firMove l.post (field req 4 2) with
      | some v => if v ≤ 24 ∧ pre + v ≤ 32 then some v else none
      | none => none
    let pre := (okPre l.post).getD l.pre
    let post := (okPost pre).getD l.post
    { l with pre := pre, post := post, updated := (okPre l.post).isSome && (okPost pre).isSome
             limits := BitVec.ofNat 2 (atBit (okPre l.post).isNone 1 + atBit (okPost pre).isNone 0) }

/-- TRAIN_SET_RX: a TRAIN set; one with a wrong CHECK or a code error is ignored and counted CODE_ERR (10 R402,
R403, R410, R411). -/
def execTrainSetRx (port req status check : Nat) (codeError : Bool) (t : Instant) (s : State) :
    Host.Outcome State Fault Refusal :=
  let s1 := s.tick t
  let l := s1.lane port
  if 64 ≤ port then .next s1
  else if codeError ∨ check ≠ (req ^^^ status) ^^^ 0xA5 then .next (s1.countP port 95)
  else if l.state = .train then
    let l1 := l.train req
    .next (s1.setLane port { l1 with farReady := if flag status 7 then l1.farReady + 1 else l1.farReady })
  else .next s1

/-! ### PARK (10 R420 to R423) -/

namespace State

/-- 06 R242 or 08 R340 forbids PARK. -/
def parkForbidden (s : State) (p : Nat) : Bool :=
  let c := s.course p
  let launches := fun (b : Bank) => b.entries.any fun e => e.2.act.launches
  launches c.bank0 || launches c.bank1 || s.namedUpstream p || (s.link p).farCand

/-- The port's model holds a copy. -/
def holdsCopy (s : State) (p : Nat) : Bool :=
  (s.model p).tx.isSome || (List.range 8).any fun k => !(s.equeue (8 * p + k)).copies.isEmpty

/-- A cell port ACTIVE in TL-10. -/
def parkable (s : State) (p : Nat) : Bool := decide (p < 48) && s.isActive p && (s.lane p).rate == 3

/-- The port enters PARK. Copies held then leave it as a copy admitted in PARK does (05 R184). Marks and timing
frames not yet sent are dropped (08 R319, 10 R421; log 103). -/
def toPark (s : State) (p : Nat) (t : Instant) : State :=
  let s1 := (s.goLane p .park 11 t).countP p 98
  let l := s1.lane p
  let s2 := s1.finishOpt l.parkJid stOk [] t
  let s3 := s2.setLane p { s2.lane p with parkJid := none, parkFrom := none, parkWait := false, exitFrom := none }
  let m := s3.model p
  let s4 := s3.setModel p { m with parked := true, parkFrom := if s3.holdsCopy p then some t else none }
  let l4 := s4.link p
  let s5 := s4.setLink p { l4 with slots := [], marks := l4.marks.filter fun x => x.dep.isSome }
  if l4.state = .coarse ∨ l4.state = .fine then s5.setLt p .stale t else s5

/-- A park request waits until the model holds no copy, and PARK_REQ goes out (10 R420, steps 1 and 2). -/
def requestPark (s : State) (p : Nat) (jid : Option Nat) (t : Instant) : State :=
  if s.holdsCopy p then s.setLane p { s.lane p with parkWait := true, parkJid := jid }
  else (s.setLane p { s.lane p with parkFrom := some t, parkJid := jid }).emit (.capx p 2)

/-- The model of a port with a waiting request has come to hold no copy. -/
def parkStep (s : State) (p : Nat) (t : Instant) : State :=
  let l := s.lane p
  if l.parkWait && !s.holdsCopy p then
    (s.setLane p { l with parkWait := false, parkFrom := some t }).emit (.capx p 2)
  else s

/-- The exit burst begins (10 R422): two TRAIN blocks with hold requests and READY. -/
def burst (s : State) (p : Nat) (t : Instant) : State :=
  (s.setLane p { s.lane p with exitFrom := some t }).emit (.train p 0 0x80)

end State

/-- CAPX_RX: a CAPX set handled by its TYPE (10 R402, R403, R414, R420). -/
def execCapxRx (port type flags check : Nat) (codeError : Bool) (t : Instant) (s : State) :
    Host.Outcome State Fault Refusal :=
  let s1 := s.tick t
  let l := s1.lane port
  if 64 ≤ port then .next s1
  else if codeError ∨ check ≠ (type ^^^ flags) ^^^ 0xA5 then .next (s1.countP port 95)
  else
    match l.state, type with
    | .calx, 1 => .next (s1.setLane port { l with calxRecv := l.calxRecv + 1 })
    | .active, 2 =>
      if !s1.parkable port then .next s1
      else if s1.parkForbidden port then .next (s1.emit (.capx port 4))
      else if l.parkFrom.isSome then .next (s1.toPark port t)
      else .next ((s1.emit (.capx port 3)).toPark port t)
    | .active, 3 =>
      if l.parkFrom.isNone ∨ !s1.parkable port then .next s1
      else if s1.parkForbidden port then .next (s1.endPark port State.stConflict t)
      else .next (s1.toPark port t)
    | .active, 4 => if l.parkFrom.isSome then .next (s1.endPark port State.stConflict t) else .next s1
    | _, _ => .next s1

/-- SYMBOL_LOCK: lock in LOCK moves the port on; on the far burst it ends PARK (10 R412, R422). -/
def execSymbolLock (port : Nat) (t : Instant) (s : State) : Host.Outcome State Fault Refusal :=
  let s1 := s.tick t
  let l := s1.lane port
  if 64 ≤ port then .next s1
  else if l.state = .lock then .next (s1.lockTaken port t)
  else if l.state = .park then
    match l.exitFrom with
    | some e =>
      if e + us 10 ≤ t then .next s1
      else
        let s2 := ((s1.countP port 99).finishOpt l.exitJid State.stOk [] t).enterActive port l.rate l.fallen 12 t
        .next (s2.setLane port { s2.lane port with exitJid := none })
    | none => .next s1
  else .next s1

/-- CALX_LOOPBACK_DONE: the loopback measurement gives the fixed delays, and the first CAL frame leaves (08 R331,
10 R414). -/
def execCalxLoopbackDone (port fixedTx fixedRx : Nat) (t : Instant) (s : State) :
    Host.Outcome State Fault Refusal :=
  let s1 := s.tick t
  if 64 ≤ port ∨ (s1.lane port).state ≠ .calx then .next s1
  else
    let l := s1.link port
    let s2 := s1.setLink port { l with fixedTx := fixedTx, fixedRx := fixedRx, loopDone := true, liveDone := false }
    .next ((s2.countP port 79).emit (.frame port (s2.localFrame port (s2.calPayload port)) t))

/-- PARK_AUTO: PARK_EN, and the model has been empty and idle for PARK_IDLE (10 R420). -/
def execParkAuto (port : Nat) (t : Instant) (s : State) : Host.Outcome State Fault Refusal :=
  let s1 := s.tick t
  let l := s1.lane port
  if s1.parkable port && l.cfg.parkEn && l.parkFrom.isNone && !l.parkWait && !s1.parkForbidden port && !s1.holdsCopy port
      && decide ((s1.model port).freeAt + us l.cfg.parkIdle ≤ t ∧ l.since + us l.cfg.parkIdle ≤ t) then
    .next (s1.requestPark port none t)
  else .next s1

/-- PARK_REQ_LAPSE: no answer for 100 µs. -/
def execParkReqLapse (port : Nat) (t : Instant) (s : State) : Host.Outcome State Fault Refusal :=
  let s1 := s.tick t
  match (s1.lane port).parkFrom with
  | some u =>
    if t < u + us 100 then .next s1
    else .next (s1.endPark port State.stConflict t)
  | none => .next s1

/-- PARK_EXIT: a copy, an unpark or far energy starts the exit burst. -/
def execParkExit (port : Nat) (t : Instant) (s : State) : Host.Outcome State Fault Refusal :=
  let s1 := s.tick t
  let l := s1.lane port
  if port < 64 ∧ l.state = .park ∧ l.exitFrom = none then .next (s1.burst port t) else .next s1

/-- PARK_EXIT_FAIL: no symbol lock within 10 µs of the own burst (10 R423). -/
def execParkExitFail (port : Nat) (t : Instant) (s : State) : Host.Outcome State Fault Refusal :=
  let s1 := s.tick t
  let l := s1.lane port
  match l.exitFrom with
  | some e =>
    if port < 64 ∧ l.state = .park ∧ e + us 10 ≤ t then .next ((s1.countP port 100).toDetect port 13 t)
    else .next s1
  | none => .next s1

/-! ### Quad PLLs (10 R398 to R401) -/

namespace State

def portsOf (q : Nat) : List Nat := (List.range 16).map fun i => 16 * q + i

/-- The ports of a quad that a PLL clocks: 0 low-band, 1 HB0, 2 HB1. -/
def pllPorts (s : State) (q pll : Nat) : List Nat :=
  (portsOf q).filter fun p => (s.lane p).pll == pll && (s.lane p).state != .detect

end State

/-- PLL_UNLOCK: every port on the PLL loses symbol lock and goes to DETECT (10 R401). -/
def execPllUnlock (quad pll : Nat) (t : Instant) (s : State) : Host.Outcome State Fault Refusal :=
  let s1 := s.tick t
  if 4 ≤ quad ∨ 3 ≤ pll ∨ (pll ≠ 0 ∧ quad ≠ 3) ∨ !(s1.quad quad).powered then .next s1
  else
    let s2 := if pll = 0 then s1.setQuad quad { s1.quad quad with lbLock := false }
      else s1.setHb pll { s1.hb pll with lock := false }
    let s3 := (s2.count (0x7EC0 + quad)).raise 0x0108 101 [bytesBE 1 quad, bytesBE 1 pll] t
    .next ((s3.pllPorts quad pll).foldl (fun s p => s.lockLoss p (s.arrivedBy p t) 8 t) s3)

/-- PLL_RELOCK: the PLL locks again, or a hop locks; its ports restart from DETECT. -/
def execPllRelock (quad pll : Nat) (t : Instant) (s : State) : Host.Outcome State Fault Refusal :=
  let s1 := s.tick t
  if 4 ≤ quad ∨ 3 ≤ pll ∨ (pll ≠ 0 ∧ quad ≠ 3) ∨ !(s1.quad quad).powered then .next s1
  else if pll = 0 then .next (s1.setQuad quad { s1.quad quad with lbLock := true })
  else
    let h := s1.hb pll
    if h.rate = 0 ∨ !h.slots.getLsbD (h.rate - 1) then .next s1
    else .next (s1.setHb pll { h with lock := true })

/-- A port fails with reason PLL: in a fixed mode it goes to DETECT, else it falls back (10 R406). -/
def State.pllFail (t : Instant) (s : State) (p : Nat) : State :=
  if (s.lane p).cfg.fixed then s.toDetect p 8 t else s.toFallback p 8 3 t

/-- PLL_HOP_TIMEOUT: a hop has not locked within 20 µs; the slot is invalid, a search starts, and the port
fails with reason PLL (10 R400, R406). -/
def execPllHopTimeout (pll : Nat) (t : Instant) (s : State) : Host.Outcome State Fault Refusal :=
  let s1 := s.tick t
  if pll = 0 ∨ 3 ≤ pll then .next s1
  else
    let h := s1.hb pll
    if h.rate = 0 ∨ h.lock then .next s1
    else
      let s2 := (s1.setHb pll { h with slots := h.slots &&& ~~~ BitVec.ofNat 4 (2 ^ (h.rate - 1)) }).startSearch
        pll h.rate false
      .next ((s2.pllPorts 3 pll).foldl (State.pllFail t) s2)

/-- HB_BAND_SEARCH_DONE: a search ends and its slot is written; in a sweep the next rate follows (10 R400). -/
def execHbBandSearchDone (pll : Nat) (ok : Bool) (t : Instant) (s : State) : Host.Outcome State Fault Refusal :=
  let s1 := s.tick t
  if pll = 0 ∨ 3 ≤ pll then .next s1
  else
    let h := s1.hb pll
    match h.search with
    | none => .next s1
    | some r =>
      let slots := if ok then h.slots ||| BitVec.ofNat 4 (2 ^ (r - 1)) else h.slots
      let s2 := (s1.setHb pll { h with slots := slots, search := none }).setBand pll false
      if r < 3 ∧ h.sweep then .next (s2.startSearch pll (r + 1) true) else .next s2

/-! ### Disabling a port or a quad (10 R432, R433; 05 R185) -/

namespace State

/-- A quad will have power at `a`, with every accepted change. -/
def quadOnAt (s : State) (q : Nat) (a : Instant) : Bool :=
  s.lan.staged.foldl (fun on e => match e.change with
    | .quadOff r _ => if r = q ∧ e.a ≤ a then false else on
    | .quadOn r _ => if r = q ∧ e.a ≤ a then true else on
    | _ => on) ((s.quad q).powered && !(s.quad q).off)

/-- Stages what the data plane takes of a port disabled or enabled at A (02 R72, 05 R185). The input of a quad without
power stays excluded. -/
def stagePortOff (s : State) (a t : Instant) (ps : List Nat) (off : Bool) : State :=
  let ins := ps.filter fun p => off || s.quadOnAt (p / 16) a
  let s1 := if ins.isEmpty then s else s.stage { a := a, jids := [], txn := false, units := copies5, words := 0
                                                 change := ins.map fun p => .exclude p off }
  let s2 := s1.stage { a := a, jids := [], txn := false, units := [5], words := 0
                       change := ps.map fun p => .disable p off }
  if a ≤ t then s2.applyDue a t else s2

/-- A quad whose ports have all drained loses power (10 R433). -/
def quadOffDone (s : State) (q : Nat) (t : Instant) : State :=
  let v := s.quad q
  let busy := (portsOf q).any fun p => (s.model p).drainEnd.isSome
  if !v.off || busy then s
  else
    let s1 := s.setQuad q { v with off := false, powered := false, lbLock := false, starting := false, jid := none, removed := 0 }
    let s2 := s1.finishOpt v.jid stOk [word v.removed] t
    if q = 3 then { s2 with lan := { s2.lan with hb0 := {}, hb1 := {}, bandRun := 0 } } else s2

/-- The drain of a disabled port (05 R185): at its limit every copy but one in transmission is removed; once
nothing is held and nothing is in transmission, the port goes to DETECT. -/
def drainStep (s : State) (p : Nat) (t : Instant) : State :=
  let m := s.model p
  match m.drainEnd with
  | none => s
  | some d =>
    if t < d ∧ s.holdsCopy p then s
    else
      let keep := fun (c : Copy) (k : Nat) => s.inTx p k c
      let n := (List.range 8).foldl (fun n k =>
        n + ((s.equeue (8 * p + k)).copies.filter fun c => !keep c k).length) 0
      let s1 := s.clearQueues p 16 keep (min t d)
      let m1 := s1.model p
      let s2 := s1.setModel p { m1 with next := none, drainRemoved := m1.drainRemoved + n }
      if m1.tx.isSome || !m1.launched.isEmpty then s2
      else
        let m2 := s2.model p
        let q := p / 16
        let v := s2.quad q
        let s3 := s2.setModel p { m2 with drainEnd := none, drainJid := none, drainRemoved := 0 }
        let s4 := s3.toDetect p (if v.off then 4 else 1) t
        let s5 := s4.finishOpt m2.drainJid stOk [word m2.drainRemoved] t
        let s6 := if v.off then
            s5.setQuad q { s5.quad q with removed := (s5.quad q).removed + m2.drainRemoved } else s5
        s6.quadOffDone q t

/-- The limit of a drain and the command that waits for it. A port that drains already keeps its own. -/
def markDrain (s : State) (p limit : Nat) (jid : Option Nat) (a : Instant) : State :=
  let m := s.model p
  if m.drainEnd.isSome then s
  else s.setModel p { m with drainEnd := some (a + us limit), drainJid := jid, drainRemoved := 0 }

/-- The port begins to drain at A. -/
def beginDrain (s : State) (p limit : Nat) (jid : Option Nat) (a t : Instant) : State :=
  (s.markDrain p limit jid a).drainStep p t

/-- The modes of two settings differ so that the port retrains (10 R432). -/
def PortCfg.retrains (a b : PortCfg) : Bool := a.mode != b.mode || a.tl25 != b.tl25 || a.fec != b.fec

/-- An enabled port whose mode names a high-band rate uses a PLL at it for as long as it is enabled (10 R399). -/
def settlePll (s : State) (p : Nat) : State :=
  let l := s.lane p
  let q := s.quad (p / 16)
  if l.cfg.enable && (l.cfg.mode == 3 || l.cfg.mode == 4) && q.powered && !q.off then s.takePll p (hbOf l.cfg.rate) else s

/-- A PORT_SET applies (10 R432, R415). -/
def applyPort (s : State) (p : Nat) (v : PortCfg) (jid : Option Nat) (a t : Instant) : State :=
  let old := (s.lane p).cfg
  let s1 := s.setLane p { s.lane p with cfg := v, fallbacks := 0, limit := false }
  if old.enable && !v.enable then s1.beginDrain p v.drain jid a t
  else
    let s2 := s1.finishOpt jid stOk (if v.enable then [] else [word 0]) t
    if !old.enable && v.enable then (s2.toDetect p 1 t).settlePll p
    else if v.enable && PortCfg.retrains old v then
      let s3 := s2.toDetect p 2 t
      (s3.setLane p { s3.lane p with pll := 0 }).settlePll p
    else s2

/-- A quad powers up at A (10 R398, R400, R433). -/
def powerQuad (s : State) (q : Nat) (jid : Option Nat) : State :=
  let s1 := s.setQuad q { s.quad q with
    powered := true, lbLock := false, starting := true, off := false, jid := jid, footOff := false }
  if q = 3 then (s1.startSearch 1 1 true).startSearch 2 1 true else s1

/-- A lane change that is due. -/
def applyLane (t : Instant) (s : State) (e : LaneStaged) : State :=
  match e.change with
  | .port p v => s.applyPort p v e.jid e.a t
  | .retrain p =>
    let s1 := (s.setLane p { s.lane p with fallbacks := 0, limit := false }).toDetect p 2 t
    s1.finishOpt e.jid stOk [] t
  | .quadOff q drain =>
    let s1 := s.setQuad q { s.quad q with off := true, jid := e.jid, removed := 0, drain := drain }
    let s2 := (portsOf q).foldl (fun s p => s.markDrain p drain none e.a) s1
    ((portsOf q).foldl (fun s p => s.drainStep p t) s2).quadOffDone q t
  | .quadOn q drain =>
    let s1 := s.setQuad q { s.quad q with drain := drain }
    if (s1.quad q).powered then s1.finishOpt e.jid stOk [] t else s1.powerQuad q e.jid

/-- A lane change takes its place among those due: by A, then by port, the lower first (10 R399). -/
def laneInOrder (e : LaneStaged) : List LaneStaged → List LaneStaged
  | [] => [e]
  | x :: rest =>
    if e.a < x.a ∨ (e.a = x.a ∧ e.change.place < x.change.place) then e :: x :: rest else x :: laneInOrder e rest

/-- Lane changes whose A has come. -/
def lanesDue (s : State) (t : Instant) : State :=
  let due := (s.lan.staged.filter fun e => decide (e.a ≤ t)).foldl (fun l e => laneInOrder e l) []
  due.foldl (applyLane t) { s with lan := { s.lan with staged := s.lan.staged.filter fun e => decide (t < e.a) } }

end State

/-- An enabled port starts from DETECT at `t`, with its PLL where its mode names one (10 R433). -/
def State.startPort (t : Instant) (s : State) (p : Nat) : State :=
  if !(s.lane p).cfg.enable then s
  else
    (s.setLane p { s.lane p with state := .detect, since := t }).settlePll p

/-- QUAD_POWER_UP_DONE: a powered quad has locked and its enabled ports start from DETECT (10 R433). -/
def execQuadPowerUpDone (quad : Nat) (t : Instant) (s : State) : Host.Outcome State Fault Refusal :=
  let s1 := s.tick t
  let v := s1.quad quad
  if 4 ≤ quad ∨ !v.powered ∨ !v.starting then .next s1
  else
    let ps := State.portsOf quad
    let s2 := s1.setQuad quad { v with lbLock := true, starting := false, jid := none }
    let s3 := ps.foldl (State.startPort t) (ps.foldl (fun s p => s.startSource (pipeOf p) p t) s2)
    let on := ps.filter fun p => (s3.lane p).cfg.enable && !(s3.lane p).shut
    .next ((s3.stagePortOff t t on false).finishOpt v.jid State.stOk [] t)

/-! ### Registers (10 R434, R435) -/

namespace State

def calPending (s : State) (p : Nat) : Bool :=
  let l := s.lane p
  l.eqPend || l.eqRun || l.delayPend || (s.link p).running || (s.link p).runWanted

def laneStatus (s : State) (p : Nat) : Word :=
  let l := s.lane p
  word (l.state.code * 2 ^ 28 + l.rate * 2 ^ 25 + atBit l.fallen 24 + l.fbReason * 2 ^ 20 + atBit l.cfg.enable 19
    + l.pll * 2 ^ 17 + atBit l.fecOn 16 + atBit (s.lane (s.moduleOf p)).modReady 15 + atBit l.energy 14 + atBit l.eyeLow 13
    + atBit l.lockLost 12 + atBit l.fallbackEv 11 + atBit (s.calPending p) 10)

def laneEye (s : State) (p : Nat) : Word :=
  let l := s.lane p
  word (atBit l.eyeValid 31 + atBit l.eqRun 30 + l.eyeW * 2 ^ 20 + l.eyeH * 2 ^ 10 + l.ctle * 32)

/-- A word with one bit for each of 32 ports. -/
def portBits (lo : Nat) (f : Nat → Bool) : Word :=
  word ((List.range 32).foldl (fun n i => n + atBit (f (lo + i)) i) 0)

def quadStatus (s : State) (q : Nat) : Word :=
  let v := s.quad q
  let a := s.lan.hb0
  let b := s.lan.hb1
  let users := (List.range 16).foldl (fun n i => n + atBit ((s.lane (16 * q + i)).state != .detect) i) 0
  let hbs := if q = 3 then
      atBit a.lock 29 + atBit b.lock 28 + a.rate * 2 ^ 26 + b.rate * 2 ^ 24 + a.slots.toNat * 2 ^ 20
        + b.slots.toNat * 65536 else 0
  word (atBit v.powered 31 + atBit v.lbLock 30 + hbs + users)

def i2cStatus (s : State) : Word :=
  word ((List.range 4).foldl (fun n q =>
    n + atBit (s.bus q).nack (8 + q) + atBit (s.bus q).stuck (4 + q) + atBit (!(s.bus q).queue.isEmpty) q) 0)

/-- The sensor that governs a port (10 R424). -/
def sensorOf (p : Nat) : Nat := 2 * (p / 16) + p % 16 / 8
def sensorTrig (s : State) (i : Nat) : Bool :=
  let q := i / 2
  (s.vernier q).running || s.lan.vernPend.getLsbD q || (decide (6 ≤ i) && s.lan.bandRun != 0)
    || (List.range 8).any fun j => s.calPending (8 * i + j)

def calStatus (s : State) : Word :=
  word (s.lan.bandRun.toNat * 2 ^ 12
    + (List.range 4).foldl (fun n q => n + atBit (s.vernier q).running (8 + q)) 0
    + (List.range 8).foldl (fun n i => n + atBit (s.sensorTrig i) i) 0)

def dieTemp (s : State) (i : Nat) : Word :=
  let v := s.sensor i
  word ((v.ref % 65536).toNat * 65536 + (v.temp % 65536).toNat)

/-! ### Commands (10 R437 to R441) -/

/-- A port's settings with every accepted change. -/
def portPlanned (s : State) (p : Nat) : PortCfg :=
  s.lan.staged.foldl (fun v e => match e.change with
    | .port q x => if q = p then x else v
    | _ => v) (s.lane p).cfg

/-- The enabled ports of Q3 could need all three high-band rates (10 R438). -/
def hbClash (s : State) (p : Nat) (v : PortCfg) : Bool :=
  let cfg := fun q => if q = p then v else s.portPlanned q
  [1, 2, 3].all fun r => (portsOf 3).any fun q => (cfg q).enable && hbOf (cfg q).rate == r

/-- A lane change taken at `t` is held until its A, or applies when processed. `off` and `on` name the ports that the
data plane takes out or in at A. -/
def putLane (s : State) (apply : Option Instant) (t : Instant) (jid : Nat) (ch : LaneChange) (off on : List Nat) : State :=
  let a := apply.getD t
  let s1 := if off.isEmpty then s else s.stagePortOff a t off true
  let s2 := if on.isEmpty then s1 else s1.stagePortOff a t on false
  let s3 := { s2 with lan := { s2.lan with staged := s2.lan.staged ++ [⟨a, some jid, ch⟩] } }
  if apply.isSome then s3 else s3.lanesDue t

/-- A lane command: its change is put, with a minimum lead of 200 µs (10 R437). -/
def stageLane (s : State) (c : Ctx) (ch : LaneChange) (off on : List Nat) : Res :=
  if c.a.isSome ∧ c.a.getD c.t < c.t + us 200 then .fail stTooLate
  else .wait (s.putLane c.a c.t c.jid ch off on)

end State

def portCfgOf (r : Req) : PortCfg :=
  { enable := r.b 4 31, parkEn := r.b 4 29, fec := r.b 4 28, mode := r.f 4 16 3, tl25 := r.b 4 12
    parkIdle := r.f 5 0 20, drain := r.f 6 0 20, hold := r.f 7 0 10 }

/-- The ranges of PORT_SET and what a cell port may be given (10 R438). -/
def okPortSet (r : Req) : Bool :=
  let v := portCfgOf r
  let cell := decide (r.f 4 0 7 < 48)
  decide (r.f 4 0 7 ≤ 63) && r.only 4 0xF007107F && r.only 5 0xFFFFF && r.only 6 0xFFFFF && r.only 7 0x3FF
    && decide (v.mode ≤ 4) && decide (10 ≤ v.parkIdle ∧ v.parkIdle ≤ 1000000) && decide (v.drain ≤ 1000000)
    && decide (1 ≤ v.hold ∧ v.hold ≤ 1000) && !(cell && (decide (3 ≤ v.mode) || v.tl25)) && !(v.fec && v.mode != 4)
    && !(v.parkEn && (!cell || v.mode != 0))

/-- All three high-band rates in Q3, or a timing source taken away without FORCE (10 R438). -/
def portSetClash (s : State) (r : Req) : Bool :=
  let p := r.f 4 0 7
  let v := portCfgOf r
  s.hbClash p v || ((!v.enable || v.mode != (s.portPlanned p).mode) && s.namedPlanned 0 p && !r.b 4 30)

def bodyPortSet (c : Ctx) (s : State) : Res :=
  let r := c.r
  let p := r.f 4 0 7
  let v := portCfgOf r
  let old := s.portPlanned p
  refuseIf (!okPortSet r) State.stBadParam <|
  refuseIf (portSetClash s r) State.stConflict <|
  s.stageLane c (.port p v) (if old.enable && !v.enable then [p] else [])
    (if !old.enable && v.enable then [p] else [])

def PortCfg.words (p : Nat) (v : PortCfg) : List Word :=
  [word (atBit v.enable 31 + atBit v.parkEn 29 + atBit v.fec 28 + v.mode * 65536 + atBit v.tl25 12 + p),
    word v.parkIdle, word v.drain, word v.hold]

def bodyPortGet (c : Ctx) (s : State) : Res :=
  let p := c.r.f 4 0 7
  refuseIf (!okPortKey c.r) State.stBadParam <| .done s ((s.lane p).cfg.words p)

/-- The reply of LANE_STATUS_GET (10 R441). -/
def laneStatusWords (s : State) (p : Nat) : List Word :=
  let l := s.lane p
  let tap := fun i => ((l.dfe.getD i 0) % 256).toNat
  let pack := fun i => word (tap i + 256 * tap (i + 1) + 65536 * tap (i + 2) + 16777216 * tap (i + 3))
  [word p, s.laneStatus p, s.laneEye p,
      word ((64 - l.pre - l.post) * 65536 + l.post * 256 + l.pre), word (l.farMsg % 2048), pack 0, pack 4]
    ++ instantWords l.activeAt

def bodyLaneStatusGet (c : Ctx) (s : State) : Res :=
  refuseIf (!okPortKey c.r) State.stBadParam <| .done s (laneStatusWords s (c.r.f 4 0 7))

def bodyLinkRetrain (c : Ctx) (s : State) : Res :=
  let p := c.r.f 4 0 7
  refuseIf (decide (64 ≤ p) || !c.r.only 4 0x4000007F) State.stBadParam <|
  refuseIf (s.namedPlanned 0 p && !c.r.b 4 30) State.stConflict <|
  s.stageLane c (.retrain p) [] []

/-- A trunk port that is not ACTIVE in TL-10; STATE comes before the BAD_PARAM of a trunk port (10 R439, 12 R506). -/
def trunkNotTl10 (s : State) (p : Nat) : Bool :=
  decide (48 ≤ p) && decide (p < 64) && !(s.isActive p && (s.lane p).rate == 3)

def bodyLinkPark (c : Ctx) (s : State) : Res :=
  let p := c.r.f 4 0 7
  let l := s.lane p
  refuseIf ((decide (p < 48) && !s.parkable p && l.state != .park) || trunkNotTl10 s p) State.stState <|
  refuseIf (decide (48 ≤ p) || !c.r.only 4 0x8000007F) State.stBadParam <|
  if c.r.b 4 31 then
    if l.state = .park then .done s
    else
      refuseIf (s.parkForbidden p) State.stConflict <|
      refuseIf (l.parkFrom.isSome || l.parkWait) State.stBusy <|
      .wait (s.requestPark p (some c.jid) c.t)
  else if l.state = .park then
    let s1 := if l.exitFrom.isSome then s else s.burst p c.t
    refuseIf l.exitJid.isSome State.stBusy <|
    .wait (s1.setLane p { s1.lane p with exitJid := some c.jid })
  else .done s

/-- The reserved bits of QUAD_SET; the spec gives its DRAIN_LIMIT no range (10 R440). -/
def okQuadSet (r : Req) : Bool := r.only 4 0xC0000003 && r.only 5 0xFFFFF

/-- A timing source of the quad taken away without FORCE (10 R438, R440). -/
def quadSetClash (s : State) (r : Req) : Bool :=
  !r.b 4 31 && ((State.portsOf (r.f 4 0 2)).any fun p => s.namedPlanned 0 p) && !r.b 4 30

def bodyQuadSet (c : Ctx) (s : State) : Res :=
  let r := c.r
  let q := r.f 4 0 2
  let on := r.b 4 31
  let ps := State.portsOf q
  refuseIf (!okQuadSet r) State.stBadParam <|
  refuseIf (quadSetClash s r) State.stConflict <|
  if on then s.stageLane c (.quadOn q (r.f 5 0 20)) [] []
  else s.stageLane c (.quadOff q (r.f 5 0 20)) ps []

def bodyQuadGet (c : Ctx) (s : State) : Res :=
  let q := c.r.f 4 0 2
  refuseIf (!c.r.only 4 3) State.stBadParam <|
  .done s [word (atBit ((s.quad q).powered && !(s.quad q).off) 31 + q), word (s.quad q).drain]

def eqCfgOf (r : Req) : EqCfg :=
  { adapt := r.b 4 15, preset := r.f 4 8 3, minW := r.f 5 16 10, warnW := r.f 5 0 10
    minH := r.f 6 16 10, warnH := r.f 6 0 10, swing := r.f 7 0 12 }

/-- SWING 400 to 1,000 mV in steps of 50 (10 R441). -/
def okEqSet (r : Req) : Bool :=
  decide (r.f 4 0 7 ≤ 63) && r.only 4 0x877F && r.only 5 0x3FF03FF && r.only 6 0x3FF03FF && r.only 7 0xFFF
    && decide (400 ≤ (eqCfgOf r).swing ∧ (eqCfgOf r).swing ≤ 1000) && (eqCfgOf r).swing % 50 == 0

def bodyEqSet (c : Ctx) (s : State) : Res :=
  let p := c.r.f 4 0 7
  refuseIf (!okEqSet c.r) State.stBadParam <| .done (s.setLane p { s.lane p with eq := eqCfgOf c.r })

def EqCfg.words (p : Nat) (v : EqCfg) : List Word :=
  [word (atBit v.adapt 15 + v.preset * 256 + p), word (v.minW * 65536 + v.warnW),
    word (v.minH * 65536 + v.warnH), word v.swing]

def bodyEqGet (c : Ctx) (s : State) : Res :=
  let p := c.r.f 4 0 7
  refuseIf (!okPortKey c.r) State.stBadParam <| .done s ((s.lane p).eq.words p)

/-- SCHED_SET and COURSE_COMMIT with the lanes' rates (05 R209; 06 R253). -/
def bodySchedSet (c : Ctx) (s : State) : Res := schedSet s.confRate c s

end Sys2Proof.Machine
end

