-- ==== Sys2Proof/Machine/Modules.lean ====
section
/-! DEFINITION. Optical modules, the sideband chain, module buses, eye monitors, die sensors and calibration
triggers (10 R418, R424 to R431, R443, R444; 14 R589; 15 R605). -/

namespace Sys2Proof.Machine

namespace State

/-- The module event of a port: state 0 inserted, 1 removed, 2 unknown, and the identifier byte. -/
def moduleEvent (s : State) (p st ident : Nat) (t : Instant) (latched : Bool := false) : State :=
  s.raise 0x0103 p [bytesBE 1 p, bytesBE 1 st, bytesBE 1 ident] t latched

/-- The ports that a module at `p` serves (10 R427). -/
def modulePorts (s : State) (p : Nat) : List Nat :=
  if (s.lane p).modKind = 2 then [p, p + 1, p + 2, p + 3] else [p]

end State

/-- One port's four inputs are scanned; a change is taken when two successive scans agree (10 R428). A change of ABS
or LOS is a wake source, latched in sleep (14 R587). -/
def State.scanPort (s : State) (x : Nat × Nat) : State :=
  let p := x.1
  let v := x.2 % 16
  if 64 ≤ p then s
  else
    let l := s.lane p
    let agreed := v = l.scan ∧ v ≠ l.side
    let s2 := s.setLane p { l with scan := v, side := if agreed then v else l.side }
    if agreed ∧ s.pwr.asleep.isSome ∧ v % 4 ≠ l.side % 4 then
      { s2 with lan := { s2.lan with latched := (p :: s2.lan.latched).eraseDups } }.wakeSource 12
    else if agreed ∧ v % 4 ≠ l.side % 4 then s2.wakeSource 12
    else s2

/-- The four outputs of a port (10 R428): TX_DIS while it is disabled, or in DETECT without a ready module; SEL while its
module is addressed; RS above 2.5 Gbaud. Nothing in the device asserts RST. -/
def State.sideOut (s : State) (p : Nat) : Nat :=
  let l := s.lane p
  let rate := match l.state with
    | .lock | .calx | .step | .train => l.going
    | .active | .park => l.rate
    | _ => 1
  let sel := match (s.bus (p / 16)).queue with
    | x :: _ => s.moduleOf x.port == p
    | [] => false
  atBit (decide (2 ≤ rate)) 2 + atBit sel 1
    + atBit (!l.cfg.enable || (l.state == .detect && !(s.lane (s.moduleOf p)).modReady)) 0

/-- SIDEBAND_SCAN: the outputs are shifted out and the inputs of the scanned ports taken in. With VDD_IO33 low the last
inputs are held (15 R605). -/
def execSidebandScan (inputs : List (Nat × Nat)) (t : Instant) (s : State) : Host.Outcome State Fault Refusal :=
  let s1 := s.tick t
  if s1.lan.io33Low then .next s1
  else
    .next (inputs.foldl State.scanPort (s1.emit (.sideband
      (BitVec.ofNat 256 ((List.range 64).foldl (fun n p => n + s1.sideOut p * 2 ^ (4 * p)) 0)))))

/-- A removed module takes its ports to DETECT at once (10 R429). -/
def State.moduleGone (s : State) (port : Nat) (t : Instant) : State :=
  let s2 := (s.modulePorts port).foldl (fun s p => s.toDetect p 3 t) s
  let v := s2.lane port
  (s2.setLane port { v with
    modPresent := false, modReady := false, modKind := 0, modRate := 0, heldUntil := none, shadow := []
    shown := [], fallbacks := 0, limit := false }).moduleEvent port 1 0 t

/-- An inserted module is held in DETECT for 300 ms (10 R429). -/
def State.moduleIn (s : State) (port : Nat) (t : Instant) : State :=
  let s2 := if (s.lane port).state = .detect then s else s.toDetect port 2 t
  let v := s2.lane port
  (s2.setLane port { v with
    modPresent := true, modReady := false, modKind := 0, heldUntil := some (t + ms 300), fallbacks := 0
    limit := false }).moduleEvent port 0 0 t

/-- MODULE_PRESENCE_CHANGE: the debounced ABS has changed. -/
def execModulePresenceChange (port : Nat) (absent : Bool) (t : Instant) (s : State) :
    Host.Outcome State Fault Refusal :=
  let s1 := s.tick t
  let l := s1.lane port
  if 64 ≤ port ∨ s1.lan.io33Low ∨ flag l.side 0 ≠ absent ∨ l.modPresent ≠ absent then .next s1
  else .next (if absent then s1.moduleGone port t else s1.moduleIn port t)

/-- The 300 ms hold of an inserted module lasts at `t` (10 R429). -/
def Lane.moduleHeld (l : Lane) (t : Instant) : Bool :=
  match l.heldUntil with
  | some u => decide (t < u)
  | none => false

/-- The kind of a module by its identifier: 1 SFP, 2 QSFP at the first port of a group, 3 unknown (10 R427). -/
def moduleKind (port ident : Nat) : Nat :=
  if ident = 3 then 1 else if (ident = 0x0D ∨ ident = 0x11) ∧ 48 ≤ port ∧ port % 4 = 0 then 2 else 3

/-- MODULE_READY: after the hold the identifier and the nominal rate, in Mbaud, are read (10 R427, R429). -/
def execModuleReady (port ident rate : Nat) (t : Instant) (s : State) : Host.Outcome State Fault Refusal :=
  let s1 := s.tick t
  let l := s1.lane port
  if 64 ≤ port ∨ !l.modPresent ∨ l.modReady ∨ l.moduleHeld t then .next s1
  else
    let kind := moduleKind port ident
    if kind = 3 then .next ((s1.setLane port { l with modKind := 3 }).moduleEvent port 2 ident t)
    else .next (s1.setLane port { l with
      modKind := kind, modReady := true, modRate := rate, heldUntil := none, since := t })

/-! ### Module buses (10 R430, R431) -/

namespace State

/-- A bus access of the device or of a host is put in its queue. -/
def enqueueI2c (s : State) (q : Nat) (x : I2cReq) : State :=
  s.setBus q { s.bus q with queue := (s.bus q).queue ++ [x] }

/-- Words of a MODULE_READ or MODULE_WRITE that fails: word 4 as sent, word 5 with NACK or STUCK. -/
def i2cFailWords (s : State) (j flagBit : Nat) : List Word :=
  match s.jrec j with
  | some r => [word (r.req.w 4), word (r.req.w 5 + 2 ^ flagBit)]
  | none => []

/-- Bytes packed four to a word, the first in bits [7:0] (10 R443). -/
def packLE (bs : List Byte) : List Word :=
  (List.range ((bs.length + 3) / 4)).map fun i => word (natLE ((bs.drop (4 * i)).take 4))

/-- Every access waiting on a stuck bus completes ABORTED. -/
def abortBus (s : State) (q : Nat) (t : Instant) : State :=
  let b := s.bus q
  let s1 := b.queue.foldl (fun s x => match x.jid with
    | some j => s.finish j stAborted (s.i2cFailWords j 30) t
    | none => s) s
  s1.setBus q { s1.bus q with queue := [], stuck := true }

/-- An access of a module's alarm and warning flags (10 R430). -/
def isAlarm (l : Lane) (dev : Bool) (page off : Nat) : Bool :=
  if l.modKind = 1 then dev && decide (112 ≤ off ∧ off ≤ 117)
  else l.modKind == 2 && !dev && page == 0 && decide (3 ≤ off ∧ off ≤ 14)

/-- One flag byte that a poll has read (10 R430). -/
def alarmByte (t : Instant) (p : Nat) (s : State) (x : Nat × Nat) : State :=
  let l := s.lane p
  let new := (List.range 8).filter fun i => flag x.2 i && !flag (Tbl.get 0 l.shown x.1) i
  let s1 := s.setLane p { l with
    shown := Tbl.set 0 l.shown x.1 x.2
    shadow := Tbl.set 0 l.shadow x.1 (Tbl.get 0 l.shadow x.1 ||| x.2)
    modAlarm := l.modAlarm || !new.isEmpty }
  new.foldl (fun s i =>
    (s.countP p 101).raise 0x0104 p [bytesBE 1 p, bytesBE 1 x.1, bytesBE 1 i] t) s1

/-- Bytes of a MODULE_READ: the flags of an SFF-8636 module, which clear on read, are looked at as a poll does; the
command gets the shadow, which is then clear. -/
def readShadow (s : State) (x : I2cReq) (bs : List Byte) (t : Instant) : State × List Byte :=
  let m := s.moduleOf x.port
  (List.range bs.length).foldl (fun (acc : State × List Byte) i =>
    let s := acc.1
    let b := bs.getD i 0
    let o := x.off + i
    if (s.lane m).modKind = 2 ∧ isAlarm (s.lane m) x.dev x.page o then
      let s1 := alarmByte t m s (o, b.toNat)
      let l := s1.lane m
      (s1.setLane m { l with shadow := Tbl.set 0 l.shadow o 0 }, acc.2 ++ [BitVec.ofNat 8 (Tbl.get 0 l.shadow o)])
    else (s, acc.2 ++ [b])) (s, [])

end State

/-- A read of a module's flags joins its bus (10 R430). -/
def State.pollModule (bus : Nat) (s : State) (p : Nat) : State :=
  let x : I2cReq := if (s.lane p).modKind = 1 then ⟨none, p, true, 0, 112, 6, none⟩ else ⟨none, p, false, 0, 3, 12, none⟩
  s.enqueueI2c bus x

/-- MODULE_ALARM_POLL: the device reads the flags of every ready module on a bus. -/
def execModuleAlarmPoll (bus : Nat) (t : Instant) (s : State) : Host.Outcome State Fault Refusal :=
  let s1 := s.tick t
  if 4 ≤ bus ∨ (s1.bus bus).stuck ∨ s1.lan.io33Low then .next s1
  else
    .next (((State.portsOf bus).filter fun p => (s1.lane p).modReady).foldl (State.pollModule bus) s1)

/-- An access of a bus ends well: a write goes out, a read gives its command the bytes, or the flags of a poll are
looked at (10 R430, R443). -/
def State.i2cOk (s2 : State) (bus : Nat) (x : I2cReq) (bs : List Byte) (t : Instant) : State :=
  match x.write, x.jid with
  | some ws, some j => (s2.emit (.i2c bus x.port x.dev x.page x.off ws)).finish j State.stOk [] t
  | some ws, none => s2.emit (.i2c bus x.port x.dev x.page x.off ws)
  | none, some j =>
    let bs' := (bs.take x.len) ++ List.replicate (x.len - bs.length) 0#8
    let g := s2.readShadow x bs' t
    let head := match g.1.jrec j with
      | some jr => [word (jr.req.w 4), word (jr.req.w 5)]
      | none => []
    g.1.finish j State.stOk (head ++ State.packLE g.2) t
  | none, none =>
    let ps := (List.range (min x.len bs.length)).map fun i => (x.off + i, (bs.getD i 0).toNat)
    ps.foldl (State.alarmByte t x.port) s2

/-- I2C_TRANSACTION_DONE: the access at the head of a bus completes (10 R430, R431, R443). -/
def execI2cTransactionDone (bus : Nat) (r : I2cResult) (t : Instant) (s : State) :
    Host.Outcome State Fault Refusal :=
  let s1 := s.tick t
  let b := s1.bus bus
  match b.queue with
  | [] => .next s1
  | x :: rest =>
    if 4 ≤ bus then .next s1
    else
      match r with
      | .stuck =>
        .next (((s1.abortBus bus t).count (0x7EC8 + 2 * bus + 1)).raise 0x0109 101 [bytesBE 1 bus, bytesBE 1 0] t)
      | .nack =>
        let s2 := (s1.setBus bus { b with queue := rest, nack := true }).count (0x7EC8 + 2 * bus)
        match x.jid with
        | some j => .next (s2.finish j State.stAborted (s2.i2cFailWords j 31) t)
        | none => .next s2
      | .data bs =>
        .next ((s1.setBus bus { b with queue := rest }).i2cOk bus x bs t)

/-- I2C_RETRY: a stuck bus is tried once per second. -/
def execI2cRetry (bus : Nat) (freed : Bool) (t : Instant) (s : State) : Host.Outcome State Fault Refusal :=
  let s1 := s.tick t
  if bus < 4 ∧ (s1.bus bus).stuck ∧ freed ∧ !s1.lan.io33Low then
    .next (s1.setBus bus { s1.bus bus with stuck := false })
  else .next s1

/-- IO33_LOW (15 R605). -/
def execIo33Low (t : Instant) (s : State) : Host.Outcome State Fault Refusal :=
  let s1 := s.tick t
  if s1.lan.io33Low then .next s1
  else
    let s2 := (List.range 4).foldl (fun s q => s.abortBus q t) s1
    .next ({ s2 with lan := { s2.lan with io33Low := true } }.raise 0x0109 101 [bytesBE 1 0xFF, bytesBE 1 1] t)

/-- IO33_RESTORE: the supply has been back for 10 ms; module handling and the buses resume. -/
def execIo33Restore (t : Instant) (s : State) : Host.Outcome State Fault Refusal :=
  let s1 := s.tick t
  if !s1.lan.io33Low then .next s1
  else
    let s2 := (List.range 4).foldl (fun s q => s.setBus q { s.bus q with stuck := false }) s1
    .next { s2 with lan := { s2.lan with io33Low := false } }

/-! ### Eye monitors, sensors and triggered runs (10 R418, R424 to R426; 14 R589) -/

/-- The eye of an ACTIVE port is below a warning limit (10 R419). -/
def Lane.eyeIsLow (l : Lane) (width height : Nat) : Bool :=
  decide (l.state = .active ∧ (min 1000 width < l.eq.warnW ∨ height < l.eq.warnH))

/-- EYE_MONITOR_UPDATE. While a re-adaptation runs, LANE_EYE holds its last values. -/
def execEyeMonitorUpdate (port width height ctle : Nat) (dfe : List Int) (t : Instant) (s : State) :
    Host.Outcome State Fault Refusal :=
  let s1 := s.tick t
  let l := s1.lane port
  if 64 ≤ port ∨ l.eqRun then .next s1
  else
    let w := min 1000 width
    let low := l.eyeIsLow width height
    let s2 := s1.setLane port { l with
      eyeValid := true, eyeW := w, eyeH := min 1023 height, ctle := ctle % 32, dfe := dfe.take 8
      eyeLow := l.eyeLow || low }
    if low then .next (s2.raiseLimited (0x400 + port) 0x0102 port [bytesBE 1 port, bytesBE 2 w, bytesBE 2 height] t)
    else .next s2

namespace State

/-- A triggered sensor starts the runs enabled in AUTO, each recording the reading as its reference (10 R424,
R425). -/
def triggerRuns (s : State) (i : Nat) : State :=
  let q := i / 2
  let a := s.lan.auto
  let ports := (List.range 8).map fun j => 8 * i + j
  let s1 := if a.getLsbD 0 then
      if (s.vernier q).running then
        { s with lan := { s.lan with vernPend := s.lan.vernPend ||| BitVec.ofNat 4 (2 ^ q) } }
      else s.setVernier q { s.vernier q with running := true }
    else s
  let eq := fun (s : State) (p : Nat) =>
    let l := s.lane p
    if p < 48 ∧ (l.state = .active ∨ l.state = .park) then s.setLane p { l with eqPend := true } else s
  let dl := fun (s : State) (p : Nat) =>
    let l := s.lane p
    if s.isTl p ∧ (l.state = .active ∨ l.state = .park) then s.setLane p { l with delayPend := true } else s
  let s2 := if a.getLsbD 2 then ports.foldl eq s1 else s1
  let s3 := if a.getLsbD 1 then ports.foldl dl s2 else s2
  let band := fun (s : State) (n : Nat) =>
    if s.hbUsed n || (s.hb n).search.isSome || !(s.quad 3).powered then s else s.startSearch n 1 true
  let s4 := if a.getLsbD 3 ∧ 6 ≤ i then band (band s3 1) 2 else s3
  let s5 := if a.getLsbD 0 ∧ 6 ≤ i then
      { s4 with tio := { s4.tio with calRun := true, calPend := s4.tio.calPend || s4.tio.calRun } }
    else s4
  if a = 0 then s5 else (s5.setSensor i { s5.sensor i with ref := (s5.sensor i).temp }).startRuns

/-- The Tj maximum of the ordering code: 110 °C for KLW-6425-IH, 100 °C for KLW-6425-CH (00 R1). -/
def tjMax : Nat := if Config.codeIh then 110 else 100

/-- The thermal warning of a sensor (14 R589). -/
def thermalWarn (s : State) (i : Nat) (temp : Int) (t : Instant) : State :=
  let th : Int := 16 * ((tjMax : Int) - 10)
  let on := s.pwr.warnS.getLsbD i
  let bit := BitVec.ofNat 8 (2 ^ i)
  let ev := fun (s : State) (x : Nat) => s.raise 0x0B02 107 [bytesBE 1 i, bytesBE 1 x] t
  if !on && decide (th < temp) then
    ev { s with pwr := { s.pwr with warnS := s.pwr.warnS ||| bit, warn := true } } 1
  else if on && decide (temp ≤ th - 32) then
    ev { s with pwr := { s.pwr with warnS := s.pwr.warnS &&& ~~~bit } } 0
  else s

end State

/-- Every sensor is at 105 °C or below (09 R389). -/
def State.allCool (s : State) : Bool := (List.range 8).all fun i => decide ((s.sensor i).temp ≤ 105 * 16)

/-- A sensor's reading is kept, with its warning; above 112 °C footing has a thermal cause (14 R589). -/
def State.takeTemp (s1 : State) (sensor : Nat) (temp : Int) (t : Instant) : State :=
  let s0 := s1.setSensor sensor { s1.sensor sensor with temp := temp }
  let s2 := ((if !s1.allCool && s0.allCool then { s0 with flt := { s0.flt with coolFrom := t } } else s0).thermalWarn
    sensor temp t)
  if 112 * 16 < temp then { s2 with pwr := { s2.pwr with hotFooting := true } } else s2

/-- DIE_SENSOR_READ: a reading in 1/16 °C; a move of more than CAL_DT triggers runs (10 R424, 14 R589). -/
def execDieSensorRead (sensor : Nat) (temp : Int) (t : Instant) (s : State) :
    Host.Outcome State Fault Refusal :=
  let s1 := s.tick t
  if 8 ≤ sensor then .next s1
  else
    let v := s1.sensor sensor
    let s3 := s1.takeTemp sensor temp t
    if s3.lan.calDt * 16 < (temp - v.ref).natAbs * 10 then .next (s3.triggerRuns sensor) else .next s3

/-- EQ_RUN_DONE: a CTLE re-adaptation has applied in an idle gap (10 R418, R419, R425). -/
def execEqRunDone (port ctle : Nat) (t : Instant) (s : State) : Host.Outcome State Fault Refusal :=
  let s1 := s.tick t
  let l := s1.lane port
  if 64 ≤ port ∨ !l.eqRun then .next s1
  else .next ((s1.setLane port { l with eqRun := false, ctle := ctle % 32 }).countP port 102).startRuns

/-! ### Commands (10 R443, R444) -/

def moduleReq (r : Req) (jid : Nat) (write : Bool) : I2cReq :=
  let len := r.f 5 0 8
  let byte := fun i => BitVec.ofNat 8 (r.f (6 + i / 4) (8 * (i % 4)) 8)
  { jid := some jid, port := r.f 4 0 7, dev := r.b 4 31, page := r.f 4 16 8, off := r.f 4 8 8, len := len
    write := if write then some ((List.range len).map byte) else none }

/-- PW of MODULE_WRITE: two words and its data. -/
def modulePw (r : Req) : Nat := 2 + (r.f 5 0 8 + 3) / 4

/-- A front port, 1 to 128 bytes of a read or 1 to 8 of a write, within the 256 of the page (10 R443). -/
def okModuleAccess (write : Bool) (r : Req) : Bool :=
  let x := moduleReq r 0 write
  decide (x.port < 64) && r.only 4 0x80FFFF7F && r.only 5 0xFF
    && decide (1 ≤ x.len ∧ x.len ≤ if write then 8 else 128) && decide (x.off + x.len ≤ 256)

def moduleAccess (write : Bool) (c : Ctx) (s : State) : Res :=
  let r := c.r
  let x := moduleReq r c.jid write
  let m := s.moduleOf x.port
  refuseIf (decide (x.port < 64) && !(s.lane m).modReady) State.stState <|
  refuseIf (!okModuleAccess write r) State.stBadParam <|
  if (s.bus (x.port / 16)).stuck then .fail State.stAborted [word (r.w 4), word (r.w 5 + 2 ^ 30)]
  else .wait (s.enqueueI2c (x.port / 16) x)

def bodyModuleRead (c : Ctx) (s : State) : Res := moduleAccess false c s
def bodyModuleWrite (c : Ctx) (s : State) : Res := moduleAccess true c s

/-- POLL 10 to 10,000 ms (10 R444). -/
def okModuleCfgSet (r : Req) : Bool :=
  r.only 4 0x103 && r.only 5 0xFFFF && decide (10 ≤ r.f 5 0 16 ∧ r.f 5 0 16 ≤ 10000)

def bodyModuleCfgSet (c : Ctx) (s : State) : Res :=
  let q := c.r.f 4 0 2
  let poll := c.r.f 5 0 16
  refuseIf (!okModuleCfgSet c.r) State.stBadParam <|
  .done (s.setBus q { s.bus q with fast := c.r.b 4 8, poll := poll })

def bodyModuleCfgGet (c : Ctx) (s : State) : Res :=
  let q := c.r.f 4 0 2
  refuseIf (!c.r.only 4 3) State.stBadParam <|
  .done s [word (atBit (s.bus q).fast 8 + q), word (s.bus q).poll]

/-- CAL_DT 0.5 to 20.0 °C (10 R444). -/
def okCalCfgSet (r : Req) : Bool := r.only 4 0xFFF && decide (5 ≤ r.f 4 0 8 ∧ r.f 4 0 8 ≤ 200)

def bodyCalCfgSet (c : Ctx) (s : State) : Res :=
  let dt := c.r.f 4 0 8
  refuseIf (!okCalCfgSet c.r) State.stBadParam <|
  .done { s with lan := { s.lan with auto := BitVec.ofNat 4 (c.r.f 4 8 4), calDt := dt } }

def bodyCalCfgGet (_ : Ctx) (s : State) : Res :=
  .done s [word (s.lan.auto.toNat * 256 + s.lan.calDt)]

end Sys2Proof.Machine
end

