-- ==== Sys2Proof/Machine/TimedIo.lean ====
section
/-! DEFINITION. Event pins, interval channels and clock outputs (11 R446 to R488). -/

namespace Sys2Proof.Machine

namespace State

/-- Changes the state of chapter 11. -/
def setTio (s : State) (v : TimedIo) : State := { s with tio := v }

/-- A firmware fault: the command completes INTERNAL and EV_CMD_INTERNAL is raised (12 R507). -/
def finishInternal (s : State) (j : Option Nat) (t : Instant) : State :=
  match j with
  | none => s
  | some n =>
    match s.jrec n with
    | none => s
    | some r =>
      (s.finish n 0xFF [] t).raise 0x0001 90
        [bytesBE 1 r.req.sender.code, bytesBE 2 r.opcode, bytesBE 2 r.req.tag] t

/-! ### Event pins: input (11 R449 to R451) -/

/-- A bin table that is due applies to an input pin at an interval of 100 ns without an edge (11 R450). -/
def inputIdle (v : EvtPin) (t : Instant) : Bool :=
  match v.lastEdge with
  | none => true
  | some e => decide (e + ns 100 ≤ t)

/-- Makes a stamp record of a pin (11 R450). -/
def stampRec (s : State) (p : Nat) (at_ : Instant) (rising noStamp latched : Bool) (t : Instant) : State :=
  let v := s.pin p
  let r : EvtRec := { at_ := at_, rising := rising, stepped := v.stepped, noStamp := noStamp
                      calOld := v.calOld && !noStamp, seq := v.seq }
  let full := decide (64 ≤ v.fifo.length)
  let v1 := { v with
    seq := (v.seq + 1) % 65536, stepped := false
    last := if noStamp then v.last else instantWords at_
    fifo := if full then v.fifo else v.fifo ++ [r]
    inDrop := v.inDrop || full }
  let s1 := s.setPin p v1
  if full then s1.countE p 3
  else (s1.countE p 0).raise 0x0500 (64 + p) [bytesBE 1 p, bytesBE 2 r.seq] t latched

def edgeSelected (v : EvtPin) (rising : Bool) : Bool := flag v.cfg.inEdge (if rising then 0 else 1)

/-- The edges caught by the AON latches give their records when the clocks restart (11 R451, 13 R549). -/
def wakePins (s : State) (t : Instant) : State :=
  (List.range 8).foldl (fun s p =>
    match (s.pin p).aonLatch with
    | none => s
    | some r => (s.setPin p { s.pin p with aonLatch := none }).stampRec p 0 r true true t) s

end State

/-- An edge less than 4 ns after the last is too close (11 R449). -/
def EvtPin.edgeClose (v : EvtPin) (t : Instant) : Bool :=
  match v.lastEdge with
  | some e => decide (t < e + ns 4)
  | none => false

/-- A pulse that has lasted FILTER_NS has its record, with the instant of its first edge (11 R449). -/
def State.filterDone (s : State) (pin : Nat) (t : Instant) : State :=
  let v := s.pin pin
  match v.filtering with
  | none => s
  | some (e, rising) =>
    if t < e + ns v.cfg.filter then s
    else
      let s2 := s.setPin pin { v with filtering := none }
      if State.edgeSelected v rising then s2.stampRec pin e rising false false t else s2

/-- EVT_INPUT_EDGE: an edge crosses the threshold of a pin at `t`. -/
def execEvtInputEdge (pin : Nat) (rising : Bool) (t : Instant) (s : State) :
    Host.Outcome State Fault Refusal :=
  let s1 := (s.tick t).filterDone pin t
  let v := s1.pin pin
  if 8 ≤ pin ∨ 2 ≤ v.cfg.mode ∨ s1.pwr.asleep.isSome then .next s1
  else if v.cfg.mode = 0 then .next (s1.setPin pin { v with level := rising })
  else
    let close := v.edgeClose t
    let v1 := { v with level := rising, lastEdge := some t, calOld := v.calOld && !State.inputIdle v t }
    let s0 := if State.edgeSelected v rising then s1.wakeSource pin else s1
    let s2 := s0.setPin pin { v1 with filtering := none }
    let s3 := if close then s2.countE pin 1 else s2
    if 0 < v.cfg.filter then
      match v.filtering with
      | some _ => .next (s3.countE pin 2)
      | none => .next (if close then s3 else s3.setPin pin { v1 with filtering := some (t, rising) })
    else if close || !State.edgeSelected v rising then .next s3
    else .next (s3.stampRec pin t rising false false t)

/-- EVT_FILTER_DONE: a pulse has lasted FILTER_NS; its record carries the instant of its first edge. -/
def execEvtFilterDone (pin : Nat) (t : Instant) (s : State) : Host.Outcome State Fault Refusal :=
  let s1 := s.tick t
  if 8 ≤ pin then .next s1 else .next (s1.filterDone pin t)

/-- EVT_AON_LATCH: an edge on an input pin in a sleep state sets the pin's AON latch and wakes the device. -/
def execEvtAonLatch (pin : Nat) (rising : Bool) (t : Instant) (s : State) :
    Host.Outcome State Fault Refusal :=
  let s1 := s.tick t
  let v := s1.pin pin
  if 8 ≤ pin ∨ v.cfg.mode ≠ 1 ∨ s1.pwr.asleep.isNone ∨ !(State.edgeSelected v rising) then .next s1
  else
    let s2 := if v.aonLatch.isSome then s1 else s1.setPin pin { v with aonLatch := some rising }
    .next (s2.wakeSource pin)

/-! ### Event pins: output (11 R452 to R457) -/

namespace State

/-- A command whose pulse in progress has ended completes (11 R457). -/
def cfgDone (s : State) (p : Nat) (t : Instant) : State :=
  let v := s.pin p
  if v.pulseEnd.isSome then s
  else
    let done := v.next.filter fun x => x.discarded.isSome
    let s1 := s.setPin p { v with next := v.next.filter fun x => x.discarded.isNone }
    done.foldl (fun s x => s.finishOpt x.jid stOk [word (x.discarded.getD 0)] t) s1

/-- The source of a pin follows its owner and keeps its priority (13 R541). A pin that goes back to the hosts
leaves the core's target for the interpreter. -/
def moveRoute (s : State) (p owner : Nat) : State :=
  let r := s.route (64 + p)
  let new := if owner = 1 then Target.ac0 else if owner = 2 then Target.ac1
    else if r.target = .ac0 ∨ r.target = .ac1 then Target.cc0 else r.target
  let s1 := { s with cores := { s.cores with routes := Tbl.set {} s.cores.routes (64 + p) { r with target := new } } }
  recheck s s1 new

/-- A pin takes its new settings at A (11 R457). Answers the edges discarded. -/
def applyPin (s : State) (p : Nat) (a : Instant) (c : EvtCfg) : State × Nat :=
  let v := s.pin p
  let gone := (v.queue.filter fun e => decide (a ≤ e.1)).length
  let changed := v.cfg.mode ≠ c.mode
  let v1 := { v with
    cfg := c, modeAt := a, queue := v.queue.filter fun e => decide (e.1 < a)
    level := if changed ∧ 2 ≤ c.mode ∧ v.pulseEnd.isNone then c.idle else v.level
    filtering := if c.mode = 1 then v.filtering else none
    oldBank := none }
  let s1 := s.setPin p v1
  (if v.cfg.owner = c.owner then s1 else s1.moveRoute p c.owner, gone)

/-- The earliest EVT_CFG_SET of a pin that waits for its A. -/
def nextPinCfg (v : EvtPin) : Option EvtPending := v.next.find? fun x => x.discarded.isNone

end State

/-- EVT_CFG_APPLY: at A the pin changes mode; the command completes once the pulse in progress has ended. -/
def execEvtCfgApply (pin : Nat) (t : Instant) (s : State) : Host.Outcome State Fault Refusal :=
  let s1 := s.tick t
  match State.nextPinCfg (s1.pin pin) with
  | none => .next (s1.cfgDone pin t)
  | some x =>
    if 8 ≤ pin ∨ t < x.a then .next (s1.cfgDone pin t)
    else
      let r := s1.applyPin pin x.a x.cfg
      let v := r.1.pin pin
      let s2 := r.1.setPin pin { v with
        next := v.next.map fun y => if y = x then { y with discarded := some r.2 } else y }
      .next (s2.cfgDone pin t)

namespace State

/-- A pulse of a pin in PERIODIC rises at `t` (11 R454): k may be negative. -/
def periodicRise (v : EvtPin) (t : Instant) : Bool :=
  decide (0 < v.cfg.period) && ((t : Int) - v.cfg.base) % v.cfg.period == 0

/-- A pulse of a pin in COURSE rises at `t` (11 R455): `t` less DELAY is an occurrence of the entry of the
bank that is active there. -/
def courseRise (s : State) (v : EvtPin) (t : Instant) : Bool :=
  let d := ns v.cfg.delay
  let c := s.course v.cfg.port
  let new := !c.act.idle && decide (d ≤ t) && isOccurrence c (c.act.entry v.cfg.entry) (t - d)
  let old : Bool := match v.oldBank with
    | none => false
    | some (base, len, off, a) =>
      decide (base + off + d ≤ t) && decide (t < a + d) && (t - d - (base + off)) % ns len == 0
  new || old

/-- A pulse rises at `t` in the pin's mode, and no new settings apply by then. -/
def pulseRises (s : State) (v : EvtPin) (t : Instant) : Bool :=
  decide (v.modeAt ≤ t) && (match nextPinCfg v with | some x => decide (t < x.a) | none => true)
    && v.done != some t && (match v.cfg.mode with
      | 3 => periodicRise v t
      | 4 => s.courseRise v t
      | _ => false)

/-- The pin takes a level: an edge is driven, or nothing where the level is held already (11 R453). -/
def drivePin (s : State) (p : Nat) (level : Bool) (t : Instant) : State :=
  let v := s.pin p
  if v.level = level then s
  else ((s.setPin p { v with level := level, lastDriven := some t }).countE p 4).emit (.pin p level t)

/-- An edge that cannot be placed at its instant is dropped (11 R456). -/
def latePin (s : State) (p : Nat) (t : Instant) : State :=
  ((s.setPin p { s.pin p with outLate := true }).countE p 5).raise 0x0501 (64 + p) [bytesBE 1 p] t

end State

/-- The fall of a pin's pulse is driven, or late; a mode change that waited for it completes (11 R455, R481). -/
def State.pulseFalls (s : State) (pin : Nat) (inTime : Bool) (t : Instant) : State :=
  let s2 := s.setPin pin { s.pin pin with pulseEnd := none }
  (if inTime then s2.drivePin pin false t else s2.latePin pin t).cfgDone pin t

/-- The edge at the head of a pin's queue is driven, or late (11 R453). -/
def State.queuedEdge (s : State) (pin : Nat) (level : Bool) (rest : List (Instant × Bool)) (inTime : Bool) (t : Instant) :
    State :=
  let s2 := s.setPin pin { s.pin pin with queue := rest }
  if inTime then s2.drivePin pin level t else s2.latePin pin t

/-- A pulse of a pin rises, or is late (11 R454, R455). -/
def State.pulseStarts (s : State) (pin : Nat) (inTime : Bool) (t : Instant) : State :=
  let s2 := s.setPin pin { s.pin pin with done := some t }
  if inTime then
    (s2.setPin pin { s2.pin pin with pulseEnd := some (t + ns (s2.pin pin).cfg.width) }).drivePin pin true t
  else s2.latePin pin t

/-- EVT_OUTPUT_EDGE: the edge of a pin that is due at `t`: the fall of a pulse, a queued edge, or the rise of
a pulse. `placeable` is false while the pin is held by a calibration loopback. -/
def execEvtOutputEdge (pin : Nat) (placeable : Bool) (t : Instant) (s : State) :
    Host.Outcome State Fault Refusal :=
  let s1 := s.tick t
  let v := s1.pin pin
  let ok := placeable && s1.tio.calValid
  if 8 ≤ pin then .next s1
  else
    match v.pulseEnd with
    | some e =>
      if e ≤ t then .next (s1.pulseFalls pin (ok && e == t) t) else .next s1
    | none =>
      match v.queue with
      | (e, l) :: rest => if e ≤ t then .next (s1.queuedEdge pin l rest (ok && e == t) t) else .next s1
      | [] => if s1.pulseRises v t then .next (s1.pulseStarts pin ok t) else .next s1

/-! ### The TIMEIO vernier group (11 R447) -/

namespace State

/-- The vernier of a channel may take a new table: between measurements, or in the 1 µs after a START of MODE 1
(11 R464). -/
def chanIdle (v : TimChan) (t : Instant) : Bool :=
  match v.openAt with
  | none => true
  | some (_, tk) => v.cfg.period && decide (t < tk + us 1)

def outputIdle (v : EvtPin) (t : Instant) : Bool :=
  match v.lastDriven with
  | none => true
  | some e => decide (e + ns 100 ≤ t)

def pinIdle (v : EvtPin) (t : Instant) : Bool := if 2 ≤ v.cfg.mode then outputIdle v t else inputIdle v t

end State

/-- Each pin and channel that is idle takes its new table (11 R447). -/
def State.takeCalTables (s : State) (t : Instant) : State :=
  let s2 := (List.range 8).foldl (fun s p =>
    let v := s.pin p
    s.setPin p { v with calOld := !State.pinIdle v t }) s
  (List.range 4).foldl (fun s c =>
    let v := s.chan c
    s.setChan c { v with calOld := !State.chanIdle v t }) s2

/-- Every pin and channel has its new table. -/
def State.calTaken (s : State) : Bool :=
  ((List.range 8).all fun p => !(s.pin p).calOld) && ((List.range 4).all fun c => !(s.chan c).calOld)

/-- The calibration run ends: the tables are valid, the command completes and EV_CAL_DONE is raised (11 R447). -/
def State.calRunEnds (s3 : State) (dnl : Nat) (t : Instant) : State :=
  let s4 := s3.setTio { s3.tio with
    calValid := true, calRun := s3.tio.calPend, calPend := false, calDnl := min 0xFFFF dnl, calJid := none }
  let s5 := if s4.pwr.pstate = 3 then { s4 with pwr := { s4.pwr with pstate := 0 } } else s4
  (s5.finishOpt s3.tio.calJid State.stOk [] t).raise 0x0900 102 [bytesBE 1 2, bytesBE 8 0] t

/-- TIMEIO_CAL_DONE: the new bin tables of a run are there; each unit that is idle takes its own, and the run
ends when every unit has. A unit that is not idle goes on with its previous table, and the command comes again. -/
def execTimeioCalDone (dnl : Nat) (t : Instant) (s : State) : Host.Outcome State Fault Refusal :=
  let s1 := s.tick t
  if s1.tio.calValid ∧ !s1.tio.calRun then .next s1
  else
    let s3 := s1.takeCalTables t
    if !s3.calTaken then .next (s3.setTio { s3.tio with calRun := true }) else .next (s3.calRunEnds dnl t)

/-! ### Interval channels (11 R460 to R467) -/

namespace State

/-- MREF is present and its PLL is locked. -/
def mrefOk (s : State) : Bool := s.tio.mrefPresent && s.tio.mrefLock && !s.tio.off

/-- The square root of `v / n²`, rounded to the nearest whole number. -/
def sigmaOf (v n : Nat) : Nat :=
  let r := isqrt (v / (n * n))
  if (2 * r + 1) * (2 * r + 1) * (n * n) ≤ 4 * v then r + 1 else r

/-- Publishes a block (11 R465): status 1 complete, 2 PARTIAL. -/
def publish (s : State) (c status : Nat) (t : Instant) : State :=
  let v := s.chan c
  let w := v.win
  let b : TimBlock := { status := status, n := w.n, bad := w.bad, mean := divRound w.sum w.n
                        sigma := sigmaOf ((w.n : Int) * w.sq - w.sum * w.sum).toNat w.n
                        min := w.min, max := w.max, first := w.first.getD 0, seq := v.block.seq }
  let s1 := s.setChan c { v with
    block := { b with seq := (v.block.seq + 1) % 65536 }, win := {}, ready := true
    armed := v.armed && v.cfg.cont }
  s1.raise 0x0510 (72 + c) [bytesBE 1 c, bytesBE 1 status, bytesBE 2 ((v.block.seq + 1) % 65536)] t

/-- The counter of a record's status (11 R463). -/
def timCount : Nat → Nat
  | 0 => 0
  | 1 => 3
  | 2 => 6
  | 3 => 5
  | _ => 4

/-- Ends the open measurement of a channel with a record (11 R463 to R465). -/
def closeMeas (s : State) (c status stop : Nat) (t : Instant) : State :=
  let v := s.chan c
  match v.openAt with
  | none => s
  | some (start, tk) =>
    let ok := status == 0
    let x : Int := if ok then (stop : Int) - start else 0
    let r : TimRec := { status := status, calOld := v.calOld, seq := v.seq, start := start
                        stop := if ok then stop else 0, interval := x
                        tkSec := tk / 65536000000000 % 4294967296, tkNs := tk / 65536 % 1000000000 }
    let full := decide (1024 ≤ v.fifo.length)
    let w := v.win
    let win := if ok then
        { w with
          n := w.n + 1, sum := w.sum + x, sq := w.sq + x * x
          min := if w.n = 0 then x else min w.min x
          max := if w.n = 0 then x else max w.max x
          first := if w.n = 0 then some tk else w.first }
      else { w with bad := w.bad + 1 }
    let s1 := (s.setChan c { v with
      openAt := none, seq := (v.seq + 1) % 65536, fifo := if full then v.fifo else v.fifo ++ [r]
      rawDrop := v.rawDrop || full, aborted := v.aborted || status == 2 || status == 4
      overrange := v.overrange || status == 1, win := win }).countT c (timCount status)
    let s2 := if full then s1.countT c 7 else s1
    if ok ∧ win.n = v.cfg.n then s2.publish c 1 t else s2

/-- The window in progress is thrown away. -/
def dropWindow (s : State) (c : Nat) : State := s.setChan c { s.chan c with win := {} }

/-- Closes a channel as R467 says: an open measurement ABORTED, the window PARTIAL if it holds any. -/
def abortChan (s : State) (c : Nat) (t : Instant) : State :=
  let s1 := s.closeMeas c 2 0 t
  if 1 ≤ (s1.chan c).win.n then s1.publish c 2 t else s1.dropWindow c

/-- The level of GATE arms a channel (11 R462). -/
def gateArms (v : TimChan) : Bool := (v.cfg.gate == 0 && v.gateOn) || (v.cfg.gate == 1 && !v.gateOn)

end State

/-- A START edge less than 1 µs after the last is in the dead time (11 R463). -/
def TimChan.startDead (v : TimChan) (raw : Nat) : Bool :=
  match v.lastStart with
  | some x => decide (raw < x + us 1)
  | none => false

/-- TIM_START_EDGE: an edge of TIM_START with its stamp in the MREF timescale. -/
def execTimStartEdge (chan : Nat) (rising : Bool) (raw : Nat) (t : Instant) (s : State) :
    Host.Outcome State Fault Refusal :=
  let s1 := s.tick t
  let v := s1.chan chan
  if 4 ≤ chan ∨ !s1.mrefOk ∨ !v.cfg.enable ∨ rising = v.cfg.startFall ∨ !v.armed ∨ raw < v.armedAt then .next s1
  else
    if v.startDead raw || (!v.cfg.period && v.openAt.isSome) then .next (s1.countT chan 2)
    else
      let s2 := match v.openAt with
        | some (x, _) => if x + sec 20 < raw then s1.closeMeas chan 1 0 t else s1.closeMeas chan 0 raw t
        | none => s1
      let v2 := s2.chan chan
      if !v2.armed then .next (s2.setChan chan { v2 with lastStart := some raw })
      else .next (s2.setChan chan { v2 with openAt := some (raw, t), lastStart := some raw })

/-- TIM_STOP_EDGE: an edge of TIM_STOP with its stamp in the MREF timescale. -/
def execTimStopEdge (chan : Nat) (rising : Bool) (raw : Nat) (t : Instant) (s : State) :
    Host.Outcome State Fault Refusal :=
  let s1 := s.tick t
  let v := s1.chan chan
  if 4 ≤ chan ∨ !s1.mrefOk ∨ !v.cfg.enable ∨ v.cfg.period ∨ rising = v.cfg.stopFall then .next s1
  else
    match v.openAt with
    | none => .next (s1.countT chan 1)
    | some (x, _) =>
      if raw ≤ x then .next (s1.countT chan 1)
      else if x + sec 20 < raw then .next ((s1.closeMeas chan 1 0 t).countT chan 1)
      else .next (s1.closeMeas chan 0 raw t)

/-- TIM_GATE_EDGE: an edge of TIM_GATE with its stamp in the MREF timescale (11 R462, R463). -/
def execTimGateEdge (chan : Nat) (high : Bool) (raw : Nat) (t : Instant) (s : State) :
    Host.Outcome State Fault Refusal :=
  let s1 := s.tick t
  let v : TimChan := { s1.chan chan with gateOn := high }
  if 4 ≤ chan then .next s1
  else if v.cfg.gate = 2 ∨ v.cfg.enable = false ∨ s1.tio.off = true then .next (s1.setChan chan v)
  else if State.gateArms v then
    .next (s1.setChan chan { v with armed := true, armedAt := if s1.mrefOk then raw else 0 })
  else
    let s2 := s1.setChan chan { v with armed := false }
    .next (if v.cfg.period then s2.closeMeas chan 4 0 t else s2)

/-- TIM_OVERRANGE: 20 s have passed since START without the end of the measurement. -/
def execTimOverrange (chan : Nat) (t : Instant) (s : State) : Host.Outcome State Fault Refusal :=
  let s1 := s.tick t
  match (s1.chan chan).openAt with
  | none => .next s1
  | some (_, tk) => if 4 ≤ chan ∨ t < tk + ms 19980 then .next s1 else .next (s1.closeMeas chan 1 0 t)

/-- MREF_LOST (11 R461). -/
def execMrefLost (t : Instant) (s : State) : Host.Outcome State Fault Refusal :=
  let s1 := s.tick t
  if !(s1.tio.mrefPresent || s1.tio.mrefLock) then .next s1
  else
    let s2 := s1.setTio { s1.tio with mrefPresent := false, mrefLock := false, mrefLost := true }
    let s3 := (List.range 4).foldl (fun s c => (s.closeMeas c 3 0 t).dropWindow c) s2
    .next (s3.raise 0x0511 84 [bytesBE 1 0] t)

/-- MREF_LOCK: MREF is present and its PLL has locked; its timescale starts from 0 (11 R461). -/
def execMrefLock (err : Int) (t : Instant) (s : State) : Host.Outcome State Fault Refusal :=
  let s1 := s.tick t
  if s1.tio.mrefLock ∨ 10000 < err.natAbs ∨ s1.tio.off then .next s1
  else
    let s2 := s1.setTio { s1.tio with mrefPresent := true, mrefLock := true, mrefErr := err }
    let s3 := (List.range 4).foldl (fun s c => s.setChan c { s.chan c with armedAt := 0, lastStart := none }) s2
    .next (s3.raise 0x0511 84 [bytesBE 1 1] t)

/-! ### Clock outputs: the ideal phase (11 R470, R471)

`y` counts in 10^-9 ppt. The integral of 1 + y counts in 1 / (131072 × 10^21) of a sub-ns unit: `yUnit` is 1 for
the whole term. Both are exact. -/

/-- One sub-ns unit of the integral. -/
def intUnit : Int := 131072 * 1000000000000000000000

/-- Sub-ns units of a duration in µs. -/
def segLen (x : Seg) : Nat := us x.dur

/-- `y` and the integral after `d` sub-ns units of a slope, from `y0`. -/
def alongSlope (y0 slope : Int) (d : Nat) : Int × Int :=
  (y0 + slope * d / 65536, intUnit * d + y0 * d * 131072 + slope * d * d)

/-- `y` and the integral `d` sub-ns units after the start of a profile. -/
def alongSegs : List Seg → Int → Nat → Int × Int
  | [], y0, d => alongSlope y0 0 d
  | x :: r, y0, d =>
    if d < segLen x then alongSlope y0 x.slope d
    else
      let e := alongSlope y0 x.slope (segLen x)
      let z := alongSegs r e.1 (d - segLen x)
      (z.1, e.2 + z.2)

/-- `y` at the end of each segment. -/
def segEnds (y0 : Int) : List Seg → List Int
  | [] => []
  | x :: r =>
    let y := (alongSlope y0 x.slope (segLen x)).1
    y :: segEnds y r

namespace Cko

/-- `y` at an instant and the integral of 1 + y from A to it. -/
def phaseAt (v : Cko) (t : Instant) : Int × Int :=
  match v.prof with
  | none => (0, if t < v.a then 0 else intUnit * ((t : Int) - v.a))
  | some p =>
    if t < p.start then (p.y0, p.acc - (alongSlope p.y0 0 (p.start - t)).2)
    else
      let z := alongSegs p.segs p.y0 (t - p.start)
      (z.1, p.acc + z.2)

/-- What a cycle of Φ counts in: F0 × integral reaches this (F0 in µHz). -/
def cycleUnit : Int := intUnit * 1000000 * 65536000000000

/-- Whole cycles of Φ at an instant. -/
def cycles (v : Cko) (t : Instant) : Int := (v.cfg.f0 : Int) * (v.phaseAt t).2 / cycleUnit

/-- The fraction of a cycle in units of 2^-32, rounded down. -/
def fraction (v : Cko) (t : Instant) : Int :=
  (v.cfg.f0 : Int) * (v.phaseAt t).2 % cycleUnit * 4294967296 / cycleUnit

/-- The end of the segments reported so far, and of the next one. -/
def segEnd (p : Profile) (n : Nat) : Instant := p.start + ((p.segs.take n).map segLen).foldl (· + ·) 0

/-- A profile segment is running. -/
def ramping (v : Cko) (t : Instant) : Bool :=
  match v.prof with
  | none => false
  | some p => decide (p.start ≤ t ∧ t < segEnd p p.segs.length)

/-- O of 11 R468: the smallest divider that brings the VCO to 5.0 GHz. -/
def divider (f0 : Nat) : Nat := if f0 = 0 then 0 else max 8 ((5000000000000000 + f0 - 1) / f0)

end Cko

namespace State

/-- NCLK is there: a keeper holds the lease (11 R473). -/
def nclk (s : State) : Bool := s.holder.isSome

def ckoTrust (s : State) : Bool :=
  match s.holder with
  | none => false
  | some h =>
    let k := s.keeper h
    k.timeValid && (k.state == .locked || k.state == .holdover)

/-- The CKO_STATUS of an output (11 R478). -/
def ckoStatus (s : State) (o : Nat) (t : Instant) : Word :=
  let v := s.cko o
  word (v.state.code * 2 ^ 29 + atBit (v.ramping t) 28 + atBit v.pend.isSome 27 + atBit v.forced 26
    + atBit v.bypassEv 25 + atBit v.stepEv 24 + atBit s.ckoTrust 23)

/-- An output switches to the bypass clock (11 R473); cause as in 13 R548. -/
def toBypass (s : State) (o cause : Nat) (forced : Bool) (t : Instant) : State :=
  let v := s.cko o
  ((s.setCko o { v with
    state := .bypass, bypassEv := true, forced := v.forced || forced, pllLock := v.pllLock && forced }).countO o 0).raise
    0x0600 (76 + o) [bytesBE 1 o, bytesBE 1 3, bytesBE 1 cause] t

/-- An output goes back onto Φ (11 R474). -/
def fromBypass (s : State) (o : Nat) (t : Instant) : State :=
  ((s.setCko o { s.cko o with state := .running, forced := false }).countO o 1).raise
    0x0600 (76 + o) [bytesBE 1 o, bytesBE 1 2, bytesBE 1 3] t

/-- CKO_CMD RETURN may act. -/
def mayReturn (s : State) (o : Nat) : Bool := (s.cko o).state == .bypass && s.nclk && (s.cko o).pllLock

/-- The pending CKO_PROFILE_START of an output is withdrawn (11 R475). -/
def withdrawProfile (s : State) (o : Nat) (t : Instant) : State :=
  let v := s.cko o
  match v.pend with
  | none => s
  | some p => (s.setCko o { v with pend := none }).finishOpt p.jid stAborted [] t

/-- A waiting CKO_SET or CKO_CMD that has come to its instant. -/
def ckoDue (v : Cko) (t : Instant) (kind : CkoWait → Bool) : Option (CkoWait × Instant × Option Nat) :=
  v.waits.find? fun w => kind w.1 && decide (w.2.1 ≤ t)

def dropWait (s : State) (o : Nat) (w : CkoWait × Instant × Option Nat) : State :=
  s.setCko o { s.cko o with waits := (s.cko o).waits.filter (· != w) }

end State

def CkoWait.isReady : CkoWait → Bool
  | .set _ r => r
  | .disable _ => false
  | .back => false
  | .force => false
def CkoWait.isDisable : CkoWait → Bool
  | .set _ _ => false
  | .disable _ => true
  | .back => false
  | .force => false
def CkoWait.isBack : CkoWait → Bool
  | .set _ _ => false
  | .disable _ => false
  | .back => true
  | .force => false
def CkoWait.isForce : CkoWait → Bool
  | .set _ _ => false
  | .disable _ => false
  | .back => false
  | .force => true

/-- A CKO_SET that waits for a band search. -/
def CkoWait.searching : CkoWait → Bool
  | .set _ r => !r
  | _ => false

/-- CKO_BAND_SEARCH_DONE: the search that a CKO_SET needs has ended (11 R469). -/
def execCkoBandSearchDone (out band : Nat) (ok : Bool) (t : Instant) (s : State) :
    Host.Outcome State Fault Refusal :=
  let s1 := s.tick t
  let v := s1.cko out
  match v.waits.find? fun w => w.1.searching with
  | none => .next s1
  | some w =>
    match w.1 with
    | .set c _ =>
      if 8 ≤ out ∨ 64 ≤ band then .next s1
      else if ok then
        let o := Cko.divider c.f0
        .next (s1.setCko out { v with
          state := if v.state = .held then .held else .locking
          band := band, bandFor := c.f0 * o
          waits := v.waits.map fun x => if x = w then (.set c true, x.2) else x })
      else
        .next ((s1.setCko out { v with
          state := if v.state = .held then .held else .off
          cfg := { v.cfg with enable := false }
          bandFor := 0, waits := v.waits.filter (· != w) }).finishInternal w.2.2 t)
    | _ => .next s1

/-- CKO_ALIGN_START: at A an enabled output starts with a rising edge, y = 0 and no profile (11 R475). -/
def execCkoAlignStart (out : Nat) (t : Instant) (s : State) : Host.Outcome State Fault Refusal :=
  let s1 := s.tick t
  let v := s1.cko out
  match State.ckoDue v t CkoWait.isReady with
  | none => .next s1
  | some w =>
    match w.1 with
    | .set c _ =>
      if 8 ≤ out then .next s1
      else
        let s2 := (s1.withdrawProfile out t).dropWait out w
        let v2 := s2.cko out
        .next ((s2.setCko out { v2 with
          cfg := c, div := Cko.divider c.f0, a := w.2.1, prof := none, forced := false
          state := if v2.state = .held then .held else .running
          pllLock := true, lockSince := t, relock := none }).finishOpt w.2.2 State.stOk [] t)
    | _ => .next s1

/-- CKO_BYPASS: a lock error (0), the stop of NCLK (1), or CKO_CMD BYPASS at its instant (2). -/
def execCkoBypass (out cause : Nat) (t : Instant) (s : State) : Host.Outcome State Fault Refusal :=
  let s1 := s.tick t
  let v := s1.cko out
  if 8 ≤ out then .next s1
  else if cause = 2 then
    match State.ckoDue v t CkoWait.isForce with
    | none => .next s1
    | some w =>
      let s2 := s1.dropWait out w
      match v.state with
      | .running => .next ((s2.toBypass out 2 true t).finishOpt w.2.2 State.stOk [] t)
      | .bypass => .next ((s2.setCko out { s2.cko out with forced := true }).finishOpt w.2.2 State.stOk [] t)
      | .off => .next (s2.finishOpt w.2.2 State.stState [] t)
      | .locking => .next (s2.finishOpt w.2.2 State.stState [] t)
      | .held => .next (s2.finishOpt w.2.2 State.stState [] t)
  else if v.state ≠ .running ∨ 2 ≤ cause ∨ (cause = 1 ∧ s1.nclk) then .next s1
  else .next (s1.toBypass out cause false t)

/-- CKO_RETURN: CKO_CMD RETURN at its instant, or, with RETURN_AUTO, a lock that has held for 100 ms. -/
def execCkoReturn (out : Nat) (t : Instant) (s : State) : Host.Outcome State Fault Refusal :=
  let s1 := s.tick t
  let v := s1.cko out
  if 8 ≤ out then .next s1
  else
    match State.ckoDue v t CkoWait.isBack with
    | some w =>
      let s2 := s1.dropWait out w
      if s2.mayReturn out then .next ((s2.fromBypass out t).finishOpt w.2.2 State.stOk [] t)
      else .next (s2.finishOpt w.2.2 State.stState [] t)
    | none =>
      if s1.mayReturn out && v.cfg.auto && !v.forced && decide (v.lockSince + ms 100 ≤ t) then
        .next (s1.fromBypass out t)
      else .next s1

/-- CKO_PROFILE_APPLY: at S the new profile starts from the y and the phase of that instant (11 R471). -/
def execCkoProfileApply (out : Nat) (t : Instant) (s : State) : Host.Outcome State Fault Refusal :=
  let s1 := s.tick t
  let v := s1.cko out
  match v.pend with
  | none => .next s1
  | some p =>
    if 8 ≤ out ∨ t < p.s then .next s1
    else
      let z := v.phaseAt p.s
      .next ((s1.setCko out { v with
        pend := none, prof := some { start := p.s, y0 := z.1, segs := p.segs, acc := z.2 } }).finishOpt p.jid
          State.stOk [] t)

/-- CKO_SEGMENT_END: a segment ends; after the last one y holds (11 R471). -/
def execCkoSegmentEnd (out : Nat) (t : Instant) (s : State) : Host.Outcome State Fault Refusal :=
  let s1 := s.tick t
  let v := s1.cko out
  match v.prof with
  | none => .next s1
  | some p =>
    if 8 ≤ out ∨ p.segs.length ≤ p.done ∨ t < Cko.segEnd p (p.done + 1) then .next s1
    else
      let s2 := s1.setCko out { v with prof := some { p with done := p.done + 1 } }
      if p.done + 1 = p.segs.length then .next (s2.raise 0x0601 (76 + out) [bytesBE 1 out] t) else .next s2

/-- After an exit of footing at X the output starts at the first whole cycle of Φ at or after X + 5 ms (11 R476). -/
def Cko.relocksAt (v : Cko) (x t : Instant) : Bool :=
  let from_ := max v.a (x + ms 5)
  let first := if (v.cfg.f0 : Int) * (v.phaseAt from_).2 % Cko.cycleUnit = 0 then v.cycles from_ else v.cycles from_ + 1
  !(decide (t < from_) || decide (v.cycles t < first) || (decide (from_ < t) && decide (first ≤ v.cycles (t - 1))))

/-- CKO_RELOCK: after footing an enabled output starts at the first whole cycle of Φ at or after X + 5 ms (11
R476). On an output in BYPASS it says that the PLL has locked again onto NCLK. -/
def execCkoRelock (out : Nat) (t : Instant) (s : State) : Host.Outcome State Fault Refusal :=
  let s1 := s.tick t
  let v := s1.cko out
  if 8 ≤ out ∨ !s1.nclk then .next s1
  else if v.state = .bypass then
    .next (if v.pllLock then s1 else s1.setCko out { v with pllLock := true, lockSince := t })
  else
    match v.relock with
    | none => .next s1
    | some x =>
      if v.state ≠ .locking ∨ !v.relocksAt x t then .next s1
      else .next (s1.setCko out { v with state := .running, relock := none, pllLock := true, lockSince := t })

/-- CKO_DISABLE_APPLY: CKO_SET with ENABLE = 0 at its A (11 R475). -/
def execCkoDisableApply (out : Nat) (t : Instant) (s : State) : Host.Outcome State Fault Refusal :=
  let s1 := s.tick t
  let v := s1.cko out
  match State.ckoDue v t CkoWait.isDisable with
  | none => .next s1
  | some w =>
    match w.1 with
    | .disable c =>
      if 8 ≤ out then .next s1
      else
        let s2 := (s1.withdrawProfile out t).dropWait out w
        let v2 := s2.cko out
        .next ((s2.setCko out { v2 with
          cfg := c, prof := none, forced := false, pllLock := false, relock := none
          state := if v2.state = .held then .held else .off }).finishOpt w.2.2 State.stOk [] t)
    | _ => .next s1

/-! ### Footing (09 R384, R390; 11 R467, R476) -/

namespace State

/-- What footing stops of the timed I/O at E. -/
def tioFooting (s : State) (t : Instant) : State :=
  let s1 := (List.range 4).foldl (fun s c =>
    let s' := s.setChan c { s.chan c with armed := false }
    s'.abortChan c t) s
  let s2 := (List.range 8).foldl (fun s o => s.setCko o { s.cko o with state := .held, relock := none }) s1
  s2.setTio { s2.tio with off := true }

/-- Leaving footing at X: enabled outputs relock, channels stay disarmed until they are armed again. -/
def tioResume (s : State) (x : Instant) : State :=
  let s1 := (List.range 8).foldl (fun s o =>
    let v := s.cko o
    s.setCko o (if v.cfg.enable then { v with state := .locking, relock := some x } else { v with state := .off })) s
  s1.setTio { s1.tio with off := false }

/-! ### Registers (11 R477, R478) -/

def bits8 (f : Nat → Bool) : Nat := (List.range 8).foldl (fun n i => n + atBit (f i) i) 0

def evtStatus (s : State) : Word :=
  word (bits8 (fun p => (s.pin p).outLate) * 2 ^ 24 + bits8 (fun p => (s.pin p).inDrop) * 65536
    + bits8 (fun p => !(s.pin p).fifo.isEmpty) * 256 + bits8 (fun p => (s.pin p).level))

def evtMode (s : State) : Word :=
  word ((List.range 8).foldl (fun n p => n + (s.pin p).cfg.mode * 2 ^ (4 * p)) 0)

def mrefStatus (s : State) : Word :=
  let e : Int := max (-32768) (min 32767 s.tio.mrefErr)
  word (atBit s.tio.mrefPresent 31 + atBit s.tio.mrefLock 30 + atBit s.tio.mref100 29 + atBit s.tio.mrefLost 28
    + (e % 65536).toNat)

def timStatus (s : State) : Word :=
  word ((List.range 4).foldl (fun n c =>
    let v := s.chan c
    n + (atBit (v.armed && v.cfg.enable) 7 + atBit v.openAt.isSome 6 + atBit (!s.mrefOk) 5 + atBit v.ready 4
      + atBit v.aborted 3 + atBit v.overrange 2 + atBit v.rawDrop 1) * 2 ^ (8 * c)) 0)

def timeioCal (s : State) : Word :=
  word (atBit s.tio.calValid 31 + atBit s.tio.calRun 30 + s.tio.calDnl)

end State

/-! ### Commands: event pins (11 R480 to R482) -/

/-- The sender owns the pin (11 R458). -/
def pinOwner (s : State) (r : Req) (p : Nat) : Bool :=
  match r.sender.core with
  | none => (s.pin p).cfg.owner == 0
  | some .ac0 => (s.pin p).cfg.owner == 1
  | some .ac1 => (s.pin p).cfg.owner == 2

def evtCfgOf (r : Req) : EvtCfg :=
  { mode := r.f 4 28 4, inEdge := r.f 4 26 2, idle := r.b 4 25, owner := r.f 4 23 2, filter := r.f 5 0 10
    base := r.instant 6, period := ns (r.f 10 0 30) + r.f 11 0 16, width := r.f 12 0 30
    entry := r.f 13 7 10, port := r.f 13 0 7, delay := r.f 14 0 30 }

/-- The pulses of a pin on a bank and across a swap from an old bank overlap (11 R455). -/
def pulsesClash (c : EvtCfg) (new : Bank) (old : Option Bank) : Bool :=
  !new.idle && (decide (new.len ≤ c.width) || (match old with
    | none => false
    | some b => !b.idle && decide
        (ns b.len + (new.entry c.entry).offset ≤ (b.entry c.entry).offset + ns c.width)))

/-- A COURSE_COMMIT would make pulses of an event pin overlap (11 R455). -/
def pinClash (s : State) (p : Nat) (sh : Bank) (a : Instant) : Bool :=
  (List.range 8).any fun n =>
    let v := s.pin n
    -- the setting in force at A, and those accepted for later
    let atA := (v.next.filter fun x => decide (x.a ≤ a)).foldl (fun _ x => x.cfg) v.cfg
    let cfgs := atA :: (v.next.filter fun x => decide (a < x.a)).map (·.cfg)
    cfgs.any fun c => c.mode == 4 && c.port == p && pulsesClash c sh (some (s.course p).act)

def bodyCourseCommit (c : Ctx) (s : State) : Res :=
  courseCommit s.confRate (fun p => (s.portPlanned p).parkEn) (pinClash s) c s

/-- An EVT_CFG_SET in the order of the instants of a pin. -/
def insertPin (x : EvtPending) : List EvtPending → List EvtPending
  | [] => [x]
  | y :: r => if x.a < y.a then x :: y :: r else y :: insertPin x r

/-- The ranges of EVT_CFG_SET, and 0 in the fields that its mode does not use (11 R481). -/
def okEvtCfgSet (r : Req) : Bool :=
  let x := evtCfgOf r
  let zero := fun (l : List Nat) => l.all fun i => r.w i == 0
  let unused := (match x.mode with
    | 3 => zero [13, 14]
    | 4 => zero [6, 7, 8, 9, 10, 11]
    | _ => zero [6, 7, 8, 9, 10, 11, 12, 13, 14])
  let range := (match x.mode with
    | 3 => r.instantOk 6 && decide (ns 4 ≤ x.period ∧ x.period ≤ sec 1 ∧ r.f 10 0 30 ≤ 1000000000)
        && decide (2 ≤ x.width ∧ ns x.width + ns 2 ≤ x.period)
    | 4 => decide (1 ≤ x.width) && decide (x.delay ≤ 999999999)
    | _ => true)
  r.only 4 0xFF800007 && r.only 5 0x3FF && r.only 10 0x3FFFFFFF && r.only 11 0xFFFF
    && r.only 12 0x3FFFFFFF && r.only 13 0x1FFFF && r.only 14 0x3FFFFFFF
    && decide (x.mode ≤ 4) && decide (x.inEdge ≠ 0) && decide (x.owner ≠ 3) && decide (x.filter ≤ 1000)
    && unused && range

/-- A COURSE pin without a course, or with overlapping pulses (11 R455, R481). -/
def evtCfgClash (s : State) (x : EvtCfg) : Bool :=
  let co := s.course x.port
  x.mode == 4 && (decide (63 < x.port) || pulsesClash x co.act none
    || (match co.pend with | some _ => pulsesClash x co.shadow (some co.act) | none => false))

def bodyEvtCfgSet (c : Ctx) (s : State) : Res :=
  let p := c.r.f 4 0 3
  let x := evtCfgOf c.r
  let v := s.pin p
  refuseIf (!okEvtCfgSet c.r) State.stBadParam <|
  refuseIf (evtCfgClash s x) State.stConflict <|
  match c.a with
  | some a =>
    if !s.pwr.cfgRun && decide (a < c.t + us 200) then .fail State.stTooLate
    else .wait (s.setPin p { v with next := insertPin { a := a, jid := some c.jid, cfg := x } v.next })
  | none =>
    let z := s.applyPin p c.t x
    let v1 := z.1.pin p
    if v1.pulseEnd.isNone then .done z.1 [word z.2]
    else .wait (z.1.setPin p { v1 with
      next := { a := c.t, jid := some c.jid, cfg := x, discarded := some z.2 } :: v1.next }) [word z.2]

/-- The words of EVT_CFG_SET. -/
def evtCfgWords (p : Nat) (c : EvtCfg) : List Word :=
  [word (c.mode * 2 ^ 28 + c.inEdge * 2 ^ 26 + atBit c.idle 25 + c.owner * 2 ^ 23 + p), word c.filter]
    ++ instantWords c.base ++ [word (c.period / 65536), word (c.period % 65536), word c.width
      , word (c.entry * 128 + c.port), word c.delay]

def bodyEvtCfgGet (c : Ctx) (s : State) : Res :=
  let p := c.r.f 4 0 3
  refuseIf (!c.r.only 4 7) State.stBadParam <|
  .done s (evtCfgWords p (s.pin p).cfg)

/-- The edges of an EVT_EDGE. -/
def evtEdges (r : Req) : List (Instant × Bool) :=
  (List.range (r.f 4 16 5)).map fun i => (r.instant (5 + 5 * i), r.b (9 + 5 * i) 0)

/-- Each instant lies 2 ns after the one before (11 R453). -/
def edgesApart : Option Instant → List (Instant × Bool) → Bool
  | _, [] => true
  | none, e :: r => edgesApart (some e.1) r
  | some x, e :: r => decide (x + ns 2 ≤ e.1) && edgesApart (some e.1) r

/-- PW of EVT_EDGE. -/
def evtEdgePw (r : Req) : Nat := 1 + 5 * r.f 4 16 5

/-- The last edge queued or driven. -/
def EvtPin.lastOut (v : EvtPin) : Option Instant :=
  match v.queue.getLast? with
  | some e => some e.1
  | none => v.lastDriven

/-- The permission of the pin's owner, and the semaphore of a host (11 R458). -/
def ownerCheck (c : Ctx) (s : State) (p : Nat) (k : Res) : Res :=
  refuseIf (!pinOwner s c.r p) State.stNotPermitted <|
  refuseIf (c.r.sender.core.isNone && !s.holds c.r.sender) State.stNoSemaphore <|
  refuseIf (c.r.sender.core.isNone && s.cfgNow.footing) State.stState k

/-- One to eight edges, each an instant and a level (11 R482). -/
def okEvtEdge (r : Req) : Bool :=
  r.only 4 0x1F0007 && decide (1 ≤ r.f 4 16 5 ∧ r.f 4 16 5 ≤ 8)
    && (List.range (r.f 4 16 5)).all fun i => r.instantOk (5 + 5 * i) && r.only (9 + 5 * i) 1

/-- The first edge lies less than 20 µs ahead (11 R453). -/
def edgesLate (es : List (Instant × Bool)) (t : Instant) : Bool :=
  match es with
  | e :: _ => decide (e.1 < t + us 20)
  | [] => false

def bodyEvtEdge (c : Ctx) (s : State) : Res :=
  let r := c.r
  let p := r.f 4 0 3
  let v := s.pin p
  let es := evtEdges r
  ownerCheck c s p <|
  refuseIf (decide (v.cfg.mode ≠ 2)) State.stState <|
  refuseIf (!okEvtEdge r) State.stBadParam <|
  refuseIf (!edgesApart v.lastOut es) State.stConflict <|
  refuseIf (decide (32 < v.queue.length + r.f 4 16 5)) State.stResource <|
  refuseIf (edgesLate es c.t) State.stTooLate <|
  .done (s.setPin p { v with queue := v.queue ++ es })

def bodyEvtCancel (c : Ctx) (s : State) : Res :=
  let p := c.r.f 4 0 3
  let v := s.pin p
  ownerCheck c s p <|
  refuseIf (!c.r.only 4 7) State.stBadParam <|
  .done (s.setPin p { v with queue := [] }) [word v.queue.length]

def EvtRec.words (r : EvtRec) : List Word :=
  (if r.noStamp then [0, 0, 0, 0] else instantWords r.at_)
    ++ [word (atBit r.rising 31 + atBit r.stepped 30 + atBit r.noStamp 29 + atBit r.calOld 28 + r.seq)]

def bodyEvtStampGet (c : Ctx) (s : State) : Res :=
  let p := c.r.f 4 0 3
  let m := c.r.f 4 16 6
  let v := s.pin p
  let got := v.fifo.take m
  refuseIf (!pinOwner s c.r p) State.stNotPermitted <|
  refuseIf (!c.r.only 4 0x3F0007 || !decide (1 ≤ m ∧ m ≤ 32)) State.stBadParam <|
  .done (s.setPin p { v with fifo := v.fifo.drop m })
    ([word got.length, word (v.fifo.length - m)] ++ got.flatMap EvtRec.words)

/-! ### Commands: interval channels (11 R483, R484) -/

def timCfgOf (r : Req) : TimCfg :=
  { enable := r.b 4 11, cont := r.b 4 10, gate := r.f 4 8 2, stopFall := r.b 4 6, startFall := r.b 4 5
    period := r.b 4 4, n := r.f 5 0 21 }

/-- GATE 0 to 2, N 1 to 1,048,576 (11 R483). -/
def okTimCfgSet (r : Req) : Bool :=
  r.only 4 0xF73 && r.only 5 0x1FFFFF && decide ((timCfgOf r).gate ≠ 3)
    && decide (1 ≤ (timCfgOf r).n ∧ (timCfgOf r).n ≤ 1048576)

/-- A channel takes new settings: what it was measuring ends, and its gate arms it anew (11 R483). -/
def State.timConfigure (s : State) (n : Nat) (x : TimCfg) (t : Instant) : State :=
  let v := s.chan n
  let old := v.cfg
  let s1 :=
    if old.enable && !x.enable then (s.setChan n { v with armed := false }).abortChan n t
    else if old.n ≠ x.n ∨ old.period ≠ x.period ∨ old.startFall ≠ x.startFall ∨ old.stopFall ≠ x.stopFall then
      (s.closeMeas n 2 0 t).dropWindow n
    else s
  let v1 := { s1.chan n with cfg := x }
  let fresh := !old.enable || old.gate ≠ x.gate
  let arm := x.enable && (if fresh then State.gateArms v1 && !s1.tio.off else v1.armed)
  s1.setChan n { v1 with armed := arm, armedAt := if fresh then 0 else v1.armedAt }

def bodyTimCfgSet (c : Ctx) (s : State) : Res :=
  refuseIf (!okTimCfgSet c.r) State.stBadParam <| .done (s.timConfigure (c.r.f 4 0 2) (timCfgOf c.r) c.t)

def TimCfg.words (n : Nat) (x : TimCfg) : List Word :=
  [word (atBit x.enable 11 + atBit x.cont 10 + x.gate * 256 + atBit x.stopFall 6 + atBit x.startFall 5
    + atBit x.period 4 + n), word x.n]

def bodyTimCfgGet (c : Ctx) (s : State) : Res :=
  let n := c.r.f 4 0 2
  refuseIf (!c.r.only 4 3) State.stBadParam <| .done s ((s.chan n).cfg.words n)

def bodyTimArm (c : Ctx) (s : State) : Res :=
  let n := c.r.f 4 0 2
  let v := s.chan n
  refuseIf (!(v.cfg.enable && v.cfg.gate == 2)) State.stState <|
  refuseIf (!c.r.only 4 0x80000003) State.stBadParam <|
  if c.r.b 4 31 then .done (s.setChan n { v with armed := true, armedAt := 0 })
  else
    let s1 := s.setChan n { v with armed := false }
    .done (if v.cfg.period then s1.closeMeas n 4 0 c.t else s1)

def TimRec.words (r : TimRec) : List Word :=
  [word (r.status * 2 ^ 28 + atBit r.calOld 27 + r.seq)] ++ words64 r.start ++ words64 r.stop
    ++ intervalWords r.interval ++ [word r.tkSec, word r.tkNs]

def bodyTimRawGet (c : Ctx) (s : State) : Res :=
  let n := c.r.f 4 0 2
  let m := c.r.f 4 16 6
  let v := s.chan n
  let got := v.fifo.take m
  refuseIf (!c.r.only 4 0x3F0003 || !decide (1 ≤ m ∧ m ≤ 32)) State.stBadParam <|
  .done (s.setChan n { v with fifo := v.fifo.drop m })
    ([word got.length, word (v.fifo.length - m)] ++ got.flatMap TimRec.words)

/-- The statistics block of a channel (11 R484). -/
def timStatsWords (s : State) (n : Nat) : List Word :=
  let b := (s.chan n).block
  [word (b.status * 2 ^ 28 + b.n), word b.bad] ++ intervalWords b.mean ++ intervalWords b.sigma
    ++ intervalWords b.min ++ intervalWords b.max ++ instantWords b.first ++ [word b.seq]

def bodyTimStatsGet (c : Ctx) (s : State) : Res :=
  refuseIf (!c.r.only 4 3) State.stBadParam <| .done s (timStatsWords s (c.r.f 4 0 2))

/-- The measurement reference takes its frequency at `t`: every channel's measurement ends, and a change of the
frequency unlocks it (11 R461, R467, R483). -/
def mrefTo (s : State) (f : Bool) (t : Instant) : State :=
  let s1 := (List.range 4).foldl (fun s n => s.abortChan n t) s
  let same := s1.tio.mref100 == f
  s1.setTio { s1.tio with mref100 := f, mrefLock := s1.tio.mrefLock && same }

def bodyMrefSet (c : Ctx) (s : State) : Res :=
  refuseIf (!c.r.only 4 1) State.stBadParam <| .done (mrefTo s (c.r.b 4 0) c.t)

def bodyMrefGet (_ : Ctx) (s : State) : Res := .done s [word (atBit s.tio.mref100 0)]

def bodyCalTimeioRun (c : Ctx) (s : State) : Res :=
  refuseIf s.tio.calRun State.stBusy <|
  .wait (s.setTio { s.tio with calRun := true, calJid := some c.jid })

/-! ### Commands: clock outputs (11 R485 to R487) -/

def ckoCfgOf (r : Req) : CkoCfg :=
  { enable := r.b 4 31, auto := r.b 4 30, f0 := r.u64 5, yMin := signed 32 (r.w 7), yMax := signed 32 (r.w 8) }

/-- F0 10 kHz to 750 MHz, Y_MIN and Y_MAX within 80,000 and, where in order, about 0 (11 R485). -/
def okCkoSet (r : Req) : Bool :=
  let x := ckoCfgOf r
  r.only 4 0xC0000007 && (decide (10000000000 ≤ x.f0 ∧ x.f0 ≤ 750000000000000) || (!x.enable && x.f0 == 0))
    && decide (-80000 ≤ x.yMin ∧ x.yMin ≤ 80000 ∧ -80000 ≤ x.yMax ∧ x.yMax ≤ 80000)
    && !(decide (x.yMin ≤ x.yMax) && decide (0 < x.yMin ∨ x.yMax < 0))

def bodyCkoSet (c : Ctx) (s : State) : Res :=
  let o := c.r.f 4 0 3
  let x := ckoCfgOf c.r
  let v := s.cko o
  match c.a with
  | none => .fail State.stBadParam
  | some a =>
    refuseIf (v.state == .held) State.stState <|
    refuseIf (!okCkoSet c.r) State.stBadParam <|
    refuseIf (decide (x.yMax < x.yMin)) State.stConflict <|
    refuseIf (!s.pwr.cfgRun && decide (a < c.t + ms 10)) State.stTooLate <|
    if x.enable then
      let known := v.bandFor == x.f0 * Cko.divider x.f0
      .wait (s.setCko o { v with
        state := if known then .locking else .off
        waits := v.waits ++ [(.set x known, a, some c.jid)] })
    else .wait (s.setCko o { v with waits := v.waits ++ [(.disable x, a, some c.jid)] })

/-- The reply of CKO_GET (11 R485). -/
def Cko.words (o : Nat) (v : Cko) : List Word :=
  [word (atBit v.cfg.enable 31 + atBit v.cfg.auto 30 + o)] ++ words64 v.cfg.f0
    ++ [word (v.cfg.yMin % 4294967296).toNat, word (v.cfg.yMax % 4294967296).toNat, word v.div, word v.band]
    ++ instantWords v.a

def bodyCkoGet (c : Ctx) (s : State) : Res :=
  let o := c.r.f 4 0 3
  refuseIf (!c.r.only 4 7) State.stBadParam <| .done s ((s.cko o).words o)

/-- One segment from its three words (11 R486). -/
def segOf (r : Req) (i : Nat) : Seg :=
  { dur := r.w i, slope := signed 48 (r.w (i + 1) + 4294967296 * r.f (i + 2) 0 16) }

/-- PW of CKO_PROFILE_SET. -/
def profilePw (r : Req) : Nat := 1 + 3 * (r.f 4 24 6 + 1)

/-- At most 16 segments within the 64, each of 1 to 4,000,000,000 units and a slope within 10^11 (11 R486). -/
def okCkoProfileSet (r : Req) : Bool :=
  let n := r.f 4 24 6 + 1
  r.only 4 0x3F3F0007 && decide (n ≤ 16) && decide (r.f 4 16 6 + n ≤ 64)
    && (List.range n).all fun i =>
      let x := segOf r (5 + 3 * i)
      r.only (7 + 3 * i) 0xFFFF && decide (1 ≤ x.dur ∧ x.dur ≤ 4000000000 ∧ x.slope.natAbs ≤ 100000000000)

/-- Writes the packet's segments into a shadow profile. -/
def putSegs (r : Req) (m : Tbl Seg) : Tbl Seg :=
  (List.range (r.f 4 24 6 + 1)).foldl (fun m i => Tbl.set {} m (r.f 4 16 6 + i) (segOf r (5 + 3 * i))) m

def bodyCkoProfileSet (c : Ctx) (s : State) : Res :=
  let o := c.r.f 4 0 3
  let v := s.cko o
  refuseIf v.pend.isSome State.stState <|
  refuseIf (!okCkoProfileSet c.r) State.stBadParam <|
  .done (s.setCko o { v with shadow := putSegs c.r v.shadow })

/-- The first `n` segments of a shadow profile. -/
def Cko.profile (v : Cko) (n : Nat) : List Seg := (List.range n).map fun i => Tbl.get {} v.shadow i

/-- A profile started at `a` would leave Y_MIN to Y_MAX (11 R471, R486). -/
def profileLeaves (v : Cko) (n : Nat) (a : Instant) : Bool :=
  let lim : Int := 1000000000000000
  (segEnds (v.phaseAt a).1 (v.profile n)).any fun y => decide (y < v.cfg.yMin * lim ∨ v.cfg.yMax * lim < y)

def bodyCkoProfileStart (c : Ctx) (s : State) : Res :=
  let r := c.r
  let o := r.f 4 0 3
  let n := r.f 4 8 7
  let v := s.cko o
  match c.a with
  | none => .fail State.stBadParam
  | some a =>
    refuseIf (!(v.state == .running || v.state == .bypass)) State.stState <|
    refuseIf (!r.only 4 0x7F07 || !decide (1 ≤ n ∧ n ≤ 64)) State.stBadParam <|
    refuseIf (profileLeaves v n a) State.stConflict <|
    refuseIf v.pend.isSome State.stBusy <|
    refuseIf (!s.pwr.cfgRun && decide (a < c.t + ms 1)) State.stTooLate <|
    .wait (s.setCko o { v with pend := some { s := a, jid := some c.jid, segs := v.profile n } })

/-- The reply of CKO_PHASE_GET at a latch instant (11 R487). -/
def ckoPhaseWords (s : State) (o : Nat) (l : Instant) : List Word :=
  let v := s.cko o
  instantWords l ++ words64 (v.cycles l % 18446744073709551616).toNat ++ [word (v.fraction l).toNat]
    ++ intervalWords ((v.phaseAt l).1 * 4096 / 1000000000) ++ [s.ckoStatus o l]

def bodyCkoPhaseGet (c : Ctx) (s : State) : Res :=
  refuseIf (!c.r.only 4 7) State.stBadParam <| .done s (ckoPhaseWords s (c.r.f 4 0 3) c.t)

/-- The output's state does not admit the action: a return that may not be, or BYPASS of one that does not run
(11 R474, R487). -/
def ckoCmdBad (s : State) (r : Req) : Bool :=
  let o := r.f 4 0 3
  let v := s.cko o
  if r.f 4 8 2 = 0 then !s.mayReturn o else !(v.state == .running || v.state == .bypass)

def bodyCkoCmd (c : Ctx) (s : State) : Res :=
  let r := c.r
  let o := r.f 4 0 3
  let act := r.f 4 8 2
  let v := s.cko o
  refuseIf (ckoCmdBad s r) State.stState <|
  refuseIf (!r.only 4 0x307 || decide (2 ≤ act)) State.stBadParam <|
  match c.a with
  | some a =>
    if !s.pwr.cfgRun && decide (a < c.t + ms 1) then .fail State.stTooLate
    else .wait (s.setCko o { v with waits := v.waits ++ [(if act = 0 then .back else .force, a, some c.jid)] })
  | none =>
    if act = 0 then .done (s.fromBypass o c.t)
    else if v.state = .running then .done (s.toBypass o 2 true c.t)
    else .done (s.setCko o { v with forced := true })

end Sys2Proof.Machine
end

