-- ==== Sys2Proof/Machine/Cores.lean ====
section
/-! DEFINITION. Application cores, event concentrator, counters and pallets (13 R525 to R569). -/

namespace Sys2Proof.Machine

namespace State

/-! ### Stopping a core (13 R528 to R530) -/

/-- Stops a core in the order of R530; answers the descriptors discarded. -/
def stopCore (s : State) (c : AppCore) (st : AcStatus) (t : Instant) : State × Nat :=
  let a := s.ac c
  let n := 2 ^ (a.injCfg % 16)
  let lost := (a.injWr + n - a.injRd % n) % n
  let s0 := match a.starting with
    | some x => s.finish x.1 stAborted [] t
    | none => s
  let keep := !(st == .empty || st == .held)
  let s1 := (s0.setAc c { a with
    status := st, tcm := if keep then a.tcm else [], starting := none, depth := 0, mie := false
    injRd := a.injWr, fromH0 := [], fromH1 := [] })
  let s2 := if lost = 0 then s1 else s1.countA c 2 lost
  -- commands not committed complete ABORTED; the replies of committed ones find the ring disabled
  let f := s2.fn c.sender
  let s3 := s2.setFn c.sender { f with enable := false, waiting := [], stalled := false, wr := 0, rd := 0, phase := false }
  let open_ := s3.host.journal.filter fun e => e.2.req.sender == c.sender && (e.2.state != .committed || e.2.posted)
  let s4 := open_.foldl (fun s e => s.closeJrec e.1) s3
  let s5 := { s4 with host := { s4.host with slots := Tbl.set none s4.host.slots (2 + c.sender.code) none } }
  let v := s5.target c.target
  let s6 := s5.setTarget c.target { v with
    pend := 0, inServ := 0, log := [], ovf := false
    timer0 := { v.timer0 with enable := false, next := none }
    timer1 := { v.timer1 with enable := false, next := none } }
  let gone := (List.range 160).foldl (fun (m : BitVec 160) src =>
    if (s6.route src).target == c.target then m ||| BitVec.ofNat 160 (2 ^ src) else m) 0
  ({ s6 with cores := { s6.cores with pendSh := s6.cores.pendSh &&& ~~~ gone } }, lost)

/-- A running core faults (13 R529): cause 1 watchdog, 2 TCM error, 3 trap in a handler's fetch. -/
def coreFault (s : State) (c : AppCore) (cause : Nat) (pc mcause : Word) (t : Instant) : State :=
  let s1 := (s.stopCore c .faulted t).1
  let s2 := s1.setAc c { s1.ac c with cause := cause, stopPc := pc, faultMcause := mcause, mcause := mcause }
  (s2.countA c 0).raise 0x0D00 104 [bytesBE 1 c.code, bytesBE 1 cause] t

end State

/-- AC_WATCHDOG_EXPIRY: WDOG µs since the last kick or the start. -/
def execAcWatchdogExpiry (core : AppCore) (pc mcause : Word) (t : Instant) (s : State) :
    Host.Outcome State Fault Refusal :=
  let s1 := s.tick t
  let a := s1.ac core
  if a.status = .running ∧ 0 < a.wdog ∧ a.lastKick + us a.wdog ≤ t then .next (s1.coreFault core 1 pc mcause t)
  else .next s1

/-- AC_FAULT: an uncorrectable TCM error, or a trap in the fetch of a handler. -/
def execAcFault (core : AppCore) (cause : Nat) (pc mcause : Word) (t : Instant) (s : State) :
    Host.Outcome State Fault Refusal :=
  let s1 := s.tick t
  if (s1.ac core).status = .running ∧ (cause = 2 ∨ cause = 3) then .next (s1.coreFault core cause pc mcause t)
  else .next s1

/-- WDOG_KICK: a running core writes its watchdog register. -/
def execWdogKick (core : AppCore) (t : Instant) (s : State) : Host.Outcome State Fault Refusal :=
  let s1 := s.tick t
  let a := s1.ac core
  if a.status = .running then .next (s1.setAc core { a with lastKick := t }) else .next s1

/-! ### Timers and TK_NOW (13 R535, R557) -/

/-- TK_NOW_READ: a read of word 0 latches the stamp timescale. -/
def execTkNowRead (target : Target) (t : Instant) (s : State) : Host.Outcome State Fault Refusal :=
  let s1 := s.tick t
  .next (s1.setTarget target { s1.target target with tkNow := instantWords t })

namespace State

/-- A timer whose instant has come raises its source and reloads. -/
def fireTimer (tm : EvcTimer) (t : Instant) : Option EvcTimer :=
  match tm.next with
  | none => none
  | some c => if t < c then none else some { tm with next := if tm.per = 0 then none else some (c + ns tm.per) }

/-- One EN bit written: an enable takes the compare instant as written; one already past fires at once. -/
def enableTimer (tm : EvcTimer) (on : Bool) (t : Instant) : EvcTimer × Bool :=
  if !on then ({ tm with enable := false, next := none }, false)
  else if tm.enable then (tm, false)
  else
    let c := instantOfWords (tm.cmp.getD 0 0) (tm.cmp.getD 1 0) (tm.cmp.getD 2 0) (tm.cmp.getD 3 0)
    if t ≤ c then ({ tm with enable := true, next := some c }, false)
    else
      let n := if tm.per = 0 then none else some (c + ((t - c) / ns tm.per + 1) * ns tm.per)
      ({ tm with enable := true, next := n }, true)

end State

/-- EVC_TIMER_EXPIRY: TIMER0 or TIMER1 of a target reaches its compare instant. -/
def execEvcTimerExpiry (target : Target) (n : Nat) (t : Instant) (s : State) :
    Host.Outcome State Fault Refusal :=
  let s1 := s.tick t
  let v := s1.target target
  if 2 ≤ n then .next s1
  else if n = 0 then
    match State.fireTimer v.timer0 t with
    | none => .next s1
    | some x => .next ((s1.setTarget target { v with timer0 := x }).raisePrivate target 160)
  else
    match State.fireTimer v.timer1 t with
    | none => .next s1
    | some x => .next ((s1.setTarget target { v with timer1 := x }).raisePrivate target 161)

/-- TIMER_ENABLE: a write of TIMER_CTRL. -/
def execTimerEnable (target : Target) (value : Nat) (t : Instant) (s : State) :
    Host.Outcome State Fault Refusal :=
  let s1 := s.tick t
  let v := s1.target target
  let a := State.enableTimer v.timer0 (flag value 0) t
  let b := State.enableTimer v.timer1 (flag value 1) t
  let s2 := s1.setTarget target { v with timer0 := a.1, timer1 := b.1 }
  let s3 := if a.2 then s2.raisePrivate target 160 else s2
  .next (if b.2 then s3.raisePrivate target 161 else s3)

/-! ### Messages (13 R531, R536, R537) -/

namespace State

def msgRight (a : AcState) : HostPort → Bool
  | .h0 => a.permits.getLsbD 3
  | .h1 => a.permits.getLsbD 4

/-- The eight words of a message register. -/
def msgWords (m : Tbl Word) (base : Nat) : List Word := (List.range 8).map fun w => Tbl.get 0 m (base + w)

/-- A core sends MSG_TX to one host. -/
def sendToHost (s : State) (c : AppCore) (h : HostPort) : State :=
  let a := s.ac c
  let q := match h with | .h0 => a.toH0 | .h1 => a.toH1
  if 16 ≤ q.length ∨ !msgRight a h then s.countA c 4
  else
    let q1 := q ++ [msgWords a.msgTx 0]
    let s1 := s.setAc c (match h with | .h0 => { a with toH0 := q1 } | .h1 => { a with toH1 := q1 })
    (s1.countA c 3).ringDbBoth h (8 + c.code)

/-- A host sends AC_MSG_TX to one core. -/
def sendToCore (s : State) (h : HostPort) (c : AppCore) : State :=
  let a := s.ac c
  let q := match h with | .h0 => a.fromH0 | .h1 => a.fromH1
  if 16 ≤ q.length ∨ !msgRight a h then s.countA c 6
  else
    let q1 := q ++ [msgWords (s.hostRegs h).acMsgTx (8 * c.code)]
    let s1 := s.setAc c (match h with | .h0 => { a with fromH0 := q1 } | .h1 => { a with fromH1 := q1 })
    (s1.countA c 5).raisePrivate c.target (164 + h.code)

end State

/-- AC_MSG_SEND: a running core writes SEND bits of MSG_CTRL. -/
def execAcMsgSend (core : AppCore) (toH0 toH1 : Bool) (t : Instant) (s : State) :
    Host.Outcome State Fault Refusal :=
  let s1 := s.tick t
  if (s1.ac core).status ≠ .running then .next s1
  else
    let s2 := if toH0 then s1.sendToHost core .h0 else s1
    .next (if toH1 then s2.sendToHost core .h1 else s2)

/-- AC_MSG_POP: a running core writes POP bits of MSG_CTRL. -/
def execAcMsgPop (core : AppCore) (popH0 popH1 : Bool) (t : Instant) (s : State) :
    Host.Outcome State Fault Refusal :=
  let s1 := s.tick t
  let a := s1.ac core
  if a.status ≠ .running then .next s1
  else
    .next (s1.setAc core { a with
      fromH0 := if popH0 then a.fromH0.drop 1 else a.fromH0
      fromH1 := if popH1 then a.fromH1.drop 1 else a.fromH1 })

/-- HOST_MSG_SEND: a host writes SEND bits of AC_MSG_CTRL. -/
def execHostMsgSend (h : HostPort) (ac0 ac1 : Bool) (t : Instant) (s : State) :
    Host.Outcome State Fault Refusal :=
  let s1 := s.tick t
  if s1.hostOff h.pf0 then .next s1
  else
    let s2 := if ac0 then s1.sendToCore h .ac0 else s1
    .next (if ac1 then s2.sendToCore h .ac1 else s2)

/-- POP: a host discards the oldest word a core sent it. -/
def State.popFromCore (s : State) (h : HostPort) (c : AppCore) : State :=
  let a := s.ac c
  s.setAc c (match h with | .h0 => { a with toH0 := a.toH0.drop 1 } | .h1 => { a with toH1 := a.toH1.drop 1 })

/-- HOST_MSG_POP: a host writes POP bits of AC_MSG_CTRL. -/
def execHostMsgPop (h : HostPort) (ac0 ac1 : Bool) (t : Instant) (s : State) :
    Host.Outcome State Fault Refusal :=
  let s1 := s.tick t
  let s2 := if ac0 then s1.popFromCore h .ac0 else s1
  .next (if ac1 then s2.popFromCore h .ac1 else s2)

/-! ### The event concentrator (13 R538 to R547) -/

/-- EVC_EVENT: an event of a shared source occurs. -/
def execEvcEvent (code source : Nat) (params : List Byte) (latched : Bool) (t : Instant) (s : State) :
    Host.Outcome State Fault Refusal :=
  let s1 := s.tick t
  if 160 ≤ source then .next s1 else .next (s1.raise code source [params.take 20] t latched)

namespace State

/-- A source is claimed: an edge stops pending, and it is in service. -/
def claimSource (s : State) (t : Target) (src : Nat) : State :=
  let s1 := if src < 160 then
      { s with cores := { s.cores with pendSh := s.cores.pendSh &&& ~~~ BitVec.ofNat 160 (2 ^ src) } }
    else s
  let v := s1.target t
  s1.setTarget t { v with
    pend := if 160 ≤ src then v.pend &&& ~~~ BitVec.ofNat 16 (2 ^ (src - 160)) else v.pend
    inServ := v.inServ ||| BitVec.ofNat 176 (2 ^ src) }

end State

/-- EVC_CLAIM: a whole-word read of EVC_CLAIM; the value it returns is kept in `lastRead` (R544). -/
def execEvcClaim (target : Target) (t : Instant) (s : State) : Host.Outcome State Fault Refusal :=
  let s1 := s.tick t
  match s1.bestClaim target with
  | some src =>
    let s2 := s1.claimSource target src
    .next { s2 with host := { s2.host with lastRead := [word (2147483648 + src)] } }
  | none =>
    let s2 := s1.count (0x7EF0 + 2 * target.code + 1)
    .next { s2 with host := { s2.host with lastRead := [0] } }

/-- EVC_COMPLETE: ends the service of a source (R544). -/
def execEvcComplete (target : Target) (source : Nat) (t : Instant) (s : State) :
    Host.Outcome State Fault Refusal :=
  let s1 := s.tick t
  let v := s1.target target
  if 176 ≤ source ∨ !v.inServ.getLsbD source then .next s1
  else
    let s2 := s1.setTarget target { v with inServ := v.inServ &&& ~~~ BitVec.ofNat 176 (2 ^ source) }
    let s3 := match target.host with
      | some h => if 0 < s2.claimCount target then s2.ringDbBoth h 16 else s2
      | none => s2
    .next (if source < 160 ∧ s1.effTarget (s1.route source).target ≠ target then
      State.recheck s1 s3 (s1.effTarget (s1.route source).target) else s3)

/-- EVLOG_POP: removes the head record. -/
def execEvlogPop (target : Target) (t : Instant) (s : State) : Host.Outcome State Fault Refusal :=
  let s1 := s.tick t
  let v := s1.target target
  .next (s1.setTarget target { v with log := v.log.drop 1 })

/-- EVC_SOFT_SET: raises source 128 + n. -/
def execEvcSoftSet (_target : Target) (n : Nat) (t : Instant) (s : State) : Host.Outcome State Fault Refusal :=
  .next ((s.tick t).raise 0x0C00 (128 + n % 32) [] t)

/-! ### Delivery to a core (13 R545, R546) -/

namespace State

def groupAt (s : State) (t : Target) (src : Nat) : Nat := s.prioAt t src / 2 ^ (s.target t).split

/-- The core's level: the highest group among its sources in service. -/
def levelIn (s : State) (t : Target) : Option Nat :=
  (List.range 176).foldl (fun best src =>
    if (s.target t).inServ.getLsbD src then
      match best with
      | none => some (s.groupAt t src)
      | some b => some (max b (s.groupAt t src))
    else best) none

/-- The source that would be delivered: claimable, its group above the core's level. -/
def deliverable (s : State) (t : Target) : Option Nat :=
  match s.bestClaim t with
  | none => none
  | some src =>
    match s.levelIn t with
    | none => some src
    | some l => if l < s.groupAt t src then some src else none

/-- The registers that an entry stores, in order: ra, t0 to t6, a0 to a7. -/
def savedRegs : List Nat := [1, 5, 6, 7, 28, 29, 30, 31, 10, 11, 12, 13, 14, 15, 16, 17]

/-- mstatus with its MIE bit. -/
def mstatusOf (a : AcState) : Word := (a.mstatus &&& 0xFFFFFFF7#32) ||| (if a.mie then 8#32 else 0#32)

/-- Stores words in TCM; a word outside TCM is not stored. -/
def tcmStore (m : Memory) (addr : Nat) : List Word → Memory
  | [] => m
  | w :: r => tcmStore (if addr + 4 ≤ 262144 then m.writeWord addr w else m) (addr + 4) r

/-- The last two cycles of an entry: the vector of the source is read and the source claimed. -/
def enterVector (s : State) (c : AppCore) (src : Nat) : State :=
  let s1 := s.claimSource c.target src
  let a := s1.ac c
  s1.setAc c { a with
    pc := a.tcm.readWord ((s1.target c.target).vtBase + 4 * src), mie := false, mcause := 0x8000000B#32 }

end State

/-- Delivery at `pc`: 18 words are stored below sp, and the handler of `src` is entered (13 R546). -/
def State.coreDelivers (s : State) (core : AppCore) (pc : Word) (src : Nat) : State :=
  let a := s.ac core
  let sp := ((Tbl.get 0 a.regs 2).toNat + 4294967296 - 72) % 4294967296
  let ws := State.savedRegs.map (fun i => Tbl.get 0 a.regs i) ++ [pc, State.mstatusOf a]
  let s2 := s.setAc core { a with
    mepc := pc, tcm := State.tcmStore a.tcm sp ws, regs := Tbl.set 0 a.regs 2 (word sp), depth := a.depth + 1 }
  s2.enterVector core src

/-- The return from a delivered handler: the 18 words are restored and the pc returns (13 R546). -/
def State.coreReturns (s : State) (core : AppCore) : State :=
  let a := s.ac core
  let sp := (Tbl.get 0 a.regs 2).toNat
  let w := fun i => a.tcm.readWord (sp + 4 * i)
  let regs := (List.range 16).foldl (fun (r : Tbl Word) i => Tbl.set 0 r (State.savedRegs.getD i 1) (w i)) a.regs
  s.setAc core { a with
    regs := Tbl.set 0 regs 2 (word (sp + 72)), mepc := w 16, pc := w 16, mstatus := w 17 &&& 0xFFFFFFF7#32
    mie := (w 17).getLsbD 3, depth := a.depth - 1 }

/-- EVC_DELIVERY: a core at `pc` takes its best claimable source: 18 words are stored below sp, MIE is cleared
and the handler's address is read. -/
def execEvcDelivery (core : AppCore) (pc : Word) (t : Instant) (s : State) :
    Host.Outcome State Fault Refusal :=
  let s1 := s.tick t
  let a := s1.ac core
  if a.status ≠ .running ∨ !a.mie then .next s1
  else
    match s1.deliverable core.target with
    | none => .next s1
    | some src => .next (s1.coreDelivers core pc src)

/-- EVC_EXIT: the mret of a delivered handler. With a source claimable against the level it would return to,
the core tail-chains; else the 18 words are restored and it returns. -/
def execEvcExit (core : AppCore) (t : Instant) (s : State) : Host.Outcome State Fault Refusal :=
  let s1 := s.tick t
  let a := s1.ac core
  if a.status ≠ .running ∨ a.depth = 0 then .next s1
  else
    match s1.deliverable core.target with
    | some src => .next (s1.enterVector core src)
    | none => .next (s1.coreReturns core)

/-! ### Pallets (13 R553, R554) -/

namespace State

/-- The first whole µs at or after an instant. -/
def usCeil (t : Instant) : Instant := (t + 65535999) / 65536000 * 65536000

def snapBusy (s : State) : Bool := s.cores.snaps.any (·.begun)

def setSnaps (s : State) (l : List Snapshot) : State := { s with cores := { s.cores with snaps := l } }

/-- A snapshot that finds another in progress is not taken. -/
def refuseSnap (t : Instant) (s : State) (x : Snapshot) : State :=
  let s1 := s.setSnaps (s.cores.snaps.filter (· != x))
  let s2 := if x.byReg then { s1 with cores := { s1.cores with missed := true } } else s1
  s2.finishOpt x.jid stBusy [] t

/-- The counters of time are brought up to an instant: FOOTING_NS, and PAUSED_NS of each port in pause. -/
def counted (s : State) (t : Instant) : State := (s.footTime t).pausedTime t

/-- A snapshot begins: VALID falls, SEQ rises, the counters are copied; increments keyed before T that are still to come
follow (`countPast`). -/
def beginSnap (s0 : State) (x : Snapshot) : State :=
  let s := s0.counted s0.now
  let n := if x.pallet = 2 then 1 - s.cores.palletLast else x.pallet
  let p := s.pallet n
  let s1 := s.setPallet n { p with valid := false, seq := (p.seq + 1) % 256, image := s.cores.counters }
  s1.setSnaps (s1.cores.snaps.map fun y => if y = x then { x with begun := true, pallet := n } else y)

end State

/-- PALLET_TRIGGER: a write of PALLET_CTRL with SNAP. -/
def execPalletTrigger (pallet : Nat) (t : Instant) (s : State) : Host.Outcome State Fault Refusal :=
  let s1 := s.tick t
  if 3 ≤ pallet then .next s1
  else if s1.snapBusy then .next { s1 with cores := { s1.cores with missed := true } }
  else
    .next (s1.setSnaps (s1.cores.snaps ++ [{ t := State.usCeil (t + us 2), pallet := pallet, byReg := true }]))

/-- The next periodic snapshot, once its instant has come (13 R551). -/
def State.periodicDue (s : State) (t : Instant) : State :=
  match s.cores.periodic with
  | some (p, ms_) =>
    if p ≤ t then
      { s with cores := { s.cores with
        periodic := some (p + ms ms_, ms_), perJid := none
        snaps := s.cores.snaps ++ [({ t := p, pallet := 2, jid := s.cores.perJid } : Snapshot)] } }
    else s
  | none => s

/-- The snapshots that have not begun and whose T has come. -/
def State.snapsDue (s : State) (t : Instant) : List Snapshot :=
  s.cores.snaps.filter fun x => !x.begun && decide (x.t ≤ t)

/-- A due snapshot begins, or is refused while one is under way (13 R551). -/
def State.startSnap (t : Instant) (s : State) (x : Snapshot) : State :=
  if s.snapBusy then s.refuseSnap t x else s.beginSnap x

/-- The copy of `x` is complete: the pallet's T and VALID, the last pallet, its count and its event. -/
def State.snapDone (s : State) (x : Snapshot) (t : Instant) : State :=
  let p := s.pallet x.pallet
  let s2 := (s.setPallet x.pallet { p with t := x.t, valid := true }).setSnaps (s.cores.snaps.filter (· != x))
  let s3 := { s2 with cores := { s2.cores with palletLast := x.pallet } }
  ((s3.countD 13).raise 0x0700 103 [bytesBE 1 x.pallet, bytesBE 1 p.seq] t).finishOpt x.jid State.stOk [] t

/-- The SHA-384 of an image: its entry, then its bytes in the TCM (13 R537). -/
def State.imageHash (s : State) (core : AppCore) (r : Req) : List Byte :=
  sha384 (bytesBE 4 (r.w 6) ++ (s.ac core).tcm.readN 0 (r.w 5))

/-- A verified core runs from its entry (13 R537). -/
def State.coreRuns (s : State) (core : AppCore) (r : Req) (h : List Byte) (t : Instant) : State :=
  s.setAc core { s.ac core with
    starting := none, status := .running, cause := 0, pc := word (r.w 6), mie := false, depth := 0, length := r.w 5
    entry := r.w 6, wdog := r.f 7 0 20, lastKick := t
    hash := (List.range 12).map fun i => word (natBE ((h.drop (4 * i)).take 4)) }

/-- PALLET_SNAPSHOT_START: snapshots whose T has come: the first begins, and a trigger that finds one in
progress takes none. -/
def execPalletSnapshotStart (t : Instant) (s : State) : Host.Outcome State Fault Refusal :=
  let s1 := s.tick t
  let s2 := s1.periodicDue t
  .next ((s2.snapsDue t).foldl (State.startSnap t) s2)

/-- PALLET_DONE: the copy is complete. -/
def execPalletDone (t : Instant) (s : State) : Host.Outcome State Fault Refusal :=
  let s1 := s.tick t
  match s1.cores.snaps.find? (·.begun) with
  | none => .next s1
  | some x => .next (s1.snapDone x t)

/-! ### Commands: application cores (13 R562 to R565) -/

/-- The core a command names. -/
def coreOf (r : Req) : AppCore := if r.b 4 0 then .ac1 else .ac0

def AcStatus.code : AcStatus → Nat
  | .empty => 0 | .loaded => 1 | .running => 2 | .stopped => 3 | .faulted => 4 | .held => 5

/-- An offset of whole words, and data that fits the TCM (13 R562). -/
def okAcLoad (r : Req) : Bool :=
  r.only 4 0x101 && r.only 5 0x3FFFF && decide (r.f 5 0 18 % 4 = 0) && decide (r.f 5 0 18 + 4 * (r.pw - 2) ≤ 262144)
def loadData (r : Req) : List Word := (List.range (r.pw - 2)).map fun i => word (r.w (6 + i))

def bodyAcLoad (c : Ctx) (s : State) : Res :=
  let r := c.r
  let k := coreOf r
  let a := s.ac k
  refuseIf (a.status == .running || a.status == .held) State.stState <|
  refuseIf (!okAcLoad r) State.stBadParam <|
  let base : Memory := if r.b 4 8 then [] else a.tcm
  .done (s.setAc k { a with tcm := base.writeWords (r.f 5 0 18) (loadData r), status := .loaded })

/-- The key of a kind in use: the enrolled slot with the lowest number that is not revoked (14 R592). -/
def activeKey (l : List OtpKey) : Option (List Byte) :=
  match l.find? fun k => !k.revoked with
  | some k => some k.key
  | none => none

/-- 48 bytes given in 12 words, the first byte highest. -/
def sigNat (r : Req) (i : Nat) : Nat := (List.range 12).foldl (fun n j => n * 4294967296 + r.w (i + j)) 0

/-- LENGTH 4 to 262,144 bytes in whole words, ENTRY within it, WDOG 0 or 10 to 1,000,000 µs (13 R563). -/
def okAcStart (r : Req) : Bool :=
  let len := r.w 5
  let wd := r.f 7 0 20
  r.only 4 1 && decide (len % 4 = 0) && decide (4 ≤ len ∧ len ≤ 262144) && decide (r.w 6 < len)
    && r.only 7 0xFFFFF && (wd == 0 || decide (10 ≤ wd ∧ wd ≤ 1000000))

def bodyAcStart (c : Ctx) (s : State) : Res :=
  let r := c.r
  let k := coreOf r
  let a := s.ac k
  refuseIf (!(a.status == .loaded || a.status == .stopped || a.status == .faulted)) State.stState <|
  refuseIf (!okAcStart r) State.stBadParam <|
  refuseIf a.starting.isSome State.stBusy <|
  if (activeKey s.pwr.otp.apps).isNone then .fail State.stNotPermitted [1]
  else .wait (s.setAc k { a with starting := some (c.jid, r) })

/-- AC_IMAGE_VERIFIED: the check of an AC_START ends, and the core runs or the command fails. -/
def execAcImageVerified (core : AppCore) (t : Instant) (s : State) : Host.Outcome State Fault Refusal :=
  let s1 := s.tick t
  let a := s1.ac core
  match a.starting with
  | none => .next s1
  | some (j, r) =>
    let s2 := s1.setAc core { a with starting := none }
    match activeKey s1.pwr.otp.apps with
    | none => .next (s2.finish j State.stNotPermitted [1] t)
    | some key =>
      let h := s1.imageHash core r
      if !ecdsaOk key h (sigNat r 8) (sigNat r 20) then .next (s2.finish j State.stNotPermitted [2] t)
      else .next ((s2.coreRuns core r h t).finish j State.stOk [] t)

def bodyAcStop (c : Ctx) (s : State) : Res :=
  let k := coreOf c.r
  refuseIf ((s.ac k).status != .running) State.stState <|
  refuseIf (!c.r.only 4 1) State.stBadParam <|
  let x := s.stopCore k .stopped c.t
  let a := x.1.ac k
  .done (x.1.setAc k { a with stopPc := a.pc }) [word x.2]

/-- Words 5 on of the reply of AC_STATUS_GET (13 R564). -/
def AcState.words (a : AcState) : List Word :=
  [word (a.cause * 16 + a.status.code), a.stopPc, a.faultMcause, word a.length] ++ a.hash

def bodyAcStatusGet (c : Ctx) (s : State) : Res :=
  refuseIf (!c.r.only 4 1) State.stBadParam <| .done s (word (c.r.w 4) :: (s.ac (coreOf c.r)).words)

def bodyAcPermitSet (c : Ctx) (s : State) : Res :=
  let k := coreOf c.r
  refuseIf (!c.r.only 4 0x3F01) State.stBadParam <|
  .done (s.setAc k { s.ac k with permits := BitVec.ofNat 6 (c.r.f 4 8 6) })

def bodyAcPermitGet (c : Ctx) (s : State) : Res :=
  let k := coreOf c.r
  refuseIf (!c.r.only 4 1) State.stBadParam <|
  .done s [word ((s.ac k).permits.toNat * 256 + k.code)]

/-! ### Commands: the event concentrator (13 R541, R566) -/

/-- The claims of both hosts are looked at again after a change of routes or priorities (13 R544). -/
def State.recheckHosts (before s : State) : State := State.recheck before (State.recheck before s .h0) .h1

/-- PW of EVC_ROUTE_SET. -/
def routePw (r : Req) : Nat := 1 + r.f 4 0 6

/-- One to 32 routes of shared sources to targets other than CC1 (13 R566). -/
def okEvcRouteSet (r : Req) : Bool :=
  r.only 4 0x3F && decide (1 ≤ r.f 4 0 6 ∧ r.f 4 0 6 ≤ 32)
    && (List.range (r.f 4 0 6)).all fun i =>
      r.only (5 + i) 0xFF07FF && decide (r.f (5 + i) 0 8 < 160) && r.f (5 + i) 8 3 != 3 && decide (r.f (5 + i) 8 3 ≤ 5)

/-- The source of an event pin that a core owns goes to another target (13 R541). -/
def evcRouteClash (s : State) (r : Req) : Bool :=
  (List.range (r.f 4 0 6)).any fun i =>
    let src := r.f (5 + i) 0 8
    let owner := (s.pin (src - 64)).cfg.owner
    decide (64 ≤ src ∧ src < 72) && owner != 0 && r.f (5 + i) 8 3 != owner + 3

/-- Writes the packet's routes. -/
def putRoutes (r : Req) (m : Tbl Route) : Tbl Route :=
  (List.range (r.f 4 0 6)).foldl (fun (m : Tbl Route) i =>
    Tbl.set {} m (r.f (5 + i) 0 8) ⟨r.f (5 + i) 16 8, (Target.ofCode (r.f (5 + i) 8 3)).getD .cc0⟩) m

def bodyEvcRouteSet (c : Ctx) (s : State) : Res :=
  refuseIf (!okEvcRouteSet c.r) State.stBadParam <|
  refuseIf (evcRouteClash s c.r) State.stConflict <|
  .done (State.recheckHosts s { s with cores := { s.cores with routes := putRoutes c.r s.cores.routes } })

/-- COUNT routes from FIRST, within the 160. -/
def okEvcRouteGet (r : Req) : Bool :=
  r.only 4 0x3FFF && decide (1 ≤ r.f 4 8 6 ∧ r.f 4 8 6 ≤ 32) && decide (r.f 4 0 8 + r.f 4 8 6 ≤ 160)
def routeWord (s : State) (src : Nat) : Word :=
  word ((s.route src).prio * 65536 + (s.route src).target.code * 256 + src)

def bodyEvcRouteGet (c : Ctx) (s : State) : Res :=
  refuseIf (!okEvcRouteGet c.r) State.stBadParam <|
  .done s (word (c.r.f 4 8 6) :: (List.range (c.r.f 4 8 6)).map fun i => routeWord s (c.r.f 4 0 8 + i))

/-- The target that an EVC_TARGET command names: a host or an application core (13 R566). -/
def evcTargetOf (r : Req) : Option Target :=
  if r.f 4 0 3 = 2 ∨ r.f 4 0 3 = 3 then none else Target.ofCode (r.f 4 0 3)
def targetPrios (r : Req) : Tbl Nat :=
  (List.range 16).foldl (fun (m : Tbl Nat) i => Tbl.set 0 m i (r.f (5 + i / 4) (8 * (i % 4)) 8)) []

def bodyEvcTargetSet (c : Ctx) (s : State) : Res :=
  match evcTargetOf c.r with
  | none => .fail State.stBadParam
  | some t =>
    refuseIf (!c.r.only 4 0x707) State.stBadParam <|
    .done (State.recheckHosts s (s.setTarget t { s.target t with split := c.r.f 4 8 3, prio := targetPrios c.r }))

/-- The four words of the private priorities of a target. -/
def EvcTarget.prioWords (v : EvcTarget) : List Word :=
  (List.range 4).map fun k => word ((List.range 4).foldl (fun n j => n + Tbl.get 0 v.prio (4 * k + j) * 2 ^ (8 * j)) 0)

def bodyEvcTargetGet (c : Ctx) (s : State) : Res :=
  match evcTargetOf c.r with
  | none => .fail State.stBadParam
  | some t =>
    refuseIf (!c.r.only 4 7) State.stBadParam <|
    .done s (word ((s.target t).split * 256 + c.r.f 4 0 3) :: (s.target t).prioWords)

/-! ### Commands: counters and pallets (13 R567, R568) -/

/-- PF0 may read counters (13 R556, 14 R590). -/
def State.countersPf0 (s : State) (x : Sender) : Bool := x.pf1 || x.core.isSome || s.pwr.policy.getLsbD 3

/-- The overflow words and the values of COUNT counters from FIRST. -/
def counterWords (f : Nat → Nat) (first n : Nat) : List Word × List Word :=
  ((List.range 8).map fun w => word ((List.range 32).foldl (fun m b =>
      if 32 * w + b < n ∧ f (first + 32 * w + b) = State.counterMax then m + 2 ^ b else m) 0)
   , (List.range n).flatMap fun i => words64 (f (first + i)))

/-- COUNT 1 to `most` counters from FIRST, within the 32,768 indices (13 R567, R568). -/
def okCounters (r : Req) (mask4 mask5 most : Nat) : Bool :=
  let n := r.f 5 0 9
  r.only 4 mask4 && r.only 5 mask5 && decide (1 ≤ n ∧ n ≤ most) && decide (r.f 4 0 15 + n ≤ 32768)

def bodyCounterGet (c : Ctx) (s : State) : Res :=
  refuseIf (!s.countersPf0 c.r.sender) State.stNotPermitted <|
  refuseIf (!okCounters c.r 0x7FFF 0x1FF 256) State.stBadParam <|
  let x := counterWords (s.counted c.t).counter (c.r.f 4 0 15) (c.r.f 5 0 9)
  .done s ([word (c.r.w 4), word (c.r.w 5)] ++ x.1 ++ x.2)

def bodyPalletGet (c : Ctx) (s : State) : Res :=
  let p := s.pallet (c.r.f 4 31 1)
  refuseIf (!s.countersPf0 c.r.sender) State.stNotPermitted <|
  refuseIf (!p.valid) State.stState <|
  refuseIf (!okCounters c.r 0x80007FFF 0x1FF 256) State.stBadParam <|
  let x := counterWords (fun i => Tbl.get 0 p.image i) (c.r.f 4 0 15) (c.r.f 5 0 9)
  .done s ([word (c.r.w 4), word (c.r.w 5)] ++ x.1 ++ instantWords p.t ++ x.2)

/-- The instant of a snapshot: A, or the first whole µs at least 50 µs after the command (13 R568). -/
def snapInstant (a : Option Instant) (t : Instant) : Instant :=
  match a with
  | some a => a
  | none => State.usCeil (t + us 50)
def okPalletSnapshot (r : Req) : Bool := r.only 4 0x80000003 && decide (r.f 4 0 2 ≤ 2) && decide (r.w 5 ≤ 60000)

def bodyPalletSnapshot (c : Ctx) (s : State) : Res :=
  let r := c.r
  let per := r.b 4 31
  let pal := r.f 4 0 2
  let n := r.w 5
  let at_ := snapInstant c.a c.t
  refuseIf (!okPalletSnapshot r) State.stBadParam <|
  if per && n == 0 then
    .done (({ s with cores := { s.cores with periodic := none, perJid := none } }).finishOpt s.cores.perJid
      State.stAborted [] c.t)
  else if s.snapBusy then .fail State.stBusy
  else if at_ ≤ c.t then .fail State.stTooLate
  else if per then
    let s1 := s.finishOpt s.cores.perJid State.stAborted [] c.t
    .wait { s1 with cores := { s1.cores with periodic := some (at_, n), perJid := some c.jid } }
  else .wait (s.setSnaps (s.cores.snaps ++ [{ t := at_, pallet := pal, jid := some c.jid }]))

/-! ### The counter catalogue (13 R551, R552, R568) -/

def queueNames : List String := [
  "ENQ_FRAMES", "ENQ_BYTES", "TX_FRAMES", "TX_BYTES", "CUT_THROUGH", "DROP_DOWN", "DROP_DP", "DROP_QMAX",
  "DROP_SHARED", "DROP_C7", "DROP_FW", "AGED", "EGRESS_BAD_DISCARD", "CUT_POISON", "CUT_UNDERRUN", "BUF_ECC_DROP",
  "DISABLE_DISCARD", "EXTRACT_DROP", "ECN_MARKED", "ECN_CE_SEEN", "ECN_NONECT_OVER", "FOOTING_DROP"]

def portNames : List String := [
  "RX_FRAMES", "RX_BYTES", "RX_SYMBOL_ABORT", "RX_LOCK_ABORT", "RX_OVERSIZE", "RX_RUNT", "RX_FCS_ERROR",
  "INGRESS_OVERRUN", "STEP_DISCARD", "INCLUDE_DISCARD", "STALL_DISCARD", "IPV4_HDR_ERROR", "IPV6_HDR_ERROR",
  "METER_GREEN", "METER_YELLOW", "METER_RED", "SEQGEN_RETAG", "REC_FOREIGN", "SA_MULTICAST", "FLAP_SUPPRESS",
  "LEARN_LIMIT_DROP", "TTL_TRAP", "ROUTED"]

def frontNames : List String := [
  "PAUSE_RX", "PAUSE_IGNORED", "PAUSE_CEILING", "PAUSED_NS", "MAC_CTRL_UNSUPPORTED", "LAUNCH_ON_TIME",
  "LAUNCH_LATE", "LAUNCH_LATE_DROP", "LAUNCH_EMPTY", "LAUNCH_NO_ENTRY", "LAUNCH_OVERSIZE", "LAUNCH_SWAP",
  "LAUNCH_STEP", "LAUNCH_MISSING", "STAMP_SKIP", "TF_TX", "TF_RX", "TF_BAD", "MARK_KEPT", "MARK_DUP", "MARK_BAD",
  "MARK_MISS", "MARK_SEQ_JUMP", "MEAS_DELIVERED", "MEAS_MISSING", "MEAS_STEP", "MEAS_INVALID", "RTT_JUMP",
  "LINK_UP", "LINK_DOWN", "FALLBACK", "CODE_ERR", "FEC_CORR", "FEC_UNCORR", "PARK_ENTRY", "PARK_EXIT",
  "PARK_EXIT_FAIL", "MODULE_ALARM", "EQ_UPDATE"]

def recoveryNames : List String := [
  "PASSED", "DUPLICATE", "OUT_OF_ORDER", "ROGUE", "LOST", "TAGLESS", "RESETS"]

def keeperNames : List String := [
  "OFFSET_REFUSED", "STEER_CLAMP", "REF_SWITCH", "STEP_APPLIED", "PHASE_BUILDOUT", "HOLDOVER_ENTRY", "LOST_ENTRY",
  "KEEPER_RESTART"]

def pinNames : List String := [
  "EVT_IN_RECORDS", "EVT_IN_CLOSE", "EVT_IN_FILTERED", "EVT_IN_DROP", "EVT_OUT_EDGES", "EVT_OUT_LATE",
  "EVT_STEP_SKIP"]

def chanNames : List String := [
  "TIM_OK", "TIM_STOP_UNPAIRED", "TIM_START_EXTRA", "TIM_OVERRANGE", "TIM_GATE_CUT", "TIM_NOREF", "TIM_ABORTED",
  "TIM_RAW_DROP"]

def hostNames : List String := [
  "BAR0_BAD_WRITE", "SEM_DENIED", "MB_COLLIDE", "MB_TIMEOUT_CNT", "REPLY_DISCARD", "CMD_TAKEN"]

def coreNames : List String := [
  "AC_FAULT", "INJECT_FRAMES", "INJECT_DROP", "MSG_TX", "MSG_TX_FULL", "MSG_RX", "MSG_RX_FULL"]

def deviceNames : List String := [
  "TABLE_ECC_CORR", "L2_FULL", "LEARN_Q_DROP", "LEARN_STALE", "L2_MOVE", "BUF_ECC_CORR", "BRICK_TAG_ERROR",
  "HANDOVER", "LEASE_EXPIRY", "CELL_FIX", "CORE_TAKEOVER", "FOOTING_ENTRY", "FOOTING_NS", "PALLET_SNAP"]

/-- The item of a block at an index: its instances from `base`, `stride` apart. -/
def itemName (names : List String) (base stride count i : Nat) : Option String :=
  if i < base ∨ base + stride * count ≤ i then none else names[(i - base) % stride]?

/-- The name of a port's item. -/
def portItem (p k : Nat) : Option String :=
  if k < 23 then portNames[k]?
  else if (33 ≤ k ∧ k ≤ 41) ∨ (48 ≤ k ∧ k ≤ 58) then some "INGRESS_DISCARD"
  else if 64 ≤ k ∧ p < 64 then frontNames[k - 64]?
  else none

/-- The counter at an index; none names no counter (13 R551). -/
def counterName (i : Nat) : Option String :=
  if i < 17408 then
    if i % 32 = 17 then (if 64 ≤ i / 256 ∧ i / 256 ≤ 66 then queueNames[17]? else none) else queueNames[i % 32]?
  else if i < 0x6600 then portItem ((i - 0x4400) / 128) ((i - 0x4400) % 128)
  else if i < 0x6E00 then (if i < 0x6608 then none else recoveryNames[(i - 0x6600) % 8]?)
  else if i < 0x7E00 then some "FF_SWITCH"
  else if i < 0x7E20 then itemName keeperNames 0x7E00 16 2 i
  else if i < 0x7E30 then some "DISQUALIFIED"
  else if i < 0x7E80 then itemName pinNames 0x7E40 8 8 i
  else if i < 0x7EA0 then itemName chanNames 0x7E80 8 4 i
  else if i < 0x7EC0 then itemName ["CKO_BYPASS", "CKO_RETURN", "CKO_STEP"] 0x7EA0 4 8 i
  else if i < 0x7EC4 then some "PLL_UNLOCK"
  else if i < 0x7EC8 then itemName ["BAND_HOP", "BAND_SEARCH"] 0x7EC4 2 2 i
  else if i < 0x7ED0 then itemName ["I2C_NACK", "I2C_STUCK"] 0x7EC8 2 4 i
  else if i < 0x7EF0 then itemName hostNames 0x7ED0 8 4 i
  else if i < 0x7EFC then itemName ["EVLOG_DROP", "EVC_SPURIOUS"] 0x7EF0 2 6 i
  else if i < 0x7F00 then none
  else if i < 0x7F10 then itemName coreNames 0x7F00 8 2 i
  else itemName deviceNames 0x7F40 64 1 i

/-- The seven words of a name in ASCII, the first character lowest, padded with NUL. -/
def nameWords (x : String) : List Word :=
  let cs := x.toList.map Char.toNat
  (List.range 7).map fun w => word ((List.range 4).foldl (fun n j => n + cs.getD (4 * w + j) 0 * 2 ^ (8 * j)) 0)

/-- The entry of a counter in the catalogue: VALID, its index and its name (13 R568). -/
def catalogWords (i : Nat) : List Word :=
  match counterName i with
  | some x => word (2147483648 + i) :: nameWords x
  | none => word i :: List.replicate 7 0

def bodyCounterCatalogGet (c : Ctx) (s : State) : Res :=
  refuseIf (!s.countersPf0 c.r.sender) State.stNotPermitted <|
  refuseIf (!okCounters c.r 0x7FFF 0x7F 64) State.stBadParam <|
  .done s ([word (c.r.w 4), word (c.r.w 5)]
    ++ (List.range (c.r.f 5 0 9)).flatMap fun i => catalogWords (c.r.f 4 0 15 + i))

/-! ### Registers (13 R557 to R560) -/

namespace State

/-- EVC_STATUS of a target. -/
def evcStatus (s : State) (t : Target) : Word :=
  let v := s.target t
  let active := (List.range 176).foldl (fun (best : Option Nat) src =>
    if v.inServ.getLsbD src then
      match best with
      | none => some src
      | some b => if s.prioAt t b < s.prioAt t src then some src else best
    else best) none
  word (atBit v.ovf 31 + v.log.length * 65536 + s.claimCount t % 256 * 256 + active.getD 0xFF)

def acStateWord (s : State) : Word :=
  let a := s.cores.ac0
  let b := s.cores.ac1
  word (b.cause * 4096 + b.status.code * 256 + a.cause * 16 + a.status.code)

/-- MSG_STATUS of a core, AC_MSG_STATUS of a host. -/
def coreMsgStatus (a : AcState) : Word :=
  word (atBit (decide (16 ≤ a.toH1.length)) 25 + atBit (decide (16 ≤ a.toH0.length)) 24
    + a.fromH1.length * 256 + a.fromH0.length)

def hostMsgStatus (s : State) (h : HostPort) : Word :=
  let tx := fun (a : AcState) => match h with | .h0 => a.fromH0.length | .h1 => a.fromH1.length
  let rx := fun (a : AcState) => match h with | .h0 => a.toH0.length | .h1 => a.toH1.length
  word (atBit (decide (16 ≤ tx s.cores.ac1)) 25 + atBit (decide (16 ≤ tx s.cores.ac0)) 24
    + rx s.cores.ac1 * 256 + rx s.cores.ac0)

def palletStatus (s : State) : Word :=
  let c := s.cores
  word (atBit s.snapBusy 31 + atBit c.periodic.isSome 30 + atBit c.missed 29 + c.palletLast * 2 ^ 28
    + atBit c.pallet1.valid 25 + atBit c.pallet0.valid 24 + c.pallet1.seq * 65536 + c.pallet0.seq * 256)

/-- A DWORD of the pallet window: counter values on pages 0 to 7, the overflow bitmap on page 8 (13 R555). -/
def palletWord (p : Pallet) (page off : Nat) : Word :=
  if page < 8 then
    let v := Tbl.get 0 p.image (4096 * page + off / 8)
    word (if off / 4 % 2 = 0 then v else v / 4294967296)
  else if page = 8 ∧ off < 4096 then
    word ((List.range 32).foldl (fun n b => if Tbl.get 0 p.image (8 * off + b) = counterMax then n + 2 ^ b else n) 0)
  else 0

end State

end Sys2Proof.Machine
end

