-- ==== Sys2Proof/Machine/Faults.lean ====
section
/-! DEFINITION. The interpreter cores, their faults and takeovers, and footing (09 R377 to R396). -/

namespace Sys2Proof.Machine

namespace State

/-! ### Interpreter cores (09 R377 to R381) -/

def coreRole (s : State) (n : Nat) : CoreRole := if n = 0 then s.flt.cc0 else s.flt.cc1
def setCoreRole (s : State) (n : Nat) (r : CoreRole) : State :=
  if n = 0 then { s with flt := { s.flt with cc0 := r } } else { s with flt := { s.flt with cc1 := r } }
def restartsOf (s : State) (n : Nat) : List Instant := if n = 0 then s.flt.restarts0 else s.flt.restarts1

/-- The core in service as interpreter. -/
def interpCore (s : State) : Option Nat :=
  if s.flt.cc0 = .interp then some 0 else if s.flt.cc1 = .interp then some 1 else none
def standbyCore (s : State) : Option Nat :=
  if s.flt.cc0 = .standby then some 0 else if s.flt.cc1 = .standby then some 1 else none

/-- Restarts of a core within the last 10 s. -/
def recentRestarts (s : State) (n : Nat) (t : Instant) : Nat :=
  ((s.restartsOf n).filter fun x => decide (t < x + sec 10)).length

/-- A core out of service restarts, at most 3 times in 10 s (09 R379). -/
def restartCore (s : State) (n : Nat) (t : Instant) : State :=
  if 3 ≤ s.recentRestarts n t then s.setCoreRole n .failed
  else
    let s1 := s.setCoreRole n .restarting
    if n = 0 then { s1 with flt := { s1.flt with restarts0 := t :: s1.flt.restarts0 } }
    else { s1 with flt := { s1.flt with restarts1 := t :: s1.flt.restarts1 } }

/-- The journal after an interpreter fault: what is taken or held completes ABORTED; what is committed stays
(12 R515). -/
def replayJournal (s : State) (t : Instant) : State :=
  let open_ := s.host.journal.filter fun e => e.2.state != .committed && !e.2.posted
  let s1 := open_.foldl (fun s e => s.replyTo e.2.opcode e.1 stAborted true [] { e.2.req with t := t }) s
  { s1 with host := { s1.host with batch := [] } }

/-- The sources in service at a core that stopped are claimable again at the survivor (09 R378). -/
def dropService (s : State) (n : Nat) : State :=
  let tg : Target := if n = 0 then .cc0 else .cc1
  s.setTarget tg { s.target tg with inServ := 0 }

/-! ### Footing: causes, entry and exit (09 R382 to R390) -/

def causeBit (i : Nat) : BitVec 4 := BitVec.ofNat 4 (2 ^ i)

def setFooting (s : State) (a t : Instant) (on : Bool) (jids : List Nat) : State :=
  let s1 := s.stage { a := a, jids := jids, txn := false, units := allUnits, words := 0, change := [.footing on] }
  if a ≤ t then s1.applyDue a t else s1

/-- An exit under way is withdrawn: the device stays in footing (09 R382). -/
def withdrawExit (s : State) (t : Instant) : State :=
  let s1 := { s with
    fab := { s.fab with staged := s.fab.staged.filter fun x => !(x.change.contains (.footing false)) }
    flt := { s.flt with x := none, exitJid := none } }
  s1.finishOpt s.flt.exitJid stAborted [] t

/-- What sleep entry stages for the data plane: every port input out, every port disabled. -/
def sleepChanges : List (List Change) :=
  [(List.range 64).map fun p => .exclude p true, (List.range 64).map fun p => .disable p true]

/-- SLEEP_ENTER is aborted by a footing cause before its step 4: the ports it has taken out come back
(14 R585). -/
def abortSleep (s : State) (t : Instant) : State :=
  let sleeps := s.pwr.waits.filter fun w => match w.1 with | .sleep _ _ => true | .reset _ => false
  let s1 := sleeps.foldl (fun s w => s.finish w.2.2 stAborted [] t)
    { s with pwr := { s.pwr with waits := s.pwr.waits.filter fun w => !(sleeps.contains w) } }
  let back := (List.range 64).filter fun p => (s1.lane p).cfg.enable && (s1.quad (p / 16)).powered
  let s2 := { s1 with fab := { s1.fab with staged := s1.fab.staged.filter fun e =>
    !(sleeps.any fun w => w.2.1 == e.a && sleepChanges.contains e.change) } }
  match s2.pwr.entering with
  | none => s2
  | some x =>
    let s3 := { s2 with pwr := { s2.pwr with entering := none, pstate := 0, wakePend := false } }.finish x.2.2 stAborted [] t
    let s4 := (List.range 64).foldl (fun s p =>
      s.setModel p { s.model p with drainEnd := none, drainRemoved := 0 }) s3
    s4.stagePortOff t t back false

/-- A cause of footing is detected: its entry is staged at the first whole µs, plus 1 µs (09 R382). In LEAVING
the exit under way is withdrawn. -/
def detectCause (s : State) (i : Nat) (t : Instant) : State :=
  let f := s.flt
  let s0 := s.abortSleep t
  let s1 := { s0 with flt := { f with causes := f.causes ||| causeBit i } }
  let e := usCeil t + us 1
  if f.state = 0 then
    { s1 with flt := { s1.flt with state := 1, e := some e } }.setFooting e t true []
  else if f.state = 3 then
    { s1 with flt := { s1.flt with state := 1, e := some e } }.withdrawExit t
  else s1

/-- CC1 faults: a transaction that is not fully staged is withdrawn and its command completes ABORTED: the groups of a
flush that are still to come. What is staged applies (04 R130). -/
def withdrawFlushes (s : State) (t : Instant) : State :=
  s.tab.flushes.foldl (fun s f => if (s.flushAhead f).isEmpty then s else s.flushEnd f stAborted t) s

/-- An interpreter core faults; the survivor takes over, or both are out of service (09 R377 to R381). -/
def interpFault (s : State) (cause : Nat) (t : Instant) : State :=
  match s.interpCore with
  | none => s
  | some n =>
    let s1 := s.raise 0x0805 90 [bytesBE 1 n, bytesBE 1 cause] t
    let s2 := ((if n = 1 then s1.withdrawFlushes t else s1).restartCore n t).dropService n
    let m := 1 - n
    match s2.coreRole m with
    | .standby =>
      let s3 := s2.setCoreRole m .interp
      { s3 with
        host := { s3.host with ready := false, interp := m }
        flt := { s3.flt with takeover := some m } }
    | _ =>
      { s2 with
        host := { s2.host with ready := false, interp := 3 }
        flt := { s2.flt with takeover := none } }.detectCause 2 t

/-- The copies that footing removes at E, by queue (09 R384). A copy in transmission finishes. -/
def footRemove (s : State) (key : Instant) : State :=
  (List.range 544).foldl (fun s q =>
    let p := q / 8
    let k := q % 8
    let gone := (s.equeue q).copies.filter fun c => footingDrops c.inPort p k && !s.inTx p k c
    gone.foldl (fun s c =>
      let s1 := (s.removeCopy q c.fid c.mirror key).countQ p k 21
      let m1 := s1.model p
      match m1.next with
      | some x => if x.cls = k ∧ x.fid = c.fid ∧ x.mirror = c.mirror then s1.setModel p { m1 with next := none } else s1
      | none => s1) s) s

/-- The learn queue is emptied (09 R384). -/
def footLearn (s : State) : State :=
  let n := s.tab.queue.length
  let s1 := { s with tab := { s.tab with queue := [] } }
  if n = 0 then s1 else s1.countD 2 n

/-- A quad stays powered in footing (09 R386). -/
def footKeeps (s : State) (q : Nat) : Bool :=
  (portsOf q).any fun p =>
    let c := s.course p
    let launches := fun (b : Bank) => b.entries.any fun e => e.2.act.launches
    let named := (List.range 16).any fun i =>
      let v := s.cand i
      v.valid && (v.kind == 0 || v.kind == 3 || v.kind == 4) && v.port == p
    (s.isActive p && s.isTl p) || launches c.bank0 || launches c.bank1 || named
      || (s.ptpCfg p).role != 0 || (s.synceCfg p).en

/-- Powers a quad down at E: its ports are excluded and go down for egress (09 R386). -/
def footQuad (a t : Instant) (s : State) (q : Nat) : State :=
  let v := s.quad q
  if !v.powered || s.footKeeps q then s
  else
    let ps := portsOf q
    let s1 := ps.foldl (fun s p =>
      let s' := s.toDetect p 4 t
      s'.setLane p { s'.lane p with shut := true }) s
    let s2 := (s1.stage { a := a, jids := [], txn := false, units := copies5, words := 0
                          change := ps.map fun p => .exclude p true })
    let s3 := if a ≤ t then s2.applyDue a t else s2
    let s4 := s3.setQuad q { s3.quad q with
      powered := false, lbLock := false, starting := false, footOff := true, jid := none }
    let s5 := s4.finishOpt v.jid stAborted [] t
    if q = 3 then { s5 with lan := { s5.lan with hb0 := {}, hb1 := {}, bandRun := 0 } } else s5

/-- A core is held in reset, its TCM lost (13 R528). -/
def holdCore (t : Instant) (s : State) (c : AppCore) : State := (s.stopCore c .held t).1

/-- What happens at E beyond the data plane's own application of it (09 R384 to R386). -/
def footEnter (s : State) (e t : Instant) : State :=
  let s0 := ((if s.flt.x.isSome then s.withdrawExit t else s).abortSleep t).egressDue e t
  let s1 := { s0 with flt := { s0.flt with state := 2, e := none, entryCause := s0.flt.causes, since := some (s0.flt.since.getD e) } }
  let s2 := (((s1.footRemove e).footLearn).tioFooting t)
  let s3 := holdCore t (holdCore t s2 .ac0) .ac1
  let s4 := [0, 1, 2, 3].foldl (footQuad e t) s3
  (s4.countD 11).raise 0x0807 91 [bytesBE 1 1, bytesBE 1 s4.flt.causes.toNat] e

/-- The device begins to leave footing: BUF1 to BUF3, TIMEIO and the quads are powered again, and X is fixed
(09 R390). -/
def footLeave (s : State) (a : Instant) (jid : Option Nat) (t : Instant) : State :=
  let x := max ((t + ms 10 + (ms 1 - 1)) / ms 1 * ms 1) a
  let s1 := [0, 1, 2, 3].foldl (fun s q => if (s.quad q).footOff then s.powerQuad q none else s) s
  let s2 := { s1 with flt := { s1.flt with state := 3, x := some x, exitJid := jid, bufOff := false } }
  s2.setFooting x t false []

/-- The device leaves on its own once no cause is left (09 R389). -/
def footAuto (s : State) (t : Instant) : State :=
  if s.flt.state = 2 ∧ s.flt.causes = 0 ∧ s.flt.autoExit then s.footLeave 0 none t else s

/-- FOOTING_CFG_SET that has come to its A. -/
def footCfgDue (s : State) (t : Instant) : State :=
  let due := s.flt.cfgPend.filter fun x => decide (x.1 ≤ t)
  due.foldl (fun s x =>
    { s with flt := { s.flt with
        autoExit := x.2.1, exitHold := x.2.2.1, cfgPend := s.flt.cfgPend.filter (· != x) } }.finish x.2.2.2 stOk [] t) s

end State

/-- HEARTBEAT_TIMEOUT: no heartbeat of the interpreter for 100 µs (09 R377). -/
def execHeartbeatTimeout (t : Instant) (s : State) : Host.Outcome State Fault Refusal :=
  .next ((s.tick t).interpFault 0 t).firmwareFailure

/-- INTERPRETER_FAULT: another fault of the interpreter core, coded as in EV_CORE_FAULT (09 R377). -/
def execInterpreterFault (cause : Nat) (t : Instant) (s : State) : Host.Outcome State Fault Refusal :=
  let s1 := s.tick t
  if 4 ≤ cause then .next s1 else .next (s1.interpFault cause t).firmwareFailure

/-- STANDBY_FAULT: the standby core faults; the interpreter takes its work (09 R380). -/
def execStandbyFault (cause : Nat) (t : Instant) (s : State) : Host.Outcome State Fault Refusal :=
  let s1 := s.tick t
  match s1.standbyCore with
  | none => .next s1
  | some n =>
    if 4 ≤ cause then .next s1
    else
      let s2 := (s1.raise 0x0805 90 [bytesBE 1 n, bytesBE 1 cause] t).restartCore n t
      .next (if n = 1 then s2.withdrawFlushes t else s2).firmwareFailure

/-- CORE_TAKEOVER: the survivor has replayed the journal and mailbox service is back (09 R378). -/
def execCoreTakeover (t : Instant) (s : State) : Host.Outcome State Fault Refusal :=
  let s1 := s.tick t
  match s1.flt.takeover with
  | none => .next s1
  | some n =>
    let s2 := s1.replayJournal t
    let s3 := { s2 with
      flt := { s2.flt with takeover := none }
      host := { s2.host with ready := true, interp := n } }
    .next ((s3.countD 10).raise 0x0806 90 [bytesBE 1 n] t)

/-- CORE_RESTART_DONE: the self-test of a restarted core ends. It takes the standby role, or, with no
interpreter in service, the interpreter's and reply service (09 R379, R381). -/
def execCoreRestartDone (core : Nat) (ok : Bool) (t : Instant) (s : State) :
    Host.Outcome State Fault Refusal :=
  let s1 := s.tick t
  if 2 ≤ core ∨ s1.coreRole core ≠ .restarting then .next s1
  else if !ok then .next (s1.restartCore core t).firmwareFailure
  else
    match s1.interpCore with
    | some _ => .next (s1.setCoreRole core .standby)
    | none =>
      let s2 := (s1.setCoreRole core .interp).replayJournal t
      .next { s2 with host := { s2.host with ready := true, interp := core } }

/-- A cause of footing stands: 0 SUPPLY, as reported; 1 THERMAL, a sensor above 112 °C; 2 CORES, no core in service
(09 R382). -/
def State.causeStands (s : State) (cause : Nat) : Bool :=
  let hot := (List.range 8).any fun i => decide (112 * 16 < (s.sensor i).temp)
  decide (cause < 3) && !(cause == 1 && !hot) && !(cause == 2 && (s.interpCore.isSome || s.standbyCore.isSome))

/-- A cause of footing has gone: SUPPLY as reported, THERMAL with every sensor at 105 °C or below for EXIT_HOLD, CORES
with an interpreter (09 R389). -/
def State.causeGone (s : State) (cause : Nat) (t : Instant) : Bool :=
  let cool := s.allCool && decide (s.flt.coolFrom + ms s.flt.exitHold ≤ t)
  decide (cause < 3) && !(cause == 1 && !cool) && !(cause == 2 && s.interpCore.isNone)

/-- FOOTING_CAUSE_DETECT: 0 SUPPLY, 1 THERMAL (a sensor above 112 °C), 2 CORES (no core in service). -/
def execFootingCauseDetect (cause : Nat) (t : Instant) (s : State) : Host.Outcome State Fault Refusal :=
  let s1 := s.tick t
  if s1.causeStands cause then .next (s1.detectCause cause t) else .next s1

/-- FOOTING_ENTRY: the entry instant E of a detected cause or of a FOOTING_ENTER has come. -/
def execFootingEntry (t : Instant) (s : State) : Host.Outcome State Fault Refusal :=
  let s1 := s.tick t
  let cmd := s1.flt.cmdEnter.filter fun a => decide (a ≤ t)
  let s2 := if cmd.isEmpty then s1 else
    { s1 with flt := { s1.flt with
        cmdEnter := s1.flt.cmdEnter.filter (fun a => decide (t < a)), causes := s1.flt.causes ||| State.causeBit 3 } }
  let det : Bool := match s1.flt.e with | some e => decide (e ≤ t) | none => false
  let first := match s1.flt.e with
    | some e => if det then (match cmd.head? with | some a => min a e | none => e) else cmd.headD t
    | none => cmd.headD t
  if (cmd.isEmpty && !det) || s1.flt.state = 2 then .next s2
  else .next (s2.footEnter first t)

/-- BUF_POWER_DOWN: BUF1 to BUF3 hold no admitted tile any more (09 R385). -/
def execBufPowerDown (t : Instant) (s : State) : Host.Outcome State Fault Refusal :=
  let s1 := s.tick t
  if s1.flt.state = 2 then .next { s1 with flt := { s1.flt with bufOff := true } } else .next s1

/-- FOOTING_CAUSE_CLEAR: a cause is gone for as long as R389 asks. -/
def execFootingCauseClear (cause : Nat) (t : Instant) (s : State) : Host.Outcome State Fault Refusal :=
  let s1 := (s.tick t).footCfgDue t
  if s1.causeGone cause t then
    .next ({ s1 with flt := { s1.flt with causes := s1.flt.causes &&& ~~~ State.causeBit cause } }.footAuto t)
  else .next s1

/-- Footing ends at X: the units and channels go on, ages start anew, held cores are free (09 R390). -/
def State.footExit (s1 : State) (x t : Instant) : State :=
  let s2 := ((s1.egressDue x t).tioResume x).footTime x
  let hit := (s2.cfgPlanned.l2.filterMap (·.2)).foldl
    (fun (h : Tbl (BitVec 5)) e => Tbl.set 0 h (l2Key e.vid e.mac) 0x1F#5) s2.tab.hit
  let free := fun (s : State) (c : AppCore) =>
    if (s.ac c).status = .held then s.setAc c { s.ac c with status := .empty } else s
  let s3 := free (free s2 .ac0) .ac1
  let s4 := { s3 with
    tab := { s3.tab with hit := hit }
    flt := { s3.flt with state := 0, x := none, causes := 0, exitJid := none, since := none, counted := 0 } }
  (s4.raise 0x0807 91 [bytesBE 1 0, bytesBE 1 0] x).finishOpt s1.flt.exitJid State.stOk [] (max t x)

/-- FOOTING_EXIT_APPLY: the exit instant X has come. -/
def execFootingExitApply (t : Instant) (s : State) : Host.Outcome State Fault Refusal :=
  let s1 := s.tick t
  match s1.flt.x with
  | none => .next s1
  | some x =>
    if t < x then .next s1 else .next (s1.footExit x t)

/-! ### Registers (09 R391, R392) -/

namespace State

def coreServes (r : CoreRole) : Bool := r == .interp || r == .standby

/-- FAULT_CAUSE; FAULT_N is asserted while it is not 0, and through a reset (14 R575). -/
def faultCause (s : State) : Word :=
  let b := s.tk.bond
  let ka := b.faultA || b.ka.outOfStep || b.ka.disagree
  let kb := b.faultB || b.kb.outOfStep || b.kb.disagree
  let up := (if coreServes s.flt.cc0 then 1 else 0) + (if coreServes s.flt.cc1 then 1 else 0)
  let noKeeper := b.holder.isNone && (b.grantedOnce || (b.ka.cond != .boot && b.kb.cond != .boot))
  word (atBit (up == 0) 8 + atBit (up == 1) 7 + atBit noKeeper 6 + atBit kb 5 + atBit ka 4
    + atBit (b.cell0.isolated || b.cell1.isolated || b.cell2.isolated) 3 + atBit b.xoFault 2
    + atBit (decide (1024 ≤ s.egr.retired.length)) 1 + atBit s.fab.stallFault 0)

def footingStatus (s : State) : Word :=
  word (s.flt.state * 2 ^ 30 + s.flt.causes.toNat * 2 ^ 24 + s.flt.entryCause.toNat * 65536)

def coreStatus (s : State) (t : Instant) : Word :=
  word (s.flt.cc0.code * 2 ^ 29 + s.flt.cc1.code * 2 ^ 26 + min 3 (s.recentRestarts 0 t) * 2 ^ 24
    + min 3 (s.recentRestarts 1 t) * 2 ^ 22)

end State

/-! ### Commands (09 R394, R395) -/

def bodyBondStatusGet (c : Ctx) (s : State) : Res :=
  .done s ([s.bondStatus c.t, word s.tk.bond.flags.toNat, s.bondPhase, s.faultCause, s.footingStatus, s.coreStatus c.t]
    ++ instantWords s.tk.bond.lastHandover)

/-- Footing by command at once (09 R395). -/
def footNow (s : State) (t : Instant) : State :=
  let s1 := { s with flt := { s.flt with causes := s.flt.causes ||| State.causeBit 3 } }
  (s1.setFooting t t true []).footEnter t t

/-- FOOTING_ENTER is refused in footing, which LEAVING still is; while another cause's E is to come it adds COMMAND
(09 R395). -/
def bodyFootingEnter (c : Ctx) (s : State) : Res :=
  refuseIf (decide (2 ≤ s.flt.state)) State.stState <|
  match c.a with
  | some a =>
    if a < c.t + us 200 then .fail State.stTooLate
    else .wait ({ s with flt := { s.flt with cmdEnter := s.flt.cmdEnter ++ [a] } }.setFooting a c.t true [c.jid])
  | none => .done (footNow s c.t)

/-- In FOOTING with no cause but the command (09 R395). -/
def mayLeave (s : State) : Bool := decide (s.flt.state = 2) && decide (s.flt.causes &&& 0b0111#4 = 0)

def bodyFootingExit (c : Ctx) (s : State) : Res :=
  let s1 := s.footCfgDue c.t
  refuseIf (!mayLeave s1) State.stState <|
  match c.a with
  | some a =>
    if a < c.t + ms 10 then .fail State.stTooLate else .wait (s1.footLeave a (some c.jid) c.t)
  | none => .wait (s1.footLeave 0 (some c.jid) c.t)

/-- EXIT_HOLD 10 to 60,000 ms (09 R395). -/
def okFootingCfgSet (r : Req) : Bool :=
  r.only 4 1 && r.only 5 0xFFFF && decide (10 ≤ r.f 5 0 16 ∧ r.f 5 0 16 ≤ 60000)

def bodyFootingCfgSet (c : Ctx) (s : State) : Res :=
  let auto := c.r.b 4 0
  let hold := c.r.f 5 0 16
  refuseIf (!okFootingCfgSet c.r) State.stBadParam <|
  match c.a with
  | some a =>
    if a < c.t + us 200 then .fail State.stTooLate
    else .wait { s with flt := { s.flt with cfgPend := s.flt.cfgPend ++ [(a, auto, hold, c.jid)] } }
  | none => .done { s with flt := { s.flt with autoExit := auto, exitHold := hold } }

def bodyFootingCfgGet (c : Ctx) (s : State) : Res :=
  let f := (s.footCfgDue c.t).flt
  .done s [word (atBit f.autoExit 0), word f.exitHold]

end Sys2Proof.Machine
end

