-- ==== Sys2Proof/Machine/Power.lean ====
section
/-! DEFINITION. Power domains, reset, boot, sleep and wake, security policy, keys and updates (14 R570 to R598),
with the three events that bring lane and power changes to their instants. -/

namespace Sys2Proof.Machine

namespace State

/-! ### Images (14 R576 to R580) -/

/-- A reader of an image: offset, number of bytes. -/
abbrev ImgRead := Nat → Nat → List Byte

def slotRead (s : State) (slotB : Bool) : ImgRead :=
  fun o n => (if slotB then s.pwr.flash.slotB else s.pwr.flash.slotA).readN o n
def hostRead (bs : List Byte) : ImgRead := fun o n => (bs.drop o).take n

/-- Header word `i`. -/
def hdr (rd : ImgRead) (i : Nat) : Nat := natLE (rd (4 * i) 4)

/-- A slot or a host image holds at most 7 MiB (14 R577, R578). -/
def slotSize : Nat := 7340032

/-- MAGIC, the version, the lengths and the offsets are consistent (14 R579, check 2). -/
def headerOk (rd : ImgRead) : Bool :=
  let len := hdr rd 2
  let fw := hdr rd 8
  let fl := hdr rd 9
  let cf := hdr rd 10
  let cl := hdr rd 11
  hdr rd 0 == 0x31494C4B && hdr rd 1 == 0x00010055
    && decide (340 ≤ len ∧ 340 ≤ fw ∧ fw + fl ≤ len ∧ 340 ≤ cf ∧ cf + cl ≤ len ∧ (fw + fl ≤ cf ∨ cf + cl ≤ fw))

/-- A public key as the hashes take it: 0x04, X, Y (14 R579). -/
def keyHash (key : List Byte) : List Byte := sha384 (0x04#8 :: key)

/-- A vendor slot of OTP that is not revoked holds the hash. -/
def vendorOk (o : Otp) (h : List Byte) : Bool :=
  (o.vendor0.hash == h && !o.vendor0.revoked) || (o.vendor1.hash == h && !o.vendor1.revoked)

/-- The REASON code of an image (14 R579). -/
def imageCode (s : State) (rd : ImgRead) (readable : Bool) : Nat :=
  let key := rd 52 96
  let sigOk := match activeKey s.pwr.otp.owners with
    | some k => ecdsaOk k (sha384 (rd 0 52 ++ rd (hdr rd 10) (hdr rd 11))) (natBE (rd 244 48)) (natBE (rd 292 48))
    | none => (rd 244 96).all fun b => b == 0
  if !readable || decide (slotSize < hdr rd 2) then 1
  else if !headerOk rd then 2
  else if !vendorOk s.pwr.otp (keyHash key) then 3
  else if !ecdsaOk key (sha384 (rd 0 148 ++ rd (hdr rd 8) (hdr rd 9))) (natBE (rd 148 48)) (natBE (rd 196 48)) then 4
  else if !sigOk then 5
  else if hdr rd 3 % 64 < s.pwr.otp.floor then 6
  else 0

/-- A copy of the directory as its words say it: word 3 is the CRC-32 of words 0 to 2 (14 R577). -/
def dirOf (m : Memory) : FlashDir :=
  let w := fun i => natLE (m.readN (4 * i) 4)
  { valid := w 0 == 0x31574C4B && w 3 == crc32 (m.readN 0 12), seq := w 1, trial := flag (w 2) 8, prefB := flag (w 2) 0 }

/-- The bytes of a directory copy. -/
def dirBytes (d : FlashDir) : List Byte :=
  let b := bytesLE 4 0x31574C4B ++ bytesLE 4 d.seq ++ bytesLE 4 (atBit d.trial 8 + atBit d.prefB 0)
  b ++ bytesLE 4 (crc32 b)

/-- The copy in force, by its number: the valid one with the larger SEQ, modulo 2^32 (14 R577). -/
def dirCopy (s : State) : Option Nat :=
  let a := dirOf s.pwr.flash.dir0
  let b := dirOf s.pwr.flash.dir1
  if a.valid && b.valid then
    if (a.seq + 4294967296 - b.seq % 4294967296) % 4294967296 < 2147483648 then some 0 else some 1
  else if a.valid then some 0
  else if b.valid then some 1
  else none

/-- The directory in force. -/
def directory (s : State) : Option FlashDir :=
  s.dirCopy.map fun i => dirOf (if i = 0 then s.pwr.flash.dir0 else s.pwr.flash.dir1)

/-- The device writes a new directory into the other copy. -/
def writeDirectory (s : State) (trial prefB : Bool) : State :=
  let f := s.pwr.flash
  let d : FlashDir := { valid := true, trial := trial, prefB := prefB
                        seq := match s.directory with | some x => (x.seq + 1) % 4294967296 | none => 0 }
  let bs := dirBytes d
  let f1 := if s.dirCopy == some 0 then { f with dir1 := f.dir1.writeN 0 bs } else { f with dir0 := f.dir0.writeN 0 bs }
  { s with pwr := { s.pwr with flash := f1 } }

/-- The slots in the order of their trial, each with its TRIAL mark (14 R576, R580). -/
def bootOrder (s : State) : List (Bool × Bool) :=
  match (if s.pwr.bootsel = 0 then s.directory else none) with
  | none => [(false, false), (true, false)]
  | some d =>
    let first := (d.prefB, d.trial)
    let other := (!d.prefB, false)
    if d.trial && decide (2 ≤ s.pwr.trialBoots) then [other, first] else [first, other]

/-- Quads are powered as an image's header says; a quad it holds down is excluded (14 R578, 02 R81). -/
def bootQuads (s : State) (mask : Nat) : State :=
  let one := fun (s : State) (q : Nat) =>
    let on := flag mask q
    let s1 := if on then (if (s.quad q).powered then s else s.powerQuad q none)
      else s.setQuad q { s.quad q with powered := false, lbLock := false, starting := false }
    (portsOf q).foldl (fun s p => { s with cfg := Change.apply (.exclude p (!on)) s.cfg }) s1
  [0, 1, 2, 3].foldl one s

/-- The command packets of a configuration part, in order; a packet cut short is the last (14 R582). -/
def packets : Nat → List Word → List (List Word)
  | 0, _ => []
  | n + 1, ws =>
    if ws.isEmpty then []
    else
      let len := 4 + (ws.getD 1 0).toNat / 65536
      ws.take len :: packets n (ws.drop len)

def wordsOf : Nat → List Byte → List Word
  | 0, _ => []
  | n + 1, bs => word (natLE (bs.take 4)) :: wordsOf n (bs.drop 4)

/-- The ROM runs an image: 1 slot A, 2 slot B, 3 host (14 R580 to R582). -/
def runImage (s : State) (rd : ImgRead) (image : Nat) (trial : Bool) : State :=
  let cl := hdr rd 11
  let p := s.pwr
  { s with pwr := { p with
      image := image, trial := trial, stage := 4
      trialBoots := if trial then p.trialBoots + 1 else p.trialBoots
      svn := hdr rd 3 % 64, vendorHash := keyHash (rd 52 96), subsys := hdr rd 4
      baseMac := hdr rd 5 * 65536 + hdr rd 6 / 65536
      packets := packets (hdr rd 12 % 65536) (wordsOf (cl / 4) (rd (hdr rd 10) cl))
      recovSt := if image = 3 then 5 else p.recovSt } }.bootQuads (hdr rd 7 % 16)

/-- The slot that the ROM reads next. -/
def nextSlot (s : State) : Option (Bool × Bool) :=
  s.bootOrder.find? fun x => (if x.1 then s.pwr.reasonB else s.pwr.reasonA) == 7

/-- Boot waits on an image from flash. -/
def booting (s : State) : Bool :=
  !s.pwr.inReset && s.pwr.image == 0 && s.pwr.stage != 8 && s.pwr.stage != 9

end State

/-! ### Reset (14 R572 to R575) -/

/-- The DEVICE_RESET of a scope whose A has come. -/
def State.resetDue (s : State) (cold : Bool) (t : Instant) : Option (PowerWait × Instant × Nat) :=
  s.pwr.waits.find? fun w => w.1 == .reset cold && decide (w.2.1 ≤ t)

/-- COLD_RESET: PORST_N low (1), VDD_AON below 0.70 V (2), or DEVICE_RESET with SCOPE 1 at its A (6). The straps
are those at the rising edge of PORST_N. -/
def execColdReset (cause bootsel : Nat) (hostcfg : Bool) (t : Instant) (s : State) :
    Host.Outcome State Fault Refusal :=
  let s1 := s.tick t
  if cause = 1 ∨ cause = 2 then .next (s1.coldReset cause bootsel hostcfg)
  else if cause = 6 then
    match s1.resetDue true t with
    | some w => .next ((s1.endCommand w.2.2 State.stOk [] w.2.1).coldReset 6 bootsel hostcfg)
    | none => .next s1
  else .next s1

/-- WARM_RESET: a core brown-out (3), a thermal trip (4), DEVICE_RESET with SCOPE 0 at its A (5), or firmware
failure (7). -/
def execWarmReset (cause : Nat) (t : Instant) (s : State) : Host.Outcome State Fault Refusal :=
  let s1 := s.tick t
  if cause = 3 ∨ cause = 4 then .next (s1.warmReset cause)
  else if cause = 5 then
    match s1.resetDue false t with
    | some w => .next ((s1.endCommand w.2.2 State.stOk [] w.2.1).warmReset 5)
    | none => .next s1
  else if cause = 7 then .next s1.firmwareFailure
  else .next s1

/-- The release: time counts from here; a host-boot strap waits for a host, strap 3 stops for debug, else the first
slot is read and its quads powered (14 R574, R579). -/
def State.released (s : State) : State :=
  let s1 := { s with now := 0, pwr := { s.pwr with inReset := false, resetCold := false } }
  if s1.pwr.bootsel = 2 then { s1 with pwr := { s1.pwr with stage := 8, recovSt := 1 } }
  else if s1.pwr.bootsel = 3 then { s1 with pwr := { s1.pwr with stage := 9 } }
  else
    match s1.bootOrder.head? with
    | some x =>
      let rd := s1.slotRead x.1
      if State.headerOk rd then s1.bootQuads (State.hdr rd 7 % 16) else s1
    | none => s1

/-- FWD_START at `f`: the units apply, forwarding begins, and after a boot the boot record is made (14 R583, R584). -/
def State.forwards (s : State) (f t : Instant) : State :=
  let start := fun (s : State) (mp : Nat) => (mergeInputs mp).foldl (fun s i => s.startSource mp i f) s
  let s2 := [0, 1, 2, 3, 4, 5, 6].foldl start (s.applyDue f t)
  let s3 := { s2 with fab := { s2.fab with forwarding := true, fwdStart := f } }
  if s3.pwr.fwd then s3
  else
    let at_ := f + s3.pwr.tkStart
    { s3 with pwr := { s3.pwr with
      fwd := true, stage := 7, fwdMs := min 0xFFFF (at_ / ms 1), late := decide (ms 180 < at_) } }

/-- The code of a slot's last trial. -/
def State.slotReason (s : State) (slotB : Bool) (code : Nat) : State :=
  if slotB then { s with pwr := { s.pwr with reasonB := code } } else { s with pwr := { s.pwr with reasonA := code } }

/-- The ROM waits for a host (14 R580). -/
def State.awaitHost (s : State) : State := { s with pwr := { s.pwr with stage := 8, recovSt := 1 } }

/-- The code of a host's image (14 R581). -/
def State.hostImageCode (s : State) (image : List Byte) : Nat :=
  let rd := State.hostRead image
  let n := s.pwr.recovLen
  s.imageCode rd (decide (image.length = n) && decide (340 ≤ n ∧ n ≤ State.slotSize) && decide (State.hdr rd 2 ≤ n))

/-- RESET_RELEASE: the cause has gone for its hold (14 R574). During a reset instants count from its start; from here
until TK time starts, from the release. -/
def execResetRelease (t : Instant) (s : State) : Host.Outcome State Fault Refusal :=
  if !s.pwr.inReset ∨ t < s.pwr.hold then .next s
  else .next s.released

/-! ### Boot (14 R576 to R584) -/

/-- BOOT_IMAGE_VERIFY: the ROM has read a slot and checks it; the first that passes runs, and with none left
the ROM waits for a host (14 R579, R580). -/
def execBootImageVerify (src : ImageSource) (readable : Bool) (t : Instant) (s : State) :
    Host.Outcome State Fault Refusal :=
  let s1 := s.tick t
  match s1.nextSlot with
  | none => .next s1
  | some (slotB, trial) =>
    if !s1.booting ∨ src ≠ (if slotB then ImageSource.slotB else .slotA) then .next s1
    else
      let rd := s1.slotRead slotB
      let code := s1.imageCode rd readable
      let s2 := s1.slotReason slotB code
      if code = 0 then .next (s2.runImage rd (if slotB then 2 else 1) trial)
      else if s2.nextSlot.isSome then .next s2
      else .next s2.awaitHost

/-- RECOVERY_LOAD: the ROM has read RECOV_LEN bytes of a host's memory and checks them (14 R581). -/
def execRecoveryLoad (h : HostPort) (image : List Byte) (t : Instant) (s : State) :
    Host.Outcome State Fault Refusal :=
  let s1 := s.tick t
  if s1.pwr.stage ≠ 8 ∨ s1.pwr.recovSt ≠ 2 ∨ (h = .h1 ∧ s1.pwr.hostcfg) then .next s1
  else
    let code := s1.hostImageCode image
    let s2 := { s1 with pwr := { s1.pwr with recovRes := code } }
    if code = 0 then .next (s2.runImage (State.hostRead image) 3 false) else .next { s2 with pwr := { s2.pwr with recovSt := 4 } }

/-- FORWARDING_START: FWD_START has come, at boot or after a wake (14 R583, R584, R588). -/
def execForwardingStart (t : Instant) (s : State) : Host.Outcome State Fault Refusal :=
  let s1 := s.tick t
  match s1.pwr.fwdAt with
  | none => .next s1
  | some f =>
    if t < f ∨ s1.fab.forwarding ∨ s1.pwr.asleep.isSome then .next s1
    else .next (s1.forwards f t)

/-! ### Sleep and wake (14 R585 to R588) -/

namespace State

/-- Clock outputs stop as CKO_SET with ENABLE = 0 stops them; commands that wait on them are withdrawn. -/
def sleepCko (t : Instant) (s : State) (o : Nat) : State :=
  let s1 := s.withdrawProfile o t
  let s2 := (s1.cko o).waits.foldl (fun s w => s.finishOpt w.2.2 stAborted [] t) s1
  let v := s2.cko o
  s2.setCko o { v with
    cfg := { v.cfg with enable := false }, state := .off, prof := none, forced := false, pllLock := false
    relock := none, waits := [] }

/-- Both keepers stop and will start as at reset release (14 R586). -/
def keepersOff (s : State) : State :=
  let b := s.tk.bond
  let cell := fun (c : Cell) => { c with vote := .none }
  { s with tk := { s.tk with
      a := {}
      b := {}
      candSt := []
      ptp := []
      esmc := []
      disputes := []
      bond := { b with
        holder := none, dA := 0, dB := 0, grantedOnce := false, cell0 := cell b.cell0, cell1 := cell b.cell1, cell2 := cell b.cell2
        ka := { supply := b.ka.supply }
        kb := { supply := b.kb.supply } } } }

/-- Step 4: the domains take the sleep column of R570. What they lose goes back to its reset state; the tables,
course banks, counters, pallets, message SRAM and TCM keep their content. -/
def domainsToSleep (s : State) (keep : Bool) (t : Instant) : State :=
  let on := (List.range 4).foldl (fun (m : BitVec 4) q =>
    if (s.quad q).powered then m ||| BitVec.ofNat 4 (2 ^ q) else m) 0
  let s0 := match s.fab.digest with
    | some d => s.finishOpt d.jid stAborted [] t
    | none => s
  let s1 := (List.range 4).foldl (fun s q =>
    s.setQuad q { s.quad q with powered := false, lbLock := false, starting := false }) s0
  let s2 := { s1 with
    fab := { s1.fab with
      inputs := [], outs := [], frames := [], rx := [], ctrl := [], lastStamp := [], digest := none
      forwarding := false }
    egr := { s1.egr with
      queues := [], charges := [], models := [], freeShared := s1.cfg.sharedSize, freeC7 := s1.cfg.c7Size
      freeFw := s1.cfg.fwSize }
    tab := { s1.tab with queue := [] }
    lan := { s1.lan with hb0 := {}, hb1 := {}, bandRun := 0 }
    tio := { mrefPresent := s1.tio.mrefPresent
             pins := s1.tio.pins.map fun e => (e.1, {
               cfg := e.2.cfg, modeAt := e.2.modeAt, next := e.2.next, level := e.2.level })
             ckos := s1.tio.ckos }
    host := { s1.host with ready := false }
    pwr := { s1.pwr with pstate := 2, keepTime := keep, asleep := some t, entering := none, wokenQuads := on } }
  if keep then s2 else s2.keepersOff

/-- Steps 2 to 4, once every port has drained. -/
def sleepStep (s : State) (t : Instant) : State :=
  match s.pwr.entering with
  | none => s
  | some (keep, a, jid) =>
    if (List.range 64).any fun p => (s.model p).drainEnd.isSome then s
    else
      let s1 := (List.range 4).foldl (fun s c => s.abortChan c t) s
      let s2 := (List.range 8).foldl (sleepCko t) s1
      let s3 := (List.range 8).foldl (fun s p => s.setPin p { s.pin p with queue := [] }) s2
      (s3.endCommand jid stOk [] a).domainsToSleep keep t

/-- A SLEEP_ENTER whose A has come begins: every port drains (14 R585, step 1). -/
def powerDue (s : State) (t : Instant) : State :=
  let due := s.pwr.waits.find? fun w => decide (w.2.1 ≤ t) && match w.1 with | .sleep _ _ => true | .reset _ => false
  match due with
  | none => s.sleepStep t
  | some w =>
    match w.1 with
    | .reset _ => s
    | .sleep keep drain =>
      let s1 := { s with pwr := { s.pwr with
        waits := s.pwr.waits.filter (· != w), pstate := 1, entering := some (keep, w.2.1, w.2.2) } }
      ((List.range 64).foldl (fun s p => s.beginDrain p drain none w.2.1 t) s1).sleepStep t

end State

/-- STAGED_CHANGE_APPLY: a unit's horizon reaches a value and it applies what is due; no horizon passes an item still
ahead of the unit. The lanes, the footing
settings and sleep entry apply theirs (02 R74, 10 R432, 09 R394, 14 R585). -/
def execStagedChangeApply (unit : Nat) (horizon t : Instant) (s : State) : Host.Outcome State Fault Refusal :=
  let s1 := s.tick t
  let h := min (min horizon t) (s1.unitBound unit)
  let s2 := if unit = 5 then s1.egressTo h t else s1.applyUnit unit h t
  .next (((s2.lanesDue t).footCfgDue t).powerDue t)

/-- DISABLE_DRAIN_END: the drain of a disabled port ends (05 R185). -/
def execDisableDrainEnd (port : Nat) (t : Instant) (s : State) : Host.Outcome State Fault Refusal :=
  .next ((((s.tick t).lanesDue t).drainStep port t).powerDue t)

/-- MODEL_END: the model of a port ends its transmission (02 R78, 05 R181); a drain that waits on it goes on. -/
def execModelEnd (port : Nat) (t : Instant) (s : State) : Host.Outcome State Fault Refusal :=
  let s1 := s.tick t
  if 68 ≤ port then .next s1
  else .next (((((s1.egressPort port t).drainStep port t).parkStep port t).sendPhys port).powerDue t)

/-- WAKE_TIMER_EXPIRY: WAKE_AFTER ms have passed since step 4 on the AON clock. -/
def execWakeTimerExpiry (t : Instant) (s : State) : Host.Outcome State Fault Refusal :=
  let s1 := s.tick t
  match s1.pwr.asleep with
  | some a => .next (if 0 < s1.pwr.wakeAfter ∧ a + s1.aonLeast (ms s1.pwr.wakeAfter) ≤ t then s1.wakeSource 15 else s1)
  | none => .next s1

/-- PWR_WAKE: a write of 1 to PWR_WAKE.WAKE, always taken. -/
def execPwrWake (_fn : Sender) (t : Instant) (s : State) : Host.Outcome State Fault Refusal :=
  .next ((s.tick t).wakeSource 14)

/-- The number of the lowest bit set. -/
def lowestBit (b : BitVec 16) : Nat := ((List.range 16).find? fun i => b.getLsbD i).getD 0

/-- Waking: the state and the latches, EV_WAKE, the modules' and the resets' latched events, and the woken quads
(14 R588). -/
def State.wakeUp (s1 : State) (t : Instant) : State :=
  let c := lowestBit s1.pwr.wakeLatch
  let s2 := { s1 with
    host := { s1.host with ready := true }
    pwr := { s1.pwr with
      pstate := 3, asleep := none, wakePend := false, perstLatched := []
      fwdAt := s1.pwr.fwdAt.map fun _ => (t + ms 10 + (ms 1 - 1)) / ms 1 * ms 1 }
    tio := { s1.tio with calRun := true }
    lan := { s1.lan with latched := [] } }
  let s3 := (s2.raise 0x0B00 105 [bytesBE 1 c] t (decide (c < 13 ∧ c ≠ 8))).wakePins t
  let s4 := s1.lan.latched.foldl (fun s p =>
    s.moduleEvent p (if flag (s.lane p).side 0 then 1 else 0) 0 t true) s3
  let s5 := s1.pwr.perstLatched.foldl (fun s x => s.raise 0x0B01 106 [bytesBE 1 x] t true) s4
  let back := (List.range 64).filter fun p =>
    s1.pwr.wokenQuads.getLsbD (p / 16) && (s1.lane p).cfg.enable
  let s6 := back.foldl (fun s p => s.setLane p { s.lane p with shut := true }) s5
  let s7 := (s6.stage { a := t, jids := [], txn := false, units := [5], words := 0
                        change := back.map fun p => .disable p false }).applyDue t t
  [0, 1, 2, 3].foldl (fun s q => if s1.pwr.wokenQuads.getLsbD q then s.powerQuad q none else s) s7

/-- WAKE: a wake source that was taken wakes the device (14 R588). `wakeN` says that a falling edge of WAKE_N is
that source. -/
def execWake (wakeN : Bool) (t : Instant) (s : State) : Host.Outcome State Fault Refusal :=
  let s0 := s.tick t
  let s1 := if wakeN then s0.wakeSource 9 else s0
  if s1.pwr.asleep.isNone ∨ !s1.pwr.wakePend then .next s1
  else .next (s1.wakeUp t)

/-! ### OTP and flash (14 R592, R593, R598) -/

/-- EV_KEY: a slot of the key ladder is enrolled (0) or revoked (1) (14 R598). -/
def State.keyEvent (s : State) (st slot : Nat) (t : Instant) : State :=
  s.raise 0x0A03 111 [bytesBE 1 st, bytesBE 1 slot] t

/-- OTP_WRITE_DONE: the write under way is whole; its command completes (14 R592, R598). -/
def execOtpWriteDone (t : Instant) (s : State) : Host.Outcome State Fault Refusal :=
  let s1 := s.tick t
  match s1.pwr.otpWrite with
  | none => .next s1
  | some (w, j) =>
    let o := s1.pwr.otp
    let s2 := { s1 with pwr := { s1.pwr with otp := o.apply w, otpWrite := none } }
    match w with
    | .enrol app _ => .next ((s2.keyEvent 0 (if app then o.apps.length else o.owners.length) t).finish j State.stOk [] t)
    | .revoke _ slot => .next ((s2.keyEvent 1 slot t).finish j State.stOk [] t)
    | .lock _ _ => .next (s2.finish j State.stOk [] t)
    | .floor _ => .next (s2.finish j State.stOk [word 0] t)

/-- EV_FW_UPDATE: state 0 begun, 1 committed, 2 closed, and a code of R579. -/
def State.updateEvent (s : State) (st code : Nat) (t : Instant) : State :=
  s.raise 0x0A01 109 [bytesBE 1 st, bytesBE 1 code] t

def State.setSlot (s : State) (slotB : Bool) (m : Memory) : State :=
  let f := s.pwr.flash
  { s with pwr := { s.pwr with flash := if slotB then { f with slotB := m } else { f with slotA := m } } }

/-- FLASH_ERASE_DONE: the slot of FW_UPDATE_BEGIN is erased (14 R593). -/
def execFlashEraseDone (t : Instant) (s : State) : Host.Outcome State Fault Refusal :=
  let s1 := s.tick t
  match s1.pwr.update with
  | none => .next s1
  | some u =>
    match u.erasing with
    | none => .next s1
    | some j =>
      let s2 := (s1.setSlot u.slotB [])
      .next ({ s2 with pwr := { s2.pwr with update := some { u with erasing := none } } }.finish j State.stOk [] t)

/-- FW_UPDATE_TIMEOUT: 10 min without a command close the update and leave its slot erased (14 R593). -/
def execFwUpdateTimeout (t : Instant) (s : State) : Host.Outcome State Fault Refusal :=
  let s1 := s.tick t
  match s1.pwr.update with
  | none => .next s1
  | some u =>
    if t < u.last + sec 600 ∨ u.erasing.isSome then .next s1
    else
      let s2 := s1.setSlot u.slotB []
      .next ({ s2 with pwr := { s2.pwr with update := none } }.updateEvent 2 7 t)

/-! ### Registers (14 R594, R595) -/

namespace State

/-- The hottest sensor, the lowest number on a tie. -/
def hottest (s : State) : Nat :=
  (List.range 8).foldl (fun b i => if (s.sensor b).temp < (s.sensor i).temp then i else b) 0

def pwrState (s : State) : Word :=
  let h := s.hottest
  word (s.pwr.pstate * 2 ^ 30 + atBit s.pwr.keepTime 29 + atBit s.pwr.warn 23 + atBit s.pwr.hotFooting 22
    + ((s.sensor h).temp / 16 % 256).toNat * 256 + h)

/-- The mode of a domain: 0 OFF, 1 RETAIN, 2 ON (14 R570). -/
def domain (s : State) (d : Nat) : Nat :=
  let asleep := s.pwr.asleep.isSome
  let foot := s.flt.state == 2
  let tk := fun (k : BondKeeper) => if !k.supply || (asleep && !s.pwr.keepTime) then 0 else 2
  if d = 1 then tk s.tk.bond.ka
  else if d = 2 then tk s.tk.bond.kb
  else if d = 3 then (if asleep then 0 else 2)
  else if d = 4 ∨ d = 14 then (if asleep then 1 else 2)
  else if d = 5 then (if asleep then 0 else 2)
  else if 6 ≤ d ∧ d ≤ 8 then (if asleep || (foot && s.flt.bufOff) then 0 else 2)
  else if 9 ≤ d ∧ d ≤ 12 then
    (if !(s.quad (d - 9)).powered && (asleep || decide (4 ≤ s.pwr.stage ∧ s.pwr.stage ≤ 7) || (s.quad (d - 9)).footOff)
      then 0 else 2)
  else if d = 15 then (if asleep then 0 else 2)
  else 2

def pwrDomains (s : State) : Word := word ((List.range 16).foldl (fun n d => n + s.domain d * 2 ^ (2 * d)) 0)

def bootStatus (s : State) : Word :=
  let p := s.pwr
  word (p.image * 2 ^ 30 + atBit p.trial 29 + atBit p.late 28 + atBit p.cfgError 27 + atBit p.bandFailA 26
    + atBit p.bandFailB 25 + atBit p.fwd 24 + p.reasonA * 2 ^ 20 + p.reasonB * 2 ^ 16 + p.stage * 4096
    + p.bootsel * 256 + atBit p.hostcfg 7)

def bootTime (s : State) : Word := word (s.pwr.fwdMs * 65536 + s.pwr.readyMs)
def bootCfgErr (s : State) : Word := word (s.pwr.cfgErrIdx * 65536 + s.pwr.cfgErrSt)

def policyWord (s : State) : Word :=
  word (atBit s.pwr.lockPolicy 31 + atBit s.pwr.lockPf0 30 + atBit (s.pwr.otp.perm.getLsbD 0) 29
    + atBit (s.pwr.otp.perm.getLsbD 1) 28 + s.pwr.policy.toNat)

def otpStatus (s : State) : Word :=
  let o := s.pwr.otp
  let bits := fun (l : List OtpKey) (f : OtpKey → Bool) =>
    (List.range 4).foldl (fun n i => n + atBit (match l[i]? with | some k => f k | none => false) i) 0
  word (o.floor * 2 ^ 26 + atBit o.vendor1.revoked 25 + atBit o.vendor0.revoked 24
    + bits o.owners (fun _ => true) * 2 ^ 20 + bits o.owners (·.revoked) * 65536
    + bits o.apps (fun _ => true) * 4096 + bits o.apps (·.revoked) * 256 + atBit o.jtagOff 7)

def recovCtrl (s : State) : Word := word (s.pwr.recovRes * 256 + s.pwr.recovSt)

end State

/-! ### Commands (14 R590 to R593, R597, R598) -/

def bodyPolicyGet (_ : Ctx) (s : State) : Res := .done s [word s.pwr.policy.toNat, 0#32]

/-- The policy after POLICY_SET: the items of MASK take their bits of word 4 (14 R590). -/
def policyOf (old : BitVec 6) (r : Req) : BitVec 6 :=
  let m := BitVec.ofNat 6 (r.w 5)
  (old &&& ~~~m) ||| (BitVec.ofNat 6 (r.w 4) &&& m)

def bodyPolicySet (c : Ctx) (s : State) : Res :=
  let r := c.r
  let p := policyOf s.pwr.policy r
  refuseIf s.pwr.lockPolicy State.stState <|
  refuseIf (!r.only 4 0x3F || !r.only 5 0x3F) State.stBadParam <|
  .done ({ s with pwr := { s.pwr with policy := p } }.raise 0x0A02 110 [bytesBE 1 p.toNat] c.t)

/-- PERMANENT goes with a lock (14 R591). -/
def okConfigLock (r : Req) : Bool := r.only 4 7 && !(r.b 4 2 && !r.b 4 0 && !r.b 4 1)

def bodyConfigLock (c : Ctx) (s : State) : Res :=
  let r := c.r
  let pol := r.b 4 0
  let pf0 := r.b 4 1
  let perm := r.b 4 2
  refuseIf (!okConfigLock r) State.stBadParam <|
  refuseIf (perm && s.pwr.otpWrite.isSome) State.stBusy <|
  let s1 := { s with pwr := { s.pwr with lockPolicy := s.pwr.lockPolicy || pol, lockPf0 := s.pwr.lockPf0 || pf0 } }
  if perm then
    .wait { s1 with pwr := { s1.pwr with otpWrite := some (.lock (BitVec.ofNat 2 (r.f 4 0 2)) s1.pwr.policy, c.jid) } }
  else .done s1

/-- The bytes of `n` packet words, the first byte of each highest. -/
def wordBytes (r : Req) (i n : Nat) : List Byte := (List.range n).flatMap fun j => bytesBE 4 (r.w (i + j))

/-- KIND 1 names the application keys; REVOKE takes no key, and no authorisation goes without an active owner key
(14 R592). -/
def enrolApp (r : Req) : Bool := decide (r.f 4 8 2 = 1)
def enrolSlots (o : Otp) (r : Req) : List OtpKey := if enrolApp r then o.apps else o.owners
def zeroWords (r : Req) (i n : Nat) : Bool := (List.range n).all fun j => r.w (i + j) == 0
def okKeyEnrol (o : Otp) (r : Req) : Bool :=
  r.only 4 0x301 && decide (r.f 4 8 2 ≤ 1) && (!r.b 4 0 || zeroWords r 5 24)
    && ((activeKey o.owners).isSome || zeroWords r 29 24)
/-- The authorisation by the active owner key, over word 4, the key and the serial number. -/
def enrolAuth (o : Otp) (r : Req) : Bool :=
  match activeKey o.owners with
  | some k =>
    ecdsaOk k (sha384 (bytesBE 4 (r.w 4) ++ wordBytes r 5 24 ++ bytesBE 8 o.serial)) (sigNat r 29) (sigNat r 41)
  | none => true
/-- The OTP write of KEY_ENROL. -/
def enrolWrite (o : Otp) (r : Req) : OtpWrite :=
  if r.b 4 0 then .revoke (enrolApp r) (((enrolSlots o r).findIdx? fun k => !k.revoked).getD 0)
  else .enrol (enrolApp r) (wordBytes r 5 24)

def bodyKeyEnrol (c : Ctx) (s : State) : Res :=
  let r := c.r
  let revoke := r.b 4 0
  let o := s.pwr.otp
  let slots := enrolSlots o r
  refuseIf (!okKeyEnrol o r) State.stBadParam <|
  if !enrolAuth o r then .fail State.stNotPermitted [2]
  else
    refuseIf (!revoke && slots.any fun k => k.key == wordBytes r 5 24) State.stConflict <|
    refuseIf (!revoke && decide (4 ≤ slots.length)) State.stResource <|
    refuseIf (revoke && (activeKey slots).isNone) State.stConflict <|
    refuseIf s.pwr.otpWrite.isSome State.stBusy <|
    .wait { s with pwr := { s.pwr with otpWrite := some (enrolWrite o r, c.jid) } }

def hashWords (h : List Byte) : List Word := (List.range 12).map fun i => word (natBE ((h.drop (4 * i)).take 4))

/-- The reply of KEY_STATUS_GET: OTP_STATUS and the hashes of the keys in use (14 R598). -/
def keyStatusWords (s : State) : List Word :=
  let kh := fun (l : List OtpKey) => match activeKey l with
    | some k => hashWords (State.keyHash k)
    | none => List.replicate 12 0#32
  s.otpStatus :: (kh s.pwr.otp.owners ++ kh s.pwr.otp.apps ++ hashWords s.pwr.vendorHash)

def bodyKeyStatusGet (_ : Ctx) (s : State) : Res := .done s (keyStatusWords s)

/-- The slot of the running image, if it came from one. -/
def State.runsSlot (s : State) (slotB : Bool) : Bool := s.pwr.image == (if slotB then 2 else 1)

/-- LENGTH at most a slot (14 R597). -/
def okFwUpdateBegin (r : Req) : Bool := r.only 4 1 && r.only 5 0x7FFFFF && decide (r.w 5 ≤ State.slotSize)

def bodyFwUpdateBegin (c : Ctx) (s : State) : Res :=
  let r := c.r
  let slotB := r.b 4 0
  refuseIf (!okFwUpdateBegin r) State.stBadParam <|
  refuseIf (s.runsSlot slotB) State.stConflict <|
  refuseIf s.pwr.update.isSome State.stBusy <|
  .wait ({ s with pwr := { s.pwr with update := some {
    slotB := slotB, length := r.w 5, last := c.t, erasing := some c.jid } } }.updateEvent 0 7 c.t)

def fwDataPw (r : Req) : Bool := decide (2 ≤ r.pw ∧ r.pw ≤ 1017)

/-- Bytes go to an open update after those written so far, none past its length (14 R593). -/
def State.fwWrite (s : State) (u : FwUpdate) (bs : List Byte) (n : Nat) (t : Instant) : State :=
  let m := if u.slotB then s.pwr.flash.slotB else s.pwr.flash.slotA
  let s1 := s.setSlot u.slotB (m.writeN u.written (bs.take (u.length - u.written)))
  { s1 with pwr := { s1.pwr with update := some { u with written := u.written + n, last := t } } }

def bodyFwUpdateData (c : Ctx) (s : State) : Res :=
  let r := c.r
  let off := r.f 4 0 23
  let n := r.pw - 1
  match s.pwr.update with
  | none => .fail State.stState
  | some u =>
    refuseIf u.erasing.isSome State.stState <|
    refuseIf (!r.only 4 0x7FFFFF || decide (off % 4 ≠ 0)) State.stBadParam <|
    refuseIf (decide (off ≠ u.written) || decide ((u.length + 3) / 4 * 4 < off + 4 * n)) State.stConflict <|
    .done (s.fwWrite u (State.wordsBytes (r.params.drop 1)) (4 * n) c.t)

/-- The open update has been written to at `t` (14 R593). -/
def State.touchUpdate (s : State) (t : Instant) : State :=
  { s with pwr := { s.pwr with update := s.pwr.update.map fun u => { u with last := t } } }

/-- ACTIVATE: the directory names the slot on trial, and an update open on it closes (14 R593). -/
def State.fwActivate (s : State) (slotB : Bool) (t : Instant) : State :=
  let s1 := (s.touchUpdate t).writeDirectory true slotB
  let open_ := match s1.pwr.update with | some u => u.slotB == slotB | none => false
  let s2 := if open_ then { s1 with pwr := { s1.pwr with update := none } } else s1
  s2.updateEvent 1 0 t

/-- CONFIRM: an image on trial becomes the one that the directory names (14 R593). -/
def State.fwConfirm (s : State) (t : Instant) : State :=
  if s.pwr.trial then
    let s1 := (s.touchUpdate t).writeDirectory false (s.pwr.image == 2)
    { s1 with pwr := { s1.pwr with trial := false } }
  else s.touchUpdate t

def bodyFwUpdateCommit (c : Ctx) (s : State) : Res :=
  let r := c.r
  let slotB := r.b 4 8
  let act := r.f 4 0 2
  let code := s.imageCode (s.slotRead slotB) true
  refuseIf (act == 3 && s.pwr.trial) State.stState <|
  refuseIf (!r.only 4 0x103) State.stBadParam <|
  if code ≠ 0 then .fail State.stConflict [word code] (fun s => s.touchUpdate c.t)
  else if act = 0 then .done (s.touchUpdate c.t) [word 0]
  else if act = 1 then .done (s.fwActivate slotB c.t) [word 0]
  else if act = 2 then .done (s.fwConfirm c.t) [word 0]
  else if s.pwr.otpWrite.isSome then .fail State.stBusy
  else
    let s1 := s.touchUpdate c.t
    .wait { s1 with pwr := { s1.pwr with otpWrite := some (.floor s.pwr.svn, c.jid) } }

/-- The reply of POWER_STATUS_GET (14 R598). -/
def powerStatusWords (s : State) : List Word :=
  let h := s.hottest
  [s.pwrState, s.pwrDomains, word s.pwr.cause.toNat, s.bootStatus, s.bootTime, s.bootCfgErr,
    word s.pwr.wakeLatch.toNat, word s.pwr.wakeEn.toNat, word s.pwr.wakeAfter, s.dieTemp h, word h]

def bodyPowerStatusGet (_ : Ctx) (s : State) : Res := .done s (powerStatusWords s)

def bodyWakeCfgSet (c : Ctx) (s : State) : Res :=
  let r := c.r
  refuseIf (!r.only 4 0xFFFF) State.stBadParam <|
  .done { s with pwr := { s.pwr with
    wakeEn := BitVec.ofNat 16 (r.w 4) &&& 0xBEFF#16, wakeAfter := r.w 5 } }

def bodyWakeCfgGet (_ : Ctx) (s : State) : Res := .done s [word s.pwr.wakeEn.toNat, word s.pwr.wakeAfter]

/-- Footing, a running core or an open update keeps the device awake (14 R598). -/
def sleepBarred (s : State) : Bool :=
  s.flt.state != 0 || (s.cores.ac0.status == .running || s.cores.ac1.status == .running) || s.pwr.update.isSome

/-- A sleep entry accepted at `t` for A: every front port goes down at A (14 R585). -/
def State.sleepAt (s : State) (keep : Bool) (drain : Nat) (a : Instant) (jid : Nat) (t : Instant) : State :=
  let s1 := { s with pwr := { s.pwr with
    wakePend := false, waits := s.pwr.waits ++ [(PowerWait.sleep keep drain, a, jid)] } }
  (s1.stagePortOff a t (List.range 64) true).powerDue t

def bodySleepEnter (c : Ctx) (s : State) : Res :=
  let r := c.r
  let a := match c.a with | some a => a | none => c.t
  refuseIf (sleepBarred s) State.stState <|
  refuseIf (!r.only 4 0x80000000 || !r.only 5 0xFFFFF) State.stBadParam <|
  if c.a.isSome ∧ a < c.t + ms 1 then .fail State.stTooLate
  else .wait (s.sleepAt (r.b 4 31) (r.f 5 0 20) a c.jid c.t)

def bodyDeviceReset (c : Ctx) (s : State) : Res :=
  let r := c.r
  let a := match c.a with | some a => a | none => c.t
  refuseIf (!r.only 4 1) State.stBadParam <|
  if c.a.isSome ∧ a < c.t + ms 1 then .fail State.stTooLate
  else .wait { s with pwr := { s.pwr with waits := s.pwr.waits ++ [(PowerWait.reset (r.b 4 0), a, c.jid)] } }

end Sys2Proof.Machine
end

