-- ==== Sys2Proof/Machine/Host.lean ====
section
/-! DEFINITION. The host side: semaphore, mailboxes, timeouts, reply rings, doorbells, function and host resets,
and the system commands (12 R494 to R522). -/

namespace Sys2Proof.Machine

namespace State

/-! ### The semaphore (12 R494 to R498) -/

/-- Sets bits of SEM_FLAGS of a host and its doorbell 4. -/
def semFlag (s : State) (h : HostPort) (bits : BitVec 5) : State :=
  let r := s.hostRegs h
  (s.setHostRegs h { r with semFlags := r.semFlags ||| bits }).ringDbBoth h 4

def semHolder (s : State) : Option HostPort :=
  match s.host.sem.owner with
  | .free => none
  | .h0 => some .h0
  | .h1 => some .h1

/-- The lease restarts: it is timed in ticks of 1 µs (12 R494). -/
def semRestart (s : State) (t : Instant) : State :=
  { s with host := { s.host with sem := { s.host.sem with
      expiry := t / us 1 * us 1 + us s.host.sem.lease } } }

/-- The semaphore becomes FREE: FREED at both hosts, `why` at the one that held it, and its open batches abort
(12 R496, R517). -/
def semFree (s : State) (why : BitVec 5) (t : Instant) : State :=
  match s.semHolder with
  | none => s
  | some h =>
    let s1 := { s with host := { s.host with sem := { s.host.sem with owner := .free } } }
    let s2 := (s1.semFlag h (0x10#5 ||| why)).semFlag h.other 0x10#5
    (s2.abortBatch h.pf0 t).abortBatch h.pf1 t

/-- A lease with no renewal for LEASE has expired (12 R496). -/
def semExpire (s : State) (t : Instant) : State :=
  if s.semHolder.isSome ∧ s.host.sem.expiry ≤ t then s.semFree 0x08#5 t else s

/-- A lease that ran out in a tick before that of `t`: no renewal can keep it (12 R496). -/
def semLapse (s : State) (t : Instant) : State := if s.host.sem.expiry + us 1 ≤ t then s.semExpire t else s

def semRenew (s : State) (h : HostPort) (t : Instant) : State :=
  let s1 := s.semLapse t
  if s1.semHolder = some h then s1.semRestart t else s1

def semAcquire (s0 : State) (h : HostPort) (t : Instant) : State :=
  let s := s0.semLapse t
  if s.semHolder = some h then s.semRestart t
  else
    let s1 := s.semExpire t
    match s1.semHolder with
    | some _ => (s1.semFlag h 0x02#5).countF h.pf0 1
    | none =>
      let s2 := { s1 with host := { s1.host with sem := { s1.host.sem with
        owner := h.owner, epoch := (s1.host.sem.epoch + 1) % 65536 } } }
      (s2.semRestart t).semFlag h 0x01#5

def semRelease (s : State) (h : HostPort) (why : BitVec 5) (t : Instant) : State :=
  let s1 := s.semExpire t
  if s1.semHolder = some h then s1.semFree why t else s1

def semLeaseSet (s : State) (h : HostPort) (value : Nat) : State :=
  if s.semHolder = some h ∧ 50 ≤ value ∧ value ≤ 800 then
    { s with host := { s.host with sem := { s.host.sem with lease := value } } }
  else s

def mbTimeoutSet (s : State) (h : HostPort) (value : Nat) : State :=
  if s.semHolder = some h ∧ 20 ≤ value ∧ value ≤ 10000 then { s with host := { s.host with mbTimeout := value } } else s

/-! ### Mailboxes (12 R499 to R502, 13 R534) -/

/-- The registers of the mailbox whose slot is `slot`, of one sender: the common one for slots 0 and 1. A core
has one mailbox, held as its common one. -/
def mbox (s : State) (x : Sender) (slot : Nat) : MboxRegs :=
  if slot < 2 ∨ 6 ≤ slot then (s.fn x).cmb else (s.fn x).pmb
def setMbox (s : State) (x : Sender) (slot : Nat) (m : MboxRegs) : State :=
  if slot < 2 ∨ 6 ≤ slot then s.setFn x { s.fn x with cmb := m } else s.setFn x { s.fn x with pmb := m }

def slotOf (s : State) (slot : Nat) : Option Notice := Tbl.get none s.host.slots slot
def setSlotOf (s : State) (slot : Nat) (n : Option Notice) : State :=
  { s with host := { s.host with slots := Tbl.set none s.host.slots slot n } }

/-- Rings a doorbell of a host function; a core has none. -/
def ringIf (s : State) (x : Sender) (bit : Nat) : State := if x.code < 4 then s.ringDb x bit else s

/-- A GO: the notice enters the slot, replaces the one there, or is discarded (12 R500, R501). -/
def sendNotice (s : State) (x : Sender) (slot tag : Nat) (t : Instant) : State :=
  let s0 := match x.host with
    | some h => (s.wakeSource 13).semRenew h t
    | none => s
  let m := s0.mbox x slot
  let noCmd := match x.core with
    | some c => !(s0.ac c).permits.getLsbD 5
    | none => false
  if slot < 2 && !s0.holds x then
    (s0.setMbox x slot { m with notHolder := true }).ringIf x 6
  else if !(s0.fn x).enable || noCmd then (s0.setMbox x slot { m with noRing := true }).ringIf x 6
  else
    let n : Notice := { sender := x, buf := { lo := m.lo, hi := m.hi, len := m.len }, tag := tag % 65536, t := t
                        until_ := t + us s0.host.mbTimeout }
    let s1 := match s0.slotOf slot with
      | none => s0
      | some o =>
        let y := o.sender
        let s' := s0.setMbox y slot { s0.mbox y slot with collide := true, collideTag := o.tag }
        (s'.countF y 2).ringIf y 3
    s1.setSlotOf slot (some n)

/-- A notice not taken in time leaves its slot (12 R502). -/
def timeoutNotice (s : State) (slot : Nat) (n : Notice) : State :=
  let x := n.sender
  let s1 := s.setSlotOf slot none
  let s2 := s1.setMbox x slot { s1.mbox x slot with timeout := true, timeoutTag := n.tag }
  (s2.countF x 3).ringIf x 2

/-! ### Rings and doorbells (12 R510 to R513) -/

def ringEnable (s : State) (x : Sender) (log2 : Nat) : State :=
  let f := s.fn x
  let top := if x.code < 4 then 12 else 8
  if f.enable ∨ log2 < 4 ∨ top < log2 then s
  else s.setFn x { f with enable := true, log2 := log2, wr := 0, rd := 0, phase := true }

/-- A write that clears ENABLE is taken once no command of the function is open (12 R520). -/
def ringDisable (s : State) (x : Sender) : State :=
  let f := s.fn x
  if !f.enable then s
  else if s.openOf x = 0 then s.setFn x { f with enable := false }
  else s.setFn x { f with disableWanted := true }

def ringRead (s : State) (x : Sender) (value : Nat) : State :=
  let f := s.fn x
  drainWaiting x f.waiting.length (s.setFn x { f with rd := value % 4096 })

/-- DB_RING sets SOFT bits at the other host's function of the same kind. -/
def dbRing (s : State) (x : Sender) (value : Word) : State :=
  (List.range 8).foldl (fun s i => if value.getLsbD (24 + i) then s.ringDb x.peer (24 + i) else s) s

/-- A new DB_MASK: a set bit that it unmasks sends its message. -/
def dbMaskSet (s : State) (x : Sender) (value : Word) : State :=
  let f := s.fn x
  let due := f.dbStatus &&& f.dbMask &&& ~~~value
  (List.range 32).foldl (fun s i =>
    if due.getLsbD i then s.msixSend x (Tbl.get i f.dbMap i) else s) (s.setFn x { f with dbMask := value })

/-! ### Function Level Reset and PERST (12 R497, R518; 14 R572, R587) -/

/-- The uncommitted commands of a function end without a reply, and the final replies of its committed ones are
discarded (12 R511, R518). -/
def dropUncommitted (s : State) (x : Sender) : State :=
  let s1 := s.setBatch x none
  let gone := s1.host.journal.filter fun e => e.2.req.sender == x && (e.2.state != .committed || e.2.posted)
  gone.foldl (fun s e => s.closeJrec e.1) s1

/-- What R518 does to a function. -/
def fnReset (s : State) (x : Sender) : State :=
  let mine := s.host.slots.filter fun e => match e.2 with
    | some n => n.sender == x
    | none => false
  let s1 := mine.foldl (fun s e => s.setSlotOf e.1 none) s
  let f := s1.fn x
  let s2 := if f.waiting.isEmpty then s1 else s1.countF x 4 f.waiting.length
  (s2.setFn x { palletWin := f.palletWin }).dropUncommitted x

/-- EV_PERST, its wake source, and, in sleep, the record that waits for the wake (14 R587, 13 R549). -/
def perstEvent (s : State) (h : HostPort) (released : Bool) (t : Instant) : State :=
  let c := 2 * h.code + (if released then 1 else 0)
  let s1 := s.wakeSource (10 + h.code)
  if s1.pwr.asleep.isSome then { s1 with pwr := { s1.pwr with perstLatched := s1.pwr.perstLatched ++ [c] } }
  else s1.raise 0x0B01 106 [bytesBE 1 c] t

end State

def execSemAcquire (h : HostPort) (t : Instant) (s : State) : Host.Outcome State Fault Refusal :=
  let s1 := s.tick t
  if s1.hostOff h.pf0 then .next s1 else .next (s1.semAcquire h t)

def execSemRenew (h : HostPort) (t : Instant) (s : State) : Host.Outcome State Fault Refusal :=
  .next ((s.tick t).semRenew h t)

def execSemRelease (h : HostPort) (t : Instant) (s : State) : Host.Outcome State Fault Refusal :=
  .next ((s.tick t).semRelease h 0 t)

/-- SEM_LEASE_EXPIRY: LEASE has passed since the last renewal. -/
def execSemLeaseExpiry (t : Instant) (s : State) : Host.Outcome State Fault Refusal :=
  .next ((s.tick t).semExpire t)

/-- SEM_LINK_LOST: the PCIe data link of a host goes down; a host that holds the semaphore loses it (12 R497). -/
def execSemLinkLost (h : HostPort) (t : Instant) (s : State) : Host.Outcome State Fault Refusal :=
  .next ((s.tick t).semRelease h 0x04#5 t)

def execSemLeaseWrite (h : HostPort) (value : Nat) (t : Instant) (s : State) :
    Host.Outcome State Fault Refusal :=
  .next ((s.tick t).semLeaseSet h value)

def execMbTimeoutWrite (h : HostPort) (value : Nat) (t : Instant) (s : State) :
    Host.Outcome State Fault Refusal :=
  .next ((s.tick t).mbTimeoutSet h value)

/-- CMB_GO: a GO to the common mailbox of a host function. -/
def execCmbGo (fn : Sender) (tag : Nat) (t : Instant) (s : State) : Host.Outcome State Fault Refusal :=
  let s1 := s.tick t
  if 4 ≤ fn.code ∨ s1.hostOff fn then .next s1 else .next (s1.sendNotice fn (if fn.pf1 then 1 else 0) tag t)

/-- PMB_GO: a GO to the private mailbox of a host function. -/
def execPmbGo (fn : Sender) (tag : Nat) (t : Instant) (s : State) : Host.Outcome State Fault Refusal :=
  let s1 := s.tick t
  if 4 ≤ fn.code ∨ s1.hostOff fn then .next s1 else .next (s1.sendNotice fn (2 + fn.code) tag t)

/-- AC_MAILBOX_GO: a running core writes MB_GO (13 R534). -/
def execAcMailboxGo (core : AppCore) (tag : Nat) (t : Instant) (s : State) : Host.Outcome State Fault Refusal :=
  let s1 := s.tick t
  if (s1.ac core).status = .running then .next (s1.sendNotice core.sender (2 + core.sender.code) tag t) else .next s1

/-- MAILBOX_TIMEOUT: MB_TIMEOUT has passed since the GO of the notice in a slot. -/
def execMailboxTimeout (slot : Nat) (t : Instant) (s : State) : Host.Outcome State Fault Refusal :=
  let s1 := s.tick t
  match s1.slotOf slot with
  | none => .next s1
  | some n => if n.until_ ≤ t then .next (s1.timeoutNotice slot n) else .next s1

/-- BATCH_TIMEOUT: 10 ms have passed since the last take of an open batch (12 R516). -/
def execBatchTimeout (fn : Sender) (t : Instant) (s : State) : Host.Outcome State Fault Refusal :=
  let s1 := s.tick t
  match Tbl.find s1.host.batch fn.code with
  | none => .next s1
  | some last => if last + ms 10 ≤ t then .next (s1.abortBatch fn t) else .next s1

/-- The completed command whose final reply comes next: the earliest completion instant, then the earliest take
(12 R509). -/
def State.nextFinished (s : State) (t : Instant) : Option (Nat × Finish) :=
  s.host.journal.foldl (fun best e =>
    match e.2.finish with
    | none => best
    | some f =>
      if e.2.posted || decide (t < f.t) then best
      else
        match best with
        | none => some (e.1, f)
        | some b => if f.t < b.2.t then some (e.1, f) else best) none

/-- COMMAND_COMPLETE: the final reply of a completed command is posted. -/
def execCommandComplete (t : Instant) (s : State) : Host.Outcome State Fault Refusal :=
  let s1 := s.tick t
  match s1.nextFinished t with
  | none => .next s1
  | some (j, f) => .next (s1.endCommand j f.status f.words f.t)

/-- RR_RD_WRITE: waiting replies are posted while the ring has room. -/
def execRrRdWrite (fn : Sender) (value : Nat) (t : Instant) (s : State) : Host.Outcome State Fault Refusal :=
  let s1 := s.tick t
  if s1.hostOff fn then .next s1 else .next (s1.ringRead fn value)

def execRingEnable (fn : Sender) (log2 : Nat) (t : Instant) (s : State) : Host.Outcome State Fault Refusal :=
  let s1 := s.tick t
  if s1.hostOff fn then .next s1 else .next (s1.ringEnable fn log2)

def execRingDisable (fn : Sender) (t : Instant) (s : State) : Host.Outcome State Fault Refusal :=
  .next ((s.tick t).ringDisable fn)

def execDbRing (fn : Sender) (value : Word) (t : Instant) (s : State) : Host.Outcome State Fault Refusal :=
  let s1 := s.tick t
  if 4 ≤ fn.code ∨ s1.hostOff fn then .next s1 else .next (s1.dbRing fn value)

def execDbMaskWrite (fn : Sender) (value : Word) (t : Instant) (s : State) :
    Host.Outcome State Fault Refusal :=
  let s1 := s.tick t
  if 4 ≤ fn.code ∨ s1.hostOff fn then .next s1 else .next (s1.dbMaskSet fn value)

/-- FUNCTION_LEVEL_RESET. The semaphore stays (12 R497). -/
def execFunctionLevelReset (fn : Sender) (t : Instant) (s : State) : Host.Outcome State Fault Refusal :=
  let s1 := s.tick t
  if 4 ≤ fn.code then .next s1 else .next (s1.fnReset fn)

/-- HOST_RESET: Hx_PERST_N is asserted. The uncommitted commands end without a reply before the semaphore is
released, so R517 finds no batch to answer. -/
def execHostReset (h : HostPort) (t : Instant) (s : State) : Host.Outcome State Fault Refusal :=
  let s1 := s.tick t
  let r := s1.hostRegs h
  if r.perst then .next s1
  else
    let s0 := (s1.dropUncommitted h.pf0).dropUncommitted h.pf1
    let s2 := ((s0.semRelease h 0x04#5 t).fnReset h.pf0).fnReset h.pf1
    .next ((s2.setHostRegs h { s2.hostRegs h with perst := true }).perstEvent h false t)

/-- HOST_RESET_RELEASE: Hx_PERST_N is de-asserted. -/
def execHostResetRelease (h : HostPort) (t : Instant) (s : State) : Host.Outcome State Fault Refusal :=
  let s1 := s.tick t
  let r := s1.hostRegs h
  if !r.perst then .next s1
  else .next ((s1.setHostRegs h { r with perst := false }).perstEvent h true t)

/-! ### System commands (12 R522) -/

namespace State

def chipId : Word := 0x642500B1#32

def fwState (s : State) : Word :=
  word (atBit s.host.ready 31 + s.host.interp * 2 ^ 26 + s.host.fwMajor * 65536 + s.host.fwMinor)

def freeSlots (s : State) : Nat := 128 - s.openAll

end State

def bodyNop (_ : Ctx) (s : State) : Res := .done s [word s.freeSlots]

def bodySysInfoGet (_ : Ctx) (s : State) : Res :=
  .done s [State.chipId, s.fwState, word (if s.pwr.image = 2 then 1 else 0), word s.pwr.subsys,
    word s.pwr.otp.serial, word (s.pwr.otp.serial / 4294967296), word (s.freeSlots * 256 + s.openAll)]

def JState.code : JState → Nat
  | .taken => 0
  | .held => 1
  | .committed => 2

/-- The two words of a record; through PF0 a PF1 sender's tag and opcode read 0. -/
def JRec.words (r : JRec) (pf0 : Bool) : List Word :=
  let hide := pf0 && r.req.sender.pf1
  [word (r.req.sender.code * 2 ^ 29 + r.state.code * 2 ^ 27 + atBit r.req.viaPriv 26 + (if hide then 0 else r.req.tag)),
   word (r.epoch * 65536 + (if hide then 0 else r.opcode))]

/-- One to 32 records from one of the 128 (12 R522). -/
def okJournalGet (r : Req) : Bool :=
  r.only 4 0xFFFF && decide (1 ≤ r.f 4 8 8 ∧ r.f 4 8 8 ≤ 32) && decide (r.f 4 0 8 ≤ 127)

def bodyJournalGet (c : Ctx) (s : State) : Res :=
  let n := c.r.f 4 8 8
  let first := c.r.f 4 0 8
  refuseIf (!okJournalGet c.r) State.stBadParam <|
  let recs := (s.host.journal.drop first).take n
  .done s ([word recs.length, word s.openAll] ++ recs.flatMap fun e => e.2.words (!c.r.sender.pf1))

end Sys2Proof.Machine
end

