-- ==== Sys2Proof/Machine/Registers.lean ====
section
/-! DEFINITION. The registers of BAR0 as a host reads and writes them, writes into BAR2, and an application core's
writes into its own map (12 R490 to R493, R519, R520; the register sections of chapters 2 to 14; 13 R527, R537). -/

namespace Sys2Proof.Machine

namespace State

/-- A count of tiles as 20 bits, two's complement (05 R203). -/
def tiles20 (n : Int) : Word := word (n % 1048576).toNat

def stateOf (o : Host.Outcome State Fault Refusal) (s : State) : State :=
  match o with
  | .next s' => s'
  | .fault _ => s
  | .refused _ => s

/-! ### Reads -/

def tableStatus (s : State) : Word :=
  word (atBit (s.fab.staged.any (·.txn)) 4 + atBit s.tab.eccUncorr 3 + atBit s.tab.flap 2 + atBit s.tab.l2Full 1
    + atBit s.tab.learnOvf 0)

def tableRead (s : State) (o : Nat) (t : Instant) : Word :=
  let free := fun i => (freeBlocks s i t).length
  match o with
  | 0x1000 => s.tableStatus
  | 0x1004 => word (s.fab.txnCount * 256 + s.tgenOf 0)
  | 0x1008 => word (s.tab.highWater * 65536 + s.tab.queue.length)
  | 0x100C => word (s.cfg.l2.filter fun e => e.2.isSome).length
  | 0x1010 => word (s.cfg.hosts.filter fun e => e.2.isSome).length
  | 0x1014 => word (free 3 * 2 ^ 20 + free 2 * 1024 + free 1)
  | 0x1018 => word (free 7 * 2 ^ 24 + free 6 * 65536 + free 5 * 256 + free 4)
  | 0x101C => portBits 0 fun p => (s.cfgOf 0).live.getLsbD p
  | 0x1020 => portBits 32 fun p => (s.cfgOf 0).live.getLsbD p
  | 0x1024 => match s.tab.eccLog with
    | some (c, tb, i) => word (2 ^ 31 + c * 2 ^ 28 + tb * 2 ^ 24 + i % 2 ^ 18)
    | none => 0#32
  | _ => 0#32

/-- QSTATUS of a queue (05 R203). -/
def queueStatus (s : State) (q : Nat) (t : Instant) : Word :=
  let p := q / 8
  let k := q % 8
  let m := s.model p
  let c := (s.cfgOf 5).queue q
  let d := s.depth q
  word (atBit (decide (k ≤ 5) && m.paused ((s.cfgOf 5).pause p) t) 31 + atBit (k == 6 && decide (s.credit6 p t < 0)) 30
    + atBit (c.ecnEn && decide (c.ecnTh ≤ d)) 29 + atBit (decide (c.dpTh ≤ d)) 28 + atBit (!m.up) 27 + d)

def bufStatus (s : State) : Word :=
  let e := s.egr
  word (atBit (decide (1024 ≤ e.retired.length)) 6 + atBit e.c7Empty 5 + atBit e.fwEmpty 4 + atBit e.sharedEmpty 3
    + atBit e.eccUncorr 2 + atBit e.underrun 1
    + atBit (decide (e.freeShared < 0 ∨ e.freeC7 < 0 ∨ e.freeFw < 0)) 0)

def ceiling (s : State) (p : Nat) (t : Instant) : Bool :=
  match (s.model p).ignoreUntil with
  | some u => decide (t < u)
  | none => false

def bufRead (s : State) (o : Nat) (t : Instant) : Word :=
  let paused := fun p => (s.model p).paused ((s.cfgOf 5).pause p) t
  if 0x2000 ≤ o ∧ o < 0x2880 then s.queueStatus ((o - 0x2000) / 4) t
  else
    match o with
    | 0x1400 => s.bufStatus
    | 0x1404 => tiles20 (s.cfgOf 5).sharedSize
    | 0x1408 => tiles20 s.egr.freeShared
    | 0x140C => tiles20 s.egr.freeC7
    | 0x1410 => tiles20 s.egr.freeFw
    | 0x1414 => word (min 524287 s.egr.peak)
    | 0x1418 => word (min 1024 s.egr.retired.length)
    | 0x141C => match s.egr.eccLog with
      | some a => word (2 ^ 31 + a % 524288)
      | none => 0#32
    | 0x1420 => portBits 0 paused
    | 0x1424 => portBits 32 paused
    | 0x1428 => portBits 0 fun p => s.ceiling p t
    | 0x142C => portBits 32 fun p => s.ceiling p t
    | _ => 0#32

def courseStatus (s : State) (p : Nat) (t : Instant) : Word :=
  let c := s.course p
  word (atBit (!c.act.idle) 31 + c.active * 2 ^ 30 + atBit c.pend.isSome 29 + atBit c.misfit 28 + atBit c.missing 27
    + c.gates % 128 * 65536 + courseOf c t % 65536)

def courseRead (s : State) (o : Nat) (t : Instant) : Word :=
  if 0x2900 ≤ o ∧ o < 0x2A00 then s.courseStatus ((o - 0x2900) / 4) t
  else
    match o with
    | 0x2A00 => portBits 0 fun p => s.crs.late.getLsbD p
    | 0x2A04 => portBits 32 fun p => s.crs.late.getLsbD p
    | 0x2A08 => portBits 0 fun p => !(s.course p).act.idle
    | 0x2A0C => portBits 32 fun p => !(s.course p).act.idle
    | _ => 0#32

def mortarRead (s : State) (o : Nat) : Word :=
  let ex := mask68Words (excludedNow s)
  if 0x0D00 ≤ o ∧ o < 0x0E10 then word (Tbl.get 0 s.fab.digestVal ((o - 0x0D00) / 4))
  else
    match o with
    | 0x0C00 => mortarStatus s
    | 0x0C04 => word s.fab.ringCount
    | 0x0C08 => word (min 0xFFFF s.fab.gapMax)
    | 0x0C0C => word s.cfgNow.maxRes
    | 0x0C10 => word s.cfgNow.stallLimit
    | 0x0C14 => ex.getD 0 0
    | 0x0C18 => ex.getD 1 0
    | 0x0C1C => ex.getD 2 0
    | 0x0C20 => word (atBit s.digestDoneNow 1 + atBit s.fab.digest.isSome 0)
    | _ => 0#32

/-- Word `i` of a list laid over consecutive DWORDs from `base`. -/
def laid (ws : List Word) (base o : Nat) : Word := ws.getD ((o - base) / 4) 0

def keeperRead (s : State) (o : Nat) (t : Instant) : Word :=
  if 0x3020 ≤ o ∧ o < 0x3030 then laid s.tk.timeA 0x3020 o
  else if 0x3030 ≤ o ∧ o < 0x3040 then laid s.tk.timeB 0x3030 o
  else if 0x3040 ≤ o ∧ o < 0x3060 then
    laid (s.tk.a.steerWords ++ s.tk.b.steerWords ++ intervalWords s.tk.a.offset ++ intervalWords s.tk.b.offset) 0x3040 o
  else
    match o with
    | 0x3000 => s.tkState .a
    | 0x3004 => s.tkState .b
    | 0x3008 => word s.tk.flags.toNat
    | 0x300C => s.refQual
    | 0x3060 => word (s.tk.a.holdEst s.tk.cfg t)
    | 0x3064 => word (s.tk.b.holdEst s.tk.cfg t)
    | _ => 0#32

def linkRead (s : State) (o : Nat) : Word :=
  let fine := fun p => (s.link p).state == .fine
  if 0x3100 ≤ o ∧ o < 0x3200 then (s.link ((o - 0x3100) / 4)).status
  else if 0x3210 ≤ o ∧ o < 0x3220 then (s.vernier ((o - 0x3210) / 4)).status
  else if o = 0x3200 then portBits 0 fine
  else if o = 0x3204 then portBits 32 fine
  else 0#32

def bondRead (s : State) (o : Nat) (t : Instant) : Word :=
  match o with
  | 0x3400 => s.bondStatus t
  | 0x3404 => word s.tk.bond.flags.toNat
  | 0x3408 => s.bondPhase
  | 0x340C => s.faultCause
  | 0x3410 => s.footingStatus
  | 0x3414 => s.coreStatus t
  | _ => 0#32

def laneRead (s : State) (o : Nat) : Word :=
  let up := fun p => (s.lane p).state == .active || (s.lane p).state == .park
  let parked := fun p => (s.lane p).state == .park
  let present := fun p => (s.lane p).modPresent
  let alarm := fun p => (s.lane p).modAlarm
  if 0x3800 ≤ o ∧ o < 0x3900 then s.laneStatus ((o - 0x3800) / 4)
  else if 0x3900 ≤ o ∧ o < 0x3A00 then s.laneEye ((o - 0x3900) / 4)
  else if 0x3A10 ≤ o ∧ o < 0x3A20 then s.quadStatus ((o - 0x3A10) / 4)
  else if 0x3A40 ≤ o ∧ o < 0x3A60 then s.dieTemp ((o - 0x3A40) / 4)
  else
    match o with
    | 0x3A00 => portBits 0 up
    | 0x3A04 => portBits 32 up
    | 0x3A08 => portBits 0 parked
    | 0x3A0C => portBits 32 parked
    | 0x3A20 => portBits 0 present
    | 0x3A24 => portBits 32 present
    | 0x3A28 => portBits 0 alarm
    | 0x3A2C => portBits 32 alarm
    | 0x3A30 => s.i2cStatus
    | 0x3A34 => s.calStatus
    | _ => 0#32

def tioRead (s : State) (o : Nat) (t : Instant) : Word :=
  if 0x4010 ≤ o ∧ o < 0x4090 then (s.pin ((o - 0x4010) / 16)).last.getD (o / 4 % 4) 0
  else if 0x4200 ≤ o ∧ o < 0x4220 then s.ckoStatus ((o - 0x4200) / 4) t
  else
    match o with
    | 0x4000 => s.evtStatus
    | 0x4004 => s.evtMode
    | 0x4100 => s.mrefStatus
    | 0x4104 => s.timStatus
    | 0x4108 => s.timeioCal
    | _ => 0#32

/-- 32 sources from `lo` on, one bit each. -/
def sourceBits (lo : Nat) (f : Nat → Bool) : Word :=
  word ((List.range 32).foldl (fun n i => if lo + i < 176 then n + atBit (f (lo + i)) i else n) 0)

/-- The EVC block as a target sees it; `o` is the offset less 0x5000. EVC_CLAIM reads here without its effect. -/
def evcRead (s : State) (g : Target) (o : Nat) : Word :=
  let v := s.target g
  if 0x10 ≤ o ∧ o < 0x30 then laid (v.log.headD []) 0x10 o
  else if 0x40 ≤ o ∧ o < 0x50 then laid v.timer0.cmp 0x40 o
  else if 0x60 ≤ o ∧ o < 0x70 then laid v.timer1.cmp 0x60 o
  else if 0x80 ≤ o ∧ o < 0x90 then laid v.tkNow 0x80 o
  else if 0x100 ≤ o ∧ o < 0x118 then sourceBits (8 * (o - 0x100)) (s.pendingAt g)
  else if 0x120 ≤ o ∧ o < 0x138 then sourceBits (8 * (o - 0x120)) fun x => v.inServ.getLsbD x
  else if 0x200 ≤ o ∧ o < 0x4C0 then
    let x := (o - 0x200) / 4
    if x < 160 then word ((s.route x).prio * 65536 + (s.route x).target.code * 256)
    else word (s.prioAt g x * 65536 + g.code * 256 + atBit (isLevel x) 0)
  else
    match o with
    | 0x00 => match s.bestClaim g with
      | some x => word (2 ^ 31 + x)
      | none => 0#32
    | 0x08 => word v.threshold
    | 0x0C => s.evcStatus g
    | 0x38 => word v.vtBase
    | 0x50 => word v.timer0.per
    | 0x54 => word (atBit v.timer1.enable 1 + atBit v.timer0.enable 0)
    | 0x70 => word v.timer1.per
    | _ => 0#32

def coreRead (s : State) (x : Sender) (h : HostPort) (o : Nat) : Word :=
  let head := fun (a : AcState) => match h with | .h0 => a.toH0.headD [] | .h1 => a.toH1.headD []
  if 0x6010 ≤ o ∧ o < 0x6030 then laid (head s.cores.ac0) 0x6010 o
  else if 0x6030 ≤ o ∧ o < 0x6050 then laid (head s.cores.ac1) 0x6030 o
  else if 0x6050 ≤ o ∧ o < 0x6090 then Tbl.get 0 (s.hostRegs h).acMsgTx ((o - 0x6050) / 4)
  else if 0x6120 ≤ o ∧ o < 0x6130 then laid (instantWords s.cores.pallet0.t) 0x6120 o
  else if 0x6130 ≤ o ∧ o < 0x6140 then laid (instantWords s.cores.pallet1.t) 0x6130 o
  else
    match o with
    | 0x6000 => s.acStateWord
    | 0x6004 => s.hostMsgStatus h
    | 0x6104 => s.palletStatus
    | 0x6108 => word (s.fn x).palletWin
    | 0x610C => 0x000059BD#32
    | 0x6110 => word (atBit s.cores.ovfAny 31 + s.cores.ovfLast)
    | _ => 0#32

def powerRead (s : State) (o : Nat) (pf1 : Bool) : Word :=
  if 0x7800 ≤ o ∧ !pf1 then 0#32
  else
    match o with
    | 0x7000 => s.pwrState
    | 0x7004 => s.pwrDomains
    | 0x7008 => word s.pwr.cause.toNat
    | 0x700C => s.bootStatus
    | 0x7010 => s.bootTime
    | 0x7014 => s.bootCfgErr
    | 0x7018 => word s.pwr.wakeLatch.toNat
    | 0x7800 => s.policyWord
    | 0x7804 => s.otpStatus
    | 0x7810 => s.pwr.recovLo
    | 0x7814 => s.pwr.recovHi
    | 0x7818 => word s.pwr.recovLen
    | 0x781C => s.recovCtrl
    | _ => 0#32

/-- A mailbox block: `o` is the offset less 0x40 or 0x60. -/
def mboxRead (s : State) (x : Sender) (slot o : Nat) : Word :=
  let m := s.mbox x slot
  match o with
  | 0x00 => m.lo
  | 0x04 => m.hi
  | 0x08 => word m.len
  | 0x10 =>
    let mine := match s.slotOf slot with
      | some n => n.sender == x
      | none => false
    word (atBit (s.slotOf slot).isSome 31 + atBit mine 30 + atBit m.noRing 4 + atBit m.notHolder 3 + atBit m.timeout 2
      + atBit m.collide 1 + atBit m.taken 0)
  | 0x14 => word (m.timeoutTag * 65536 + m.collideTag)
  | _ => 0#32

/-- The ring block: `o` is the offset less 0x80. -/
def ringReg (f : FnRegs) (o : Nat) : Word :=
  match o with
  | 0x00 => f.rrLo
  | 0x04 => f.rrHi
  | 0x08 => word (atBit f.enable 31 + f.log2)
  | 0x0C => word (atBit f.phase 31 + f.wr)
  | 0x10 => word f.rd
  | 0x14 => word (atBit f.stalled 1 + atBit (f.enable && ringFull f) 0)
  | _ => 0#32

def commonSlot (x : Sender) : Nat := if x.pf1 then 1 else 0

def hostRegRead (s : State) (x : Sender) (h : HostPort) (o : Nat) (t : Instant) : Word :=
  let f := s.fn x
  let m := s.host.sem
  if 0x40 ≤ o ∧ o < 0x58 then s.mboxRead x (commonSlot x) (o - 0x40)
  else if 0x60 ≤ o ∧ o < 0x78 then s.mboxRead x (2 + x.code) (o - 0x60)
  else if 0x80 ≤ o ∧ o < 0x98 then ringReg f (o - 0x80)
  else if 0xD0 ≤ o ∧ o < 0xF0 then
    let k := o - 0xD0
    word ((List.range 4).foldl (fun n i => n + Tbl.get (k + i) f.dbMap (k + i) * 2 ^ (8 * i)) 0)
  else
    match o with
    | 0x00 => chipId
    | 0x04 => word (atBit x.pf1 8 + h.code)
    | 0x08 => s.fwState
    | 0x0C => word (s.openOf x * 256 + s.openAll)
    | 0x10 =>
      let own := match m.owner with | .free => 0 | .h0 => 1 | .h1 => 2
      let left := if s.semHolder.isSome then min 1023 ((m.expiry - t) / us 1) else 0
      word (own * 2 ^ 30 + atBit (s.semHolder == some h) 29 + left * 65536 + m.epoch)
    | 0x18 => word m.lease
    | 0x1C => word (s.hostRegs h).semFlags.toNat
    | 0x20 => word s.host.mbTimeout
    | 0xC0 => f.dbStatus
    | 0xC4 => f.dbMask
    | _ => 0#32

/-- The DWORD of BAR0 at an offset, as a function reads it (12 R490, R491). -/
def regRead (s : State) (x : Sender) (off : Nat) (t : Instant) : Word :=
  match x.host with
  | none => 0#32
  | some h =>
    let o := off / 4 * 4
    if o < 0x0800 then s.hostRegRead x h o t
    else if o < 0x0A00 then Tbl.get (if o % 16 = 12 then 1#32 else 0#32) (s.fn x).msix ((o - 0x0800) / 4)
    else if o = 0x0A00 then (s.fn x).pba
    else if o < 0x0C00 then 0#32
    else if o < 0x1000 then s.mortarRead o
    else if o < 0x1400 then s.tableRead o t
    else if o < 0x2900 then s.bufRead o t
    else if o < 0x3000 then s.courseRead o t
    else if o < 0x3100 then s.keeperRead o t
    else if o < 0x3400 then s.linkRead o
    else if o < 0x3800 then s.bondRead o t
    else if o < 0x4000 then s.laneRead o
    else if o < 0x5000 then s.tioRead o t
    else if o < 0x6000 then s.evcRead (if h = .h0 then Target.h0 else .h1) (o - 0x5000)
    else if o < 0x7000 then s.coreRead x h o
    else if o < 0x8000 then s.powerRead o x.pf1
    else if o < 0x10000 then
      if s.countersPf0 x then
        let w := (s.fn x).palletWin
        palletWord (s.pallet (w / 256 % 2)) (w % 16) (o - 0x8000)
      else 0#32
    else 0#32

/-- What a whole-word read changes: RC fields clear, EVC_CLAIM claims, word 0 of TK_NOW latches (00 R9). -/
def regReadEffect (s : State) (x : Sender) (off : Nat) (t : Instant) : State :=
  let g := if x.host = some .h0 then Target.h0 else .h1
  match off / 4 * 4 with
  | 0x0C08 => { s with fab := { s.fab with gapMax := 0 } }
  | 0x1008 => { s with tab := { s.tab with highWater := 0 } }
  | 0x1414 => { s with egr := { s.egr with peak := 0 } }
  | 0x5000 => stateOf (execEvcClaim g t s) s
  | 0x5080 => s.setTarget g { s.target g with tkNow := instantWords t }
  | _ => s

/-- A read of the first `len` bytes of one DWORD, `len` from 1 to 4: word 0 of TK_NOW latches before it is read
(13 R535), and only a read of the whole word clears RC fields or claims (00 R9, 13 R544). -/
def readDword (s : State) (x : Sender) (off len : Nat) (t : Instant) : Word × State :=
  let s1 := if off / 4 * 4 = 0x5080 then s.regReadEffect x off t else s
  let w := s1.regRead x off t
  if len < 4 then (w &&& BitVec.ofNat 32 (2 ^ (8 * len) - 1), s1)
  else (w, if off / 4 * 4 = 0x5080 then s1 else s1.regReadEffect x off t)

/-- Reads `n` DWORDs in rising order, `len` bytes in all: the last one may be read in part. -/
def readDwords (x : Sender) (t : Instant) : Nat → Nat → Nat → State → List Word × State
  | 0, _, _, s => ([], s)
  | n + 1, off, len, s =>
    let w := s.readDword x off len t
    let r := readDwords x t n (off + 4) (len - 4) w.2
    (w.1 :: r.1, r.2)

/-! ### Writes -/

/-- The bits that byte enables let through. -/
def enMask (en : BitVec 4) : Word :=
  (if en.getLsbD 0 then 0xFF#32 else 0) ||| (if en.getLsbD 1 then 0xFF00#32 else 0)
    ||| (if en.getLsbD 2 then 0xFF0000#32 else 0) ||| (if en.getLsbD 3 then 0xFF000000#32 else 0)

/-- A DWORD written with byte enables: disabled bytes leave RW fields and act as 0 on W1C and WO fields
(12 R490). -/
structure WVal where
  v : Word
  m : Word

def WVal.rw (w : WVal) (old : Word) : Word := (old &&& ~~~w.m) ||| (w.v &&& w.m)
def WVal.one (w : WVal) : Word := w.v &&& w.m
/-- A bit written as 1. -/
def WVal.b (w : WVal) (i : Nat) : Bool := w.one.getLsbD i

/-- A W1C flag. -/
def WVal.clr (w : WVal) (i : Nat) (f : Bool) : Bool := f && !w.b i

/-- Flags of a mask are cleared where a one is written, from bit `lo` of the word. -/
def WVal.clrBits {n : Nat} (w : WVal) (lo : Nat) (f : BitVec n) : BitVec n :=
  f &&& ~~~ BitVec.ofNat n (w.one.toNat / 2 ^ lo)

/-- A write into a mailbox block. -/
def mboxWrite (s : State) (x : Sender) (slot o : Nat) (w : WVal) (t : Instant) : State :=
  let m := s.mbox x slot
  let put := s.setMbox x slot
  match o with
  | 0x00 => put { m with lo := w.rw m.lo &&& 0xFFFFFFFC#32 }
  | 0x04 => if x.code < 4 then put { m with hi := w.rw m.hi } else s
  | 0x08 => put { m with len := (w.rw (word m.len)).toNat % 8192 }
  | 0x0C => s.sendNotice x slot (w.one.toNat % 65536) t
  | 0x10 => put { m with
      noRing := w.clr 4 m.noRing, notHolder := w.clr 3 m.notHolder, timeout := w.clr 2 m.timeout
      collide := w.clr 1 m.collide, taken := w.clr 0 m.taken }
  | _ => s

/-- A write into a ring block (12 R520). -/
def ringWrite (s : State) (x : Sender) (o : Nat) (w : WVal) : State :=
  let f := s.fn x
  match o with
  | 0x00 => if f.enable then s else s.setFn x { f with rrLo := w.rw f.rrLo &&& 0xFFFFFFC0#32 }
  | 0x04 => if f.enable ∨ 4 ≤ x.code then s else s.setFn x { f with rrHi := w.rw f.rrHi }
  | 0x08 =>
    let v := w.rw (word (atBit f.enable 31 + f.log2))
    let k := v.toNat % 16
    if f.enable then (if v.getLsbD 31 then s else s.ringDisable x)
    else
      let top := if x.code < 4 then 12 else 8
      if k < 4 ∨ top < k then s
      else if v.getLsbD 31 then s.ringEnable x k
      else s.setFn x { f with log2 := k }
  | 0x10 => s.ringRead x ((w.rw (word f.rd)).toNat % 4096)
  | 0x14 => s.setFn x { f with stalled := w.clr 1 f.stalled }
  | _ => s

def hostWrite (s : State) (x : Sender) (h : HostPort) (o : Nat) (w : WVal) (t : Instant) : State :=
  let f := s.fn x
  if 0x40 ≤ o ∧ o < 0x58 then s.mboxWrite x (commonSlot x) (o - 0x40) w t
  else if 0x60 ≤ o ∧ o < 0x78 then s.mboxWrite x (2 + x.code) (o - 0x60) w t
  else if 0x80 ≤ o ∧ o < 0x98 then s.ringWrite x (o - 0x80) w
  else if 0xD0 ≤ o ∧ o < 0xF0 then
    let k := o - 0xD0
    let put := fun (d : Tbl Nat) (i : Nat) =>
      if w.m.getLsbD (8 * i) then Tbl.put d (k + i) (w.v.toNat / 2 ^ (8 * i) % 32) else d
    s.setFn x { f with dbMap := [0, 1, 2, 3].foldl put f.dbMap }
  else
    match o with
    | 0x14 =>
      match w.one.toNat % 4 with
      | 1 => s.semAcquire h t
      | 2 => s.semRenew h t
      | 3 => s.semRelease h 0 t
      | _ => s
    | 0x18 => s.semLeaseSet h ((w.rw (word s.host.sem.lease)).toNat % 1024)
    | 0x1C =>
      let r := s.hostRegs h
      s.setHostRegs h { r with semFlags := w.clrBits 0 r.semFlags }
    | 0x20 => s.mbTimeoutSet h ((w.rw (word s.host.mbTimeout)).toNat % 16384)
    | 0xC0 => s.setFn x { f with dbStatus := w.clrBits 0 f.dbStatus }
    | 0xC4 => s.dbMaskSet x (w.rw f.dbMask)
    | 0xC8 => s.dbRing x w.one
    | _ => s

/-- A DWORD of the MSI-X table; a vector that it unmasks sends its pending message (12 R513). -/
def msixWrite (s : State) (x : Sender) (i : Nat) (w : WVal) : State :=
  let f := s.fn x
  let old := Tbl.get (if i % 4 = 3 then 1#32 else 0#32) f.msix i
  let new := w.rw old
  let s1 := s.setFn x { f with msix := Tbl.put f.msix i new }
  let v := i / 4
  if i % 4 = 3 ∧ old.getLsbD 0 ∧ !new.getLsbD 0 ∧ f.pba.getLsbD v then
    (s1.setFn x { s1.fn x with pba := f.pba &&& ~~~ BitVec.ofNat 32 (2 ^ v) }).emit (.msix x v)
  else s1

/-- A write into the EVC block of a target; `o` is the offset less 0x5000. -/
def evcWrite (s : State) (g : Target) (o : Nat) (w : WVal) (t : Instant) : State :=
  let v := s.target g
  -- the reserved bits of an instant's third and fourth word stay 0 (00 R6, R9)
  let keep := fun (base : Nat) =>
    if o = base + 8 then 0x3FFFFFFF#32 else if o = base + 12 then 0xFFFF#32 else 0xFFFFFFFF#32
  let cmp := fun (l : List Word) (base : Nat) => l.set ((o - base) / 4) (w.rw (laid l base o) &&& keep base)
  let per := fun (old : Nat) =>
    let n := (w.rw (word old)).toNat % 2 ^ 30
    if n = 0 ∨ (1000 ≤ n ∧ n ≤ 1000000000) then n else old
  if 0x40 ≤ o ∧ o < 0x50 then s.setTarget g { v with timer0 := { v.timer0 with cmp := cmp v.timer0.cmp 0x40 } }
  else if 0x60 ≤ o ∧ o < 0x70 then s.setTarget g { v with timer1 := { v.timer1 with cmp := cmp v.timer1.cmp 0x60 } }
  else
    match o with
    | 0x04 => stateOf (execEvcComplete g (w.one.toNat % 256) t s) s
    | 0x08 => recheck s (s.setTarget g { v with threshold := (w.rw (word v.threshold)).toNat % 256 }) g
    | 0x0C => s.setTarget g { v with ovf := w.clr 31 v.ovf }
    | 0x30 => stateOf (execEvlogPop g t s) s
    | 0x34 => stateOf (execEvcSoftSet g (w.one.toNat % 32) t s) s
    | 0x38 => if g.host.isSome then s else s.setTarget g { v with vtBase := (w.rw (word v.vtBase)).toNat % 262144 / 4 * 4 }
    | 0x50 => s.setTarget g { v with timer0 := { v.timer0 with per := per v.timer0.per } }
    | 0x54 => stateOf (execTimerEnable g ((w.rw (word (atBit v.timer1.enable 1 + atBit v.timer0.enable 0))).toNat % 4) t s) s
    | 0x70 => s.setTarget g { v with timer1 := { v.timer1 with per := per v.timer1.per } }
    | _ => s

def laneWrite (s : State) (o : Nat) (w : WVal) : State :=
  if 0x3800 ≤ o ∧ o < 0x3900 then
    let p := (o - 0x3800) / 4
    let l := s.lane p
    s.setLane p { l with
      eyeLow := w.clr 13 l.eyeLow, lockLost := w.clr 12 l.lockLost, fallbackEv := w.clr 11 l.fallbackEv }
  else if o = 0x3A28 ∨ o = 0x3A2C then
    let lo := if o = 0x3A28 then 0 else 32
    (List.range 32).foldl (fun s i =>
      if w.b i then s.setLane (lo + i) { s.lane (lo + i) with modAlarm := false } else s) s
  else if o = 0x3A30 then
    [0, 1, 2, 3].foldl (fun s q => if w.b (8 + q) then s.setBus q { s.bus q with nack := false } else s) s
  else s

def tioWrite (s : State) (o : Nat) (w : WVal) : State :=
  if 0x4200 ≤ o ∧ o < 0x4220 then
    let n := (o - 0x4200) / 4
    let v := s.cko n
    s.setCko n { v with bypassEv := w.clr 25 v.bypassEv, stepEv := w.clr 24 v.stepEv }
  else
    match o with
    | 0x4000 => (List.range 8).foldl (fun s p =>
        let v := s.pin p
        s.setPin p { v with outLate := w.clr (24 + p) v.outLate, inDrop := w.clr (16 + p) v.inDrop }) s
    | 0x4100 => s.setTio { s.tio with mrefLost := w.clr 28 s.tio.mrefLost }
    | 0x4104 => (List.range 4).foldl (fun s c =>
        let v := s.chan c
        s.setChan c { v with
          ready := w.clr (8 * c + 4) v.ready, aborted := w.clr (8 * c + 3) v.aborted
          overrange := w.clr (8 * c + 2) v.overrange, rawDrop := w.clr (8 * c + 1) v.rawDrop }) s
    | _ => s

def coreWrite (s : State) (x : Sender) (h : HostPort) (o : Nat) (w : WVal) (t : Instant) : State :=
  if 0x6050 ≤ o ∧ o < 0x6090 then
    let r := s.hostRegs h
    let i := (o - 0x6050) / 4
    s.setHostRegs h { r with acMsgTx := Tbl.set 0 r.acMsgTx i (w.rw (Tbl.get 0 r.acMsgTx i)) }
  else
    match o with
    | 0x6008 =>
      let s1 := stateOf (execHostMsgPop h (w.b 0) (w.b 1) t s) s
      stateOf (execHostMsgSend h (w.b 8) (w.b 9) t s1) s1
    | 0x6100 => if w.b 31 then stateOf (execPalletTrigger (w.one.toNat % 4) t s) s else s
    | 0x6104 => { s with cores := { s.cores with missed := w.clr 29 s.cores.missed } }
    | 0x6108 => s.setFn x { s.fn x with palletWin := ((w.rw (word (s.fn x).palletWin)) &&& 0x10F#32).toNat }
    | _ => s

def powerWrite (s : State) (o : Nat) (pf1 : Bool) (w : WVal) : State :=
  let p := s.pwr
  if 0x7800 ≤ o ∧ !pf1 then s
  else
    match o with
    | 0x7000 => { s with pwr := { p with warn := w.clr 23 p.warn, hotFooting := w.clr 22 p.hotFooting } }
    | 0x7008 => { s with pwr := { p with cause := w.clrBits 0 p.cause } }
    | 0x7018 => { s with pwr := { p with wakeLatch := w.clrBits 0 p.wakeLatch } }
    | 0x701C => if w.b 0 then s.wakeSource 14 else s
    | 0x7810 => if p.stage = 8 then { s with pwr := { p with recovLo := w.rw p.recovLo } } else s
    | 0x7814 => if p.stage = 8 then { s with pwr := { p with recovHi := w.rw p.recovHi } } else s
    | 0x7818 => if p.stage = 8 then { s with pwr := { p with recovLen := (w.rw (word p.recovLen)).toNat % 2 ^ 23 } } else s
    | 0x781C =>
      if p.stage = 8 ∧ w.b 31 ∧ (p.recovSt = 1 ∨ p.recovSt = 4) then { s with pwr := { p with recovSt := 2 } } else s
    | _ => s

/-- W1C fields of the blocks of chapters 2 to 9, and TIME_LATCH. -/
def flagWrite (s : State) (o : Nat) (w : WVal) (t : Instant) : State :=
  if 0x2900 ≤ o ∧ o < 0x2A00 then
    let p := (o - 0x2900) / 4
    let c := s.course p
    s.setCourse p { c with missing := w.clr 27 c.missing }
  else if 0x3100 ≤ o ∧ o < 0x3200 then
    let p := (o - 0x3100) / 4
    let l := s.link p
    s.setLink p { l with
      mismatch := w.clr 24 l.mismatch, rttJump := w.clr 23 l.rttJump, markMiss := w.clr 22 l.markMiss }
  else
    match o with
    | 0x0C00 => { s with fab := { s.fab with stall := w.clr 1 s.fab.stall, slow := w.clr 0 s.fab.slow } }
    | 0x1000 => { s with tab := { s.tab with
        eccUncorr := w.clr 3 s.tab.eccUncorr, flap := w.clr 2 s.tab.flap, l2Full := w.clr 1 s.tab.l2Full
        learnOvf := w.clr 0 s.tab.learnOvf } }
    | 0x1400 => { s with egr := { s.egr with
        c7Empty := w.clr 5 s.egr.c7Empty, fwEmpty := w.clr 4 s.egr.fwEmpty, sharedEmpty := w.clr 3 s.egr.sharedEmpty
        eccUncorr := w.clr 2 s.egr.eccUncorr, underrun := w.clr 1 s.egr.underrun } }
    | 0x2A00 => { s with crs := { s.crs with late := s.crs.late &&& ~~~ BitVec.ofNat 64 w.one.toNat } }
    | 0x2A04 => { s with crs := { s.crs with late := s.crs.late &&& ~~~ BitVec.ofNat 64 (w.one.toNat * 2 ^ 32) } }
    | 0x3008 => { s with tk := { s.tk with flags := w.clrBits 0 s.tk.flags } }
    | 0x3010 => if w.b 0 then s.latchTime t else s
    | 0x3404 => s.setBond { s.tk.bond with flags := w.clrBits 0 s.tk.bond.flags }
    | 0x340C => s.setBond { s.tk.bond with xoFault := w.clr 2 s.tk.bond.xoFault }
    | _ => s

/-- A write of one aligned DWORD into BAR0. -/
def regWrite (s : State) (x : Sender) (off : Nat) (w : WVal) (t : Instant) : State :=
  match x.host with
  | none => s
  | some h =>
    let o := off / 4 * 4
    if o < 0x0800 then s.hostWrite x h o w t
    else if o < 0x0A00 then s.msixWrite x ((o - 0x0800) / 4) w
    else if o < 0x3800 then s.flagWrite o w t
    else if o < 0x4000 then s.laneWrite o w
    else if o < 0x5000 then s.tioWrite o w
    else if o < 0x6000 then s.evcWrite (if h = .h0 then Target.h0 else .h1) (o - 0x5000) w t
    else if o < 0x7000 then s.coreWrite x h o w t
    else if o < 0x8000 then s.powerWrite o x.pf1 w
    else s

/-- A word that an application core stores into its own map: TCM, the EVC interface, the inject and extract rings,
its mailbox and messages, and WDOG_KICK (13 R527, R537). -/
def mapWrite (s : State) (c : AppCore) (addr : Nat) (v : Word) (t : Instant) : State :=
  let a := s.ac c
  let w : WVal := { v := v, m := 0xFFFFFFFF#32 }
  let o := addr % 0x1000 / 4 * 4
  if addr < 0x40000 then s.setAc c { a with tcm := a.tcm.writeWord addr v }
  else if 0x10000000 ≤ addr ∧ addr < 0x10001000 then s.evcWrite c.target o w t
  else if 0x10010000 ≤ addr ∧ addr < 0x10010100 then
    match o with
    | 0x00 => s.setAc c { a with injBase := v.toNat / 16 * 16 }
    | 0x04 => s.setAc c { a with injCfg := v.toNat % 16 }
    | 0x08 => s.setAc c { a with injWr := v.toNat % 2 ^ (a.injCfg % 16) }
    | 0x10 => s.setAc c { a with extBase := v.toNat / 64 * 64 }
    | 0x14 => s.setAc c { a with extCfg := v.toNat % 4096 }
    | 0x1C => s.setAc c { a with extRd := v.toNat % 2 ^ (a.extCfg % 16) }
    | _ => s
  else if 0x10020000 ≤ addr ∧ addr < 0x10020100 then
    if o < 0x18 then s.mboxWrite c.sender (2 + c.sender.code) o w t
    else if 0x40 ≤ o ∧ o < 0x58 then s.ringWrite c.sender (o - 0x40) w
    else if 0x80 ≤ o ∧ o < 0xA0 then s.setAc c { a with msgTx := Tbl.set 0 a.msgTx ((o - 0x80) / 4) v }
    else if o = 0xA0 then
      let s1 := stateOf (execAcMsgPop c (w.b 0) (w.b 1) t s) s
      stateOf (execAcMsgSend c (w.b 8) (w.b 9) t s1) s1
    else s
  else if addr = 0x10030004 then s.setAc c { a with lastKick := t }
  else s

end State

/-- The identity in the configuration space of every function: Vendor and Device ID, Revision ID and class code, and the
subsystem IDs of the running image (12 R489). No command reads it; the offsets are those of the PCI header (PRESUMED,
assumption 147). -/
def State.pciIdentity (s : State) (off : Nat) : Word :=
  if off = 0x00 then 0x64251F3C#32
  else if off = 0x08 then 0x028000B1#32
  else if off = 0x2C then word (s.pwr.subsys % 65536 * 65536 + s.pwr.subsys / 65536)
  else 0#32

/-- REGISTER_WRITE: a host writes BAR0 or BAR2, or a running core stores into its map. A write longer than a DWORD is
discarded and counted (12 R490); BAR2 takes writes into the function's own quarter (12 R492). -/
def execRegisterWrite (fn : Sender) (w : BarWrite) (t : Instant) (s : State) :
    Host.Outcome State Fault Refusal :=
  let s1 := s.tick t
  match w with
  | .bar0 off value en =>
    if 4 ≤ fn.code ∨ s1.hostOff fn ∨ off % 4 ≠ 0 ∨ en = 0 then .next s1
    else .next (s1.regWrite fn off { v := value, m := State.enMask en } t)
  | .bar0Long _ => if 4 ≤ fn.code ∨ s1.hostOff fn then .next s1 else .next (s1.countF fn 0)
  | .bar2 off bytes =>
    if 4 ≤ fn.code ∨ s1.hostOff fn then .next s1
    else
      let keep := bytes.take (0x80000 - off)
      .next { s1 with host := { s1.host with sram := s1.host.sram.writeN (State.quarterBase fn + off) keep } }
  | .core addr value =>
    match fn.core with
    | none => .next s1
    | some c => if (s1.ac c).status = .running then .next (s1.mapWrite c addr value t) else .next s1

/-- RC_FIELD_READ: a host reads `len` bytes of BAR0 from `off`; the words it gets are in `lastRead`, and RC fields of
the words it read whole clear (00 R9, 12 R490). -/
def execRcFieldRead (fn : Sender) (off len : Nat) (t : Instant) (s : State) : Host.Outcome State Fault Refusal :=
  let s1 := s.tick t
  if 4 ≤ fn.code ∨ s1.hostOff fn ∨ off % 4 ≠ 0 ∨ len = 0 ∨ 128 < len then .next s1
  else
    let r := State.readDwords fn t ((len + 3) / 4) off len s1
    .next { r.2 with host := { r.2.host with lastRead := r.1 } }

end Sys2Proof.Machine
end

