-- ==== Sys2Proof/Machine/OpTable.lean ====
section
/-! DEFINITION. The opcode index (12 R523): for each opcode, whether it needs the semaphore, whether a private
mailbox takes it, how it treats APPLY_VALID, its PW and its body; then the meaning of each as a packet that the
interpreter takes. -/

namespace Sys2Proof.Machine

/-! ### PW -/

/-- A packet of 1 to 16 entries of `k` words each (04 R160, R166). -/
def pwMany (k : Nat) (r : Req) : Bool := r.pw % k == 0 && decide (k ≤ r.pw ∧ r.pw ≤ 16 * k)
/-- COURSE_ENTRY_SET: COUNT entries of three words from word 6 (06 R252). -/
def entryPw (r : Req) : Nat := 2 + 3 * r.f 4 16 7
/-- AC_LOAD: data from word 6 (13 R562). -/
def loadPw (r : Req) : Bool := decide (2 ≤ r.pw)

/-! ### The opcodes -/

def opNop : OpSpec :=
  ⟨0x0000, false, true, .ignored, pwIs 0, false, false, false, true, true, 0, bodyNop⟩
def opSysInfoGet : OpSpec :=
  ⟨0x0001, false, true, .ignored, pwIs 0, false, false, false, true, true, 0, bodySysInfoGet⟩
def opJournalGet : OpSpec :=
  ⟨0x0002, false, true, .ignored, pwIs 1, false, false, false, true, true, 0, bodyJournalGet⟩
def opMortarSet : OpSpec :=
  ⟨0x0010, true, false, .honoured, pwIs 2, false, false, false, false, true, us 50, bodyMortarSet⟩
def opMortarGet : OpSpec :=
  ⟨0x0011, false, true, .ignored, pwIs 0, false, false, false, true, true, 0, bodyMortarGet⟩
def opDigestRun : OpSpec :=
  ⟨0x0012, false, true, .mustBe true, pwIs 4, false, false, false, true, true, us 50, bodyDigestRun⟩

/-- Opcodes 0x00xx (12 R522, 02 R84 to R86). -/
def opsSys : List OpSpec :=
  [opNop,
   opSysInfoGet,
   opJournalGet,
   opMortarSet,
   opMortarGet,
   opDigestRun]

def opPortSet : OpSpec :=
  ⟨0x0100, true, false, .honoured, pwIs 4, false, false, false, false, true, us 200, bodyPortSet⟩
def opPortGet : OpSpec :=
  ⟨0x0101, false, true, .ignored, pwIs 1, false, false, false, true, true, 0, bodyPortGet⟩
def opLaneStatusGet : OpSpec :=
  ⟨0x0102, false, true, .ignored, pwIs 1, false, false, false, true, true, 0, bodyLaneStatusGet⟩
def opLinkRetrain : OpSpec :=
  ⟨0x0103, true, false, .honoured, pwIs 1, false, false, false, false, true, us 200, bodyLinkRetrain⟩
def opLinkPark : OpSpec :=
  ⟨0x0104, true, false, .ignored, pwIs 1, false, false, false, false, true, 0, bodyLinkPark⟩
def opQuadSet : OpSpec :=
  ⟨0x0105, true, false, .honoured, pwIs 2, false, false, false, false, true, us 200, bodyQuadSet⟩
def opQuadGet : OpSpec :=
  ⟨0x0106, false, true, .ignored, pwIs 1, false, false, false, true, true, 0, bodyQuadGet⟩
def opEqSet : OpSpec :=
  ⟨0x0107, true, false, .ignored, pwIs 4, false, false, false, false, true, 0, bodyEqSet⟩
def opEqGet : OpSpec :=
  ⟨0x0108, false, true, .ignored, pwIs 1, false, false, false, true, true, 0, bodyEqGet⟩
def opModuleRead : OpSpec :=
  ⟨0x0110, false, true, .ignored, pwIs 2, false, false, false, true, true, 0, bodyModuleRead⟩
def opModuleWrite : OpSpec :=
  ⟨0x0111, true, false, .ignored, pwOf modulePw, false, false, false, false, true, 0, bodyModuleWrite⟩
def opModuleCfgSet : OpSpec :=
  ⟨0x0112, true, false, .ignored, pwIs 2, false, false, false, false, true, 0, bodyModuleCfgSet⟩
def opModuleCfgGet : OpSpec :=
  ⟨0x0113, false, true, .ignored, pwIs 1, false, false, false, true, true, 0, bodyModuleCfgGet⟩
def opIngressSet : OpSpec :=
  ⟨0x0120, true, false, .honoured, pwIs 12, false, false, false, false, true, us 200, bodyIngressSet⟩
def opIngressGet : OpSpec :=
  ⟨0x0121, false, true, .ignored, pwIs 1, false, false, false, true, true, 0, bodyIngressGet⟩
def opPoolSet : OpSpec :=
  ⟨0x0130, true, false, .honoured, pwIs 2, false, false, false, false, true, us 200, bodyPoolSet⟩
def opPoolGet : OpSpec :=
  ⟨0x0131, false, true, .ignored, pwIs 0, false, false, false, true, true, 0, bodyPoolGet⟩
def opQueueSet : OpSpec :=
  ⟨0x0132, true, false, .honoured, pwIs 6, false, false, false, false, true, us 200, bodyQueueSet⟩
def opQueueGet : OpSpec :=
  ⟨0x0133, false, true, .ignored, pwIs 1, false, false, false, true, true, 0, bodyQueueGet⟩
def opSchedSet : OpSpec :=
  ⟨0x0134, true, false, .honoured, pwIs 7, false, false, false, false, true, us 200, bodySchedSet⟩
def opSchedGet : OpSpec :=
  ⟨0x0135, false, true, .ignored, pwIs 1, false, false, false, true, true, 0, bodySchedGet⟩
def opPauseSet : OpSpec :=
  ⟨0x0136, true, false, .honoured, pwIs 3, false, false, false, false, true, us 200, bodyPauseSet⟩
def opPauseGet : OpSpec :=
  ⟨0x0137, false, true, .ignored, pwIs 1, false, false, false, true, true, 0, bodyPauseGet⟩
def opMirrorSet : OpSpec :=
  ⟨0x0138, true, false, .honoured, pwIs 1, false, false, false, false, true, us 200, bodyMirrorSet⟩
def opMirrorGet : OpSpec :=
  ⟨0x0139, false, true, .ignored, pwIs 0, false, false, false, true, true, 0, bodyMirrorGet⟩

/-- Opcodes 0x01xx (10 R437 to R443, 03 R115, 05 R206 to R211). -/
def opsLane : List OpSpec :=
  [opPortSet,
   opPortGet,
   opLaneStatusGet,
   opLinkRetrain,
   opLinkPark,
   opQuadSet,
   opQuadGet,
   opEqSet,
   opEqGet,
   opModuleRead,
   opModuleWrite,
   opModuleCfgSet,
   opModuleCfgGet,
   opIngressSet,
   opIngressGet,
   opPoolSet,
   opPoolGet,
   opQueueSet,
   opQueueGet,
   opSchedSet,
   opSchedGet,
   opPauseSet,
   opPauseGet,
   opMirrorSet,
   opMirrorGet]

def opL2Set : OpSpec :=
  ⟨0x0200, true, false, .honoured, pwMany 4, false, false, false, false, true, ms 5, bodyL2Set⟩
def opL2Del : OpSpec :=
  ⟨0x0201, true, false, .honoured, pwMany 3, false, false, false, false, true, ms 5, bodyL2Del⟩
def opL2Get : OpSpec :=
  ⟨0x0202, false, true, .ignored, pwIs 3, false, false, false, true, true, 0, bodyL2Get⟩
def opL2Flush : OpSpec :=
  ⟨0x0203, true, false, .honoured, pwIs 1, false, false, false, false, true, ms 5, bodyL2Flush⟩
def opTableCfgSet : OpSpec :=
  ⟨0x0204, true, false, .honoured, pwIs 5, false, false, false, false, true, ms 5, bodyTableCfgSet⟩
def opTableCfgGet : OpSpec :=
  ⟨0x0205, false, true, .ignored, pwIs 0, false, false, false, true, true, 0, bodyTableCfgGet⟩
def opL2PortSet : OpSpec :=
  ⟨0x0206, true, false, .honoured, pwIs 2, false, false, false, false, true, ms 5, bodyL2PortSet⟩
def opL2PortGet : OpSpec :=
  ⟨0x0207, false, true, .ignored, pwIs 1, false, false, false, true, true, 0, bodyL2PortGet⟩
def opL2Unlock : OpSpec :=
  ⟨0x0208, true, false, .honoured, pwIs 3, false, false, false, false, true, ms 5, bodyL2Unlock⟩
def opVlanSet : OpSpec :=
  ⟨0x0210, true, false, .honoured, pwIs 7, false, false, false, false, true, ms 5, bodyVlanSet⟩
def opVlanGet : OpSpec :=
  ⟨0x0211, false, true, .ignored, pwIs 1, false, false, false, true, true, 0, bodyVlanGet⟩
def opRifSet : OpSpec :=
  ⟨0x0212, true, false, .honoured, pwIs 4, false, false, false, false, true, ms 5, bodyRifSet⟩
def opRifGet : OpSpec :=
  ⟨0x0213, false, true, .ignored, pwIs 1, false, false, false, true, true, 0, bodyRifGet⟩
def opNhSet : OpSpec :=
  ⟨0x0214, true, false, .honoured, pwIs 4, false, false, false, false, true, ms 5, bodyNhSet⟩
def opNhGet : OpSpec :=
  ⟨0x0215, false, true, .ignored, pwIs 1, false, false, false, true, true, 0, bodyNhGet⟩
def opRouteSet : OpSpec :=
  ⟨0x0216, true, false, .honoured, pwMany 5, false, false, false, false, true, ms 5, bodyRouteSet⟩
def opRouteDel : OpSpec :=
  ⟨0x0217, true, false, .honoured, pwMany 5, false, false, false, false, true, ms 5, bodyRouteDel⟩
def opRouteGet : OpSpec :=
  ⟨0x0218, false, true, .ignored, pwIs 5, false, false, false, true, true, 0, bodyRouteGet⟩
def opMcgSet : OpSpec :=
  ⟨0x0219, true, false, .honoured, pwIs 4, false, false, false, false, true, ms 5, bodyMcgSet⟩
def opMcgGet : OpSpec :=
  ⟨0x021A, false, true, .ignored, pwIs 1, false, false, false, true, true, 0, bodyMcgGet⟩
def opFfgSet : OpSpec :=
  ⟨0x021B, true, false, .honoured, pwIs 3, false, false, false, false, true, ms 5, bodyFfgSet⟩
def opFfgGet : OpSpec :=
  ⟨0x021C, false, true, .ignored, pwIs 1, false, false, false, true, true, 0, bodyFfgGet⟩
def opFence : OpSpec :=
  ⟨0x0220, false, true, .honoured, pwIs 4, false, false, false, true, true, 0, bodyFence⟩

/-- Opcodes 0x02xx (04 R158 to R169, 03 R116). -/
def opsTable : List OpSpec :=
  [opL2Set,
   opL2Del,
   opL2Get,
   opL2Flush,
   opTableCfgSet,
   opTableCfgGet,
   opL2PortSet,
   opL2PortGet,
   opL2Unlock,
   opVlanSet,
   opVlanGet,
   opRifSet,
   opRifGet,
   opNhSet,
   opNhGet,
   opRouteSet,
   opRouteDel,
   opRouteGet,
   opMcgSet,
   opMcgGet,
   opFfgSet,
   opFfgGet,
   opFence]

def opStreamSet : OpSpec :=
  ⟨0x0300, true, false, .honoured, pwIs 16, false, false, false, true, true, ms 5, bodyStreamSet⟩
def opStreamGet : OpSpec :=
  ⟨0x0301, false, true, .ignored, pwIs 1, false, false, false, true, true, 0, bodyStreamGet⟩
def opMeterSet : OpSpec :=
  ⟨0x0302, true, false, .honoured, pwIs 5, false, false, false, true, true, ms 5, bodyMeterSet⟩
def opMeterGet : OpSpec :=
  ⟨0x0303, false, true, .ignored, pwIs 1, false, false, false, true, true, 0, bodyMeterGet⟩
def opWindowSet : OpSpec :=
  ⟨0x0304, true, false, .honoured, pwIs 8, false, false, false, true, true, ms 5, bodyWindowSet⟩
def opRecoverySet : OpSpec :=
  ⟨0x0306, true, false, .honoured, pwIs 2, false, false, false, true, true, ms 5, bodyRecoverySet⟩
def opRecoveryGet : OpSpec :=
  ⟨0x0307, false, true, .ignored, pwIs 1, false, false, false, true, true, 0, bodyRecoveryGet⟩
def opRecoveryReset : OpSpec :=
  ⟨0x0308, true, false, .honoured, pwIs 1, false, false, false, true, true, us 200, bodyRecoveryReset⟩
def opCourseSet : OpSpec :=
  ⟨0x0310, true, false, .mustBe false, pwIs 2, false, false, false, true, true, 0, bodyCourseSet⟩
def opCourseEntrySet : OpSpec :=
  ⟨0x0311, true, false, .mustBe false, pwOf entryPw, false, false, false, true, true, 0, bodyCourseEntrySet⟩
def opCourseCommit : OpSpec :=
  ⟨0x0312, true, false, .mustBe true, pwIs 1, false, false, false, true, true, us 500, bodyCourseCommit⟩
def opCourseGet : OpSpec :=
  ⟨0x0313, false, true, .ignored, pwIs 1, false, false, false, true, true, 0, bodyCourseGet⟩
def opCourseEntryGet : OpSpec :=
  ⟨0x0314, false, true, .ignored, pwIs 2, false, false, false, true, true, 0, bodyCourseEntryGet⟩
def opCourseReportGet : OpSpec :=
  ⟨0x0315, false, true, .ignored, pwIs 2, false, false, false, true, true, 0, bodyCourseReportGet⟩
def opCourseClear : OpSpec :=
  ⟨0x0316, true, false, .mustBe false, pwIs 1, false, false, false, true, true, 0, bodyCourseClear⟩

/-- Opcodes 0x03xx (03 R117 to R120, 06 R250 to R256). -/
def opsStream : List OpSpec :=
  [opStreamSet,
   opStreamGet,
   opMeterSet,
   opMeterGet,
   opWindowSet,
   opRecoverySet,
   opRecoveryGet,
   opRecoveryReset,
   opCourseSet,
   opCourseEntrySet,
   opCourseCommit,
   opCourseGet,
   opCourseEntryGet,
   opCourseReportGet,
   opCourseClear]

def opTkStatusGet : OpSpec :=
  ⟨0x0400, false, true, .ignored, pwIs 0, false, false, false, true, true, 0, bodyTkStatusGet⟩
def opRefStatusGet : OpSpec :=
  ⟨0x0401, false, true, .ignored, pwIs 1, false, false, false, true, true, 0, bodyRefStatusGet⟩
def opTimeSet : OpSpec :=
  ⟨0x0402, true, false, .honoured, pwIs 5, true, false, false, true, true, ms 2, bodyTimeSet⟩
def opRefCmd : OpSpec :=
  ⟨0x0403, true, false, .honoured, pwIs 1, false, false, false, true, true, ms 2, bodyRefCmd⟩
def opTimeAcceptStep : OpSpec :=
  ⟨0x0404, true, false, .honoured, pwIs 3, true, false, false, true, true, ms 2, bodyTimeAcceptStep⟩
def opRefSet : OpSpec :=
  ⟨0x0405, true, false, .honoured, pwIs 2, false, false, false, true, true, ms 2, bodyRefSet⟩
def opRefGet : OpSpec :=
  ⟨0x0406, false, true, .ignored, pwIs 1, false, false, false, true, true, 0, bodyRefGet⟩
def opServoSet : OpSpec :=
  ⟨0x0407, true, false, .honoured, pwIs 5, false, false, false, true, true, ms 2, bodyServoSet⟩
def opServoGet : OpSpec :=
  ⟨0x0408, false, true, .ignored, pwIs 1, false, false, false, true, true, 0, bodyServoGet⟩
def opKeeperCfgSet : OpSpec :=
  ⟨0x0409, true, false, .honoured, pwIs 12, false, false, false, true, true, ms 2, bodyKeeperCfgSet⟩
def opKeeperCfgGet : OpSpec :=
  ⟨0x040A, false, true, .ignored, pwIs 0, false, false, false, true, true, 0, bodyKeeperCfgGet⟩
def opPtpPortSet : OpSpec :=
  ⟨0x0410, true, false, .honoured, pwIs 3, false, false, false, true, true, ms 2, bodyPtpPortSet⟩
def opPtpPortGet : OpSpec :=
  ⟨0x0411, false, true, .ignored, pwIs 1, false, false, false, true, true, 0, bodyPtpPortGet⟩
def opSynceSet : OpSpec :=
  ⟨0x0412, true, false, .honoured, pwIs 1, false, false, false, true, true, ms 2, bodySynceSet⟩
def opSynceGet : OpSpec :=
  ⟨0x0413, false, true, .ignored, pwIs 1, false, false, false, true, true, 0, bodySynceGet⟩
def opRefinSet : OpSpec :=
  ⟨0x0414, true, false, .honoured, pwIs 3, false, false, false, true, true, ms 2, bodyRefinSet⟩
def opRefinGet : OpSpec :=
  ⟨0x0415, false, true, .ignored, pwIs 1, false, false, false, true, true, 0, bodyRefinGet⟩
def opLinkTimingSet : OpSpec :=
  ⟨0x0420, true, false, .honoured, pwIs 3, false, false, false, true, true, ms 2, bodyLinkTimingSet⟩
def opLinkTimingGet : OpSpec :=
  ⟨0x0421, false, true, .ignored, pwIs 1, false, false, false, true, true, 0, bodyLinkTimingGet⟩
def opAsymSet : OpSpec :=
  ⟨0x0422, true, false, .honoured, pwIs 4, false, false, false, true, true, ms 2, bodyAsymSet⟩
def opAsymGet : OpSpec :=
  ⟨0x0423, false, true, .ignored, pwIs 1, false, false, false, true, true, 0, bodyAsymGet⟩
def opLinkStatusGet : OpSpec :=
  ⟨0x0424, false, true, .ignored, pwIs 1, false, false, false, true, true, 0, bodyLinkStatusGet⟩
def opAsymMeasure : OpSpec :=
  ⟨0x0425, true, false, .ignored, pwIs 2, false, false, false, true, true, 0, bodyAsymMeasure⟩

/-- Opcodes 0x04xx (07 R297 to R307, 08 R348 to R352). -/
def opsTiming : List OpSpec :=
  [opTkStatusGet,
   opRefStatusGet,
   opTimeSet,
   opRefCmd,
   opTimeAcceptStep,
   opRefSet,
   opRefGet,
   opServoSet,
   opServoGet,
   opKeeperCfgSet,
   opKeeperCfgGet,
   opPtpPortSet,
   opPtpPortGet,
   opSynceSet,
   opSynceGet,
   opRefinSet,
   opRefinGet,
   opLinkTimingSet,
   opLinkTimingGet,
   opAsymSet,
   opAsymGet,
   opLinkStatusGet,
   opAsymMeasure]

def opEvtCfgSet : OpSpec :=
  ⟨0x0500, true, false, .honoured, pwIs 11, false, false, false, false, true, us 200, bodyEvtCfgSet⟩
def opEvtCfgGet : OpSpec :=
  ⟨0x0501, false, true, .ignored, pwIs 1, false, false, false, true, true, 0, bodyEvtCfgGet⟩
def opEvtEdge : OpSpec :=
  ⟨0x0502, false, false, .ignored, pwOf evtEdgePw, false, true, true, false, true, 0, bodyEvtEdge⟩
def opEvtStampGet : OpSpec :=
  ⟨0x0503, false, true, .ignored, pwIs 1, false, false, false, true, true, 0, bodyEvtStampGet⟩
def opEvtCancel : OpSpec :=
  ⟨0x0504, false, false, .ignored, pwIs 1, false, true, true, false, true, 0, bodyEvtCancel⟩
def opTimCfgSet : OpSpec :=
  ⟨0x0510, true, false, .ignored, pwIs 2, false, false, false, false, true, 0, bodyTimCfgSet⟩
def opTimCfgGet : OpSpec :=
  ⟨0x0511, false, true, .ignored, pwIs 1, false, false, false, true, true, 0, bodyTimCfgGet⟩
def opTimArm : OpSpec :=
  ⟨0x0512, false, false, .ignored, pwIs 1, false, false, true, true, true, 0, bodyTimArm⟩
def opTimRawGet : OpSpec :=
  ⟨0x0513, false, true, .ignored, pwIs 1, false, false, false, true, true, 0, bodyTimRawGet⟩
def opTimStatsGet : OpSpec :=
  ⟨0x0514, false, true, .ignored, pwIs 1, false, false, false, true, true, 0, bodyTimStatsGet⟩
def opMrefSet : OpSpec :=
  ⟨0x0515, true, false, .ignored, pwIs 1, false, false, false, false, true, 0, bodyMrefSet⟩
def opMrefGet : OpSpec :=
  ⟨0x0516, false, true, .ignored, pwIs 0, false, false, false, true, true, 0, bodyMrefGet⟩

/-- Opcodes 0x05xx (11 R480 to R484). -/
def opsEvent : List OpSpec :=
  [opEvtCfgSet,
   opEvtCfgGet,
   opEvtEdge,
   opEvtStampGet,
   opEvtCancel,
   opTimCfgSet,
   opTimCfgGet,
   opTimArm,
   opTimRawGet,
   opTimStatsGet,
   opMrefSet,
   opMrefGet]

def opCkoSet : OpSpec :=
  ⟨0x0600, true, false, .mustBe true, pwIs 5, false, false, false, false, true, ms 10, bodyCkoSet⟩
def opCkoGet : OpSpec :=
  ⟨0x0601, false, true, .ignored, pwIs 1, false, false, false, true, true, 0, bodyCkoGet⟩
def opCkoProfileSet : OpSpec :=
  ⟨0x0602, true, false, .mustBe false, pwOf profilePw, false, false, false, false, true, 0, bodyCkoProfileSet⟩
def opCkoProfileStart : OpSpec :=
  ⟨0x0603, true, false, .mustBe true, pwIs 1, false, false, false, false, true, ms 1, bodyCkoProfileStart⟩
def opCkoPhaseGet : OpSpec :=
  ⟨0x0604, false, true, .ignored, pwIs 1, false, false, false, true, true, 0, bodyCkoPhaseGet⟩
def opCkoCmd : OpSpec :=
  ⟨0x0605, true, false, .honoured, pwIs 1, false, false, false, false, true, ms 1, bodyCkoCmd⟩

/-- Opcodes 0x06xx (11 R485 to R487). -/
def opsClock : List OpSpec :=
  [opCkoSet,
   opCkoGet,
   opCkoProfileSet,
   opCkoProfileStart,
   opCkoPhaseGet,
   opCkoCmd]

def opCounterGet : OpSpec :=
  ⟨0x0700, false, true, .ignored, pwIs 2, false, false, false, true, true, 0, bodyCounterGet⟩
def opPalletSnapshot : OpSpec :=
  ⟨0x0701, false, true, .honoured, pwIs 2, false, false, false, true, true, 0, bodyPalletSnapshot⟩
def opPalletGet : OpSpec :=
  ⟨0x0702, false, true, .ignored, pwIs 2, false, false, false, true, true, 0, bodyPalletGet⟩
def opCounterCatalogGet : OpSpec :=
  ⟨0x0703, false, true, .ignored, pwIs 2, false, false, false, true, true, 0, bodyCounterCatalogGet⟩

/-- Opcodes 0x07xx (13 R567, R568). -/
def opsCount : List OpSpec :=
  [opCounterGet,
   opPalletSnapshot,
   opPalletGet,
   opCounterCatalogGet]

def opBondStatusGet : OpSpec :=
  ⟨0x0800, false, true, .ignored, pwIs 0, false, false, false, true, true, 0, bodyBondStatusGet⟩
def opBondCfgSet : OpSpec :=
  ⟨0x0801, true, false, .honoured, pwIs 2, false, false, false, true, true, ms 2, bodyBondCfgSet⟩
def opBondCfgGet : OpSpec :=
  ⟨0x0802, false, true, .ignored, pwIs 0, false, false, false, true, true, 0, bodyBondCfgGet⟩
def opBondHandover : OpSpec :=
  ⟨0x0803, true, false, .honoured, pwIs 1, false, false, false, true, true, ms 2, bodyBondHandover⟩
def opKeeperDisable : OpSpec :=
  ⟨0x0804, true, false, .honoured, pwIs 1, false, false, false, true, true, ms 2, bodyKeeperDisable⟩
def opKeeperEnable : OpSpec :=
  ⟨0x0805, true, false, .honoured, pwIs 1, false, false, false, true, true, ms 2, bodyKeeperEnable⟩
def opFootingEnter : OpSpec :=
  ⟨0x0810, true, false, .honoured, pwIs 0, false, false, false, true, true, us 200, bodyFootingEnter⟩
def opFootingExit : OpSpec :=
  ⟨0x0811, true, false, .honoured, pwIs 0, false, false, false, true, true, ms 10, bodyFootingExit⟩
def opFootingCfgSet : OpSpec :=
  ⟨0x0812, true, false, .honoured, pwIs 2, false, false, false, true, true, us 200, bodyFootingCfgSet⟩
def opFootingCfgGet : OpSpec :=
  ⟨0x0813, false, true, .ignored, pwIs 0, false, false, false, true, true, 0, bodyFootingCfgGet⟩

/-- Opcodes 0x08xx (09 R394, R395). -/
def opsBond : List OpSpec :=
  [opBondStatusGet,
   opBondCfgSet,
   opBondCfgGet,
   opBondHandover,
   opKeeperDisable,
   opKeeperEnable,
   opFootingEnter,
   opFootingExit,
   opFootingCfgSet,
   opFootingCfgGet]

def opCalDelayRun : OpSpec :=
  ⟨0x0900, false, false, .ignored, pwIs 2, false, false, false, true, true, 0, bodyCalDelayRun⟩
def opCalVernierRun : OpSpec :=
  ⟨0x0901, false, false, .ignored, pwIs 1, false, false, false, true, true, 0, bodyCalVernierRun⟩
def opCalCfgSet : OpSpec :=
  ⟨0x0902, true, false, .ignored, pwIs 1, false, false, false, false, true, 0, bodyCalCfgSet⟩
def opCalCfgGet : OpSpec :=
  ⟨0x0903, false, true, .ignored, pwIs 0, false, false, false, true, true, 0, bodyCalCfgGet⟩
def opCalTimeioRun : OpSpec :=
  ⟨0x0904, false, false, .ignored, pwIs 0, false, false, false, true, true, 0, bodyCalTimeioRun⟩

/-- Opcodes 0x09xx (08 R353, 10 R444, 11 R484). -/
def opsCal : List OpSpec :=
  [opCalDelayRun,
   opCalVernierRun,
   opCalCfgSet,
   opCalCfgGet,
   opCalTimeioRun]

def opPolicyGet : OpSpec :=
  ⟨0x0A00, false, true, .ignored, pwIs 0, false, false, false, true, true, 0, bodyPolicyGet⟩
def opPolicySet : OpSpec :=
  ⟨0x0A01, true, false, .ignored, pwIs 2, false, false, false, false, true, 0, bodyPolicySet⟩
def opKeyEnrol : OpSpec :=
  ⟨0x0A02, true, false, .ignored, pwIs 49, false, false, false, false, true, 0, bodyKeyEnrol⟩
def opKeyStatusGet : OpSpec :=
  ⟨0x0A03, false, true, .ignored, pwIs 0, false, false, false, true, true, 0, bodyKeyStatusGet⟩
def opFwUpdateBegin : OpSpec :=
  ⟨0x0A04, true, false, .ignored, pwIs 2, false, false, false, false, true, 0, bodyFwUpdateBegin⟩
def opFwUpdateData : OpSpec :=
  ⟨0x0A05, true, false, .ignored, fwDataPw, false, false, false, false, true, 0, bodyFwUpdateData⟩
def opFwUpdateCommit : OpSpec :=
  ⟨0x0A06, true, false, .ignored, pwIs 1, false, false, false, false, true, 0, bodyFwUpdateCommit⟩
def opConfigLock : OpSpec :=
  ⟨0x0A07, true, false, .ignored, pwIs 1, false, false, false, false, true, 0, bodyConfigLock⟩

/-- Opcodes 0x0axx (14 R597, R598). -/
def opsSecure : List OpSpec :=
  [opPolicyGet,
   opPolicySet,
   opKeyEnrol,
   opKeyStatusGet,
   opFwUpdateBegin,
   opFwUpdateData,
   opFwUpdateCommit,
   opConfigLock]

def opPowerStatusGet : OpSpec :=
  ⟨0x0B00, false, true, .ignored, pwIs 0, false, false, false, true, true, 0, bodyPowerStatusGet⟩
def opSleepEnter : OpSpec :=
  ⟨0x0B01, true, false, .honoured, pwIs 2, false, false, false, false, true, ms 1, bodySleepEnter⟩
def opWakeCfgSet : OpSpec :=
  ⟨0x0B02, true, false, .ignored, pwIs 2, false, false, false, false, true, 0, bodyWakeCfgSet⟩
def opWakeCfgGet : OpSpec :=
  ⟨0x0B03, false, true, .ignored, pwIs 0, false, false, false, true, true, 0, bodyWakeCfgGet⟩
def opDeviceReset : OpSpec :=
  ⟨0x0B04, true, false, .honoured, pwIs 1, false, false, false, false, true, ms 1, bodyDeviceReset⟩

/-- Opcodes 0x0bxx (14 R597, R598). -/
def opsPower : List OpSpec :=
  [opPowerStatusGet,
   opSleepEnter,
   opWakeCfgSet,
   opWakeCfgGet,
   opDeviceReset]

def opEvcRouteSet : OpSpec :=
  ⟨0x0C00, true, false, .ignored, pwOf routePw, false, false, false, false, true, 0, bodyEvcRouteSet⟩
def opEvcRouteGet : OpSpec :=
  ⟨0x0C01, false, true, .ignored, pwIs 1, false, false, false, true, true, 0, bodyEvcRouteGet⟩
def opEvcTargetSet : OpSpec :=
  ⟨0x0C02, true, false, .ignored, pwIs 5, false, false, false, false, true, 0, bodyEvcTargetSet⟩
def opEvcTargetGet : OpSpec :=
  ⟨0x0C03, false, true, .ignored, pwIs 1, false, false, false, true, true, 0, bodyEvcTargetGet⟩

/-- Opcodes 0x0cxx (13 R566). -/
def opsEvc : List OpSpec :=
  [opEvcRouteSet,
   opEvcRouteGet,
   opEvcTargetSet,
   opEvcTargetGet]

def opAcLoad : OpSpec :=
  ⟨0x0D00, true, false, .ignored, loadPw, false, false, false, false, true, 0, bodyAcLoad⟩
def opAcStart : OpSpec :=
  ⟨0x0D01, true, false, .ignored, pwIs 28, false, false, false, false, true, 0, bodyAcStart⟩
def opAcStop : OpSpec :=
  ⟨0x0D02, true, false, .ignored, pwIs 1, false, false, false, false, true, 0, bodyAcStop⟩
def opAcStatusGet : OpSpec :=
  ⟨0x0D03, false, true, .ignored, pwIs 1, false, false, false, true, true, 0, bodyAcStatusGet⟩
def opAcPermitSet : OpSpec :=
  ⟨0x0D04, true, false, .ignored, pwIs 1, false, false, false, false, true, 0, bodyAcPermitSet⟩
def opAcPermitGet : OpSpec :=
  ⟨0x0D05, false, true, .ignored, pwIs 1, false, false, false, true, true, 0, bodyAcPermitGet⟩

/-- Opcodes 0x0dxx (13 R562 to R565). -/
def opsAc : List OpSpec :=
  [opAcLoad,
   opAcStart,
   opAcStop,
   opAcStatusGet,
   opAcPermitSet,
   opAcPermitGet]

/-- The opcode index, as a list. -/
def opList : List OpSpec :=
  opsSys
    ++ opsLane
    ++ opsTable
    ++ opsStream
    ++ opsTiming
    ++ opsEvent
    ++ opsClock
    ++ opsCount
    ++ opsBond
    ++ opsCal
    ++ opsSecure
    ++ opsPower
    ++ opsEvc
    ++ opsAc

/-- The entry of an opcode. -/
def opTable (op : Nat) : Option OpSpec := opList.find? (·.opcode == op)

/-! ### Each opcode as a packet -/

def execNop (r : Req) (s : State) : Host.Outcome State Fault Refusal := .next (runCommand opTable opNop r s)
def execSysInfoGet (r : Req) (s : State) : Host.Outcome State Fault Refusal := .next (runCommand opTable opSysInfoGet r s)
def execJournalGet (r : Req) (s : State) : Host.Outcome State Fault Refusal := .next (runCommand opTable opJournalGet r s)
def execMortarSet (r : Req) (s : State) : Host.Outcome State Fault Refusal := .next (runCommand opTable opMortarSet r s)
def execMortarGet (r : Req) (s : State) : Host.Outcome State Fault Refusal := .next (runCommand opTable opMortarGet r s)
def execDigestRun (r : Req) (s : State) : Host.Outcome State Fault Refusal := .next (runCommand opTable opDigestRun r s)
def execPortSet (r : Req) (s : State) : Host.Outcome State Fault Refusal := .next (runCommand opTable opPortSet r s)
def execPortGet (r : Req) (s : State) : Host.Outcome State Fault Refusal := .next (runCommand opTable opPortGet r s)
def execLaneStatusGet (r : Req) (s : State) : Host.Outcome State Fault Refusal := .next (runCommand opTable opLaneStatusGet r s)
def execLinkRetrain (r : Req) (s : State) : Host.Outcome State Fault Refusal := .next (runCommand opTable opLinkRetrain r s)
def execLinkPark (r : Req) (s : State) : Host.Outcome State Fault Refusal := .next (runCommand opTable opLinkPark r s)
def execQuadSet (r : Req) (s : State) : Host.Outcome State Fault Refusal := .next (runCommand opTable opQuadSet r s)
def execQuadGet (r : Req) (s : State) : Host.Outcome State Fault Refusal := .next (runCommand opTable opQuadGet r s)
def execEqSet (r : Req) (s : State) : Host.Outcome State Fault Refusal := .next (runCommand opTable opEqSet r s)
def execEqGet (r : Req) (s : State) : Host.Outcome State Fault Refusal := .next (runCommand opTable opEqGet r s)
def execModuleRead (r : Req) (s : State) : Host.Outcome State Fault Refusal := .next (runCommand opTable opModuleRead r s)
def execModuleWrite (r : Req) (s : State) : Host.Outcome State Fault Refusal := .next (runCommand opTable opModuleWrite r s)
def execModuleCfgSet (r : Req) (s : State) : Host.Outcome State Fault Refusal := .next (runCommand opTable opModuleCfgSet r s)
def execModuleCfgGet (r : Req) (s : State) : Host.Outcome State Fault Refusal := .next (runCommand opTable opModuleCfgGet r s)
def execIngressSet (r : Req) (s : State) : Host.Outcome State Fault Refusal := .next (runCommand opTable opIngressSet r s)
def execIngressGet (r : Req) (s : State) : Host.Outcome State Fault Refusal := .next (runCommand opTable opIngressGet r s)
def execPoolSet (r : Req) (s : State) : Host.Outcome State Fault Refusal := .next (runCommand opTable opPoolSet r s)
def execPoolGet (r : Req) (s : State) : Host.Outcome State Fault Refusal := .next (runCommand opTable opPoolGet r s)
def execQueueSet (r : Req) (s : State) : Host.Outcome State Fault Refusal := .next (runCommand opTable opQueueSet r s)
def execQueueGet (r : Req) (s : State) : Host.Outcome State Fault Refusal := .next (runCommand opTable opQueueGet r s)
def execSchedSet (r : Req) (s : State) : Host.Outcome State Fault Refusal := .next (runCommand opTable opSchedSet r s)
def execSchedGet (r : Req) (s : State) : Host.Outcome State Fault Refusal := .next (runCommand opTable opSchedGet r s)
def execPauseSet (r : Req) (s : State) : Host.Outcome State Fault Refusal := .next (runCommand opTable opPauseSet r s)
def execPauseGet (r : Req) (s : State) : Host.Outcome State Fault Refusal := .next (runCommand opTable opPauseGet r s)
def execMirrorSet (r : Req) (s : State) : Host.Outcome State Fault Refusal := .next (runCommand opTable opMirrorSet r s)
def execMirrorGet (r : Req) (s : State) : Host.Outcome State Fault Refusal := .next (runCommand opTable opMirrorGet r s)
def execL2Set (r : Req) (s : State) : Host.Outcome State Fault Refusal := .next (runCommand opTable opL2Set r s)
def execL2Del (r : Req) (s : State) : Host.Outcome State Fault Refusal := .next (runCommand opTable opL2Del r s)
def execL2Get (r : Req) (s : State) : Host.Outcome State Fault Refusal := .next (runCommand opTable opL2Get r s)
def execL2Flush (r : Req) (s : State) : Host.Outcome State Fault Refusal := .next (runCommand opTable opL2Flush r s)
def execTableCfgSet (r : Req) (s : State) : Host.Outcome State Fault Refusal := .next (runCommand opTable opTableCfgSet r s)
def execTableCfgGet (r : Req) (s : State) : Host.Outcome State Fault Refusal := .next (runCommand opTable opTableCfgGet r s)
def execL2PortSet (r : Req) (s : State) : Host.Outcome State Fault Refusal := .next (runCommand opTable opL2PortSet r s)
def execL2PortGet (r : Req) (s : State) : Host.Outcome State Fault Refusal := .next (runCommand opTable opL2PortGet r s)
def execL2Unlock (r : Req) (s : State) : Host.Outcome State Fault Refusal := .next (runCommand opTable opL2Unlock r s)
def execVlanSet (r : Req) (s : State) : Host.Outcome State Fault Refusal := .next (runCommand opTable opVlanSet r s)
def execVlanGet (r : Req) (s : State) : Host.Outcome State Fault Refusal := .next (runCommand opTable opVlanGet r s)
def execRifSet (r : Req) (s : State) : Host.Outcome State Fault Refusal := .next (runCommand opTable opRifSet r s)
def execRifGet (r : Req) (s : State) : Host.Outcome State Fault Refusal := .next (runCommand opTable opRifGet r s)
def execNhSet (r : Req) (s : State) : Host.Outcome State Fault Refusal := .next (runCommand opTable opNhSet r s)
def execNhGet (r : Req) (s : State) : Host.Outcome State Fault Refusal := .next (runCommand opTable opNhGet r s)
def execRouteSet (r : Req) (s : State) : Host.Outcome State Fault Refusal := .next (runCommand opTable opRouteSet r s)
def execRouteDel (r : Req) (s : State) : Host.Outcome State Fault Refusal := .next (runCommand opTable opRouteDel r s)
def execRouteGet (r : Req) (s : State) : Host.Outcome State Fault Refusal := .next (runCommand opTable opRouteGet r s)
def execMcgSet (r : Req) (s : State) : Host.Outcome State Fault Refusal := .next (runCommand opTable opMcgSet r s)
def execMcgGet (r : Req) (s : State) : Host.Outcome State Fault Refusal := .next (runCommand opTable opMcgGet r s)
def execFfgSet (r : Req) (s : State) : Host.Outcome State Fault Refusal := .next (runCommand opTable opFfgSet r s)
def execFfgGet (r : Req) (s : State) : Host.Outcome State Fault Refusal := .next (runCommand opTable opFfgGet r s)
def execFence (r : Req) (s : State) : Host.Outcome State Fault Refusal := .next (runCommand opTable opFence r s)
def execStreamSet (r : Req) (s : State) : Host.Outcome State Fault Refusal := .next (runCommand opTable opStreamSet r s)
def execStreamGet (r : Req) (s : State) : Host.Outcome State Fault Refusal := .next (runCommand opTable opStreamGet r s)
def execMeterSet (r : Req) (s : State) : Host.Outcome State Fault Refusal := .next (runCommand opTable opMeterSet r s)
def execMeterGet (r : Req) (s : State) : Host.Outcome State Fault Refusal := .next (runCommand opTable opMeterGet r s)
def execWindowSet (r : Req) (s : State) : Host.Outcome State Fault Refusal := .next (runCommand opTable opWindowSet r s)
def execRecoverySet (r : Req) (s : State) : Host.Outcome State Fault Refusal := .next (runCommand opTable opRecoverySet r s)
def execRecoveryGet (r : Req) (s : State) : Host.Outcome State Fault Refusal := .next (runCommand opTable opRecoveryGet r s)
def execRecoveryReset (r : Req) (s : State) : Host.Outcome State Fault Refusal := .next (runCommand opTable opRecoveryReset r s)
def execCourseSet (r : Req) (s : State) : Host.Outcome State Fault Refusal := .next (runCommand opTable opCourseSet r s)
def execCourseEntrySet (r : Req) (s : State) : Host.Outcome State Fault Refusal := .next (runCommand opTable opCourseEntrySet r s)
def execCourseCommit (r : Req) (s : State) : Host.Outcome State Fault Refusal := .next (runCommand opTable opCourseCommit r s)
def execCourseGet (r : Req) (s : State) : Host.Outcome State Fault Refusal := .next (runCommand opTable opCourseGet r s)
def execCourseEntryGet (r : Req) (s : State) : Host.Outcome State Fault Refusal := .next (runCommand opTable opCourseEntryGet r s)
def execCourseReportGet (r : Req) (s : State) : Host.Outcome State Fault Refusal := .next (runCommand opTable opCourseReportGet r s)
def execCourseClear (r : Req) (s : State) : Host.Outcome State Fault Refusal := .next (runCommand opTable opCourseClear r s)
def execTkStatusGet (r : Req) (s : State) : Host.Outcome State Fault Refusal := .next (runCommand opTable opTkStatusGet r s)
def execRefStatusGet (r : Req) (s : State) : Host.Outcome State Fault Refusal := .next (runCommand opTable opRefStatusGet r s)
def execTimeSet (r : Req) (s : State) : Host.Outcome State Fault Refusal := .next (runCommand opTable opTimeSet r s)
def execRefCmd (r : Req) (s : State) : Host.Outcome State Fault Refusal := .next (runCommand opTable opRefCmd r s)
def execTimeAcceptStep (r : Req) (s : State) : Host.Outcome State Fault Refusal := .next (runCommand opTable opTimeAcceptStep r s)
def execRefSet (r : Req) (s : State) : Host.Outcome State Fault Refusal := .next (runCommand opTable opRefSet r s)
def execRefGet (r : Req) (s : State) : Host.Outcome State Fault Refusal := .next (runCommand opTable opRefGet r s)
def execServoSet (r : Req) (s : State) : Host.Outcome State Fault Refusal := .next (runCommand opTable opServoSet r s)
def execServoGet (r : Req) (s : State) : Host.Outcome State Fault Refusal := .next (runCommand opTable opServoGet r s)
def execKeeperCfgSet (r : Req) (s : State) : Host.Outcome State Fault Refusal := .next (runCommand opTable opKeeperCfgSet r s)
def execKeeperCfgGet (r : Req) (s : State) : Host.Outcome State Fault Refusal := .next (runCommand opTable opKeeperCfgGet r s)
def execPtpPortSet (r : Req) (s : State) : Host.Outcome State Fault Refusal := .next (runCommand opTable opPtpPortSet r s)
def execPtpPortGet (r : Req) (s : State) : Host.Outcome State Fault Refusal := .next (runCommand opTable opPtpPortGet r s)
def execSynceSet (r : Req) (s : State) : Host.Outcome State Fault Refusal := .next (runCommand opTable opSynceSet r s)
def execSynceGet (r : Req) (s : State) : Host.Outcome State Fault Refusal := .next (runCommand opTable opSynceGet r s)
def execRefinSet (r : Req) (s : State) : Host.Outcome State Fault Refusal := .next (runCommand opTable opRefinSet r s)
def execRefinGet (r : Req) (s : State) : Host.Outcome State Fault Refusal := .next (runCommand opTable opRefinGet r s)
def execLinkTimingSet (r : Req) (s : State) : Host.Outcome State Fault Refusal := .next (runCommand opTable opLinkTimingSet r s)
def execLinkTimingGet (r : Req) (s : State) : Host.Outcome State Fault Refusal := .next (runCommand opTable opLinkTimingGet r s)
def execAsymSet (r : Req) (s : State) : Host.Outcome State Fault Refusal := .next (runCommand opTable opAsymSet r s)
def execAsymGet (r : Req) (s : State) : Host.Outcome State Fault Refusal := .next (runCommand opTable opAsymGet r s)
def execLinkStatusGet (r : Req) (s : State) : Host.Outcome State Fault Refusal := .next (runCommand opTable opLinkStatusGet r s)
def execAsymMeasure (r : Req) (s : State) : Host.Outcome State Fault Refusal := .next (runCommand opTable opAsymMeasure r s)
def execEvtCfgSet (r : Req) (s : State) : Host.Outcome State Fault Refusal := .next (runCommand opTable opEvtCfgSet r s)
def execEvtCfgGet (r : Req) (s : State) : Host.Outcome State Fault Refusal := .next (runCommand opTable opEvtCfgGet r s)
def execEvtEdge (r : Req) (s : State) : Host.Outcome State Fault Refusal := .next (runCommand opTable opEvtEdge r s)
def execEvtStampGet (r : Req) (s : State) : Host.Outcome State Fault Refusal := .next (runCommand opTable opEvtStampGet r s)
def execEvtCancel (r : Req) (s : State) : Host.Outcome State Fault Refusal := .next (runCommand opTable opEvtCancel r s)
def execTimCfgSet (r : Req) (s : State) : Host.Outcome State Fault Refusal := .next (runCommand opTable opTimCfgSet r s)
def execTimCfgGet (r : Req) (s : State) : Host.Outcome State Fault Refusal := .next (runCommand opTable opTimCfgGet r s)
def execTimArm (r : Req) (s : State) : Host.Outcome State Fault Refusal := .next (runCommand opTable opTimArm r s)
def execTimRawGet (r : Req) (s : State) : Host.Outcome State Fault Refusal := .next (runCommand opTable opTimRawGet r s)
def execTimStatsGet (r : Req) (s : State) : Host.Outcome State Fault Refusal := .next (runCommand opTable opTimStatsGet r s)
def execMrefSet (r : Req) (s : State) : Host.Outcome State Fault Refusal := .next (runCommand opTable opMrefSet r s)
def execMrefGet (r : Req) (s : State) : Host.Outcome State Fault Refusal := .next (runCommand opTable opMrefGet r s)
def execCkoSet (r : Req) (s : State) : Host.Outcome State Fault Refusal := .next (runCommand opTable opCkoSet r s)
def execCkoGet (r : Req) (s : State) : Host.Outcome State Fault Refusal := .next (runCommand opTable opCkoGet r s)
def execCkoProfileSet (r : Req) (s : State) : Host.Outcome State Fault Refusal := .next (runCommand opTable opCkoProfileSet r s)
def execCkoProfileStart (r : Req) (s : State) : Host.Outcome State Fault Refusal := .next (runCommand opTable opCkoProfileStart r s)
def execCkoPhaseGet (r : Req) (s : State) : Host.Outcome State Fault Refusal := .next (runCommand opTable opCkoPhaseGet r s)
def execCkoCmd (r : Req) (s : State) : Host.Outcome State Fault Refusal := .next (runCommand opTable opCkoCmd r s)
def execCounterGet (r : Req) (s : State) : Host.Outcome State Fault Refusal := .next (runCommand opTable opCounterGet r s)
def execPalletSnapshot (r : Req) (s : State) : Host.Outcome State Fault Refusal := .next (runCommand opTable opPalletSnapshot r s)
def execPalletGet (r : Req) (s : State) : Host.Outcome State Fault Refusal := .next (runCommand opTable opPalletGet r s)
def execCounterCatalogGet (r : Req) (s : State) : Host.Outcome State Fault Refusal := .next (runCommand opTable opCounterCatalogGet r s)
def execBondStatusGet (r : Req) (s : State) : Host.Outcome State Fault Refusal := .next (runCommand opTable opBondStatusGet r s)
def execBondCfgSet (r : Req) (s : State) : Host.Outcome State Fault Refusal := .next (runCommand opTable opBondCfgSet r s)
def execBondCfgGet (r : Req) (s : State) : Host.Outcome State Fault Refusal := .next (runCommand opTable opBondCfgGet r s)
def execBondHandover (r : Req) (s : State) : Host.Outcome State Fault Refusal := .next (runCommand opTable opBondHandover r s)
def execKeeperDisable (r : Req) (s : State) : Host.Outcome State Fault Refusal := .next (runCommand opTable opKeeperDisable r s)
def execKeeperEnable (r : Req) (s : State) : Host.Outcome State Fault Refusal := .next (runCommand opTable opKeeperEnable r s)
def execFootingEnter (r : Req) (s : State) : Host.Outcome State Fault Refusal := .next (runCommand opTable opFootingEnter r s)
def execFootingExit (r : Req) (s : State) : Host.Outcome State Fault Refusal := .next (runCommand opTable opFootingExit r s)
def execFootingCfgSet (r : Req) (s : State) : Host.Outcome State Fault Refusal := .next (runCommand opTable opFootingCfgSet r s)
def execFootingCfgGet (r : Req) (s : State) : Host.Outcome State Fault Refusal := .next (runCommand opTable opFootingCfgGet r s)
def execCalDelayRun (r : Req) (s : State) : Host.Outcome State Fault Refusal := .next (runCommand opTable opCalDelayRun r s)
def execCalVernierRun (r : Req) (s : State) : Host.Outcome State Fault Refusal := .next (runCommand opTable opCalVernierRun r s)
def execCalCfgSet (r : Req) (s : State) : Host.Outcome State Fault Refusal := .next (runCommand opTable opCalCfgSet r s)
def execCalCfgGet (r : Req) (s : State) : Host.Outcome State Fault Refusal := .next (runCommand opTable opCalCfgGet r s)
def execCalTimeioRun (r : Req) (s : State) : Host.Outcome State Fault Refusal := .next (runCommand opTable opCalTimeioRun r s)
def execPolicyGet (r : Req) (s : State) : Host.Outcome State Fault Refusal := .next (runCommand opTable opPolicyGet r s)
def execPolicySet (r : Req) (s : State) : Host.Outcome State Fault Refusal := .next (runCommand opTable opPolicySet r s)
def execKeyEnrol (r : Req) (s : State) : Host.Outcome State Fault Refusal := .next (runCommand opTable opKeyEnrol r s)
def execKeyStatusGet (r : Req) (s : State) : Host.Outcome State Fault Refusal := .next (runCommand opTable opKeyStatusGet r s)
def execFwUpdateBegin (r : Req) (s : State) : Host.Outcome State Fault Refusal := .next (runCommand opTable opFwUpdateBegin r s)
def execFwUpdateData (r : Req) (s : State) : Host.Outcome State Fault Refusal := .next (runCommand opTable opFwUpdateData r s)
def execFwUpdateCommit (r : Req) (s : State) : Host.Outcome State Fault Refusal := .next (runCommand opTable opFwUpdateCommit r s)
def execConfigLock (r : Req) (s : State) : Host.Outcome State Fault Refusal := .next (runCommand opTable opConfigLock r s)
def execPowerStatusGet (r : Req) (s : State) : Host.Outcome State Fault Refusal := .next (runCommand opTable opPowerStatusGet r s)
def execSleepEnter (r : Req) (s : State) : Host.Outcome State Fault Refusal := .next (runCommand opTable opSleepEnter r s)
def execWakeCfgSet (r : Req) (s : State) : Host.Outcome State Fault Refusal := .next (runCommand opTable opWakeCfgSet r s)
def execWakeCfgGet (r : Req) (s : State) : Host.Outcome State Fault Refusal := .next (runCommand opTable opWakeCfgGet r s)
def execDeviceReset (r : Req) (s : State) : Host.Outcome State Fault Refusal := .next (runCommand opTable opDeviceReset r s)
def execEvcRouteSet (r : Req) (s : State) : Host.Outcome State Fault Refusal := .next (runCommand opTable opEvcRouteSet r s)
def execEvcRouteGet (r : Req) (s : State) : Host.Outcome State Fault Refusal := .next (runCommand opTable opEvcRouteGet r s)
def execEvcTargetSet (r : Req) (s : State) : Host.Outcome State Fault Refusal := .next (runCommand opTable opEvcTargetSet r s)
def execEvcTargetGet (r : Req) (s : State) : Host.Outcome State Fault Refusal := .next (runCommand opTable opEvcTargetGet r s)
def execAcLoad (r : Req) (s : State) : Host.Outcome State Fault Refusal := .next (runCommand opTable opAcLoad r s)
def execAcStart (r : Req) (s : State) : Host.Outcome State Fault Refusal := .next (runCommand opTable opAcStart r s)
def execAcStop (r : Req) (s : State) : Host.Outcome State Fault Refusal := .next (runCommand opTable opAcStop r s)
def execAcStatusGet (r : Req) (s : State) : Host.Outcome State Fault Refusal := .next (runCommand opTable opAcStatusGet r s)
def execAcPermitSet (r : Req) (s : State) : Host.Outcome State Fault Refusal := .next (runCommand opTable opAcPermitSet r s)
def execAcPermitGet (r : Req) (s : State) : Host.Outcome State Fault Refusal := .next (runCommand opTable opAcPermitGet r s)

end Sys2Proof.Machine
end

