-- ==== Sys2Proof/Machine/Commands.lean ====
section
/-! DEFINITION. The interpreter takes a notice and reads its packet (12 R502 to R504), and carries out the
configuration part of a boot image (14 R582, R583). -/

namespace Sys2Proof.Machine

/-! ### Reading a packet -/

/-- The words of a packet as they stand in memory. -/
def packetWords (m : Memory) (a n : Nat) : List Word :=
  (List.range n).map fun i => word (natLE (m.readN (a + 4 * i) 4))

/-- How many words the interpreter reads: the header, and what LEN gives (assumption 94). -/
def readLen (b : Buffer) : Nat := max 4 (min 1024 (b.len / 4))

/-- The packet behind a notice, or none where it cannot be read (12 R503). `dma` is what host memory answers. -/
def State.readPacket (s : State) (x : Sender) (b : Buffer) (dma : Option (List Word)) : Option (List Word) :=
  let n := readLen b
  match x.core with
  | some c => if b.lo.toNat + 4 * n ≤ State.tcmSize then some (packetWords (s.ac c).tcm b.lo.toNat n) else none
  | none =>
    if State.inSram b.hi then
      if b.lo.toNat + 4 * n ≤ State.quarterSize then
        some (packetWords s.host.sram (State.quarterBase x + b.lo.toNat) n) else none
    else
      match dma with
      | none => none
      | some ws => if ws.length < n then none else some (ws.take n)

/-- A word of a packet. -/
def pword (ws : List Word) (i : Nat) : Nat := (ws.getD i 0).toNat

/-- The fields of a packet (12 R504). -/
def packetReq (x : Sender) (viaPriv : Bool) (b : Buffer) (ws : List Word) (t : Instant) : Req :=
  { sender := x, viaPriv := viaPriv, tag := field (pword ws 1) 0 16, flags := field (pword ws 0) 16 8
    applyOn := flag (pword ws 3) 30, applySec := pword ws 2, applyNs := field (pword ws 3) 0 30
    resv := flag (pword ws 3) 31, params := (ws.drop 4).take (field (pword ws 1) 16 16), buf := b, t := t }

/-- The entry that stands for an opcode that the index does not list. -/
def opUnknown (op : Nat) : OpSpec :=
  { opcode := op, sem := false, priv := true, apply := .ignored, pw := fun _ => true, known := false
    body := fun _ _ => .fail State.stBadOpcode }

/-- The entry of a packet's opcode. A packet whose version is not 1, whose LEN is no multiple of 4 from 16 to
4,096 (12 R499), or whose PW passes LEN has no length that any opcode takes (12 R506, step 3). -/
def specOf (b : Buffer) (ws : List Word) : OpSpec :=
  let op := field (pword ws 0) 0 16
  let base := match opTable op with
    | some o => o
    | none => opUnknown op
  if field (pword ws 0) 24 8 = 1 ∧ 16 ≤ b.len ∧ b.len ≤ 4096 ∧ b.len % 4 = 0
      ∧ 16 + 4 * field (pword ws 1) 16 16 ≤ b.len then base
  else { base with pw := fun _ => false }

namespace State

/-- A packet that could not be read intact: it is not journaled, and a batch it would belong to fails. -/
def integrity (s : State) (n : Notice) (viaPriv : Bool) (opcode : Nat) (t : Instant) : State :=
  let x := n.sender
  let s1 := s.countF x 5
  (if !viaPriv && (s1.batchOpen x) then s1.abortBatch x t else s1).replyTo opcode 0 stIntegrity true []
    { sender := x, viaPriv := viaPriv, tag := n.tag, buf := n.buf, t := t }

/-- The notice that the interpreter serves next: the earliest GO, the common mailbox first on a tie (12 R502). -/
def nextNotice (s : State) : Option (Nat × Notice) :=
  (List.range 8).foldl (fun (best : Option (Nat × Notice)) i =>
    match s.slotOf i with
    | none => best
    | some n =>
      match best with
      | none => some (i, n)
      | some b => if n.t < b.2.t then some (i, n) else best) none

/-- The take of the notice in a slot. -/
def takeNotice (s : State) (slot : Nat) (n : Notice) (dma : Option (List Word)) (t : Instant) : State :=
  let x := n.sender
  let viaPriv := decide (2 ≤ slot) && x.core.isNone
  let s0 := s.setSlotOf slot none
  let s1 := s0.setMbox x slot { s0.mbox x slot with taken := true }
  match s1.readPacket x n.buf dma with
  | none => s1.integrity n viaPriv 0 t
  | some ws =>
    if field (pword ws 1) 0 16 = n.tag then
      runCommand opTable (specOf n.buf ws) (packetReq x viaPriv n.buf ws t) s1
    else s1.integrity n viaPriv (field (pword ws 0) 0 16) t

end State

/-- NOTICE_TAKE: the interpreter in service takes the next notice; one whose MB_TIMEOUT has passed leaves its slot
instead. -/
def execNoticeTake (dma : Option (List Word)) (t : Instant) (s : State) : Host.Outcome State Fault Refusal :=
  let s1 := s.tick t
  if !s1.host.ready then .next s1
  else
    match s1.nextNotice with
    | none => .next s1
    | some (slot, n) => if n.until_ < t then .next (s1.timeoutNotice slot n) else .next (s1.takeNotice slot n dma t)

/-! ### The configuration part (14 R582) -/

/-- An opcode of the early phase. -/
def earlyOp (op : Nat) : Bool :=
  decide (0x0100 ≤ op ∧ op ≤ 0x011F) || decide (0x0400 ≤ op ∧ op ≤ 0x09FF) || op == 0x0A00 || op == 0x0A01 || op == 0x0A07

/-- An opcode that no configuration part may hold. -/
def barredOp (op : Nat) : Bool := decide (0x0A02 ≤ op ∧ op ≤ 0x0A06) || op == 0x0B01 || op == 0x0B04

/-- A packet with the apply-at instant that its phase gives it, where its opcode takes one. -/
def timedReq (r : Req) (op : OpSpec) (ok : Instant → Bool) (other now : Instant) : Req :=
  let uses : Bool := match op.apply with
    | .ignored => false
    | .mustBe v => v
    | .honoured => true
  if !uses || (r.applyOn && decide (r.applyNs ≤ 999999999) && ok (r.applyAt now)) then r
  else
    { r with
      applyOn := true
      applySec := nsCeil other / 1000000000 % 4294967296
      applyNs := nsCeil other % 1000000000 }

namespace State

/-- The status of a packet that fails goes into BOOT_CFG_ERR if it is the first, and into EV_BOOT. -/
def cfgFail (s : State) (idx status : Nat) (t : Instant) : State :=
  let s1 := { s with pwr := { s.pwr with
    cfgErrIdx := if s.pwr.cfgError then s.pwr.cfgErrIdx else idx
    cfgErrSt := if s.pwr.cfgError then s.pwr.cfgErrSt else status
    cfgError := true } }
  s1.raise 0x0A00 108 [bytesBE 1 s.pwr.stage, bytesBE 1 status] t

/-- One packet of the configuration part, from the interpreter itself with the rank of PF1. -/
def runPacket (fwd : Option Instant) (t : Instant) (s : State) (e : List Word × Nat) : State :=
  let b : Buffer := { len := 4 * e.1.length }
  let op := specOf b e.1
  let r0 := { packetReq .h0pf1 false b e.1 t with flags := (packetReq .h0pf1 false b e.1 t).flags / 2 * 2 }
  let r := match fwd with
    | some f => timedReq r0 op (fun a => decide (f ≤ a)) f s.now
    | none => timedReq r0 op (fun a => decide (t + op.lead ≤ a)) (t + op.lead) s.now
  if barredOp op.opcode then s.cfgFail e.2 stBadOpcode t
  else
    match precheck op r s false with
    | some st => s.cfgFail e.2 st t
    | none =>
      let x := runBody op 0 r s
      match batchFailure r x with
      | some f => s.cfgFail e.2 f.status t
      | none =>
        match x with
        | .fail _ _ _ => s
        | .done s' _ => if r.checkOnly then s else s'
        | .wait s' _ => if r.checkOnly then s else s'

/-- The first whole ms at least 5 ms after `t`. -/
def fwdStartFrom (t : Instant) : Instant := (t + ms 5 + (ms 1 - 1)) / ms 1 * ms 1

/-- The interpreter goes into service with the firmware that the image brought. -/
def interpReady (s : State) (t : Instant) : State :=
  let v := (Config.fwVersion s.pwr.freeN).toNat
  { s with
    host := { s.host with
      ready := true, interp := s.interpCore.getD 3, fwMajor := v / 65536, fwMinor := v % 65536 }
    pwr := { s.pwr with freeN := s.pwr.freeN + 1, readyMs := min 0xFFFF ((t + s.pwr.tkStart) / ms 1), stage := 5 } }

/-- Both phases, with the semaphore held for every packet. -/
def configPart (s : State) (t : Instant) : State :=
  let sem := s.host.sem
  let s0 := (s.interpReady t)
  let s1 := { s0 with host := { s0.host with sem := { sem with owner := .h0 } } }
  let all := s.pwr.packets.zipIdx
  let isEarly := fun (e : List Word × Nat) => earlyOp (field (pword e.1 0) 0 16)
  let s2 := (all.filter isEarly).foldl (runPacket none t) s1
  let f := fwdStartFrom t
  let s3 := { s2 with pwr := { s2.pwr with stage := 6, cfgRun := true } }
  let s4 := (all.filter fun e => !isEarly e).foldl (runPacket (some f) t) s3
  { s4 with
    host := { s4.host with sem := sem }
    pwr := { s4.pwr with cfgRun := false, fwdAt := if s4.tk.bond.holder.isSome then some f else none } }

end State

/-- CONFIG_PART_RUN: the image runs, the keepers count, and the interpreter carries out the configuration part. -/
def execConfigPartRun (t : Instant) (s : State) : Host.Outcome State Fault Refusal :=
  let s1 := s.tick t
  if s1.pwr.image = 0 ∨ s1.pwr.stage ≠ 4 ∨ !s1.started ∨ s1.pwr.inReset then .next s1 else .next (s1.configPart t)

end Sys2Proof.Machine
end

