-- ==== Sys2Proof/Machine/Dispatch.lean ====
section
/-! DEFINITION. The meaning of each command: one arm for each constructor of Instr. -/

namespace Sys2Proof.Machine

/-- The effect of a command on everything but the queue. -/
def exec (i : Instr) (s : State) : Host.Outcome State Fault Refusal :=
  match i with
  | .frameStamp port bytes overrun t => Sys2Proof.Machine.execFrameStamp port bytes overrun t s
  | .rxFrameEnd port t => Sys2Proof.Machine.execRxFrameEnd port t s
  | .rxOversize port t => Sys2Proof.Machine.execRxOversize port t s
  | .rxSymbolAbort port arrived t => Sys2Proof.Machine.execRxSymbolAbort port arrived t s
  | .grout port upto t => Sys2Proof.Machine.execGrout port upto t s
  | .mergeRelease mp tagError t => Sys2Proof.Machine.execMergeRelease mp tagError t s
  | .channelStall mp input t => Sys2Proof.Machine.execChannelStall mp input t s
  | .lossOfSymbolLock port arrived t => Sys2Proof.Machine.execLossOfSymbolLock port arrived t s
  | .pipelineLead pipe ecc t => Sys2Proof.Machine.execPipelineLead pipe ecc t s
  | .endKeyStage pipe t => Sys2Proof.Machine.execEndKeyStage pipe t s
  | .admission t => Sys2Proof.Machine.execAdmission t s
  | .endKeyAdmission t => Sys2Proof.Machine.execEndKeyAdmission t s
  | .modelStart port t => Sys2Proof.Machine.execModelStart port t s
  | .modelEnd port t => Sys2Proof.Machine.execModelEnd port t s
  | .aging port t => Sys2Proof.Machine.execAging port t s
  | .physicalTxStart port t => Sys2Proof.Machine.execPhysicalTxStart port t s
  | .txTileRead port addr errors t => Sys2Proof.Machine.execTxTileRead port addr errors t s
  | .cutPoison port t => Sys2Proof.Machine.execCutPoison port t s
  | .cutUnderrun port t => Sys2Proof.Machine.execCutUnderrun port t s
  | .extractFrame port fwFull t => Sys2Proof.Machine.execExtractFrame port fwFull t s
  | .injectDescriptor src t => Sys2Proof.Machine.execInjectDescriptor src t s
  | .loopbackReentry t => Sys2Proof.Machine.execLoopbackReentry t s
  | .pauseRx port t => Sys2Proof.Machine.execPauseRx port t s
  | .pauseEnd port t => Sys2Proof.Machine.execPauseEnd port t s
  | .pauseCeiling port t => Sys2Proof.Machine.execPauseCeiling port t s
  | .pauseRearmEnd port t => Sys2Proof.Machine.execPauseRearmEnd port t s
  | .disableDrainEnd port t => Sys2Proof.Machine.execDisableDrainEnd port t s
  | .stagedChangeApply unit horizon t => Sys2Proof.Machine.execStagedChangeApply unit horizon t s
  | .rebase t => Sys2Proof.Machine.execRebase t s
  | .digestComplete t => Sys2Proof.Machine.execDigestComplete t s
  | .ringCountUpdate count t => Sys2Proof.Machine.execRingCountUpdate count t s
  | .mortarSet r => Sys2Proof.Machine.execMortarSet r s
  | .mortarGet r => Sys2Proof.Machine.execMortarGet r s
  | .digestRun r => Sys2Proof.Machine.execDigestRun r s
  | .ingressSet r => Sys2Proof.Machine.execIngressSet r s
  | .ingressGet r => Sys2Proof.Machine.execIngressGet r s
  | .vlanSet r => Sys2Proof.Machine.execVlanSet r s
  | .vlanGet r => Sys2Proof.Machine.execVlanGet r s
  | .streamSet r => Sys2Proof.Machine.execStreamSet r s
  | .streamGet r => Sys2Proof.Machine.execStreamGet r s
  | .meterSet r => Sys2Proof.Machine.execMeterSet r s
  | .meterGet r => Sys2Proof.Machine.execMeterGet r s
  | .windowSet r => Sys2Proof.Machine.execWindowSet r s
  | .recoverySet r => Sys2Proof.Machine.execRecoverySet r s
  | .recoveryGet r => Sys2Proof.Machine.execRecoveryGet r s
  | .recoveryReset r => Sys2Proof.Machine.execRecoveryReset r s
  | .learnNoticeApply a t => Sys2Proof.Machine.execLearnNoticeApply a t s
  | .flapHoldEnd vid mac a t => Sys2Proof.Machine.execFlapHoldEnd vid mac a t s
  | .l2Age a t => Sys2Proof.Machine.execL2Age a t s
  | .tableScrub copy table index uncorrectable t => Sys2Proof.Machine.execTableScrub copy table index uncorrectable t s
  | .ffLivenessDown port t => Sys2Proof.Machine.execFfLivenessDown port t s
  | .ffLivenessUp port t => Sys2Proof.Machine.execFfLivenessUp port t s
  | .l2FlushGroup jid t => Sys2Proof.Machine.execL2FlushGroup jid t s
  | .fenceComplete jid t => Sys2Proof.Machine.execFenceComplete jid t s
  | .fenceTimeout jid t => Sys2Proof.Machine.execFenceTimeout jid t s
  | .l2Set r => Sys2Proof.Machine.execL2Set r s
  | .l2Del r => Sys2Proof.Machine.execL2Del r s
  | .l2Get r => Sys2Proof.Machine.execL2Get r s
  | .l2Flush r => Sys2Proof.Machine.execL2Flush r s
  | .tableCfgSet r => Sys2Proof.Machine.execTableCfgSet r s
  | .tableCfgGet r => Sys2Proof.Machine.execTableCfgGet r s
  | .l2PortSet r => Sys2Proof.Machine.execL2PortSet r s
  | .l2PortGet r => Sys2Proof.Machine.execL2PortGet r s
  | .l2Unlock r => Sys2Proof.Machine.execL2Unlock r s
  | .rifSet r => Sys2Proof.Machine.execRifSet r s
  | .rifGet r => Sys2Proof.Machine.execRifGet r s
  | .nhSet r => Sys2Proof.Machine.execNhSet r s
  | .nhGet r => Sys2Proof.Machine.execNhGet r s
  | .routeSet r => Sys2Proof.Machine.execRouteSet r s
  | .routeDel r => Sys2Proof.Machine.execRouteDel r s
  | .routeGet r => Sys2Proof.Machine.execRouteGet r s
  | .mcgSet r => Sys2Proof.Machine.execMcgSet r s
  | .mcgGet r => Sys2Proof.Machine.execMcgGet r s
  | .ffgSet r => Sys2Proof.Machine.execFfgSet r s
  | .ffgGet r => Sys2Proof.Machine.execFfgGet r s
  | .fence r => Sys2Proof.Machine.execFence r s
  | .poolSet r => Sys2Proof.Machine.execPoolSet r s
  | .poolGet r => Sys2Proof.Machine.execPoolGet r s
  | .queueSet r => Sys2Proof.Machine.execQueueSet r s
  | .queueGet r => Sys2Proof.Machine.execQueueGet r s
  | .schedSet r => Sys2Proof.Machine.execSchedSet r s
  | .schedGet r => Sys2Proof.Machine.execSchedGet r s
  | .pauseSet r => Sys2Proof.Machine.execPauseSet r s
  | .pauseGet r => Sys2Proof.Machine.execPauseGet r s
  | .mirrorSet r => Sys2Proof.Machine.execMirrorSet r s
  | .mirrorGet r => Sys2Proof.Machine.execMirrorGet r s
  | .courseOccurrence port entry error whole t => Sys2Proof.Machine.execCourseOccurrence port entry error whole t s
  | .windowRelease port entry t => Sys2Proof.Machine.execWindowRelease port entry t s
  | .courseSwap port t => Sys2Proof.Machine.execCourseSwap port t s
  | .courseSet r => Sys2Proof.Machine.execCourseSet r s
  | .courseEntrySet r => Sys2Proof.Machine.execCourseEntrySet r s
  | .courseCommit r => Sys2Proof.Machine.execCourseCommit r s
  | .courseGet r => Sys2Proof.Machine.execCourseGet r s
  | .courseEntryGet r => Sys2Proof.Machine.execCourseEntryGet r s
  | .courseReportGet r => Sys2Proof.Machine.execCourseReportGet r s
  | .courseClear r => Sys2Proof.Machine.execCourseClear r s
  | .servoCycle m t => Sys2Proof.Machine.execServoCycle m t s
  | .candidateQualify cand t => Sys2Proof.Machine.execCandidateQualify cand t s
  | .voteWindowEnd fs t => Sys2Proof.Machine.execVoteWindowEnd fs t s
  | .refPpsEdge input edge t => Sys2Proof.Machine.execRefPpsEdge input edge t s
  | .ppsMissing input t => Sys2Proof.Machine.execPpsMissing input t s
  | .refClockLost input t => Sys2Proof.Machine.execRefClockLost input t s
  | .ptpRx port msg stamp t => Sys2Proof.Machine.execPtpRx port msg stamp t s
  | .ptpTx port kind t => Sys2Proof.Machine.execPtpTx port kind t s
  | .esmcRx port ql t => Sys2Proof.Machine.execEsmcRx port ql t s
  | .esmcQlTimeout port t => Sys2Proof.Machine.execEsmcQlTimeout port t s
  | .esmcTx port t => Sys2Proof.Machine.execEsmcTx port t s
  | .xoLost t => Sys2Proof.Machine.execXoLost t s
  | .xoResume t => Sys2Proof.Machine.execXoResume t s
  | .aonTrim t => Sys2Proof.Machine.execAonTrim t s
  | .keeperBandSearchDone k band t => Sys2Proof.Machine.execKeeperBandSearchDone k band t s
  | .ppsOutput which t => Sys2Proof.Machine.execPpsOutput which t s
  | .timeLatch t => Sys2Proof.Machine.execTimeLatch t s
  | .tkStatusGet r => Sys2Proof.Machine.execTkStatusGet r s
  | .refStatusGet r => Sys2Proof.Machine.execRefStatusGet r s
  | .timeSet r => Sys2Proof.Machine.execTimeSet r s
  | .refCmd r => Sys2Proof.Machine.execRefCmd r s
  | .timeAcceptStep r => Sys2Proof.Machine.execTimeAcceptStep r s
  | .refSet r => Sys2Proof.Machine.execRefSet r s
  | .refGet r => Sys2Proof.Machine.execRefGet r s
  | .servoSet r => Sys2Proof.Machine.execServoSet r s
  | .servoGet r => Sys2Proof.Machine.execServoGet r s
  | .keeperCfgSet r => Sys2Proof.Machine.execKeeperCfgSet r s
  | .keeperCfgGet r => Sys2Proof.Machine.execKeeperCfgGet r s
  | .ptpPortSet r => Sys2Proof.Machine.execPtpPortSet r s
  | .ptpPortGet r => Sys2Proof.Machine.execPtpPortGet r s
  | .synceSet r => Sys2Proof.Machine.execSynceSet r s
  | .synceGet r => Sys2Proof.Machine.execSynceGet r s
  | .refinSet r => Sys2Proof.Machine.execRefinSet r s
  | .refinGet r => Sys2Proof.Machine.execRefinGet r s
  | .tmarkTx port cycle sym t => Sys2Proof.Machine.execTmarkTx port cycle sym t s
  | .tmarkRx port symbols codeError cycle sym t => Sys2Proof.Machine.execTmarkRx port symbols codeError cycle sym t s
  | .timingFrameTx port t => Sys2Proof.Machine.execTimingFrameTx port t s
  | .timingFrameRx port bytes t => Sys2Proof.Machine.execTimingFrameRx port bytes t s
  | .beatSample port phiRx phiTx t => Sys2Proof.Machine.execBeatSample port phiRx phiTx t s
  | .vernierCalDone quad dnl t => Sys2Proof.Machine.execVernierCalDone quad dnl t s
  | .delayRunDone port fixedTx fixedRx resTx resRx t => Sys2Proof.Machine.execDelayRunDone port fixedTx fixedRx resTx resRx t s
  | .ltRelockTimeout port t => Sys2Proof.Machine.execLtRelockTimeout port t s
  | .asymWindowEnd t => Sys2Proof.Machine.execAsymWindowEnd t s
  | .linkTimingSet r => Sys2Proof.Machine.execLinkTimingSet r s
  | .linkTimingGet r => Sys2Proof.Machine.execLinkTimingGet r s
  | .asymSet r => Sys2Proof.Machine.execAsymSet r s
  | .asymGet r => Sys2Proof.Machine.execAsymGet r s
  | .linkStatusGet r => Sys2Proof.Machine.execLinkStatusGet r s
  | .asymMeasure r => Sys2Proof.Machine.execAsymMeasure r s
  | .calDelayRun r => Sys2Proof.Machine.execCalDelayRun r s
  | .calVernierRun r => Sys2Proof.Machine.execCalVernierRun r s
  | .leaseExpiry t => Sys2Proof.Machine.execLeaseExpiry t s
  | .keeperCheckFail k check t => Sys2Proof.Machine.execKeeperCheckFail k check t s
  | .bondCellDisagree cell t => Sys2Proof.Machine.execBondCellDisagree cell t s
  | .rejoinBandDone k ok t => Sys2Proof.Machine.execRejoinBandDone k ok t s
  | .heartbeatTimeout t => Sys2Proof.Machine.execHeartbeatTimeout t s
  | .interpreterFault cause t => Sys2Proof.Machine.execInterpreterFault cause t s
  | .standbyFault cause t => Sys2Proof.Machine.execStandbyFault cause t s
  | .coreTakeover t => Sys2Proof.Machine.execCoreTakeover t s
  | .coreRestartDone core ok t => Sys2Proof.Machine.execCoreRestartDone core ok t s
  | .footingCauseDetect cause t => Sys2Proof.Machine.execFootingCauseDetect cause t s
  | .footingEntry t => Sys2Proof.Machine.execFootingEntry t s
  | .bufPowerDown t => Sys2Proof.Machine.execBufPowerDown t s
  | .footingCauseClear cause t => Sys2Proof.Machine.execFootingCauseClear cause t s
  | .footingExitApply t => Sys2Proof.Machine.execFootingExitApply t s
  | .bondStatusGet r => Sys2Proof.Machine.execBondStatusGet r s
  | .bondCfgSet r => Sys2Proof.Machine.execBondCfgSet r s
  | .bondCfgGet r => Sys2Proof.Machine.execBondCfgGet r s
  | .bondHandover r => Sys2Proof.Machine.execBondHandover r s
  | .keeperDisable r => Sys2Proof.Machine.execKeeperDisable r s
  | .keeperEnable r => Sys2Proof.Machine.execKeeperEnable r s
  | .footingEnter r => Sys2Proof.Machine.execFootingEnter r s
  | .footingExit r => Sys2Proof.Machine.execFootingExit r s
  | .footingCfgSet r => Sys2Proof.Machine.execFootingCfgSet r s
  | .footingCfgGet r => Sys2Proof.Machine.execFootingCfgGet r s
  | .detectHoldExpiry port t => Sys2Proof.Machine.execDetectHoldExpiry port t s
  | .energyLost port t => Sys2Proof.Machine.execEnergyLost port t s
  | .linkStateProgress port p t => Sys2Proof.Machine.execLinkStateProgress port p t s
  | .linkStateTimeout port t => Sys2Proof.Machine.execLinkStateTimeout port t s
  | .trainSetRx port req status check codeError t => Sys2Proof.Machine.execTrainSetRx port req status check codeError t s
  | .symbolLock port t => Sys2Proof.Machine.execSymbolLock port t s
  | .capxRx port type flags check codeError t => Sys2Proof.Machine.execCapxRx port type flags check codeError t s
  | .calxLoopbackDone port fixedTx fixedRx t => Sys2Proof.Machine.execCalxLoopbackDone port fixedTx fixedRx t s
  | .pllUnlock quad pll t => Sys2Proof.Machine.execPllUnlock quad pll t s
  | .pllRelock quad pll t => Sys2Proof.Machine.execPllRelock quad pll t s
  | .pllHopTimeout pll t => Sys2Proof.Machine.execPllHopTimeout pll t s
  | .hbBandSearchDone pll ok t => Sys2Proof.Machine.execHbBandSearchDone pll ok t s
  | .parkAuto port t => Sys2Proof.Machine.execParkAuto port t s
  | .parkReqLapse port t => Sys2Proof.Machine.execParkReqLapse port t s
  | .parkExit port t => Sys2Proof.Machine.execParkExit port t s
  | .parkExitFail port t => Sys2Proof.Machine.execParkExitFail port t s
  | .eyeMonitorUpdate port width height ctle dfe t => Sys2Proof.Machine.execEyeMonitorUpdate port width height ctle dfe t s
  | .dieSensorRead sensor temp t => Sys2Proof.Machine.execDieSensorRead sensor temp t s
  | .eqRunDone port ctle t => Sys2Proof.Machine.execEqRunDone port ctle t s
  | .sidebandScan inputs t => Sys2Proof.Machine.execSidebandScan inputs t s
  | .modulePresenceChange port absent t => Sys2Proof.Machine.execModulePresenceChange port absent t s
  | .moduleReady port ident rate t => Sys2Proof.Machine.execModuleReady port ident rate t s
  | .moduleAlarmPoll bus t => Sys2Proof.Machine.execModuleAlarmPoll bus t s
  | .i2cTransactionDone bus r t => Sys2Proof.Machine.execI2cTransactionDone bus r t s
  | .i2cRetry bus freed t => Sys2Proof.Machine.execI2cRetry bus freed t s
  | .quadPowerUpDone quad t => Sys2Proof.Machine.execQuadPowerUpDone quad t s
  | .portSet r => Sys2Proof.Machine.execPortSet r s
  | .portGet r => Sys2Proof.Machine.execPortGet r s
  | .laneStatusGet r => Sys2Proof.Machine.execLaneStatusGet r s
  | .linkRetrain r => Sys2Proof.Machine.execLinkRetrain r s
  | .linkPark r => Sys2Proof.Machine.execLinkPark r s
  | .quadSet r => Sys2Proof.Machine.execQuadSet r s
  | .quadGet r => Sys2Proof.Machine.execQuadGet r s
  | .eqSet r => Sys2Proof.Machine.execEqSet r s
  | .eqGet r => Sys2Proof.Machine.execEqGet r s
  | .moduleRead r => Sys2Proof.Machine.execModuleRead r s
  | .moduleWrite r => Sys2Proof.Machine.execModuleWrite r s
  | .moduleCfgSet r => Sys2Proof.Machine.execModuleCfgSet r s
  | .moduleCfgGet r => Sys2Proof.Machine.execModuleCfgGet r s
  | .calCfgSet r => Sys2Proof.Machine.execCalCfgSet r s
  | .calCfgGet r => Sys2Proof.Machine.execCalCfgGet r s
  | .evtInputEdge pin rising t => Sys2Proof.Machine.execEvtInputEdge pin rising t s
  | .evtFilterDone pin t => Sys2Proof.Machine.execEvtFilterDone pin t s
  | .evtAonLatch pin rising t => Sys2Proof.Machine.execEvtAonLatch pin rising t s
  | .evtOutputEdge pin placeable t => Sys2Proof.Machine.execEvtOutputEdge pin placeable t s
  | .timeioCalDone dnl t => Sys2Proof.Machine.execTimeioCalDone dnl t s
  | .timStartEdge chan rising raw t => Sys2Proof.Machine.execTimStartEdge chan rising raw t s
  | .timStopEdge chan rising raw t => Sys2Proof.Machine.execTimStopEdge chan rising raw t s
  | .timGateEdge chan high raw t => Sys2Proof.Machine.execTimGateEdge chan high raw t s
  | .timOverrange chan t => Sys2Proof.Machine.execTimOverrange chan t s
  | .mrefLost t => Sys2Proof.Machine.execMrefLost t s
  | .mrefLock err t => Sys2Proof.Machine.execMrefLock err t s
  | .ckoBandSearchDone out band ok t => Sys2Proof.Machine.execCkoBandSearchDone out band ok t s
  | .ckoAlignStart out t => Sys2Proof.Machine.execCkoAlignStart out t s
  | .ckoBypass out cause t => Sys2Proof.Machine.execCkoBypass out cause t s
  | .ckoReturn out t => Sys2Proof.Machine.execCkoReturn out t s
  | .ckoProfileApply out t => Sys2Proof.Machine.execCkoProfileApply out t s
  | .ckoSegmentEnd out t => Sys2Proof.Machine.execCkoSegmentEnd out t s
  | .ckoRelock out t => Sys2Proof.Machine.execCkoRelock out t s
  | .evtCfgSet r => Sys2Proof.Machine.execEvtCfgSet r s
  | .evtCfgGet r => Sys2Proof.Machine.execEvtCfgGet r s
  | .evtEdge r => Sys2Proof.Machine.execEvtEdge r s
  | .evtStampGet r => Sys2Proof.Machine.execEvtStampGet r s
  | .evtCancel r => Sys2Proof.Machine.execEvtCancel r s
  | .timCfgSet r => Sys2Proof.Machine.execTimCfgSet r s
  | .timCfgGet r => Sys2Proof.Machine.execTimCfgGet r s
  | .timArm r => Sys2Proof.Machine.execTimArm r s
  | .timRawGet r => Sys2Proof.Machine.execTimRawGet r s
  | .timStatsGet r => Sys2Proof.Machine.execTimStatsGet r s
  | .mrefSet r => Sys2Proof.Machine.execMrefSet r s
  | .mrefGet r => Sys2Proof.Machine.execMrefGet r s
  | .ckoSet r => Sys2Proof.Machine.execCkoSet r s
  | .ckoGet r => Sys2Proof.Machine.execCkoGet r s
  | .ckoProfileSet r => Sys2Proof.Machine.execCkoProfileSet r s
  | .ckoProfileStart r => Sys2Proof.Machine.execCkoProfileStart r s
  | .ckoPhaseGet r => Sys2Proof.Machine.execCkoPhaseGet r s
  | .ckoCmd r => Sys2Proof.Machine.execCkoCmd r s
  | .calTimeioRun r => Sys2Proof.Machine.execCalTimeioRun r s
  | .semAcquire h t => Sys2Proof.Machine.execSemAcquire h t s
  | .semRenew h t => Sys2Proof.Machine.execSemRenew h t s
  | .semRelease h t => Sys2Proof.Machine.execSemRelease h t s
  | .semLeaseExpiry t => Sys2Proof.Machine.execSemLeaseExpiry t s
  | .semLinkLost h t => Sys2Proof.Machine.execSemLinkLost h t s
  | .semLeaseWrite h value t => Sys2Proof.Machine.execSemLeaseWrite h value t s
  | .mbTimeoutWrite h value t => Sys2Proof.Machine.execMbTimeoutWrite h value t s
  | .cmbGo fn tag t => Sys2Proof.Machine.execCmbGo fn tag t s
  | .pmbGo fn tag t => Sys2Proof.Machine.execPmbGo fn tag t s
  | .noticeTake dma t => Sys2Proof.Machine.execNoticeTake dma t s
  | .mailboxTimeout slot t => Sys2Proof.Machine.execMailboxTimeout slot t s
  | .batchTimeout fn t => Sys2Proof.Machine.execBatchTimeout fn t s
  | .commandComplete t => Sys2Proof.Machine.execCommandComplete t s
  | .rrRdWrite fn value t => Sys2Proof.Machine.execRrRdWrite fn value t s
  | .ringEnable fn log2 t => Sys2Proof.Machine.execRingEnable fn log2 t s
  | .ringDisable fn t => Sys2Proof.Machine.execRingDisable fn t s
  | .dbRing fn value t => Sys2Proof.Machine.execDbRing fn value t s
  | .dbMaskWrite fn value t => Sys2Proof.Machine.execDbMaskWrite fn value t s
  | .functionLevelReset fn t => Sys2Proof.Machine.execFunctionLevelReset fn t s
  | .hostReset h t => Sys2Proof.Machine.execHostReset h t s
  | .registerWrite fn w t => Sys2Proof.Machine.execRegisterWrite fn w t s
  | .nop r => Sys2Proof.Machine.execNop r s
  | .sysInfoGet r => Sys2Proof.Machine.execSysInfoGet r s
  | .journalGet r => Sys2Proof.Machine.execJournalGet r s
  | .acWatchdogExpiry core pc mcause t => Sys2Proof.Machine.execAcWatchdogExpiry core pc mcause t s
  | .acFault core cause pc mcause t => Sys2Proof.Machine.execAcFault core cause pc mcause t s
  | .wdogKick core t => Sys2Proof.Machine.execWdogKick core t s
  | .acMailboxGo core tag t => Sys2Proof.Machine.execAcMailboxGo core tag t s
  | .tkNowRead target t => Sys2Proof.Machine.execTkNowRead target t s
  | .evcTimerExpiry target n t => Sys2Proof.Machine.execEvcTimerExpiry target n t s
  | .timerEnable target value t => Sys2Proof.Machine.execTimerEnable target value t s
  | .acMsgSend core toH0 toH1 t => Sys2Proof.Machine.execAcMsgSend core toH0 toH1 t s
  | .acMsgPop core h0 h1 t => Sys2Proof.Machine.execAcMsgPop core h0 h1 t s
  | .hostMsgSend h ac0 ac1 t => Sys2Proof.Machine.execHostMsgSend h ac0 ac1 t s
  | .hostMsgPop h ac0 ac1 t => Sys2Proof.Machine.execHostMsgPop h ac0 ac1 t s
  | .evcEvent code source params latched t => Sys2Proof.Machine.execEvcEvent code source params latched t s
  | .evcClaim target t => Sys2Proof.Machine.execEvcClaim target t s
  | .evcComplete target source t => Sys2Proof.Machine.execEvcComplete target source t s
  | .evlogPop target t => Sys2Proof.Machine.execEvlogPop target t s
  | .evcSoftSet target n t => Sys2Proof.Machine.execEvcSoftSet target n t s
  | .evcDelivery core pc t => Sys2Proof.Machine.execEvcDelivery core pc t s
  | .evcExit core t => Sys2Proof.Machine.execEvcExit core t s
  | .palletTrigger pallet t => Sys2Proof.Machine.execPalletTrigger pallet t s
  | .palletSnapshotStart t => Sys2Proof.Machine.execPalletSnapshotStart t s
  | .palletDone t => Sys2Proof.Machine.execPalletDone t s
  | .counterGet r => Sys2Proof.Machine.execCounterGet r s
  | .palletSnapshot r => Sys2Proof.Machine.execPalletSnapshot r s
  | .palletGet r => Sys2Proof.Machine.execPalletGet r s
  | .counterCatalogGet r => Sys2Proof.Machine.execCounterCatalogGet r s
  | .evcRouteSet r => Sys2Proof.Machine.execEvcRouteSet r s
  | .evcRouteGet r => Sys2Proof.Machine.execEvcRouteGet r s
  | .evcTargetSet r => Sys2Proof.Machine.execEvcTargetSet r s
  | .evcTargetGet r => Sys2Proof.Machine.execEvcTargetGet r s
  | .acLoad r => Sys2Proof.Machine.execAcLoad r s
  | .acStart r => Sys2Proof.Machine.execAcStart r s
  | .acStop r => Sys2Proof.Machine.execAcStop r s
  | .acStatusGet r => Sys2Proof.Machine.execAcStatusGet r s
  | .acPermitSet r => Sys2Proof.Machine.execAcPermitSet r s
  | .acPermitGet r => Sys2Proof.Machine.execAcPermitGet r s
  | .coldReset cause bootsel hostcfg t => Sys2Proof.Machine.execColdReset cause bootsel hostcfg t s
  | .warmReset cause t => Sys2Proof.Machine.execWarmReset cause t s
  | .resetRelease t => Sys2Proof.Machine.execResetRelease t s
  | .bootImageVerify src readable t => Sys2Proof.Machine.execBootImageVerify src readable t s
  | .recoveryLoad h image t => Sys2Proof.Machine.execRecoveryLoad h image t s
  | .configPartRun t => Sys2Proof.Machine.execConfigPartRun t s
  | .forwardingStart t => Sys2Proof.Machine.execForwardingStart t s
  | .wakeTimerExpiry t => Sys2Proof.Machine.execWakeTimerExpiry t s
  | .pwrWake fn t => Sys2Proof.Machine.execPwrWake fn t s
  | .wake wakeN t => Sys2Proof.Machine.execWake wakeN t s
  | .fwUpdateTimeout t => Sys2Proof.Machine.execFwUpdateTimeout t s
  | .otpWriteDone t => Sys2Proof.Machine.execOtpWriteDone t s
  | .flashEraseDone t => Sys2Proof.Machine.execFlashEraseDone t s
  | .io33Low t => Sys2Proof.Machine.execIo33Low t s
  | .io33Restore t => Sys2Proof.Machine.execIo33Restore t s
  | .policyGet r => Sys2Proof.Machine.execPolicyGet r s
  | .policySet r => Sys2Proof.Machine.execPolicySet r s
  | .keyEnrol r => Sys2Proof.Machine.execKeyEnrol r s
  | .keyStatusGet r => Sys2Proof.Machine.execKeyStatusGet r s
  | .fwUpdateBegin r => Sys2Proof.Machine.execFwUpdateBegin r s
  | .fwUpdateData r => Sys2Proof.Machine.execFwUpdateData r s
  | .fwUpdateCommit r => Sys2Proof.Machine.execFwUpdateCommit r s
  | .configLock r => Sys2Proof.Machine.execConfigLock r s
  | .powerStatusGet r => Sys2Proof.Machine.execPowerStatusGet r s
  | .sleepEnter r => Sys2Proof.Machine.execSleepEnter r s
  | .wakeCfgSet r => Sys2Proof.Machine.execWakeCfgSet r s
  | .wakeCfgGet r => Sys2Proof.Machine.execWakeCfgGet r s
  | .deviceReset r => Sys2Proof.Machine.execDeviceReset r s
  | .keeperSupplyReturn k t => Sys2Proof.Machine.execKeeperSupplyReturn k t s
  | .hostResetRelease h t => Sys2Proof.Machine.execHostResetRelease h t s
  | .ptpDelayReqTx port t => Sys2Proof.Machine.execPtpDelayReqTx port t s
  | .ptpDelayReqRx port msg stamp t => Sys2Proof.Machine.execPtpDelayReqRx port msg stamp t s
  | .evtCfgApply pin t => Sys2Proof.Machine.execEvtCfgApply pin t s
  | .ckoDisableApply out t => Sys2Proof.Machine.execCkoDisableApply out t s
  | .acImageVerified core t => Sys2Proof.Machine.execAcImageVerified core t s
  | .rcFieldRead fn off len t => Sys2Proof.Machine.execRcFieldRead fn off len t s

end Sys2Proof.Machine
end

