-- ==== Sys2Proof/Safety.lean ====
section
/-! DEFINITION. The terms in which claims are made: when the interpreter accepts a command packet (12 R506), the state
in which its body then runs, the two ways in which it completes (12 R509), and the invariants of State. -/

namespace Sys2Proof.Machine

/-- The packet fits the opcode's use of APPLY_VALID and its reserved bit (12 R506 step 4, R523). -/
def applyFits (op : OpSpec) (r : Req) : Bool :=
  match op.apply with
  | .ignored => true
  | .mustBe true => !r.resv && r.applyOn && decide (r.applyNs ≤ 999999999)
  | .mustBe false => !r.resv && !r.applyOn
  | .honoured => !r.resv && (!r.applyOn || decide (r.applyNs ≤ 999999999))

/-- The sender may send the opcode: group 0x0A belongs to PF1, LOCK_PF0, private opcodes, a core's rights and time
authority (12 R506 step 5, 13 R534, 14 R591, 07 R297). -/
def maySend (op : OpSpec) (r : Req) (s : State) : Bool :=
  (r.sender.pf1 || (op.opcode / 256 != 0x0A && (!s.pwr.lockPf0 || !(op.sem || op.owner))))
    && (!r.viaPriv || op.priv)
    && (match r.sender.core with
        | none => true
        | some c => (op.priv || op.acAlso) && (op.opcode / 256 != 7 || (s.ac c).permits.getLsbD 2))
    && (!op.timeAuth || s.hasTimeAuth r.sender)

/-- A single command that passes every check of 12 R506 before its opcode's own: a slot is free, no batch of the
sender is open, FLAGS is 0, LEN and PW fit, the sender may send it, holds the semaphore where the opcode needs it,
and the opcode runs in footing if footing holds. -/
def accepted (op : OpSpec) (r : Req) (s : State) : Bool :=
  s.slotFree r.viaPriv && (r.viaPriv || !s.batchOpen r.sender) && r.flags == 0
    && op.pw r && decide (16 + 4 * r.pw ≤ r.buf.len) && op.known && applyFits op r && maySend op r s
    && (!op.sem || s.holds r.sender) && (!(s.cfgAt (max s.now r.t)).footing || op.footing)

/-- The instant of the packet's apply-at field, where the opcode uses it (02 R76). -/
def applyInstant (op : OpSpec) (r : Req) (s : State) : Option Instant :=
  if r.applyOn ∧ op.apply ≠ .ignored then some (r.applyAt (max s.now r.t)) else none

/-- The final reply OK with result words, on the state that the command leaves (12 R508, R509). -/
def okReply (op : OpSpec) (r : Req) (s t : State) (ws : List Word) : State :=
  t.replyTo op.opcode s.host.nextJid State.stOk true ws r

/-- The record is committed with its results, and the reply PENDING goes out (12 R509, R515). -/
def pendingReply (op : OpSpec) (r : Req) (s t : State) (ws : List Word) : State :=
  (t.commitRec s.host.nextJid ws).replyTo op.opcode s.host.nextJid State.stPending false [] r

/-! ### Changes that wait for an instant -/

/-- The instant of a change: the apply-at instant, else the earliest that a table transaction's lead and the other
transactions allow, else the take (01 R27, 04 R126, R128). -/
def changeInstant (op : OpSpec) (r : Req) (s : State) (lead : Nat) (txn : Bool) (words : Nat) : Instant :=
  match applyInstant op r s with
  | some a => a
  | none => if txn then s.earliestTxn words (r.t + lead) else r.t

/-- The change can be staged: its transaction keeps 1 µs from the others and within 64 words (04 R126), and an
apply-at instant leaves the lead (02 R75). -/
def stageFits (op : OpSpec) (r : Req) (s : State) (lead : Nat) (txn : Bool) (words : Nat) : Bool :=
  let a := changeInstant op r s lead txn words
  !(txn && s.txnNear a) && !(txn && decide (64 < words + s.wordsAt a))
    && (match applyInstant op r s with
        | some a => decide (r.t + lead ≤ a)
        | none => true)

/-- A table transaction of so many words can stand at an instant: it keeps 1 µs from the others, stays within 64 words
and leaves its lead from the take (04 R126, R128). -/
def txnFits (s : State) (t a : Instant) (words : Nat) : Bool :=
  !s.txnNear a && decide (words + s.wordsAt a ≤ 64) && decide (t + ms 5 ≤ a)

/-- What a table command leaves whose transaction stands at `a`: the change is staged for the pipelines' copies and waits
on its instant (04 R126, 02 R74). -/
def txnState (op : OpSpec) (r : Req) (s : State) (a : Instant) (words : Nat) (chs : List Change) : State :=
  (taken op r s).stage { a := a, jids := [s.host.nextJid], txn := true, units := copies5, words := words, change := chs }

/-- What a command that stages a change leaves: with no instant to wait for every unit applies it and the command is
done; else it is staged for its instant and the command waits on it (02 R74, 01 R27). -/
def stagedState (op : OpSpec) (r : Req) (s : State) (lead : Nat) (txn : Bool) (units : List Nat) (words : Nat)
    (chs : List Change) (ws : List Word) : State :=
  let a := changeInstant op r s lead txn words
  let u := taken op r s
  if (applyInstant op r s).isNone && !txn then
    okReply op r s ((u.stage { a := a, jids := [], txn := txn, units := units, words := words, change := chs }).applyDue
      a r.t) ws
  else
    pendingReply op r s
      (u.stage { a := a, jids := [s.host.nextJid], txn := txn, units := units, words := words, change := chs }) ws

/-- The keeper change of a command, staged for its instant (07 R297). -/
def keeperState (op : OpSpec) (r : Req) (s : State) (ch : TkChange) : State :=
  pendingReply op r s ((taken op r s).putTk (tkInstant (applyInstant op r s) r.t) s.host.nextJid ch) []

/-- An apply-at instant, where the packet has one, leaves a lead. -/
def leadOk (op : OpSpec) (r : Req) (s : State) (lead : Nat) : Bool :=
  match applyInstant op r s with
  | some a => decide (r.t + lead ≤ a)
  | none => true

/-! ### Packets in memory -/

/-- The opcode and the operands of a command that comes as a packet (12 R523). -/
def packetOfInstr (i : Instr) : Option (Nat × Req) :=
  match i with
  | .nop r => some (0x0000, r)
  | .sysInfoGet r => some (0x0001, r)
  | .journalGet r => some (0x0002, r)
  | .mortarSet r => some (0x0010, r)
  | .mortarGet r => some (0x0011, r)
  | .digestRun r => some (0x0012, r)
  | .portSet r => some (0x0100, r)
  | .portGet r => some (0x0101, r)
  | .laneStatusGet r => some (0x0102, r)
  | .linkRetrain r => some (0x0103, r)
  | .linkPark r => some (0x0104, r)
  | .quadSet r => some (0x0105, r)
  | .quadGet r => some (0x0106, r)
  | .eqSet r => some (0x0107, r)
  | .eqGet r => some (0x0108, r)
  | .moduleRead r => some (0x0110, r)
  | .moduleWrite r => some (0x0111, r)
  | .moduleCfgSet r => some (0x0112, r)
  | .moduleCfgGet r => some (0x0113, r)
  | .ingressSet r => some (0x0120, r)
  | .ingressGet r => some (0x0121, r)
  | .poolSet r => some (0x0130, r)
  | .poolGet r => some (0x0131, r)
  | .queueSet r => some (0x0132, r)
  | .queueGet r => some (0x0133, r)
  | .schedSet r => some (0x0134, r)
  | .schedGet r => some (0x0135, r)
  | .pauseSet r => some (0x0136, r)
  | .pauseGet r => some (0x0137, r)
  | .mirrorSet r => some (0x0138, r)
  | .mirrorGet r => some (0x0139, r)
  | .l2Set r => some (0x0200, r)
  | .l2Del r => some (0x0201, r)
  | .l2Get r => some (0x0202, r)
  | .l2Flush r => some (0x0203, r)
  | .tableCfgSet r => some (0x0204, r)
  | .tableCfgGet r => some (0x0205, r)
  | .l2PortSet r => some (0x0206, r)
  | .l2PortGet r => some (0x0207, r)
  | .l2Unlock r => some (0x0208, r)
  | .vlanSet r => some (0x0210, r)
  | .vlanGet r => some (0x0211, r)
  | .rifSet r => some (0x0212, r)
  | .rifGet r => some (0x0213, r)
  | .nhSet r => some (0x0214, r)
  | .nhGet r => some (0x0215, r)
  | .routeSet r => some (0x0216, r)
  | .routeDel r => some (0x0217, r)
  | .routeGet r => some (0x0218, r)
  | .mcgSet r => some (0x0219, r)
  | .mcgGet r => some (0x021A, r)
  | .ffgSet r => some (0x021B, r)
  | .ffgGet r => some (0x021C, r)
  | .fence r => some (0x0220, r)
  | .streamSet r => some (0x0300, r)
  | .streamGet r => some (0x0301, r)
  | .meterSet r => some (0x0302, r)
  | .meterGet r => some (0x0303, r)
  | .windowSet r => some (0x0304, r)
  | .recoverySet r => some (0x0306, r)
  | .recoveryGet r => some (0x0307, r)
  | .recoveryReset r => some (0x0308, r)
  | .courseSet r => some (0x0310, r)
  | .courseEntrySet r => some (0x0311, r)
  | .courseCommit r => some (0x0312, r)
  | .courseGet r => some (0x0313, r)
  | .courseEntryGet r => some (0x0314, r)
  | .courseReportGet r => some (0x0315, r)
  | .courseClear r => some (0x0316, r)
  | .tkStatusGet r => some (0x0400, r)
  | .refStatusGet r => some (0x0401, r)
  | .timeSet r => some (0x0402, r)
  | .refCmd r => some (0x0403, r)
  | .timeAcceptStep r => some (0x0404, r)
  | .refSet r => some (0x0405, r)
  | .refGet r => some (0x0406, r)
  | .servoSet r => some (0x0407, r)
  | .servoGet r => some (0x0408, r)
  | .keeperCfgSet r => some (0x0409, r)
  | .keeperCfgGet r => some (0x040A, r)
  | .ptpPortSet r => some (0x0410, r)
  | .ptpPortGet r => some (0x0411, r)
  | .synceSet r => some (0x0412, r)
  | .synceGet r => some (0x0413, r)
  | .refinSet r => some (0x0414, r)
  | .refinGet r => some (0x0415, r)
  | .linkTimingSet r => some (0x0420, r)
  | .linkTimingGet r => some (0x0421, r)
  | .asymSet r => some (0x0422, r)
  | .asymGet r => some (0x0423, r)
  | .linkStatusGet r => some (0x0424, r)
  | .asymMeasure r => some (0x0425, r)
  | .evtCfgSet r => some (0x0500, r)
  | .evtCfgGet r => some (0x0501, r)
  | .evtEdge r => some (0x0502, r)
  | .evtStampGet r => some (0x0503, r)
  | .evtCancel r => some (0x0504, r)
  | .timCfgSet r => some (0x0510, r)
  | .timCfgGet r => some (0x0511, r)
  | .timArm r => some (0x0512, r)
  | .timRawGet r => some (0x0513, r)
  | .timStatsGet r => some (0x0514, r)
  | .mrefSet r => some (0x0515, r)
  | .mrefGet r => some (0x0516, r)
  | .ckoSet r => some (0x0600, r)
  | .ckoGet r => some (0x0601, r)
  | .ckoProfileSet r => some (0x0602, r)
  | .ckoProfileStart r => some (0x0603, r)
  | .ckoPhaseGet r => some (0x0604, r)
  | .ckoCmd r => some (0x0605, r)
  | .counterGet r => some (0x0700, r)
  | .palletSnapshot r => some (0x0701, r)
  | .palletGet r => some (0x0702, r)
  | .counterCatalogGet r => some (0x0703, r)
  | .bondStatusGet r => some (0x0800, r)
  | .bondCfgSet r => some (0x0801, r)
  | .bondCfgGet r => some (0x0802, r)
  | .bondHandover r => some (0x0803, r)
  | .keeperDisable r => some (0x0804, r)
  | .keeperEnable r => some (0x0805, r)
  | .footingEnter r => some (0x0810, r)
  | .footingExit r => some (0x0811, r)
  | .footingCfgSet r => some (0x0812, r)
  | .footingCfgGet r => some (0x0813, r)
  | .calDelayRun r => some (0x0900, r)
  | .calVernierRun r => some (0x0901, r)
  | .calCfgSet r => some (0x0902, r)
  | .calCfgGet r => some (0x0903, r)
  | .calTimeioRun r => some (0x0904, r)
  | .policyGet r => some (0x0A00, r)
  | .policySet r => some (0x0A01, r)
  | .keyEnrol r => some (0x0A02, r)
  | .keyStatusGet r => some (0x0A03, r)
  | .fwUpdateBegin r => some (0x0A04, r)
  | .fwUpdateData r => some (0x0A05, r)
  | .fwUpdateCommit r => some (0x0A06, r)
  | .configLock r => some (0x0A07, r)
  | .powerStatusGet r => some (0x0B00, r)
  | .sleepEnter r => some (0x0B01, r)
  | .wakeCfgSet r => some (0x0B02, r)
  | .wakeCfgGet r => some (0x0B03, r)
  | .deviceReset r => some (0x0B04, r)
  | .evcRouteSet r => some (0x0C00, r)
  | .evcRouteGet r => some (0x0C01, r)
  | .evcTargetSet r => some (0x0C02, r)
  | .evcTargetGet r => some (0x0C03, r)
  | .acLoad r => some (0x0D00, r)
  | .acStart r => some (0x0D01, r)
  | .acStop r => some (0x0D02, r)
  | .acStatusGet r => some (0x0D03, r)
  | .acPermitSet r => some (0x0D04, r)
  | .acPermitGet r => some (0x0D05, r)
  | _ => none

/-- The words of a packet, as 12 R504 lays them out: version 1, FLAGS and OPCODE; PW and TAG; the apply-at seconds;
APPLY_VALID and the apply-at nanoseconds; the parameters. -/
def packetOf (opcode : Nat) (r : Req) : List Word :=
  [word (0x01000000 + r.flags * 65536 + opcode), word (r.pw * 65536 + r.tag), word r.applySec,
   word (atBit r.resv 31 + atBit r.applyOn 30 + r.applyNs)] ++ r.params

/-! ### Memory -/

/-- Every byte memory of the machine keeps the canonical form: the message SRAM (12 R492), the TCMs (13 R526), the flash
slots and the directory copies (14 R577). -/
def State.memOk (s : State) : Prop :=
  s.host.sram.wf = true ∧ s.cores.ac0.tcm.wf = true ∧ s.cores.ac1.tcm.wf = true ∧ s.pwr.flash.slotA.wf = true
    ∧ s.pwr.flash.slotB.wf = true ∧ s.pwr.flash.dir0.wf = true ∧ s.pwr.flash.dir1.wf = true

/-! ### Frames -/

/-- Everything but the host ports, the event concentrator with its counters and cores, the outputs, the queue and the
time is as before: the data plane, the keepers, the lanes, timed I/O, power and security. -/
def State.sameDevice (s t : State) : Prop :=
  t.cfg = s.cfg ∧ t.fab = s.fab ∧ t.tab = s.tab ∧ t.egr = s.egr ∧ t.crs = s.crs ∧ t.tk = s.tk ∧ t.lt = s.lt
    ∧ t.flt = s.flt ∧ t.lan = s.lan ∧ t.tio = s.tio ∧ t.pwr = s.pwr

/-- A packet outside any batch: it carries no LINK and its sender has no batch open (12 R516). -/
def singleReq (r : Req) (s : State) : Bool := !r.link && (r.viaPriv || !s.batchOpen r.sender)

end Sys2Proof.Machine
end

