-- ==== Sys2Proof/WellFormed.lean ====
section
/-! DEFINITION. Which commands are well formed: the numbers they name exist on the device, and the fields of a
command packet have the widths of 12 R504. An ill-formed command stands for nothing that the device can meet;
`exec` is total on it all the same. -/

namespace Sys2Proof

/-- The fields of a packet fit their places (12 R504). -/
def Req.wf (r : Req) : Bool :=
  decide (r.tag < 65536 ∧ r.flags < 256 ∧ r.applySec < 4294967296 ∧ r.applyNs < 1073741824 ∧ r.params.length ≤ 1020)

/-- The numbers that a command names exist. -/
def Instr.wf (i : Instr) : Bool :=
  match i with
  | .frameStamp port bytes _ _ => decide (port < 64 ∧ bytes.length ≤ 16384)
  | .rxFrameEnd port _ => decide (port < 64)
  | .rxOversize port _ => decide (port < 64)
  | .rxSymbolAbort port _ _ => decide (port < 64)
  | .grout port _ _ => decide (port < 68)
  | .mergeRelease mp _ _ => decide (mp < 7)
  | .channelStall mp _ _ => decide (mp < 7)
  | .lossOfSymbolLock port _ _ => decide (port < 64)
  | .pipelineLead pipe _ _ => decide (pipe < 5)
  | .endKeyStage pipe _ => decide (pipe < 5)
  | .admission _ => true
  | .endKeyAdmission _ => true
  | .modelStart port _ => decide (port < 68)
  | .modelEnd port _ => decide (port < 68)
  | .aging port _ => decide (port < 68)
  | .physicalTxStart port _ => decide (port < 68)
  | .txTileRead port _ _ _ => decide (port < 68)
  | .cutPoison port _ => decide (port < 68)
  | .cutUnderrun port _ => decide (port < 68)
  | .extractFrame port _ _ => decide (port < 68)
  | .injectDescriptor _ _ => true
  | .loopbackReentry _ => true
  | .pauseRx port _ => decide (port < 64)
  | .pauseEnd port _ => decide (port < 64)
  | .pauseCeiling port _ => decide (port < 64)
  | .pauseRearmEnd port _ => decide (port < 64)
  | .disableDrainEnd port _ => decide (port < 64)
  | .stagedChangeApply unit _ _ => decide (unit < 6)
  | .rebase _ => true
  | .digestComplete _ => true
  | .ringCountUpdate _ _ => true
  | .mortarSet r => r.wf
  | .mortarGet r => r.wf
  | .digestRun r => r.wf
  | .ingressSet r => r.wf
  | .ingressGet r => r.wf
  | .vlanSet r => r.wf
  | .vlanGet r => r.wf
  | .streamSet r => r.wf
  | .streamGet r => r.wf
  | .meterSet r => r.wf
  | .meterGet r => r.wf
  | .windowSet r => r.wf
  | .recoverySet r => r.wf
  | .recoveryGet r => r.wf
  | .recoveryReset r => r.wf
  | .learnNoticeApply _ _ => true
  | .flapHoldEnd vid mac _ _ => decide (vid < 4096 ∧ mac < 281474976710656)
  | .l2Age _ _ => true
  | .tableScrub copy _ _ _ _ => decide (copy < 5)
  | .ffLivenessDown port _ => decide (port < 64)
  | .ffLivenessUp port _ => decide (port < 64)
  | .l2FlushGroup _ _ => true
  | .fenceComplete _ _ => true
  | .fenceTimeout _ _ => true
  | .l2Set r => r.wf
  | .l2Del r => r.wf
  | .l2Get r => r.wf
  | .l2Flush r => r.wf
  | .tableCfgSet r => r.wf
  | .tableCfgGet r => r.wf
  | .l2PortSet r => r.wf
  | .l2PortGet r => r.wf
  | .l2Unlock r => r.wf
  | .rifSet r => r.wf
  | .rifGet r => r.wf
  | .nhSet r => r.wf
  | .nhGet r => r.wf
  | .routeSet r => r.wf
  | .routeDel r => r.wf
  | .routeGet r => r.wf
  | .mcgSet r => r.wf
  | .mcgGet r => r.wf
  | .ffgSet r => r.wf
  | .ffgGet r => r.wf
  | .fence r => r.wf
  | .poolSet r => r.wf
  | .poolGet r => r.wf
  | .queueSet r => r.wf
  | .queueGet r => r.wf
  | .schedSet r => r.wf
  | .schedGet r => r.wf
  | .pauseSet r => r.wf
  | .pauseGet r => r.wf
  | .mirrorSet r => r.wf
  | .mirrorGet r => r.wf
  | .courseOccurrence port entry _ _ _ => decide (port < 64 ∧ entry < 1024)
  | .windowRelease port entry _ => decide (port < 64 ∧ entry < 1024)
  | .courseSwap port _ => decide (port < 64)
  | .courseSet r => r.wf
  | .courseEntrySet r => r.wf
  | .courseCommit r => r.wf
  | .courseGet r => r.wf
  | .courseEntryGet r => r.wf
  | .courseReportGet r => r.wf
  | .courseClear r => r.wf
  | .servoCycle _ _ => true
  | .candidateQualify cand _ => decide (cand < 16)
  | .voteWindowEnd _ _ => true
  | .refPpsEdge input _ _ => decide (input < 2)
  | .ppsMissing input _ => decide (input < 2)
  | .refClockLost input _ => decide (input < 2)
  | .ptpRx port _ _ _ => decide (port < 64)
  | .ptpTx port _ _ => decide (port < 64)
  | .esmcRx port ql _ => decide (port < 64 ∧ ql < 16)
  | .esmcQlTimeout port _ => decide (port < 64)
  | .esmcTx port _ => decide (port < 64)
  | .xoLost _ => true
  | .xoResume _ => true
  | .aonTrim _ => true
  | .keeperBandSearchDone _ band _ => band.all fun n => decide (n < 64)
  | .ppsOutput _ _ => true
  | .timeLatch _ => true
  | .tkStatusGet r => r.wf
  | .refStatusGet r => r.wf
  | .timeSet r => r.wf
  | .refCmd r => r.wf
  | .timeAcceptStep r => r.wf
  | .refSet r => r.wf
  | .refGet r => r.wf
  | .servoSet r => r.wf
  | .servoGet r => r.wf
  | .keeperCfgSet r => r.wf
  | .keeperCfgGet r => r.wf
  | .ptpPortSet r => r.wf
  | .ptpPortGet r => r.wf
  | .synceSet r => r.wf
  | .synceGet r => r.wf
  | .refinSet r => r.wf
  | .refinGet r => r.wf
  | .tmarkTx port _ _ _ => decide (port < 64)
  | .tmarkRx port _ _ _ _ _ => decide (port < 64)
  | .timingFrameTx port _ => decide (port < 64)
  | .timingFrameRx port bytes _ => decide (port < 64 ∧ bytes.length ≤ 16384)
  | .beatSample port _ _ _ => decide (port < 64)
  | .vernierCalDone quad _ _ => decide (quad < 4)
  | .delayRunDone port _ _ _ _ _ => decide (port < 64)
  | .ltRelockTimeout port _ => decide (port < 64)
  | .asymWindowEnd _ => true
  | .linkTimingSet r => r.wf
  | .linkTimingGet r => r.wf
  | .asymSet r => r.wf
  | .asymGet r => r.wf
  | .linkStatusGet r => r.wf
  | .asymMeasure r => r.wf
  | .calDelayRun r => r.wf
  | .calVernierRun r => r.wf
  | .leaseExpiry _ => true
  | .keeperCheckFail _ _ _ => true
  | .bondCellDisagree cell _ => decide (cell < 3)
  | .rejoinBandDone _ _ _ => true
  | .heartbeatTimeout _ => true
  | .interpreterFault _ _ => true
  | .standbyFault _ _ => true
  | .coreTakeover _ => true
  | .coreRestartDone core _ _ => decide (core < 2)
  | .footingCauseDetect _ _ => true
  | .footingEntry _ => true
  | .bufPowerDown _ => true
  | .footingCauseClear _ _ => true
  | .footingExitApply _ => true
  | .bondStatusGet r => r.wf
  | .bondCfgSet r => r.wf
  | .bondCfgGet r => r.wf
  | .bondHandover r => r.wf
  | .keeperDisable r => r.wf
  | .keeperEnable r => r.wf
  | .footingEnter r => r.wf
  | .footingExit r => r.wf
  | .footingCfgSet r => r.wf
  | .footingCfgGet r => r.wf
  | .detectHoldExpiry port _ => decide (port < 64)
  | .energyLost port _ => decide (port < 64)
  | .linkStateProgress port _ _ => decide (port < 64)
  | .linkStateTimeout port _ => decide (port < 64)
  | .trainSetRx port _ _ _ _ _ => decide (port < 64)
  | .symbolLock port _ => decide (port < 64)
  | .capxRx port _ _ _ _ _ => decide (port < 64)
  | .calxLoopbackDone port _ _ _ => decide (port < 64)
  | .pllUnlock quad _ _ => decide (quad < 4)
  | .pllRelock quad _ _ => decide (quad < 4)
  | .pllHopTimeout _ _ => true
  | .hbBandSearchDone _ _ _ => true
  | .parkAuto port _ => decide (port < 64)
  | .parkReqLapse port _ => decide (port < 64)
  | .parkExit port _ => decide (port < 64)
  | .parkExitFail port _ => decide (port < 64)
  | .eyeMonitorUpdate port _ _ _ _ _ => decide (port < 64)
  | .dieSensorRead sensor _ _ => decide (sensor < 8)
  | .eqRunDone port _ _ => decide (port < 64)
  | .sidebandScan _ _ => true
  | .modulePresenceChange port _ _ => decide (port < 64)
  | .moduleReady port _ _ _ => decide (port < 64)
  | .moduleAlarmPoll _ _ => true
  | .i2cTransactionDone _ _ _ => true
  | .i2cRetry _ _ _ => true
  | .quadPowerUpDone quad _ => decide (quad < 4)
  | .portSet r => r.wf
  | .portGet r => r.wf
  | .laneStatusGet r => r.wf
  | .linkRetrain r => r.wf
  | .linkPark r => r.wf
  | .quadSet r => r.wf
  | .quadGet r => r.wf
  | .eqSet r => r.wf
  | .eqGet r => r.wf
  | .moduleRead r => r.wf
  | .moduleWrite r => r.wf
  | .moduleCfgSet r => r.wf
  | .moduleCfgGet r => r.wf
  | .calCfgSet r => r.wf
  | .calCfgGet r => r.wf
  | .evtInputEdge pin _ _ => decide (pin < 8)
  | .evtFilterDone pin _ => decide (pin < 8)
  | .evtAonLatch pin _ _ => decide (pin < 8)
  | .evtOutputEdge pin _ _ => decide (pin < 8)
  | .timeioCalDone _ _ => true
  | .timStartEdge chan _ _ _ => decide (chan < 4)
  | .timStopEdge chan _ _ _ => decide (chan < 4)
  | .timGateEdge chan _ _ _ => decide (chan < 4)
  | .timOverrange chan _ => decide (chan < 4)
  | .mrefLost _ => true
  | .mrefLock _ _ => true
  | .ckoBandSearchDone out band _ _ => decide (out < 8 ∧ band < 64)
  | .ckoAlignStart out _ => decide (out < 8)
  | .ckoBypass out _ _ => decide (out < 8)
  | .ckoReturn out _ => decide (out < 8)
  | .ckoProfileApply out _ => decide (out < 8)
  | .ckoSegmentEnd out _ => decide (out < 8)
  | .ckoRelock out _ => decide (out < 8)
  | .evtCfgSet r => r.wf
  | .evtCfgGet r => r.wf
  | .evtEdge r => r.wf
  | .evtStampGet r => r.wf
  | .evtCancel r => r.wf
  | .timCfgSet r => r.wf
  | .timCfgGet r => r.wf
  | .timArm r => r.wf
  | .timRawGet r => r.wf
  | .timStatsGet r => r.wf
  | .mrefSet r => r.wf
  | .mrefGet r => r.wf
  | .ckoSet r => r.wf
  | .ckoGet r => r.wf
  | .ckoProfileSet r => r.wf
  | .ckoProfileStart r => r.wf
  | .ckoPhaseGet r => r.wf
  | .ckoCmd r => r.wf
  | .calTimeioRun r => r.wf
  | .semAcquire _ _ => true
  | .semRenew _ _ => true
  | .semRelease _ _ => true
  | .semLeaseExpiry _ => true
  | .semLinkLost _ _ => true
  | .semLeaseWrite _ _ _ => true
  | .mbTimeoutWrite _ _ _ => true
  | .cmbGo _ tag _ => decide (tag < 65536)
  | .pmbGo _ tag _ => decide (tag < 65536)
  | .noticeTake _ _ => true
  | .mailboxTimeout slot _ => decide (slot < 8)
  | .batchTimeout _ _ => true
  | .commandComplete _ => true
  | .rrRdWrite _ _ _ => true
  | .ringEnable _ _ _ => true
  | .ringDisable _ _ => true
  | .dbRing _ _ _ => true
  | .dbMaskWrite _ _ _ => true
  | .functionLevelReset _ _ => true
  | .hostReset _ _ => true
  | .registerWrite _ _ _ => true
  | .nop r => r.wf
  | .sysInfoGet r => r.wf
  | .journalGet r => r.wf
  | .acWatchdogExpiry _ _ _ _ => true
  | .acFault _ _ _ _ _ => true
  | .wdogKick _ _ => true
  | .acMailboxGo _ tag _ => decide (tag < 65536)
  | .tkNowRead _ _ => true
  | .evcTimerExpiry _ n _ => decide (n < 2)
  | .timerEnable _ _ _ => true
  | .acMsgSend _ _ _ _ => true
  | .acMsgPop _ _ _ _ => true
  | .hostMsgSend _ _ _ _ => true
  | .hostMsgPop _ _ _ _ => true
  | .evcEvent code source _ _ _ => decide (code < 65536 ∧ source < 176)
  | .evcClaim _ _ => true
  | .evcComplete _ source _ => decide (source < 176)
  | .evlogPop _ _ => true
  | .evcSoftSet _ n _ => decide (n < 32)
  | .evcDelivery _ _ _ => true
  | .evcExit _ _ => true
  | .palletTrigger _ _ => true
  | .palletSnapshotStart _ => true
  | .palletDone _ => true
  | .counterGet r => r.wf
  | .palletSnapshot r => r.wf
  | .palletGet r => r.wf
  | .counterCatalogGet r => r.wf
  | .evcRouteSet r => r.wf
  | .evcRouteGet r => r.wf
  | .evcTargetSet r => r.wf
  | .evcTargetGet r => r.wf
  | .acLoad r => r.wf
  | .acStart r => r.wf
  | .acStop r => r.wf
  | .acStatusGet r => r.wf
  | .acPermitSet r => r.wf
  | .acPermitGet r => r.wf
  | .coldReset _ bootsel _ _ => decide (bootsel < 4)
  | .warmReset _ _ => true
  | .resetRelease _ => true
  | .bootImageVerify _ _ _ => true
  | .recoveryLoad _ _ _ => true
  | .configPartRun _ => true
  | .forwardingStart _ => true
  | .wakeTimerExpiry _ => true
  | .pwrWake _ _ => true
  | .wake _ _ => true
  | .fwUpdateTimeout _ => true
  | .otpWriteDone _ => true
  | .flashEraseDone _ => true
  | .io33Low _ => true
  | .io33Restore _ => true
  | .policyGet r => r.wf
  | .policySet r => r.wf
  | .keyEnrol r => r.wf
  | .keyStatusGet r => r.wf
  | .fwUpdateBegin r => r.wf
  | .fwUpdateData r => r.wf
  | .fwUpdateCommit r => r.wf
  | .configLock r => r.wf
  | .powerStatusGet r => r.wf
  | .sleepEnter r => r.wf
  | .wakeCfgSet r => r.wf
  | .wakeCfgGet r => r.wf
  | .deviceReset r => r.wf
  | .keeperSupplyReturn _ _ => true
  | .hostResetRelease _ _ => true
  | .ptpDelayReqTx port _ => decide (port < 64)
  | .ptpDelayReqRx port _ _ _ => decide (port < 64)
  | .evtCfgApply pin _ => decide (pin < 8)
  | .ckoDisableApply out _ => decide (out < 8)
  | .acImageVerified _ _ => true
  | .rcFieldRead _ _ _ _ => true

end Sys2Proof
end

