-- ==== Sys2Proof/Certificates/Slice0/Obligations.lean ====
section
/-! DEFINITION. The obligations: what the provers are to prove. -/



open Sys2Proof Sys2Proof.Machine

/-- An accepted MORTAR_SET in range and not below twice the longest course stages its change in the egress units; MORTAR_GET replies with the settings and status; DIGEST_RUN in range, with no run under way and 50 µs ahead, opens the run. -/
def Obligations.MortarCommandsComplete : Prop :=
    (∀ (r : Req) (s : State), accepted opMortarSet r s = true →
      okMortarSet r = true →
      2 * longestCourse s (changeInstant opMortarSet r s (us 50) false 1) ≤ r.w 4 * 1000 →
      stageFits opMortarSet r s (us 50) false 0 = true →
      exec (.mortarSet r) s = .next (stagedState opMortarSet r s (us 50) false [5] 0 [.mortar (r.w 4) (r.w 5)] []))
    ∧ (∀ (r : Req) (s : State), accepted opMortarGet r s = true →
      exec (.mortarGet r) s = .next (okReply opMortarGet r s (taken opMortarGet r s) ([word (taken opMortarGet r s).cfgNow.maxRes, word (taken opMortarGet r s).cfgNow.stallLimit, word s.fab.ringCount] ++ mask68Words (excludedNow (taken opMortarGet r s)) ++ [mortarStatus (taken opMortarGet r s)])))
    ∧ (∀ (r : Req) (s : State), accepted opDigestRun r s = true →
      okDigestRun r = true →
      s.fab.digest = none →
      r.t + us 50 ≤ r.applyAt (max s.now r.t) →
      exec (.digestRun r) s = .next (pendingReply opDigestRun r s ({ (taken opDigestRun r s) with fab := { (taken opDigestRun r s).fab with digest := some { a := r.applyAt (max s.now r.t), until_ := r.applyAt (max s.now r.t) + us (r.w 4), mask := r.mask68 5, jid := some s.host.nextJid } } }) ([])))

/-- Each SET in range and without a conflict stages its entry in the pipeline copies, VLAN_SET in the egress units too; each GET replies in the layout of its SET. -/
def Obligations.IngressCommandsComplete : Prop :=
    (∀ (r : Req) (s : State), accepted opIngressSet r s = true →
      okIngressSet r = true →
      stageFits opIngressSet r s (us 200) true 1 = true →
      exec (.ingressSet r) s = .next (stagedState opIngressSet r s (us 200) true copies5 1 [.ingress (r.f 4 0 7) (ingressOf r)] []))
    ∧ (∀ (r : Req) (s : State), accepted opIngressGet r s = true →
      r.only 4 0x7F = true →
      r.f 4 0 7 ≤ 67 →
      exec (.ingressGet r) s = .next (okReply opIngressGet r s (taken opIngressGet r s) (word (r.f 4 0 7) :: ((taken opIngressGet r s).cfgNow.ing (r.f 4 0 7)).words)))
    ∧ (∀ (r : Req) (s : State), accepted opVlanSet r s = true →
      okVlanSet r = true →
      stageFits opVlanSet r s (ms 5) true 1 = true →
      exec (.vlanSet r) s = .next (stagedState opVlanSet r s (ms 5) true allUnits 1 [.vlan (r.f 4 0 12) (vlanOf r)] []))
    ∧ (∀ (r : Req) (s : State), accepted opVlanGet r s = true →
      r.only 4 0xFFF = true →
      1 ≤ r.f 4 0 12 →
      r.f 4 0 12 ≤ 4094 →
      exec (.vlanGet r) s = .next (okReply opVlanGet r s (taken opVlanGet r s) (((taken opVlanGet r s).cfgNow.vlan (r.f 4 0 12)).words (r.f 4 0 12))))
    ∧ (∀ (r : Req) (s : State), accepted opStreamSet r s = true →
      okStreamSet r = true →
      (s.cfgsFrom (changeInstant opStreamSet r s (ms 5) true 1)).any (streamTwice (r.f 4 0 15) (streamFrom r)) = false →
      (s.cfgsFrom (changeInstant opStreamSet r s (ms 5) true 1)).any (streamCombos (r.f 4 0 15) (streamFrom r)) = false →
      stageFits opStreamSet r s (ms 5) true 1 = true →
      exec (.streamSet r) s = .next (stagedState opStreamSet r s (ms 5) true copies5 1 [.stream (r.f 4 0 15) (streamFrom r)] []))
    ∧ (∀ (r : Req) (s : State), accepted opStreamGet r s = true →
      r.only 4 0x7FFF = true →
      exec (.streamGet r) s = .next (okReply opStreamGet r s (taken opStreamGet r s) (Stream.words (r.f 4 0 15) ((taken opStreamGet r s).cfgNow.stream (r.f 4 0 15)))))
    ∧ (∀ (r : Req) (s : State), accepted opMeterSet r s = true →
      okMeterSet r = true →
      stageFits opMeterSet r s (ms 5) true 1 = true →
      exec (.meterSet r) s = .next (stagedState opMeterSet r s (ms 5) true copies5 1 [.meter (r.f 4 0 15) (meterOf r)] []))
    ∧ (∀ (r : Req) (s : State), accepted opMeterGet r s = true →
      r.only 4 0x7FFF = true →
      r.f 4 0 15 ≠ 0 →
      exec (.meterGet r) s = .next (okReply opMeterGet r s (taken opMeterGet r s) (((taken opMeterGet r s).cfgNow.meter (r.f 4 0 15)).words (r.f 4 0 15))))
    ∧ (∀ (r : Req) (s : State), accepted opWindowSet r s = true →
      okWindowSet r = true →
      stageFits opWindowSet r s (ms 5) true 1 = true →
      exec (.windowSet r) s = .next (stagedState opWindowSet r s (ms 5) true copies5 1 [.window (r.f 4 0 8) (windowOf r)] []))
    ∧ (∀ (r : Req) (s : State), accepted opRecoverySet r s = true →
      okRecoverySet r = true →
      (s.cfgsFrom (changeInstant opRecoverySet r s (ms 5) true 1)).any (recoveryClash (r.f 4 0 8) (recoveryOf r)) = false →
      stageFits opRecoverySet r s (ms 5) true 1 = true →
      exec (.recoverySet r) s = .next (stagedState opRecoverySet r s (ms 5) true copies5 1 [.recovery (r.f 4 0 8) (recoveryOf r)] []))
    ∧ (∀ (r : Req) (s : State), accepted opRecoveryGet r s = true →
      r.only 4 0xFF = true →
      r.f 4 0 8 ≠ 0 →
      exec (.recoveryGet r) s = .next (okReply opRecoveryGet r s (taken opRecoveryGet r s) (recoveryWords (taken opRecoveryGet r s) (r.f 4 0 8))))
    ∧ (∀ (r : Req) (s : State), accepted opRecoveryReset r s = true →
      r.only 4 0xFF = true →
      r.f 4 0 8 ≠ 0 →
      stageFits opRecoveryReset r s (us 200) true 1 = true →
      exec (.recoveryReset r) s = .next (stagedState opRecoveryReset r s (us 200) true copies5 1 [.recoveryReset (r.f 4 0 8)] []))

/-- Accepted L2 commands in range stage their entries, deletions, groups or unlocking; L2_GET replies with the entry found or with FOUND 0; the settings commands stage and return their settings. -/
def Obligations.L2CommandsComplete : Prop :=
    (∀ (r : Req) (s : State) (a : Instant) (p : Plan (Nat × Nat) L2Entry), accepted opL2Set r s = true → okL2Set r = true →
      a = changeInstant opL2Set r s (ms 5) true (l2Entries r).length →
      planAll Plan.addL2 (l2Entries r) (s.l2PlanAt a) = some p → txnFits s r.t a p.puts.length = true →
      exec (.l2Set r) s = .next (pendingReply opL2Set r s
        (((txnState opL2Set r s a p.puts.length p.l2Puts).stageMoves a p.l2Moves.reverse).afterL2Set (l2Entries r) a) []))
    ∧ (∀ (r : Req) (s : State) (ks : List (Nat × Nat)), accepted opL2Del r s = true → okL2Del r = true →
      ks = l2DelKeys r (s.cfgAt (changeInstant opL2Del r s (ms 5) true (l2DelIdx r).length)) →
      stageFits opL2Del r s (ms 5) true ks.length = true →
      exec (.l2Del r) s = .next (stagedState opL2Del r s (ms 5) true copies5 ks.length
        (ks.map fun k => .l2Del k.1 k.2) [word ks.length]))
    ∧ (∀ (r : Req) (s : State), accepted opL2Get r s = true →
      l2KeyOk r 4 = true →
      l2Where (taken opL2Get r s).cfgNow (r.f 4 0 12) (r.mac 5) = none →
      exec (.l2Get r) s = .next (okReply opL2Get r s (taken opL2Get r s) ([word (r.w 4), word (r.w 5), word (r.w 6), 0, 0])))
    ∧ (∀ (r : Req) (s : State), accepted opTableCfgSet r s = true →
      okTableCfgSet r = true →
      stageFits opTableCfgSet r s (ms 5) true 1 = true →
      exec (.tableCfgSet r) s = .next (stagedState opTableCfgSet r s (ms 5) true copies5 1 [.tableCfg (tableCfgOf r)] []))
    ∧ (∀ (r : Req) (s : State), accepted opTableCfgGet r s = true →
      exec (.tableCfgGet r) s = .next (okReply opTableCfgGet r s (taken opTableCfgGet r s) ([word (taken opTableCfgGet r s).cfgNow.tableCfg.ageTime, word ((taken opTableCfgGet r s).cfgNow.tableCfg.moveLimit * 65536 + (taken opTableCfgGet r s).cfgNow.tableCfg.moveWindow), word (taken opTableCfgGet r s).cfgNow.tableCfg.holdTime, word (taken opTableCfgGet r s).cfgNow.tableCfg.ffDebounce, word (taken opTableCfgGet r s).cfgNow.tableCfg.ffUpHold])))
    ∧ (∀ (r : Req) (s : State), accepted opL2PortSet r s = true →
      okL2PortSet r = true →
      stageFits opL2PortSet r s (ms 5) true 1 = true →
      exec (.l2PortSet r) s = .next (stagedState opL2PortSet r s (ms 5) true allUnits 1 [.l2port (r.f 4 0 7) (l2PortOf r)] []))
    ∧ (∀ (r : Req) (s : State), accepted opL2PortGet r s = true →
      r.only 4 0x7F = true →
      r.f 4 0 7 ≤ 67 →
      exec (.l2PortGet r) s = .next (okReply opL2PortGet r s (taken opL2PortGet r s) (((taken opL2PortGet r s).cfgNow.l2port (r.f 4 0 7)).words (r.f 4 0 7))))
    ∧ (∀ (r : Req) (s : State) (pos : Nat) (e : L2Entry), accepted opL2Get r s = true → l2KeyOk r 4 = true →
      l2Where (taken opL2Get r s).cfgNow (r.f 4 0 12) (r.mac 5) = some (pos, e) →
      exec (.l2Get r) s = .next (okReply opL2Get r s (taken opL2Get r s) (e.words ++
        [word (atBit true 31 + atBit e.locked 30 + min 0xFFFFF ((r.t - (s.l2Ctl e.vid e.mac).lastHit) / sec 1))])))
    ∧ (∀ (r : Req) (s : State) (a : Instant) (ws : List Nat), accepted opL2Flush r s = true → okL2Flush r = true →
      a = flushA ⟨r, s.host.nextJid, applyInstant opL2Flush r s⟩ s →
      ws = flushWords (flushSet (s.cfgAt a) (flushSelOf r)).length →
      (∀ g ∈ ws.zipIdx.drop 1, s.txnNear (a + us g.2) = false ∧ g.1 + s.wordsAt (a + us g.2) ≤ 64) →
      txnFits s r.t a (ws.headD 0) = true →
      exec (.l2Flush r) s = .next (pendingReply opL2Flush r s
        { txnState opL2Flush r s a (ws.headD 0) [.l2Flush (flushSelOf r)] with
          tab := { (txnState opL2Flush r s a (ws.headD 0) [.l2Flush (flushSelOf r)]).tab with
            flushes := s.tab.flushes ++ [{ jid := s.host.nextJid, a := a, k := 1, sel := flushSelOf r }] } } []))
    ∧ (∀ (r : Req) (s : State), accepted opL2Unlock r s = true → l2KeyOk r 4 = true →
      (l2Where (s.cfgAt (changeInstant opL2Unlock r s (ms 5) true 1)) (r.f 4 0 12) (r.mac 5)).isSome = true →
      stageFits opL2Unlock r s (ms 5) true 1 = true →
      exec (.l2Unlock r) s = .next (pendingReply opL2Unlock r s
        ((txnState opL2Unlock r s (changeInstant opL2Unlock r s (ms 5) true 1) 1
          [.l2Lock (r.f 4 0 12) (r.mac 5) false]).clearHolds [(r.f 4 0 12, r.mac 5)]) []))
    ∧ (∀ (r : Req) (s : State), accepted opL2Unlock r s = true → l2KeyOk r 4 = true →
      (l2Where (s.cfgAt (changeInstant opL2Unlock r s (ms 5) true 1)) (r.f 4 0 12) (r.mac 5)).isSome = false →
      stageFits opL2Unlock r s (ms 5) true 0 = true →
      exec (.l2Unlock r) s = .next (stagedState opL2Unlock r s (ms 5) true copies5 0 [] []))

/-- Accepted RIF, NH, ROUTE, MCG and FFG commands in range and without a conflict stage their entries; their GETs reply in the layout of the SET; FENCE opens a fence on its ports. -/
def Obligations.RoutingCommandsComplete : Prop :=
    (∀ (r : Req) (s : State), accepted opRifSet r s = true →
      okRifSet r = true →
      (s.cfgsFrom (changeInstant opRifSet r s (ms 5) true 1)).any (rifClash (r.f 4 0 10) (rifFrom r)) = false →
      stageFits opRifSet r s (ms 5) true 1 = true →
      exec (.rifSet r) s = .next (stagedState opRifSet r s (ms 5) true copies5 1 [.rif (r.f 4 0 10) (rifFrom r)] []))
    ∧ (∀ (r : Req) (s : State), accepted opRifGet r s = true →
      r.only 4 0x3FF = true →
      exec (.rifGet r) s = .next (okReply opRifGet r s (taken opRifGet r s) (((taken opRifGet r s).cfgNow.rif (r.f 4 0 10)).words (r.f 4 0 10))))
    ∧ (∀ (r : Req) (s : State), accepted opNhSet r s = true →
      okNhSet r = true →
      (s.cfgsFrom (changeInstant opNhSet r s (ms 5) true 1)).any (nhClash (r.f 4 0 14) (nhFrom r)) = false →
      stageFits opNhSet r s (ms 5) true 1 = true →
      exec (.nhSet r) s = .next (stagedState opNhSet r s (ms 5) true copies5 1 [.nh (r.f 4 0 14) (nhFrom r)] []))
    ∧ (∀ (r : Req) (s : State), accepted opNhGet r s = true →
      r.only 4 0x3FFF = true →
      exec (.nhGet r) s = .next (okReply opNhGet r s (taken opNhGet r s) (((taken opNhGet r s).cfgNow.nh (r.f 4 0 14)).words (r.f 4 0 14))))
    ∧ (∀ (r : Req) (s : State) (a : Instant) (p : Plan (Bool × Nat) HostEntry) (e : TrieEdit × List Nat),
      accepted opRouteSet r s = true → okRouteSet r = true →
      a = changeInstant opRouteSet r s (ms 5) true (routesOf r).length →
      (s.cfgsFrom a).any (routeDead (routesOf r)) = false →
      planAll Plan.addHost (hostsOf (routesOf r)) (s.hostPlanAt a) = some p →
      planTrie s a r.t false (prefixesOf (routesOf r)) = some e →
      txnFits s r.t a (p.puts.length + e.1.staged.length) = true →
      exec (.routeSet r) s = .next (pendingReply opRouteSet r s
        ((txnState opRouteSet r s a (p.puts.length + e.1.staged.length)
          (p.hostPuts ++ trieChange false (prefixesOf (routesOf r)) e.2)).stageMoves a p.hostMoves.reverse) []))
    ∧ (∀ (r : Req) (s : State) (a : Instant) (rs : List TrieRoute) (e : TrieEdit × List Nat),
      accepted opRouteDel r s = true → okRouteDel r = true →
      a = changeInstant opRouteDel r s (ms 5) true (routeIdx r).length → rs = routesHere (s.cfgAt a) (routesOf r) →
      planTrie s a r.t true (prefixesOf rs) = some e →
      txnFits s r.t a ((hostsOf rs).length + e.1.staged.length) = true →
      exec (.routeDel r) s = .next (pendingReply opRouteDel r s
        ((txnState opRouteDel r s a ((hostsOf rs).length + e.1.staged.length)
          (((hostsOf rs).map fun h => .hostDel h.v6 h.addr) ++ trieChange true (prefixesOf rs) e.2)).stageMoves a []) []))
    ∧ (∀ (r : Req) (s : State), accepted opRouteGet r s = true → okRouteGet r = true →
      exec (.routeGet r) s = .next (okReply opRouteGet r s (taken opRouteGet r s)
        (match routeHit (taken opRouteGet r s).cfgNow (r.b 4 20) (routeOfWords r 4) with
          | some e => e.words ++ [word (2 ^ 31)]
          | none => [word (r.w 4), word (r.w 5), word (r.w 6), word (r.w 7), word (r.w 8)] ++ [0])))
    ∧ (∀ (r : Req) (s : State), accepted opMcgSet r s = true →
      r.only 4 0x1FFF = true →
      r.only 7 0xF = true →
      stageFits opMcgSet r s (ms 5) true 1 = true →
      exec (.mcgSet r) s = .next (stagedState opMcgSet r s (ms 5) true allUnits 1 [.mcg (r.f 4 0 13) (r.mask68 5)] []))
    ∧ (∀ (r : Req) (s : State), accepted opMcgGet r s = true →
      r.only 4 0x1FFF = true →
      exec (.mcgGet r) s = .next (okReply opMcgGet r s (taken opMcgGet r s) (word (r.f 4 0 13) :: mask68Words ((taken opMcgGet r s).cfgNow.mcg (r.f 4 0 13)))))
    ∧ (∀ (r : Req) (s : State), accepted opFfgSet r s = true →
      okFfgSet r = true →
      stageFits opFfgSet r s (ms 5) true 1 = true →
      exec (.ffgSet r) s = .next (stagedState opFfgSet r s (ms 5) true copies5 1 [.ffg (r.f 4 0 12) (r.b 4 31) (r.b 4 30) (ffgMembers r)] []))
    ∧ (∀ (r : Req) (s : State), accepted opFfgGet r s = true →
      r.only 4 0xFFF = true →
      exec (.ffgGet r) s = .next (okReply opFfgGet r s (taken opFfgGet r s) (((taken opFfgGet r s).cfgNow.ffg (r.f 4 0 12)).words (r.f 4 0 12))))
    ∧ (∀ (r : Req) (s : State), accepted opFence r s = true →
      okFence r = true →
      s.fab.fences.length < 8 →
      exec (.fence r) s = .next (pendingReply opFence r s ({ (taken opFence r s) with fab := { (taken opFence r s).fab with fences := s.fab.fences ++ [{ jid := s.host.nextJid, f := nsCeil (fenceF (applyInstant opFence r s) r.t s), mask := fenceMask r, until_ := r.t + ms (fenceTmo r) }] } }) ([])))

/-- Accepted POOL_SET, QUEUE_SET, SCHED_SET, PAUSE_SET and MIRROR_SET in range stage their settings in the egress units; the GETs reply in the layout of the SETs. -/
def Obligations.QueueCommandsComplete : Prop :=
    (∀ (r : Req) (s : State), accepted opPoolSet r s = true →
      okPoolSet r = true →
      poolsOk s (changeInstant opPoolSet r s (us 200) false 1) [.pools (r.f 4 0 19) (r.f 5 0 17)] = true →
      stageFits opPoolSet r s (us 200) false 0 = true →
      exec (.poolSet r) s = .next (stagedState opPoolSet r s (us 200) false [5] 0 [.pools (r.f 4 0 19) (r.f 5 0 17)] []))
    ∧ (∀ (r : Req) (s : State), accepted opPoolGet r s = true →
      exec (.poolGet r) s = .next (okReply opPoolGet r s (taken opPoolGet r s) ([word (taken opPoolGet r s).cfgNow.c7Pool, word (taken opPoolGet r s).cfgNow.fwPool, word ((taken opPoolGet r s).cfgNow.sharedNormal % 4294967296).toNat, word s.egr.retired.length])))
    ∧ (∀ (r : Req) (s : State), accepted opQueueSet r s = true →
      okQueueSet r = true →
      ((queuePorts r).any fun p => decide ((queueOf r).qmax < needTiles (s.cfgAt (changeInstant opQueueSet r s (us 200) false 1)) p)) = false →
      poolsOk s (changeInstant opQueueSet r s (us 200) false 1) (queueChanges r) = true →
      stageFits opQueueSet r s (us 200) false 0 = true →
      exec (.queueSet r) s = .next (stagedState opQueueSet r s (us 200) false [5] 0 (queueChanges r) []))
    ∧ (∀ (r : Req) (s : State), accepted opQueueGet r s = true →
      r.only 4 0x7F07 = true →
      r.f 4 8 7 ≤ 67 →
      exec (.queueGet r) s = .next (okReply opQueueGet r s (taken opQueueGet r s) (word (r.w 4) :: ((taken opQueueGet r s).cfgNow.queue (8 * r.f 4 8 7 + r.f 4 0 3)).words)))
    ∧ (∀ (r : Req) (s : State), accepted opSchedSet r s = true →
      okSchedSet r = true →
      (schedOf r).slope ≤ s.confRate (r.f 4 0 7) * 1000 →
      stageFits opSchedSet r s (us 200) false 0 = true →
      exec (.schedSet r) s = .next (stagedState opSchedSet r s (us 200) false [5] 0 [.sched (r.f 4 0 7) (schedOf r)] []))
    ∧ (∀ (r : Req) (s : State), accepted opSchedGet r s = true →
      r.only 4 0x7F = true →
      r.f 4 0 7 ≤ 67 →
      exec (.schedGet r) s = .next (okReply opSchedGet r s (taken opSchedGet r s) (((taken opSchedGet r s).cfgNow.sched (r.f 4 0 7)).words (r.f 4 0 7))))
    ∧ (∀ (r : Req) (s : State), accepted opPauseSet r s = true →
      okPauseSet r = true →
      stageFits opPauseSet r s (us 200) false 0 = true →
      exec (.pauseSet r) s = .next (stagedState opPauseSet r s (us 200) false [5] 0 [.pause (r.f 4 0 7) (pauseOf r)] []))
    ∧ (∀ (r : Req) (s : State), accepted opPauseGet r s = true →
      r.only 4 0x7F = true →
      r.f 4 0 7 ≤ 63 →
      exec (.pauseGet r) s = .next (okReply opPauseGet r s (taken opPauseGet r s) ([word (r.f 4 0 7), word (atBit ((taken opPauseGet r s).cfgNow.pause (r.f 4 0 7)).en 31 + ((taken opPauseGet r s).cfgNow.pause (r.f 4 0 7)).ceiling), word ((taken opPauseGet r s).cfgNow.pause (r.f 4 0 7)).rearm])))
    ∧ (∀ (r : Req) (s : State), accepted opMirrorSet r s = true →
      okMirrorSet r = true →
      stageFits opMirrorSet r s (us 200) false 0 = true →
      exec (.mirrorSet r) s = .next (stagedState opMirrorSet r s (us 200) false [5] 0 [.mirror (mirrorOf r)] []))
    ∧ (∀ (r : Req) (s : State), accepted opMirrorGet r s = true →
      exec (.mirrorGet r) s = .next (okReply opMirrorGet r s (taken opMirrorGet r s) ([word (atBit (taken opMirrorGet r s).cfgNow.mirror.valid 31 + (taken opMirrorGet r s).cfgNow.mirror.queue * 256 + (taken opMirrorGet r s).cfgNow.mirror.port)])))

/-- With no commit pending, COURSE_SET, COURSE_ENTRY_SET and COURSE_CLEAR in range change the shadow bank; COURSE_COMMIT of a bank that fits, at a boundary and in time, is held for its instant; the GETs reply. -/
def Obligations.CourseCommandsComplete : Prop :=
    (∀ (r : Req) (s : State), accepted opCourseSet r s = true →
      okCourseSet r = true →
      (s.course (coursePort r)).pend = none →
      exec (.courseSet r) s = .next (okReply opCourseSet r s ((taken opCourseSet r s).setShadow (coursePort r) (fun b => { b with len := r.f 5 0 30 })) ([])))
    ∧ (∀ (r : Req) (s : State), accepted opCourseClear r s = true →
      okCourseClear r = true →
      (s.course (coursePort r)).pend = none →
      exec (.courseClear r) s = .next (okReply opCourseClear r s ((taken opCourseClear r s).setShadow (coursePort r) (fun b => { b with entries := [] })) ([])))
    ∧ (∀ (r : Req) (s : State), accepted opCourseEntrySet r s = true →
      okCourseEntrySet r (s.course (coursePort r)).shadow.len = true →
      (s.course (coursePort r)).pend = none →
      exec (.courseEntrySet r) s = .next (okReply opCourseEntrySet r s ((taken opCourseEntrySet r s).setShadow (coursePort r) (fun b => { b with entries := putEntries r b.entries })) ([])))
    ∧ (∀ (r : Req) (s : State) (a : Instant), accepted opCourseCommit r s = true → a = r.applyAt (max s.now r.t) →
      r.only 4 0xC000007F = true → coursePort r ≤ 63 → commitBoundary (s.course (coursePort r)) a = true →
      bankOk (s.course (coursePort r)).shadow (s.confRate (coursePort r)) = true →
      commitTooLong s (s.course (coursePort r)).shadow a = false →
      ((launchEntries (s.course (coursePort r)).shadow).isEmpty = true ∨
        ((s.portPlanned (coursePort r)).parkEn = false ∧ (s.model (coursePort r)).parked = false)) →
      pinClash s (coursePort r) (s.course (coursePort r)).shadow a = false →
      (s.course (coursePort r)).pend = none → r.t + us 500 ≤ commitStart (s.course (coursePort r)) a →
      exec (.courseCommit r) s = .next (pendingReply opCourseCommit r s
        ((taken opCourseCommit r s).setCourse (coursePort r) { s.course (coursePort r) with
          pend := some { a := a, carry := r.b 4 31, copy := r.b 4 30, rate := s.confRate (coursePort r), jid := some s.host.nextJid
                         words := commitWords (s.course (coursePort r)).shadow (s.confRate (coursePort r)) } })
        (commitWords (s.course (coursePort r)).shadow (s.confRate (coursePort r)))))
    ∧ (∀ (r : Req) (s : State), accepted opCourseGet r s = true →
      r.only 4 0x17F = true →
      coursePort r ≤ 63 →
      exec (.courseGet r) s = .next (okReply opCourseGet r s (taken opCourseGet r s) (word (r.w 4) :: courseGetWords (s.course (coursePort r)) (r.b 4 8))))
    ∧ (∀ (r : Req) (s : State), accepted opCourseEntryGet r s = true →
      rangeOk r 0x7F017F = true →
      exec (.courseEntryGet r) s = .next (okReply opCourseEntryGet r s (taken opCourseEntryGet r s) ([word (r.w 4), word (r.w 5)] ++ (List.range (r.f 4 16 7)).flatMap fun i => ((if r.b 4 8 then (s.course (coursePort r)).shadow else (s.course (coursePort r)).act).entry (r.f 5 0 10 + i)).words)))
    ∧ (∀ (r : Req) (s : State), accepted opCourseReportGet r s = true →
      rangeOk r 0x7F007F = true →
      exec (.courseReportGet r) s = .next (okReply opCourseReportGet r s (taken opCourseReportGet r s) ([word (r.w 4), word (r.w 5)] ++ (List.range (r.f 4 16 7)).flatMap fun i => (Tbl.get ({} : Report) (s.course (coursePort r)).reports (r.f 5 0 10 + i)).words)))

/-- Accepted keeper, servo, reference, PTP and SyncE commands in range and without a conflict wait as keeper changes for their instants; a time step keeps 1 ms from the other accepted steps; the GETs reply in the layout of the SETs. -/
def Obligations.KeeperCommandsComplete : Prop :=
    (∀ (r : Req) (s : State), accepted opTkStatusGet r s = true →
      exec (.tkStatusGet r) s = .next (okReply opTkStatusGet r s (taken opTkStatusGet r s) (tkStatusWords (taken opTkStatusGet r s) r.t)))
    ∧ (∀ (r : Req) (s : State), accepted opRefStatusGet r s = true →
      r.only 4 0xF0000 = true →
      exec (.refStatusGet r) s = .next (okReply opRefStatusGet r s (taken opRefStatusGet r s) (word (r.w 4) :: refStatusWords (taken opRefStatusGet r s) (r.f 4 16 4) r.t)))
    ∧ (∀ (r : Req) (s : State), accepted opTimeSet r s = true →
      timeSetBlocked (taken opTimeSet r s) (r.b 8 0) = false →
      r.instantOk 4 = true →
      r.only 8 1 = true →
      intervalOk (State.setStep (r.instant 4) (tkInstant (applyInstant opTimeSet r s) r.t) (r.b 8 0)) = true →
      (taken opTimeSet r s).stepNear (tkInstant (applyInstant opTimeSet r s) r.t) = false → leadOk opTimeSet r s (ms 2) = true →
      exec (.timeSet r) s = .next (pendingReply opTimeSet r s
        (((taken opTimeSet r s).noteStep (tkInstant (applyInstant opTimeSet r s) r.t)).putTk (tkInstant (applyInstant opTimeSet r s) r.t) s.host.nextJid (.timeSet (r.instant 4) (r.b 8 0))) []))
    ∧ (∀ (r : Req) (s : State), accepted opTimeAcceptStep r s = true →
      ((taken opTimeAcceptStep r s).keeper ((taken opTimeAcceptStep r s).holder.getD .a)).stepPending = true →
      r.only 6 0x3FFFFFFF = true →
      r.f 6 0 30 ≤ 1000000000 →
      (-((taken opTimeAcceptStep r s).keeper ((taken opTimeAcceptStep r s).holder.getD .a)).pending - r.interval 4).natAbs ≤ ns (r.f 6 0 30) →
      (taken opTimeAcceptStep r s).stepNear (tkInstant (applyInstant opTimeAcceptStep r s) r.t) = false → leadOk opTimeAcceptStep r s (ms 2) = true →
      exec (.timeAcceptStep r) s = .next (pendingReply opTimeAcceptStep r s
        (((taken opTimeAcceptStep r s).noteStep (tkInstant (applyInstant opTimeAcceptStep r s) r.t)).putTk (tkInstant (applyInstant opTimeAcceptStep r s) r.t) s.host.nextJid .acceptStep) []))
    ∧ (∀ (r : Req) (s : State), accepted opRefCmd r s = true →
      (r.f 4 0 2 == 2 && (!(taken opRefCmd r s).qualified (r.f 4 16 4) || ((taken opRefCmd r s).cand (r.f 4 16 4)).kind == 5)) = false →
      r.only 4 0xF0003 = true →
      leadOk opRefCmd r s (ms 2) = true →
      exec (.refCmd r) s = .next (keeperState opRefCmd r s (.refCmd (r.f 4 16 4) (r.f 4 0 2))))
    ∧ (∀ (r : Req) (s : State), accepted opRefSet r s = true →
      okRefSet r = true →
      refClash (taken opRefSet r s) (r.f 4 16 4) (candOf r) = false →
      leadOk opRefSet r s (ms 2) = true →
      exec (.refSet r) s = .next (keeperState opRefSet r s (.cand (r.f 4 16 4) (candOf r))))
    ∧ (∀ (r : Req) (s : State), accepted opRefGet r s = true →
      r.only 4 0xF0000 = true →
      exec (.refGet r) s = .next (okReply opRefGet r s (taken opRefGet r s) ((s.cand (r.f 4 16 4)).words (r.f 4 16 4))))
    ∧ (∀ (r : Req) (s : State), accepted opServoSet r s = true →
      okServoSet r = true →
      leadOk opServoSet r s (ms 2) = true →
      exec (.servoSet r) s = .next (keeperState opServoSet r s (.servo (r.f 4 0 3) (servoFromReq r))))
    ∧ (∀ (r : Req) (s : State), accepted opServoGet r s = true →
      r.only 4 7 = true →
      r.f 4 0 3 ≤ 4 →
      exec (.servoGet r) s = .next (okReply opServoGet r s (taken opServoGet r s) ([word (r.f 4 0 3), word (s.servoCfg (r.f 4 0 3)).bandwidth, word (s.servoCfg (r.f 4 0 3)).damping, word (s.servoCfg (r.f 4 0 3)).lockPhase, word (s.servoCfg (r.f 4 0 3)).lockFreq])))
    ∧ (∀ (r : Req) (s : State), accepted opKeeperCfgSet r s = true →
      okKeeperCfgSet r = true →
      leadOk opKeeperCfgSet r s (ms 2) = true →
      exec (.keeperCfgSet r) s = .next (keeperState opKeeperCfgSet r s (.keeper (keeperCfgOf r))))
    ∧ (∀ (r : Req) (s : State), accepted opKeeperCfgGet r s = true →
      exec (.keeperCfgGet r) s = .next (okReply opKeeperCfgGet r s (taken opKeeperCfgGet r s) (s.tk.cfg.words)))
    ∧ (∀ (r : Req) (s : State), accepted opPtpPortSet r s = true →
      okPtpPortSet r = true →
      ptpClash (taken opPtpPortSet r s) (r.f 4 0 7) (ptpCfgOf r) = false →
      leadOk opPtpPortSet r s (ms 2) = true →
      exec (.ptpPortSet r) s = .next (keeperState opPtpPortSet r s (.ptp (r.f 4 0 7) (ptpCfgOf r))))
    ∧ (∀ (r : Req) (s : State), accepted opPtpPortGet r s = true →
      okPortKey r = true →
      exec (.ptpPortGet r) s = .next (okReply opPtpPortGet r s (taken opPtpPortGet r s) ((s.ptpCfg (r.f 4 0 7)).words (r.f 4 0 7))))
    ∧ (∀ (r : Req) (s : State), accepted opSynceSet r s = true →
      okSynceSet r = true →
      (!(synceOf r).en && (taken opSynceSet r s).namedPlanned 4 (r.f 4 0 7)) = false →
      leadOk opSynceSet r s (ms 2) = true →
      exec (.synceSet r) s = .next (keeperState opSynceSet r s (.synce (r.f 4 0 7) (synceOf r))))
    ∧ (∀ (r : Req) (s : State), accepted opSynceGet r s = true →
      okPortKey r = true →
      exec (.synceGet r) s = .next (okReply opSynceGet r s (taken opSynceGet r s) ((s.synceCfg (r.f 4 0 7)).words (r.f 4 0 7))))
    ∧ (∀ (r : Req) (s : State), accepted opRefinSet r s = true →
      okRefinSet r = true →
      leadOk opRefinSet r s (ms 2) = true →
      exec (.refinSet r) s = .next (keeperState opRefinSet r s (.refin (r.f 4 0 1) (refinOf r))))
    ∧ (∀ (r : Req) (s : State), accepted opRefinGet r s = true →
      r.only 4 1 = true →
      exec (.refinGet r) s = .next (okReply opRefinGet r s (taken opRefinGet r s) ((s.refCfg (r.f 4 0 1)).words (r.f 4 0 1))))

/-- Accepted BOND commands, KEEPER_DISABLE and KEEPER_ENABLE, in the states that admit them, wait as keeper changes for their instants; BOND_CFG_GET replies with the settings. -/
def Obligations.BondCommandsComplete : Prop :=
    (∀ (r : Req) (s : State), accepted opBondCfgSet r s = true →
      okBondCfgSet r = true →
      leadOk opBondCfgSet r s (ms 2) = true →
      exec (.bondCfgSet r) s = .next (keeperState opBondCfgSet r s (.bond (r.b 4 8) (r.f 4 0 5) (r.f 5 0 8))))
    ∧ (∀ (r : Req) (s : State), accepted opBondCfgGet r s = true →
      exec (.bondCfgGet r) s = .next (okReply opBondCfgGet r s (taken opBondCfgGet r s) ([word (atBit s.tk.bond.autoRejoin 8 + s.tk.bond.lease), word s.tk.bond.rejoin])))
    ∧ (∀ (r : Req) (s : State), accepted opBondHandover r s = true →
      r.only 4 0x80000000 = true →
      leadOk opBondHandover r s (ms 2) = true →
      exec (.bondHandover r) s = .next (keeperState opBondHandover r s (.handover (r.b 4 31))))
    ∧ (∀ (r : Req) (s : State), accepted opKeeperDisable r s = true →
      r.only 4 0x80000001 = true →
      leadOk opKeeperDisable r s (ms 2) = true →
      exec (.keeperDisable r) s = .next (keeperState opKeeperDisable r s (.disable (keeperOf r) (r.b 4 31))))
    ∧ (∀ (r : Req) (s : State), accepted opKeeperEnable r s = true →
      (((taken opKeeperEnable r s).bk (keeperOf r)).cond == .off || ((taken opKeeperEnable r s).bk (keeperOf r)).cond == .down) = true →
      r.only 4 1 = true →
      leadOk opKeeperEnable r s (ms 2) = true →
      exec (.keeperEnable r) s = .next (keeperState opKeeperEnable r s (.enable (keeperOf r))))

/-- Accepted LINK_TIMING_SET and ASYM_SET in range wait for their servo cycle; the GETs reply with the settings and the status; ASYM_MEASURE opens its window or aborts; CAL_DELAY_RUN and CAL_VERNIER_RUN open their runs on the ports and quads named. -/
def Obligations.LinkTimingCommandsComplete : Prop :=
    (∀ (r : Req) (s : State), accepted opLinkTimingSet r s = true →
      okLinkTimingSet r = true →
      (!(ltCfgOf r).en && (taken opLinkTimingSet r s).namedPlanned 0 (r.f 4 0 7)) = false →
      leadOk opLinkTimingSet r s (ms 2) = true →
      exec (.linkTimingSet r) s = .next (keeperState opLinkTimingSet r s (.link (r.f 4 0 7) (ltCfgOf r))))
    ∧ (∀ (r : Req) (s : State), accepted opLinkTimingGet r s = true →
      okPortKey r = true →
      exec (.linkTimingGet r) s = .next (okReply opLinkTimingGet r s (taken opLinkTimingGet r s) ((s.link (r.f 4 0 7)).cfg.words (r.f 4 0 7))))
    ∧ (∀ (r : Req) (s : State), accepted opAsymSet r s = true →
      okAsymSet r = true →
      leadOk opAsymSet r s (ms 2) = true →
      exec (.asymSet r) s = .next (keeperState opAsymSet r s (.asym (r.f 4 0 7) (asymCfgOf r))))
    ∧ (∀ (r : Req) (s : State), accepted opAsymGet r s = true →
      okPortKey r = true →
      exec (.asymGet r) s = .next (okReply opAsymGet r s (taken opAsymGet r s) ((s.link (r.f 4 0 7)).asym.words (r.f 4 0 7))))
    ∧ (∀ (r : Req) (s : State), accepted opLinkStatusGet r s = true →
      okPortKey r = true →
      exec (.linkStatusGet r) s = .next (okReply opLinkStatusGet r s (taken opLinkStatusGet r s) ((taken opLinkStatusGet r s).linkStatus (r.f 4 0 7))))
    ∧ (∀ (r : Req) (s : State), accepted opAsymMeasure r s = true →
      r.f 4 30 2 ≠ 2 →
      s.lt.asym = none →
      (r.f 4 30 2 == 1 && asymNoFirst (taken opAsymMeasure r s) (r.f 4 0 7) r.t) = false →
      okAsymMeasure r = true →
      exec (.asymMeasure r) s = .next (pendingReply opAsymMeasure r s (asymOpen (taken opAsymMeasure r s) r s.host.nextJid r.t) ([])))
    ∧ (∀ (r : Req) (s : State), accepted opAsymMeasure r s = true →
      r.f 4 30 2 = 2 →
      okAsymMeasure r = true →
      exec (.asymMeasure r) s = .next (okReply opAsymMeasure r s ({ (taken opAsymMeasure r s).asymAbort r.t with lt := { ((taken opAsymMeasure r s).asymAbort r.t).lt with first := none } }) ([])))
    ∧ (∀ (r : Req) (s : State), accepted opCalDelayRun r s = true →
      delayBusy (taken opCalDelayRun r s) = false →
      exec (.calDelayRun r) s = .next (pendingReply opCalDelayRun r s ({ (calPorts (taken opCalDelayRun r s) (r.u64 4)).foldl State.wantRun (taken opCalDelayRun r s) with lt := { ((calPorts (taken opCalDelayRun r s) (r.u64 4)).foldl State.wantRun (taken opCalDelayRun r s)).lt with delayJid := some (s.host.nextJid, calPorts (taken opCalDelayRun r s) (r.u64 4), (calPorts (taken opCalDelayRun r s) (r.u64 4)).length), delayMask := (calPorts (taken opCalDelayRun r s) (r.u64 4)).foldl (fun m p => m + 2 ^ p) 0 } }) ([])))
    ∧ (∀ (r : Req) (s : State), accepted opCalVernierRun r s = true →
      r.only 4 0xF = true →
      vernierBusy (taken opCalVernierRun r s) = false →
      exec (.calVernierRun r) s = .next (pendingReply opCalVernierRun r s ({ startVerniers (taken opCalVernierRun r s) (r.w 4) with lt := { (startVerniers (taken opCalVernierRun r s) (r.w 4)).lt with vernJid := some (s.host.nextJid, (List.range 4).filter fun q => (r.w 4).testBit q), vernMask := r.w 4 } }) ([])))

/-- Accepted EVT commands of the pin's owner in range change the pin, queue edges or read stamps; accepted TIM commands set, arm and read the interval channels; MREF and CAL_TIMEIO commands set and read the reference and open the run. -/
def Obligations.TimedInputCommandsComplete : Prop :=
    (∀ (r : Req) (s : State) (a : Instant), accepted opEvtCfgSet r s = true → applyInstant opEvtCfgSet r s = some a →
      okEvtCfgSet r = true →
      evtCfgClash (taken opEvtCfgSet r s) (evtCfgOf r) = false →
      r.t + us 200 ≤ a →
      exec (.evtCfgSet r) s = .next (pendingReply opEvtCfgSet r s ((taken opEvtCfgSet r s).setPin (r.f 4 0 3) { (s.pin (r.f 4 0 3)) with next := insertPin { a := a, jid := some s.host.nextJid, cfg := evtCfgOf r } (s.pin (r.f 4 0 3)).next }) ([])))
    ∧ (∀ (r : Req) (s : State), accepted opEvtCfgSet r s = true → applyInstant opEvtCfgSet r s = none →
      okEvtCfgSet r = true →
      evtCfgClash (taken opEvtCfgSet r s) (evtCfgOf r) = false →
      (((taken opEvtCfgSet r s).applyPin (r.f 4 0 3) r.t (evtCfgOf r)).1.pin (r.f 4 0 3)).pulseEnd = none →
      exec (.evtCfgSet r) s = .next (okReply opEvtCfgSet r s (((taken opEvtCfgSet r s).applyPin (r.f 4 0 3) r.t (evtCfgOf r)).1) ([word ((taken opEvtCfgSet r s).applyPin (r.f 4 0 3) r.t (evtCfgOf r)).2])))
    ∧ (∀ (r : Req) (s : State), accepted opEvtCfgSet r s = true → applyInstant opEvtCfgSet r s = none →
      okEvtCfgSet r = true →
      evtCfgClash (taken opEvtCfgSet r s) (evtCfgOf r) = false →
      (((taken opEvtCfgSet r s).applyPin (r.f 4 0 3) r.t (evtCfgOf r)).1.pin (r.f 4 0 3)).pulseEnd ≠ none →
      exec (.evtCfgSet r) s = .next (pendingReply opEvtCfgSet r s (((taken opEvtCfgSet r s).applyPin (r.f 4 0 3) r.t (evtCfgOf r)).1.setPin (r.f 4 0 3) { ((taken opEvtCfgSet r s).applyPin (r.f 4 0 3) r.t (evtCfgOf r)).1.pin (r.f 4 0 3) with
          next := { a := r.t, jid := some s.host.nextJid, cfg := evtCfgOf r, discarded := some ((taken opEvtCfgSet r s).applyPin (r.f 4 0 3) r.t (evtCfgOf r)).2 } :: (((taken opEvtCfgSet r s).applyPin (r.f 4 0 3) r.t (evtCfgOf r)).1.pin (r.f 4 0 3)).next }) ([word ((taken opEvtCfgSet r s).applyPin (r.f 4 0 3) r.t (evtCfgOf r)).2])))
    ∧ (∀ (r : Req) (s : State), accepted opEvtCfgGet r s = true →
      r.only 4 7 = true →
      exec (.evtCfgGet r) s = .next (okReply opEvtCfgGet r s (taken opEvtCfgGet r s) (evtCfgWords (r.f 4 0 3) (s.pin (r.f 4 0 3)).cfg)))
    ∧ (∀ (r : Req) (s : State), accepted opEvtEdge r s = true → pinOwner s r (r.f 4 0 3) = true →
      (r.sender.core = none → s.holds r.sender = true ∧ (taken opEvtEdge r s).cfgNow.footing = false) →
      (s.pin (r.f 4 0 3)).cfg.mode = 2 →
      okEvtEdge r = true →
      edgesApart (s.pin (r.f 4 0 3)).lastOut (evtEdges r) = true →
      (s.pin (r.f 4 0 3)).queue.length + r.f 4 16 5 ≤ 32 →
      edgesLate (evtEdges r) r.t = false →
      exec (.evtEdge r) s = .next (okReply opEvtEdge r s ((taken opEvtEdge r s).setPin (r.f 4 0 3) { (s.pin (r.f 4 0 3)) with queue := (s.pin (r.f 4 0 3)).queue ++ evtEdges r }) []))
    ∧ (∀ (r : Req) (s : State), accepted opEvtCancel r s = true → pinOwner s r (r.f 4 0 3) = true →
      (r.sender.core = none → s.holds r.sender = true ∧ (taken opEvtCancel r s).cfgNow.footing = false) →
      r.only 4 7 = true →
      exec (.evtCancel r) s = .next (okReply opEvtCancel r s ((taken opEvtCancel r s).setPin (r.f 4 0 3) { (s.pin (r.f 4 0 3)) with queue := [] }) [word (s.pin (r.f 4 0 3)).queue.length]))
    ∧ (∀ (r : Req) (s : State), accepted opEvtStampGet r s = true →
      pinOwner s r (r.f 4 0 3) = true →
      r.only 4 0x3F0007 = true →
      1 ≤ r.f 4 16 6 →
      r.f 4 16 6 ≤ 32 →
      exec (.evtStampGet r) s = .next (okReply opEvtStampGet r s ((taken opEvtStampGet r s).setPin (r.f 4 0 3) { (s.pin (r.f 4 0 3)) with fifo := (s.pin (r.f 4 0 3)).fifo.drop (r.f 4 16 6) }) ([word ((s.pin (r.f 4 0 3)).fifo.take (r.f 4 16 6)).length, word ((s.pin (r.f 4 0 3)).fifo.length - r.f 4 16 6)] ++ ((s.pin (r.f 4 0 3)).fifo.take (r.f 4 16 6)).flatMap EvtRec.words)))
    ∧ (∀ (r : Req) (s : State), accepted opTimCfgSet r s = true →
      okTimCfgSet r = true →
      exec (.timCfgSet r) s = .next (okReply opTimCfgSet r s ((taken opTimCfgSet r s).timConfigure (r.f 4 0 2) (timCfgOf r) r.t) ([])))
    ∧ (∀ (r : Req) (s : State), accepted opTimCfgGet r s = true →
      r.only 4 3 = true →
      exec (.timCfgGet r) s = .next (okReply opTimCfgGet r s (taken opTimCfgGet r s) ((s.chan (r.f 4 0 2)).cfg.words (r.f 4 0 2))))
    ∧ (∀ (r : Req) (s : State), accepted opTimArm r s = true →
      (s.chan (r.f 4 0 2)).cfg.enable = true →
      (s.chan (r.f 4 0 2)).cfg.gate = 2 →
      r.only 4 0x80000003 = true →
      r.b 4 31 = true →
      exec (.timArm r) s = .next (okReply opTimArm r s ((taken opTimArm r s).setChan (r.f 4 0 2) { s.chan (r.f 4 0 2) with armed := true, armedAt := 0 }) ([])))
    ∧ (∀ (r : Req) (s : State), accepted opTimArm r s = true →
      (s.chan (r.f 4 0 2)).cfg.enable = true →
      (s.chan (r.f 4 0 2)).cfg.gate = 2 →
      r.only 4 0x80000003 = true →
      r.b 4 31 = false →
      exec (.timArm r) s = .next (okReply opTimArm r s ((if (s.chan (r.f 4 0 2)).cfg.period then ((taken opTimArm r s).setChan (r.f 4 0 2) { s.chan (r.f 4 0 2) with armed := false }).closeMeas (r.f 4 0 2) 4 0 r.t else (taken opTimArm r s).setChan (r.f 4 0 2) { s.chan (r.f 4 0 2) with armed := false })) ([])))
    ∧ (∀ (r : Req) (s : State), accepted opTimRawGet r s = true →
      r.only 4 0x3F0003 = true →
      1 ≤ r.f 4 16 6 →
      r.f 4 16 6 ≤ 32 →
      exec (.timRawGet r) s = .next (okReply opTimRawGet r s ((taken opTimRawGet r s).setChan (r.f 4 0 2) { s.chan (r.f 4 0 2) with fifo := (s.chan (r.f 4 0 2)).fifo.drop (r.f 4 16 6) }) ([word ((s.chan (r.f 4 0 2)).fifo.take (r.f 4 16 6)).length, word ((s.chan (r.f 4 0 2)).fifo.length - r.f 4 16 6)] ++ ((s.chan (r.f 4 0 2)).fifo.take (r.f 4 16 6)).flatMap TimRec.words)))
    ∧ (∀ (r : Req) (s : State), accepted opTimStatsGet r s = true →
      r.only 4 3 = true →
      exec (.timStatsGet r) s = .next (okReply opTimStatsGet r s (taken opTimStatsGet r s) (timStatsWords (taken opTimStatsGet r s) (r.f 4 0 2))))
    ∧ (∀ (r : Req) (s : State), accepted opMrefSet r s = true →
      r.only 4 1 = true →
      exec (.mrefSet r) s = .next (okReply opMrefSet r s (mrefTo (taken opMrefSet r s) (r.b 4 0) r.t) ([])))
    ∧ (∀ (r : Req) (s : State), accepted opMrefGet r s = true →
      exec (.mrefGet r) s = .next (okReply opMrefGet r s (taken opMrefGet r s) ([word (atBit s.tio.mref100 0)])))
    ∧ (∀ (r : Req) (s : State), accepted opCalTimeioRun r s = true →
      s.tio.calRun = false →
      exec (.calTimeioRun r) s = .next (pendingReply opCalTimeioRun r s ((taken opCalTimeioRun r s).setTio { s.tio with calRun := true, calJid := some s.host.nextJid }) ([])))

/-- Accepted CKO commands in range, in the states that admit them and with their lead, wait for their instants or act at once; CKO_GET and CKO_PHASE_GET reply. -/
def Obligations.ClockOutputCommandsComplete : Prop :=
    (∀ (r : Req) (s : State) (a : Instant), accepted opCkoSet r s = true → applyInstant opCkoSet r s = some a →
      (s.cko (r.f 4 0 3)).state ≠ .held →
      okCkoSet r = true →
      (ckoCfgOf r).yMin ≤ (ckoCfgOf r).yMax →
      r.t + ms 10 ≤ a →
      (ckoCfgOf r).enable = true →
      exec (.ckoSet r) s = .next (pendingReply opCkoSet r s ((taken opCkoSet r s).setCko (r.f 4 0 3) { (s.cko (r.f 4 0 3)) with
          state := if (s.cko (r.f 4 0 3)).bandFor == (ckoCfgOf r).f0 * Cko.divider (ckoCfgOf r).f0 then .locking else .off
          waits := (s.cko (r.f 4 0 3)).waits ++ [(.set (ckoCfgOf r) ((s.cko (r.f 4 0 3)).bandFor == (ckoCfgOf r).f0 * Cko.divider (ckoCfgOf r).f0), a, some s.host.nextJid)] }) ([])))
    ∧ (∀ (r : Req) (s : State) (a : Instant), accepted opCkoSet r s = true → applyInstant opCkoSet r s = some a →
      (s.cko (r.f 4 0 3)).state ≠ .held →
      okCkoSet r = true →
      (ckoCfgOf r).yMin ≤ (ckoCfgOf r).yMax →
      r.t + ms 10 ≤ a →
      (ckoCfgOf r).enable = false →
      exec (.ckoSet r) s = .next (pendingReply opCkoSet r s ((taken opCkoSet r s).setCko (r.f 4 0 3) { (s.cko (r.f 4 0 3)) with waits := (s.cko (r.f 4 0 3)).waits ++ [(.disable (ckoCfgOf r), a, some s.host.nextJid)] }) ([])))
    ∧ (∀ (r : Req) (s : State), accepted opCkoGet r s = true →
      r.only 4 7 = true →
      exec (.ckoGet r) s = .next (okReply opCkoGet r s (taken opCkoGet r s) ((s.cko (r.f 4 0 3)).words (r.f 4 0 3))))
    ∧ (∀ (r : Req) (s : State), accepted opCkoProfileSet r s = true →
      (s.cko (r.f 4 0 3)).pend = none →
      okCkoProfileSet r = true →
      exec (.ckoProfileSet r) s = .next (okReply opCkoProfileSet r s ((taken opCkoProfileSet r s).setCko (r.f 4 0 3) { (s.cko (r.f 4 0 3)) with shadow := putSegs r (s.cko (r.f 4 0 3)).shadow }) ([])))
    ∧ (∀ (r : Req) (s : State) (a : Instant), accepted opCkoProfileStart r s = true → applyInstant opCkoProfileStart r s = some a →
      ((s.cko (r.f 4 0 3)).state == .running || (s.cko (r.f 4 0 3)).state == .bypass) = true →
      r.only 4 0x7F07 = true →
      1 ≤ r.f 4 8 7 ∧ r.f 4 8 7 ≤ 64 →
      profileLeaves (s.cko (r.f 4 0 3)) (r.f 4 8 7) a = false →
      (s.cko (r.f 4 0 3)).pend = none →
      r.t + ms 1 ≤ a →
      exec (.ckoProfileStart r) s = .next (pendingReply opCkoProfileStart r s ((taken opCkoProfileStart r s).setCko (r.f 4 0 3) { (s.cko (r.f 4 0 3)) with pend := some { s := a, jid := some s.host.nextJid, segs := (s.cko (r.f 4 0 3)).profile (r.f 4 8 7) } }) ([])))
    ∧ (∀ (r : Req) (s : State), accepted opCkoPhaseGet r s = true →
      r.only 4 7 = true →
      exec (.ckoPhaseGet r) s = .next (okReply opCkoPhaseGet r s (taken opCkoPhaseGet r s) (ckoPhaseWords (taken opCkoPhaseGet r s) (r.f 4 0 3) r.t)))
    ∧ (∀ (r : Req) (s : State) (a : Instant), accepted opCkoCmd r s = true → applyInstant opCkoCmd r s = some a →
      ckoCmdBad (taken opCkoCmd r s) r = false →
      r.only 4 0x307 = true →
      r.f 4 8 2 < 2 →
      r.t + ms 1 ≤ a →
      exec (.ckoCmd r) s = .next (pendingReply opCkoCmd r s ((taken opCkoCmd r s).setCko (r.f 4 0 3) { (s.cko (r.f 4 0 3)) with waits := (s.cko (r.f 4 0 3)).waits ++ [(if r.f 4 8 2 = 0 then .back else .force, a, some s.host.nextJid)] }) ([])))
    ∧ (∀ (r : Req) (s : State), accepted opCkoCmd r s = true → applyInstant opCkoCmd r s = none →
      ckoCmdBad (taken opCkoCmd r s) r = false →
      r.only 4 0x307 = true →
      r.f 4 8 2 < 2 →
      exec (.ckoCmd r) s = .next (okReply opCkoCmd r s ((if r.f 4 8 2 = 0 then (taken opCkoCmd r s).fromBypass (r.f 4 0 3) r.t else if (s.cko (r.f 4 0 3)).state = .running then (taken opCkoCmd r s).toBypass (r.f 4 0 3) 2 true r.t else (taken opCkoCmd r s).setCko (r.f 4 0 3) { (s.cko (r.f 4 0 3)) with forced := true })) ([])))

/-- BOND_STATUS_GET replies with the status words; FOOTING_ENTER outside footing, FOOTING_EXIT in FOOTING without another cause, and FOOTING_CFG_SET in range act at once or wait for their instants; FOOTING_CFG_GET replies with the settings. -/
def Obligations.FootingCommandsComplete : Prop :=
    (∀ (r : Req) (s : State), accepted opBondStatusGet r s = true →
      exec (.bondStatusGet r) s = .next (okReply opBondStatusGet r s (taken opBondStatusGet r s) ([(taken opBondStatusGet r s).bondStatus r.t, word s.tk.bond.flags.toNat, (taken opBondStatusGet r s).bondPhase, (taken opBondStatusGet r s).faultCause, (taken opBondStatusGet r s).footingStatus, (taken opBondStatusGet r s).coreStatus r.t] ++ instantWords s.tk.bond.lastHandover)))
    ∧ (∀ (r : Req) (s : State) (a : Instant), accepted opFootingEnter r s = true → applyInstant opFootingEnter r s = some a →
      s.flt.state = 0 →
      r.t + us 200 ≤ a →
      exec (.footingEnter r) s = .next (pendingReply opFootingEnter r s ({ (taken opFootingEnter r s) with flt := { s.flt with cmdEnter := s.flt.cmdEnter ++ [a] } }.setFooting a r.t true [s.host.nextJid]) ([])))
    ∧ (∀ (r : Req) (s : State), accepted opFootingEnter r s = true → applyInstant opFootingEnter r s = none →
      s.flt.state = 0 →
      exec (.footingEnter r) s = .next (okReply opFootingEnter r s (footNow (taken opFootingEnter r s) r.t) ([])))
    ∧ (∀ (r : Req) (s : State) (a : Instant), accepted opFootingExit r s = true → applyInstant opFootingExit r s = some a →
      mayLeave ((taken opFootingExit r s).footCfgDue r.t) = true →
      r.t + ms 10 ≤ a →
      exec (.footingExit r) s = .next (pendingReply opFootingExit r s (((taken opFootingExit r s).footCfgDue r.t).footLeave a (some s.host.nextJid) r.t) ([])))
    ∧ (∀ (r : Req) (s : State), accepted opFootingExit r s = true → applyInstant opFootingExit r s = none →
      mayLeave ((taken opFootingExit r s).footCfgDue r.t) = true →
      exec (.footingExit r) s = .next (pendingReply opFootingExit r s (((taken opFootingExit r s).footCfgDue r.t).footLeave 0 (some s.host.nextJid) r.t) ([])))
    ∧ (∀ (r : Req) (s : State) (a : Instant), accepted opFootingCfgSet r s = true → applyInstant opFootingCfgSet r s = some a →
      okFootingCfgSet r = true →
      r.t + us 200 ≤ a →
      exec (.footingCfgSet r) s = .next (pendingReply opFootingCfgSet r s ({ (taken opFootingCfgSet r s) with flt := { s.flt with cfgPend := s.flt.cfgPend ++ [(a, r.b 4 0, r.f 5 0 16, s.host.nextJid)] } }) ([])))
    ∧ (∀ (r : Req) (s : State), accepted opFootingCfgSet r s = true → applyInstant opFootingCfgSet r s = none →
      okFootingCfgSet r = true →
      exec (.footingCfgSet r) s = .next (okReply opFootingCfgSet r s ({ (taken opFootingCfgSet r s) with flt := { s.flt with autoExit := r.b 4 0, exitHold := r.f 5 0 16 } }) ([])))
    ∧ (∀ (r : Req) (s : State), accepted opFootingCfgGet r s = true →
      exec (.footingCfgGet r) s = .next (okReply opFootingCfgGet r s (taken opFootingCfgGet r s) ([word (atBit ((taken opFootingCfgGet r s).footCfgDue r.t).flt.autoExit 0), word ((taken opFootingCfgGet r s).footCfgDue r.t).flt.exitHold])))

/-- Accepted PORT_SET, LINK_RETRAIN and QUAD_SET in range, without a conflict and 200 µs ahead, wait as lane changes for their instants; LINK_PARK acts on a cell port that is ACTIVE in TL-10 or in PARK; EQ_SET, MODULE_CFG_SET and CAL_CFG_SET change their settings; module accesses queue on their bus; the GETs reply. -/
def Obligations.LaneCommandsComplete : Prop :=
    (∀ (r : Req) (s : State), accepted opPortSet r s = true →
      okPortSet r = true →
      portSetClash (taken opPortSet r s) r = false →
      leadOk opPortSet r s (us 200) = true →
      exec (.portSet r) s = .next (pendingReply opPortSet r s
        ((taken opPortSet r s).putLane (applyInstant opPortSet r s) r.t s.host.nextJid (.port (r.f 4 0 7) (portCfgOf r)) (if ((taken opPortSet r s).portPlanned (r.f 4 0 7)).enable && !(portCfgOf r).enable then [r.f 4 0 7] else []) (if !((taken opPortSet r s).portPlanned (r.f 4 0 7)).enable && (portCfgOf r).enable then [r.f 4 0 7] else [])) []))
    ∧ (∀ (r : Req) (s : State), accepted opPortGet r s = true →
      okPortKey r = true →
      exec (.portGet r) s = .next (okReply opPortGet r s (taken opPortGet r s) ((s.lane (r.f 4 0 7)).cfg.words (r.f 4 0 7))))
    ∧ (∀ (r : Req) (s : State), accepted opLaneStatusGet r s = true →
      okPortKey r = true →
      exec (.laneStatusGet r) s = .next (okReply opLaneStatusGet r s (taken opLaneStatusGet r s) (laneStatusWords (taken opLaneStatusGet r s) (r.f 4 0 7))))
    ∧ (∀ (r : Req) (s : State), accepted opLinkRetrain r s = true →
      r.f 4 0 7 ≤ 63 →
      r.only 4 0x4000007F = true →
      ((taken opLinkRetrain r s).namedPlanned 0 (r.f 4 0 7) && !r.b 4 30) = false →
      leadOk opLinkRetrain r s (us 200) = true →
      exec (.linkRetrain r) s = .next (pendingReply opLinkRetrain r s
        ((taken opLinkRetrain r s).putLane (applyInstant opLinkRetrain r s) r.t s.host.nextJid (.retrain (r.f 4 0 7)) [] []) []))
    ∧ (∀ (r : Req) (s : State), accepted opLinkPark r s = true →
      r.f 4 0 7 < 48 →
      r.only 4 0x8000007F = true →
      r.b 4 31 = true →
      (taken opLinkPark r s).parkable (r.f 4 0 7) = true →
      (s.lane (r.f 4 0 7)).state ≠ .park →
      (taken opLinkPark r s).parkForbidden (r.f 4 0 7) = false →
      (s.lane (r.f 4 0 7)).parkFrom = none →
      (s.lane (r.f 4 0 7)).parkWait = false →
      exec (.linkPark r) s = .next (pendingReply opLinkPark r s ((taken opLinkPark r s).requestPark (r.f 4 0 7) (some s.host.nextJid) r.t) ([])))
    ∧ (∀ (r : Req) (s : State), accepted opLinkPark r s = true → r.f 4 0 7 < 48 → r.only 4 0x8000007F = true →
      (if r.b 4 31 then (s.lane (r.f 4 0 7)).state = .park
        else (s.lane (r.f 4 0 7)).state ≠ .park ∧ (taken opLinkPark r s).parkable (r.f 4 0 7) = true) →
      exec (.linkPark r) s = .next (okReply opLinkPark r s (taken opLinkPark r s) []))
    ∧ (∀ (r : Req) (s : State), accepted opLinkPark r s = true → r.f 4 0 7 < 48 → r.only 4 0x8000007F = true →
      r.b 4 31 = false → (s.lane (r.f 4 0 7)).state = .park → (s.lane (r.f 4 0 7)).exitFrom = none →
      (s.lane (r.f 4 0 7)).exitJid = none →
      exec (.linkPark r) s = .next (pendingReply opLinkPark r s
        (((taken opLinkPark r s).burst (r.f 4 0 7) r.t).setLane (r.f 4 0 7)
          { ((taken opLinkPark r s).burst (r.f 4 0 7) r.t).lane (r.f 4 0 7) with exitJid := some s.host.nextJid }) []))
    ∧ (∀ (r : Req) (s : State), accepted opQuadSet r s = true →
      okQuadSet r = true →
      quadSetClash (taken opQuadSet r s) r = false →
      leadOk opQuadSet r s (us 200) = true →
      exec (.quadSet r) s = .next (pendingReply opQuadSet r s
        ((taken opQuadSet r s).putLane (applyInstant opQuadSet r s) r.t s.host.nextJid (if r.b 4 31 then .quadOn (r.f 4 0 2) (r.f 5 0 20) else .quadOff (r.f 4 0 2) (r.f 5 0 20)) (if r.b 4 31 then [] else State.portsOf (r.f 4 0 2)) []) []))
    ∧ (∀ (r : Req) (s : State), accepted opQuadGet r s = true →
      r.only 4 3 = true →
      exec (.quadGet r) s = .next (okReply opQuadGet r s (taken opQuadGet r s) ([word (atBit ((s.quad (r.f 4 0 2)).powered && !(s.quad (r.f 4 0 2)).off) 31 + r.f 4 0 2), word (s.quad (r.f 4 0 2)).drain])))
    ∧ (∀ (r : Req) (s : State), accepted opEqSet r s = true →
      okEqSet r = true →
      exec (.eqSet r) s = .next (okReply opEqSet r s ((taken opEqSet r s).setLane (r.f 4 0 7) { s.lane (r.f 4 0 7) with eq := eqCfgOf r }) ([])))
    ∧ (∀ (r : Req) (s : State), accepted opEqGet r s = true →
      okPortKey r = true →
      exec (.eqGet r) s = .next (okReply opEqGet r s (taken opEqGet r s) ((s.lane (r.f 4 0 7)).eq.words (r.f 4 0 7))))
    ∧ (∀ (r : Req) (s : State), accepted opModuleRead r s = true →
      okModuleAccess false r = true →
      ((taken opModuleRead r s).lane ((taken opModuleRead r s).moduleOf (r.f 4 0 7))).modReady = true →
      ((taken opModuleRead r s).bus (r.f 4 0 7 / 16)).stuck = false →
      exec (.moduleRead r) s = .next (pendingReply opModuleRead r s ((taken opModuleRead r s).enqueueI2c (r.f 4 0 7 / 16) (moduleReq r s.host.nextJid false)) ([])))
    ∧ (∀ (r : Req) (s : State), accepted opModuleWrite r s = true →
      okModuleAccess true r = true →
      ((taken opModuleWrite r s).lane ((taken opModuleWrite r s).moduleOf (r.f 4 0 7))).modReady = true →
      ((taken opModuleWrite r s).bus (r.f 4 0 7 / 16)).stuck = false →
      exec (.moduleWrite r) s = .next (pendingReply opModuleWrite r s ((taken opModuleWrite r s).enqueueI2c (r.f 4 0 7 / 16) (moduleReq r s.host.nextJid true)) ([])))
    ∧ (∀ (r : Req) (s : State), accepted opModuleCfgSet r s = true →
      okModuleCfgSet r = true →
      exec (.moduleCfgSet r) s = .next (okReply opModuleCfgSet r s ((taken opModuleCfgSet r s).setBus (r.f 4 0 2) { s.bus (r.f 4 0 2) with fast := r.b 4 8, poll := r.f 5 0 16 }) ([])))
    ∧ (∀ (r : Req) (s : State), accepted opModuleCfgGet r s = true →
      r.only 4 3 = true →
      exec (.moduleCfgGet r) s = .next (okReply opModuleCfgGet r s (taken opModuleCfgGet r s) ([word (atBit (s.bus (r.f 4 0 2)).fast 8 + r.f 4 0 2), word (s.bus (r.f 4 0 2)).poll])))
    ∧ (∀ (r : Req) (s : State), accepted opCalCfgSet r s = true →
      okCalCfgSet r = true →
      exec (.calCfgSet r) s = .next (okReply opCalCfgSet r s ({ (taken opCalCfgSet r s) with lan := { s.lan with auto := BitVec.ofNat 4 (r.f 4 8 4), calDt := r.f 4 0 8 } }) ([])))
    ∧ (∀ (r : Req) (s : State), accepted opCalCfgGet r s = true →
      exec (.calCfgGet r) s = .next (okReply opCalCfgGet r s (taken opCalCfgGet r s) ([word (s.lan.auto.toNat * 256 + s.lan.calDt)])))

/-- AC_LOAD of a core that is not RUNNING or HELD writes its TCM; AC_START of a LOADED, STOPPED or FAULTED core in range, with an application key in use, opens the check of its image; AC_STOP stops a RUNNING core; the permits are set and read, and AC_STATUS_GET replies. -/
def Obligations.CoreCommandsComplete : Prop :=
    (∀ (r : Req) (s : State), accepted opAcLoad r s = true →
      ((s.ac (coreOf r)).status == .running || (s.ac (coreOf r)).status == .held) = false →
      okAcLoad r = true →
      exec (.acLoad r) s = .next (okReply opAcLoad r s ((taken opAcLoad r s).setAc (coreOf r) { (s.ac (coreOf r)) with tcm := Memory.writeWords (if r.b 4 8 then [] else (s.ac (coreOf r)).tcm) (r.f 5 0 18) (loadData r), status := .loaded }) ([])))
    ∧ (∀ (r : Req) (s : State), accepted opAcStart r s = true →
      ((s.ac (coreOf r)).status == .loaded || (s.ac (coreOf r)).status == .stopped || (s.ac (coreOf r)).status == .faulted) = true →
      okAcStart r = true →
      (s.ac (coreOf r)).starting = none →
      (activeKey s.pwr.otp.apps).isNone = false →
      exec (.acStart r) s = .next (pendingReply opAcStart r s ((taken opAcStart r s).setAc (coreOf r) { (s.ac (coreOf r)) with starting := some (s.host.nextJid, r) }) ([])))
    ∧ (∀ (r : Req) (s : State), accepted opAcStop r s = true →
      (s.ac (coreOf r)).status = .running →
      r.only 4 1 = true →
      exec (.acStop r) s = .next (okReply opAcStop r s (((taken opAcStop r s).stopCore (coreOf r) .stopped r.t).1.setAc (coreOf r) { ((taken opAcStop r s).stopCore (coreOf r) .stopped r.t).1.ac (coreOf r) with stopPc := (((taken opAcStop r s).stopCore (coreOf r) .stopped r.t).1.ac (coreOf r)).pc }) ([word ((taken opAcStop r s).stopCore (coreOf r) .stopped r.t).2])))
    ∧ (∀ (r : Req) (s : State), accepted opAcStatusGet r s = true →
      r.only 4 1 = true →
      exec (.acStatusGet r) s = .next (okReply opAcStatusGet r s (taken opAcStatusGet r s) (word (r.w 4) :: (s.ac (coreOf r)).words)))
    ∧ (∀ (r : Req) (s : State), accepted opAcPermitSet r s = true →
      r.only 4 0x3F01 = true →
      exec (.acPermitSet r) s = .next (okReply opAcPermitSet r s ((taken opAcPermitSet r s).setAc (coreOf r) { (s.ac (coreOf r)) with permits := BitVec.ofNat 6 (r.f 4 8 6) }) ([])))
    ∧ (∀ (r : Req) (s : State), accepted opAcPermitGet r s = true →
      r.only 4 1 = true →
      exec (.acPermitGet r) s = .next (okReply opAcPermitGet r s (taken opAcPermitGet r s) ([word ((s.ac (coreOf r)).permits.toNat * 256 + (coreOf r).code)])))

/-- EVC_ROUTE_SET and EVC_TARGET_SET in range write routes and target settings, and the hosts look at their claims again; the GETs reply; the counters, a valid pallet and the catalogue are read by who may read them; PALLET_SNAPSHOT waits for its instant or stops the periodic snapshots. -/
def Obligations.EventAndCounterCommandsComplete : Prop :=
    (∀ (r : Req) (s : State), accepted opEvcRouteSet r s = true →
      okEvcRouteSet r = true →
      evcRouteClash (taken opEvcRouteSet r s) r = false →
      exec (.evcRouteSet r) s = .next (okReply opEvcRouteSet r s (State.recheckHosts (taken opEvcRouteSet r s) { (taken opEvcRouteSet r s) with cores := { (taken opEvcRouteSet r s).cores with routes := putRoutes r (taken opEvcRouteSet r s).cores.routes } }) ([])))
    ∧ (∀ (r : Req) (s : State), accepted opEvcRouteGet r s = true →
      okEvcRouteGet r = true →
      exec (.evcRouteGet r) s = .next (okReply opEvcRouteGet r s (taken opEvcRouteGet r s) (word (r.f 4 8 6) :: (List.range (r.f 4 8 6)).map fun i => routeWord (taken opEvcRouteGet r s) (r.f 4 0 8 + i))))
    ∧ (∀ (r : Req) (s : State) (t : Target), accepted opEvcTargetSet r s = true → evcTargetOf r = some t → r.only 4 0x707 = true →
      exec (.evcTargetSet r) s = .next (okReply opEvcTargetSet r s
        (State.recheckHosts (taken opEvcTargetSet r s) ((taken opEvcTargetSet r s).setTarget t
          { (taken opEvcTargetSet r s).target t with split := r.f 4 8 3, prio := targetPrios r })) []))
    ∧ (∀ (r : Req) (s : State) (t : Target), accepted opEvcTargetGet r s = true → evcTargetOf r = some t → r.only 4 7 = true →
      exec (.evcTargetGet r) s = .next (okReply opEvcTargetGet r s (taken opEvcTargetGet r s)
        (word (((taken opEvcTargetGet r s).target t).split * 256 + r.f 4 0 3) :: ((taken opEvcTargetGet r s).target t).prioWords)))
    ∧ (∀ (r : Req) (s : State), accepted opCounterGet r s = true →
      s.countersPf0 r.sender = true →
      okCounters r 0x7FFF 0x1FF 256 = true →
      exec (.counterGet r) s = .next (okReply opCounterGet r s (taken opCounterGet r s) ([word (r.w 4), word (r.w 5)] ++ (counterWords ((taken opCounterGet r s).counted r.t).counter (r.f 4 0 15) (r.f 5 0 9)).1 ++ (counterWords ((taken opCounterGet r s).counted r.t).counter (r.f 4 0 15) (r.f 5 0 9)).2)))
    ∧ (∀ (r : Req) (s : State), accepted opPalletGet r s = true →
      s.countersPf0 r.sender = true →
      ((taken opPalletGet r s).pallet (r.f 4 31 1)).valid = true →
      okCounters r 0x80007FFF 0x1FF 256 = true →
      exec (.palletGet r) s = .next (okReply opPalletGet r s (taken opPalletGet r s) ([word (r.w 4), word (r.w 5)] ++ (counterWords (fun i => Tbl.get 0 ((taken opPalletGet r s).pallet (r.f 4 31 1)).image i) (r.f 4 0 15) (r.f 5 0 9)).1 ++ instantWords ((taken opPalletGet r s).pallet (r.f 4 31 1)).t ++ (counterWords (fun i => Tbl.get 0 ((taken opPalletGet r s).pallet (r.f 4 31 1)).image i) (r.f 4 0 15) (r.f 5 0 9)).2)))
    ∧ (∀ (r : Req) (s : State), accepted opCounterCatalogGet r s = true →
      s.countersPf0 r.sender = true →
      okCounters r 0x7FFF 0x7F 64 = true →
      exec (.counterCatalogGet r) s = .next (okReply opCounterCatalogGet r s (taken opCounterCatalogGet r s) ([word (r.w 4), word (r.w 5)] ++ (List.range (r.f 5 0 9)).flatMap fun i => catalogWords (r.f 4 0 15 + i))))
    ∧ (∀ (r : Req) (s : State), accepted opPalletSnapshot r s = true →
      okPalletSnapshot r = true →
      (taken opPalletSnapshot r s).snapBusy = false →
      r.t < snapInstant (applyInstant opPalletSnapshot r s) r.t →
      r.b 4 31 = false →
      exec (.palletSnapshot r) s = .next (pendingReply opPalletSnapshot r s ((taken opPalletSnapshot r s).setSnaps ((taken opPalletSnapshot r s).cores.snaps ++ [{ t := snapInstant (applyInstant opPalletSnapshot r s) r.t, pallet := r.f 4 0 2, jid := some s.host.nextJid }])) ([])))
    ∧ (∀ (r : Req) (s : State), accepted opPalletSnapshot r s = true →
      okPalletSnapshot r = true →
      (taken opPalletSnapshot r s).snapBusy = false →
      r.t < snapInstant (applyInstant opPalletSnapshot r s) r.t →
      r.b 4 31 = true →
      r.w 5 ≠ 0 →
      exec (.palletSnapshot r) s = .next (pendingReply opPalletSnapshot r s ({ (taken opPalletSnapshot r s).finishOpt (taken opPalletSnapshot r s).cores.perJid State.stAborted [] r.t with cores := { ((taken opPalletSnapshot r s).finishOpt (taken opPalletSnapshot r s).cores.perJid State.stAborted [] r.t).cores with periodic := some (snapInstant (applyInstant opPalletSnapshot r s) r.t, r.w 5), perJid := some s.host.nextJid } }) ([])))
    ∧ (∀ (r : Req) (s : State), accepted opPalletSnapshot r s = true →
      okPalletSnapshot r = true →
      r.b 4 31 = true →
      r.w 5 = 0 →
      exec (.palletSnapshot r) s = .next (okReply opPalletSnapshot r s (({ (taken opPalletSnapshot r s) with cores := { (taken opPalletSnapshot r s).cores with periodic := none, perJid := none } }).finishOpt (taken opPalletSnapshot r s).cores.perJid State.stAborted [] r.t) ([])))

/-- NOP replies with the free slots; SYS_INFO_GET with the identity words; JOURNAL_GET in range with the records from the oldest. -/
def Obligations.SystemCommandsComplete : Prop :=
    (∀ (r : Req) (s : State), accepted opNop r s = true →
      exec (.nop r) s = .next (okReply opNop r s (taken opNop r s) ([word (taken opNop r s).freeSlots])))
    ∧ (∀ (r : Req) (s : State), accepted opSysInfoGet r s = true →
      exec (.sysInfoGet r) s = .next (okReply opSysInfoGet r s (taken opSysInfoGet r s) ([State.chipId, (taken opSysInfoGet r s).fwState, word (if s.pwr.image = 2 then 1 else 0), word s.pwr.subsys, word s.pwr.otp.serial, word (s.pwr.otp.serial / 4294967296), word ((taken opSysInfoGet r s).freeSlots * 256 + (taken opSysInfoGet r s).openAll)])))
    ∧ (∀ (r : Req) (s : State), accepted opJournalGet r s = true →
      okJournalGet r = true →
      exec (.journalGet r) s = .next (okReply opJournalGet r s (taken opJournalGet r s) ([word (((taken opJournalGet r s).host.journal.drop (r.f 4 0 8)).take (r.f 4 8 8)).length, word (taken opJournalGet r s).openAll] ++ (((taken opJournalGet r s).host.journal.drop (r.f 4 0 8)).take (r.f 4 8 8)).flatMap fun e => e.2.words (!r.sender.pf1))))

/-- An accepted POLICY_SET while the policy is not locked replies OK, sets the items that its mask names, leaves the others and raises EV_POLICY. CONFIG_LOCK without PERMANENT replies OK and sets its lock bits; with PERMANENT it also opens the OTP write that burns them with the current policy, and replies PENDING. KEY_ENROL replies PENDING and opens its OTP write: of a new key with a free slot, and of the revocation of an active key, where the authorisation that an active owner key asks for verifies. POLICY_GET and KEY_STATUS_GET reply OK with the policy and with the OTP state and key hashes. (That a second OTP write meanwhile is turned away is the model's choice, log entry 88.) -/
def Obligations.SecurityCommandsComplete : Prop :=
    (∀ (r : Req) (s : State), accepted opPolicyGet r s = true →
      exec (.policyGet r) s = .next (okReply opPolicyGet r s (taken opPolicyGet r s) ([word s.pwr.policy.toNat, 0#32])))
    ∧ (∀ (r : Req) (s : State), accepted opPolicySet r s = true →
      s.pwr.lockPolicy = false →
      r.only 4 0x3F = true →
      r.only 5 0x3F = true →
      exec (.policySet r) s = .next (okReply opPolicySet r s (({ (taken opPolicySet r s) with pwr := { s.pwr with policy := policyOf s.pwr.policy r } }.raise 0x0A02 110 [bytesBE 1 (policyOf s.pwr.policy r).toNat] r.t)) ([])))
    ∧ (∀ (r : Req) (s : State), accepted opConfigLock r s = true →
      okConfigLock r = true →
      r.b 4 2 = false →
      exec (.configLock r) s = .next (okReply opConfigLock r s ({ (taken opConfigLock r s) with pwr := { s.pwr with lockPolicy := s.pwr.lockPolicy || r.b 4 0, lockPf0 := s.pwr.lockPf0 || r.b 4 1 } }) ([])))
    ∧ (∀ (r : Req) (s : State), accepted opConfigLock r s = true →
      okConfigLock r = true →
      r.b 4 2 = true →
      s.pwr.otpWrite = none →
      exec (.configLock r) s = .next (pendingReply opConfigLock r s ({ (taken opConfigLock r s) with pwr := { s.pwr with lockPolicy := s.pwr.lockPolicy || r.b 4 0, lockPf0 := s.pwr.lockPf0 || r.b 4 1, otpWrite := some (.lock (BitVec.ofNat 2 (r.f 4 0 2)) s.pwr.policy, s.host.nextJid) } }) ([])))
    ∧ (∀ (r : Req) (s : State), accepted opKeyEnrol r s = true →
      okKeyEnrol s.pwr.otp r = true →
      enrolAuth s.pwr.otp r = true →
      r.b 4 0 = false →
      ((enrolSlots s.pwr.otp r).any fun k => k.key == wordBytes r 5 24) = false →
      (enrolSlots s.pwr.otp r).length < 4 →
      s.pwr.otpWrite = none →
      exec (.keyEnrol r) s = .next (pendingReply opKeyEnrol r s ({ (taken opKeyEnrol r s) with pwr := { s.pwr with otpWrite := some (enrolWrite s.pwr.otp r, s.host.nextJid) } }) ([])))
    ∧ (∀ (r : Req) (s : State), accepted opKeyEnrol r s = true →
      okKeyEnrol s.pwr.otp r = true →
      enrolAuth s.pwr.otp r = true →
      r.b 4 0 = true →
      (activeKey (enrolSlots s.pwr.otp r)).isNone = false →
      s.pwr.otpWrite = none →
      exec (.keyEnrol r) s = .next (pendingReply opKeyEnrol r s ({ (taken opKeyEnrol r s) with pwr := { s.pwr with otpWrite := some (enrolWrite s.pwr.otp r, s.host.nextJid) } }) ([])))
    ∧ (∀ (r : Req) (s : State), accepted opKeyStatusGet r s = true →
      exec (.keyStatusGet r) s = .next (okReply opKeyStatusGet r s (taken opKeyStatusGet r s) (keyStatusWords (taken opKeyStatusGet r s))))

/-- POWER_STATUS_GET and WAKE_CFG_GET reply; WAKE_CFG_SET sets the wake sources; SLEEP_ENTER outside footing, with no running core and no open update, and DEVICE_RESET wait for their instants. -/
def Obligations.PowerCommandsComplete : Prop :=
    (∀ (r : Req) (s : State), accepted opPowerStatusGet r s = true →
      exec (.powerStatusGet r) s = .next (okReply opPowerStatusGet r s (taken opPowerStatusGet r s) (powerStatusWords (taken opPowerStatusGet r s))))
    ∧ (∀ (r : Req) (s : State), accepted opWakeCfgSet r s = true →
      r.only 4 0xFFFF = true →
      exec (.wakeCfgSet r) s = .next (okReply opWakeCfgSet r s ({ (taken opWakeCfgSet r s) with pwr := { s.pwr with wakeEn := BitVec.ofNat 16 (r.w 4) &&& 0xBEFF#16, wakeAfter := r.w 5 } }) ([])))
    ∧ (∀ (r : Req) (s : State), accepted opWakeCfgGet r s = true →
      exec (.wakeCfgGet r) s = .next (okReply opWakeCfgGet r s (taken opWakeCfgGet r s) ([word s.pwr.wakeEn.toNat, word s.pwr.wakeAfter])))
    ∧ (∀ (r : Req) (s : State), accepted opSleepEnter r s = true →
      sleepBarred (taken opSleepEnter r s) = false →
      r.only 4 0x80000000 = true →
      r.only 5 0xFFFFF = true →
      leadOk opSleepEnter r s (ms 1) = true →
      exec (.sleepEnter r) s = .next (pendingReply opSleepEnter r s ((taken opSleepEnter r s).sleepAt (r.b 4 31) (r.f 5 0 20) ((applyInstant opSleepEnter r s).getD r.t) s.host.nextJid r.t) []))
    ∧ (∀ (r : Req) (s : State), accepted opDeviceReset r s = true →
      r.only 4 1 = true →
      leadOk opDeviceReset r s (ms 1) = true →
      exec (.deviceReset r) s = .next (pendingReply opDeviceReset r s ({ (taken opDeviceReset r s) with pwr := { s.pwr with waits := s.pwr.waits ++ [(PowerWait.reset (r.b 4 0), (applyInstant opDeviceReset r s).getD r.t, s.host.nextJid)] } }) []))

/-- A stamp on a port that takes it opens a frame and sends its lead tile; the frame ends whole, oversize or on a symbol error; a port sends a horizon; a merge point releases, an input stalls, the ring is counted and a digest ends. -/
def Obligations.FabricEventsComplete : Prop :=
    (∀ (port : Nat) (bytes : List Byte) (overrun : Bool) (t : Instant) (s : State) (w : State) (id : Nat),
      port < 64 →
      (s.model port).up = true →
      (s.model port).parked = false →
      s.stampLate port t = false →
      s.rxOf port = none →
      s.fab.rebase = none →
      s.fab.forwarding = true →
      s.fab.fwdStart ≤ t →
      hasPort (s.cfgAt t).excluded port = false →
      (s.input (pipeOf port) port).stalled = false →
      (overrun = true → 128 ≤ bytes.length) →
      State.portConsumes bytes = false →
      (s.tick t).newFrame { inPort := port, stamp := t, bytes := bytes, pipe := pipeOf port, consumed := false, maxLen := ((s.cfgAt t).ing port).maxFrame } = (w, id) →
      exec (.frameStamp port bytes overrun t) s = .next ((w.setRx port (some id)).pushItem (pipeOf port) port (.lead id)))
    ∧ (∀ (port : Nat) (t : Instant) (s : State) (id : Nat) (f : Frame),
      (s.tick t).rxOf port = some id →
      (s.tick t).frame id = some f →
      f.bytes.length ≤ f.maxLen →
      exec (.rxFrameEnd port t) s = .next ((s.tick t).frameArrived port id f))
    ∧ (∀ (port : Nat) (t : Instant) (s : State) (id : Nat) (f : Frame),
      (s.tick t).rxOf port = some id →
      (s.tick t).frame id = some f →
      f.maxLen < f.bytes.length →
      exec (.rxOversize port t) s = .next ((s.tick t).abortRx port f.maxLen 0x06 4 t))
    ∧ (∀ (port arrived : Nat) (t : Instant) (s : State),
      exec (.rxSymbolAbort port arrived t) s = .next ((s.tick t).abortRx port arrived 0x02 2 t))
    ∧ (∀ (port : Nat) (upto t : Instant) (s : State),
      port < 68 →
      port < 64 ∨ port = 67 →
      exec (.grout port upto t) s = .next ((s.tick t).pushItem (pipeOf port) port (.grout ((s.tick t).sourceHz port upto % 2 ^ 32))))
    ∧ (∀ (port : Nat) (upto t : Instant) (s : State) (w : State),
      64 ≤ port →
      port ≤ 66 →
      w = ((s.tick t).pushItem (pipeOf port) port (.grout ((s.tick t).sourceHz port upto % 2 ^ 32))).pushItem 5 port (.grout ((s.tick t).sourceHz port upto % 2 ^ 32)) →
      exec (.grout port upto t) s = .next ({ w with fab := { w.fab with sentHz := Tbl.set 0 w.fab.sentHz port (max ((s.tick t).sourceHz port upto) (Tbl.get 0 w.fab.sentHz port)) } }))
    ∧ (∀ (mp : Nat) (tagError : Option Nat) (t : Instant) (s : State),
      mp < 7 →
      tagError = none →
      exec (.mergeRelease mp tagError t) s = .next ((s.tick t).mergeRun mp))
    ∧ (∀ (mp : Nat) (tagError : Option Nat) (t : Instant) (s : State) (i : Nat),
      mp < 7 →
      tagError = some i →
      exec (.mergeRelease mp tagError t) s = .next (((s.tick t).tagError mp i t).mergeRun mp))
    ∧ (∀ (mp input : Nat) (t : Instant) (s : State),
      mp < 7 →
      (mergeInputs mp).contains input = true →
      ((s.tick t).input mp input).stalled = false →
      exec (.channelStall mp input t) s = .next ((s.tick t).stallInput mp input t))
    ∧ (∀ (count : Nat) (t : Instant) (s : State),
      exec (.ringCountUpdate count t) s = .next ({ (s.tick t) with fab := { s.fab with ringCount := count % 65536 } }))
    ∧ (∀ (t : Instant) (s : State) (d : DigestRun),
      s.fab.digest = some d →
      d.until_ ≤ min (ns s.fab.admHz) ((s.tick t).unitBound 5) →
      exec (.digestComplete t) s = .next ((s.tick t).digestEnd t))
    ∧ (∀ (unit : Nat) (horizon t : Instant) (s : State) (w : State),
      unit ≠ 5 →
      w = (s.tick t).applyUnit unit (min (min horizon t) ((s.tick t).unitBound unit)) t →
      exec (.stagedChangeApply unit horizon t) s = .next (((w.lanesDue t).footCfgDue t).powerDue t))
    ∧ (∀ (unit : Nat) (horizon t : Instant) (s : State) (w : State),
      unit = 5 →
      w = (s.tick t).egressTo (min (min horizon t) ((s.tick t).unitBound 5)) t →
      exec (.stagedChangeApply unit horizon t) s = .next (((w.lanesDue t).footCfgDue t).powerDue t))
    ∧ (∀ (port : Nat) (t : Instant) (s : State) (w : State),
      w = (s.tick t).lanesDue t →
      exec (.disableDrainEnd port t) s = .next ((w.drainStep port t).powerDue t))
    ∧ (∀ (port : Nat) (t : Instant) (s : State),
      port < 68 →
      exec (.modelEnd port t) s = .next ((((((s.tick t).egressPort port t).drainStep port t).parkStep port t).sendPhys port).powerDue t))

/-- A learn notice is taken at an instant with its lead; a hold, aging, a flush group, a scrub, a liveness change and a fence complete when they are due. -/
def Obligations.LearningEventsComplete : Prop :=
    (∀ (a t : Instant) (s : State) (n : LearnNotice) (rest : List LearnNotice),
      s.tab.queue = n :: rest →
      t + us 20 ≤ a →
      s.txnNear a = false →
      s.wordsAt a < 64 →
      s.noticesAt a < 16 →
      exec (.learnNoticeApply a t) s = .next ({ (s.tick t) with tab := { s.tab with queue := rest } }.learn n a t))
    ∧ (∀ (vid mac : Nat) (a t : Instant) (s : State) (v : Instant),
      (s.l2Ctl vid mac).holdUntil = some v →
      v ≤ t →
      t + us 20 ≤ a →
      s.txnNear a = false →
      s.wordsAt a < 64 →
      exec (.flapHoldEnd vid mac a t) s = .next (((s.tick t).putL2Ctl vid mac { s.l2Ctl vid mac with holdUntil := none, moves := [] }).writeOne a 0 (.l2Lock vid mac false)))
    ∧ (∀ (a t : Instant) (s : State) (w : State) (chs : List Change),
      (s.cfgAt t).tableCfg.ageTime ≠ 0 →
      (s.cfgAt t).footing = false →
      t + us 20 ≤ a →
      s.txnNear a = false →
      ((s.cfgAt a).l2.filterMap (·.2)).foldl (ageEntry (s.cfgAt t).tableCfg.ageTime t) ((s.tick t), []) = (w, chs) →
      chs ≠ [] →
      chs.length + s.wordsAt a ≤ 64 →
      exec (.l2Age a t) s = .next (w.stage { a := a, jids := [], txn := true, units := copies5, words := chs.length, change := chs }))
    ∧ (∀ (jid : Nat) (t : Instant) (s : State) (f : Flush),
      (s.tab.flushes.filter fun f => f.jid == jid).find? (fun f => !(s.flushAhead f).isEmpty) = some f →
      exec (.l2FlushGroup jid t) s = .next ((s.tick t).flushGroup f))
    ∧ (∀ (jid : Nat) (t : Instant) (s : State),
      (s.tab.flushes.filter fun f => f.jid == jid).find? (fun f => !(s.flushAhead f).isEmpty) = none →
      exec (.l2FlushGroup jid t) s = .next (((s.tab.flushes.filter fun f => f.jid == jid).filter s.flushIdle).foldl (fun w f => w.flushEnd f State.stOk t) (s.tick t)))
    ∧ (∀ (copy table index : Nat) (uncorrectable : Bool) (t : Instant) (s : State),
      copy ≤ 4 →
      table ≤ 9 →
      uncorrectable = true →
      exec (.tableScrub copy table index uncorrectable t) s = .next (eccWord (s.tick t) copy table index t))
    ∧ (∀ (copy table index : Nat) (uncorrectable : Bool) (t : Instant) (s : State),
      copy ≤ 4 →
      table ≤ 9 →
      uncorrectable = false →
      exec (.tableScrub copy table index uncorrectable t) s = .next ((s.tick t).countD 0))
    ∧ (∀ (port : Nat) (t : Instant) (s : State) (d : Instant) (rest : List Instant),
      Tbl.get [] s.tab.downAt port = d :: rest →
      d ≤ t →
      exec (.ffLivenessDown port t) s = .next ({ (s.tick t) with tab := { s.tab with downAt := Tbl.set [] s.tab.downAt port rest } }.applyDue d t))
    ∧ (∀ (port : Nat) (t : Instant) (s : State) (v : Instant),
      Tbl.get none s.tab.upAt port = some v →
      v ≤ t →
      exec (.ffLivenessUp port t) s = .next ({ (s.tick t) with tab := { s.tab with upAt := Tbl.set none s.tab.upAt port none } }.applyDue v t))
    ∧ (∀ (jid : Nat) (t : Instant) (s : State) (f : FenceRec),
      s.fab.fences.find? (fun f => f.jid == jid) = some f →
      (fenceNow (s.tick t) f).done = (fenceNow (s.tick t) f).mask →
      exec (.fenceComplete jid t) s = .next ({ (s.tick t) with fab := { s.fab with fences := s.fab.fences.filter fun f => f.jid != jid } }.finish jid State.stOk [word (fenceNow (s.tick t) f).last] t))
    ∧ (∀ (jid : Nat) (t : Instant) (s : State) (f : FenceRec),
      s.fab.fences.find? (fun f => f.jid == jid) = some f →
      (fenceNow (s.tick t) f).done ≠ (fenceNow (s.tick t) f).mask →
      exec (.fenceComplete jid t) s = .next ({ (s.tick t) with fab := { s.fab with fences := s.fab.fences.map fun g => if g.jid = jid then fenceNow (s.tick t) f else g } }))
    ∧ (∀ (jid : Nat) (t : Instant) (s : State) (f : FenceRec),
      s.fab.fences.find? (fun f => f.jid == jid) = some f →
      f.until_ ≤ t →
      exec (.fenceTimeout jid t) s = .next ({ (s.tick t) with fab := { s.fab with fences := s.fab.fences.filter fun f => f.jid != jid } }.finish jid State.stTimeout (word (fenceNow (s.tick t) f).last :: mask68Words ((fenceNow (s.tick t) f).mask &&& ~~~(fenceNow (s.tick t) f).done)) t))

/-- Lead tiles and end keys pass the pipelines and the admission points in order; copies age, are sent, end early or are extracted; a bad tile is retired; PAUSE takes effect and ends; the model of a port starts. -/
def Obligations.PipelineAndQueueEventsComplete : Prop :=
    (∀ (pipe : Nat) (ecc : Option (Nat × Nat)) (t : Instant) (s : State) (id : Nat) (rest : List Item) (f : Frame),
      s.outq pipe = .lead id :: rest →
      pipe < 5 →
      ((s.tick t).setOutq pipe rest).frame id = some f →
      exec (.pipelineLead pipe ecc t) s = .next (State.flushPipe pipe rest.length (((s.tick t).setOutq pipe rest).leadPass pipe id f ecc t)))
    ∧ (∀ (pipe : Nat) (t : Instant) (s : State) (id : Nat) (rest : List Item) (f : Frame),
      s.outq pipe = .fin id :: rest →
      pipe < 5 →
      ((s.tick t).setOutq pipe rest).frame id = some f →
      exec (.endKeyStage pipe t) s = .next (State.flushPipe pipe rest.length (((s.tick t).setOutq pipe rest).endPass pipe id f t)))
    ∧ (∀ (t : Instant) (s : State) (id : Nat) (rest : List Item) (f : Frame),
      s.outq 5 = .lead id :: rest →
      ((s.tick t).setOutq 5 rest).frame id = some f →
      exec (.admission t) s = .next ((((s.tick t).setOutq 5 rest).egressTo f.stamp t).admitLead id f))
    ∧ (∀ (t : Instant) (s : State) (id : Nat) (rest : List Item) (f : Frame),
      s.outq 5 = .fin id :: rest →
      ((s.tick t).setOutq 5 rest).frame id = some f →
      exec (.endKeyAdmission t) s = .next ((((s.tick t).setOutq 5 rest).egressTo (ns (f.endNs.getD 0)) t).admitEnd id f (ns (f.endNs.getD 0))))
    ∧ (∀ (port : Nat) (t : Instant) (s : State),
      port < 68 →
      exec (.modelStart port t) s = .next ((s.tick t).egressPort port t))
    ∧ (∀ (port : Nat) (t : Instant) (s : State),
      port < 68 →
      exec (.aging port t) s = .next ((s.tick t).egressPort port t))
    ∧ (∀ (port : Nat) (t : Instant) (s : State) (w : State) (y : PhysTx) (rest : List PhysTx),
      port < 64 →
      w = (s.tick t).sendPhys port →
      (w.model port).phys = y :: rest →
      w.physReady port y t = true →
      exec (.physicalTxStart port t) s = .next ((w.setModel port { (w.model port) with phys := { y with begun := true, begunAt := t } :: rest }).sendPhys port))
    ∧ (∀ (port : Nat) (t : Instant) (s : State) (y : PhysTx),
      (s.model port).phys.find? PhysTx.bad = some y →
      exec (.cutPoison port t) s = .next ((s.tick t).endEarly port y 13 (State.allButFour y)))
    ∧ (∀ (port : Nat) (t : Instant) (s : State) (y : PhysTx) (w : State),
      (s.model port).phys.find? (fun y => y.ct && y.begun) = some y →
      w = (s.tick t).endEarly port y 14 ((s.tick t).sentBy port y t) →
      exec (.cutUnderrun port t) s = .next ({ w with egr := { w.egr with underrun := true } }.raise 0x0132 96 [bytesBE 1 port] t))
    ∧ (∀ (port addr errors : Nat) (t : Instant) (s : State),
      errors = 1 →
      addr < 524288 →
      exec (.txTileRead port addr errors t) s = .next (((s.tick t).sendPhys port).countD 5))
    ∧ (∀ (port addr errors : Nat) (t : Instant) (s : State),
      2 ≤ errors →
      addr < 524288 →
      exec (.txTileRead port addr errors t) s = .next (((s.tick t).sendPhys port).tileBad port addr t))
    ∧ (∀ (port : Nat) (t : Instant) (s : State),
      port < 64 →
      exec (.pauseRx port t) s = .next ((s.tick t).egressPort port t))
    ∧ (∀ (port : Nat) (t : Instant) (s : State),
      port < 64 →
      exec (.pauseEnd port t) s = .next ((s.tick t).egressPort port t))
    ∧ (∀ (port : Nat) (t : Instant) (s : State),
      port < 64 →
      exec (.pauseCeiling port t) s = .next ((s.tick t).egressPort port t))
    ∧ (∀ (port : Nat) (t : Instant) (s : State) (w : State) (x : Instant),
      w = (s.tick t).egressPort port t →
      (w.model port).ignoreUntil = some x →
      x ≤ min t (w.unitBound 5) →
      exec (.pauseRearmEnd port t) s = .next (w.setModel port { (w.model port) with ignoreUntil := none }))
    ∧ (∀ (port : Nat) (fwFull : Bool) (t : Instant) (s : State) (y : PhysTx) (rest : List PhysTx),
      port = 64 →
      (s.model port).phys = y :: rest →
      y.ended.isSome = true →
      exec (.extractFrame port fwFull t) s = .next (if fwFull then ((s.tick t).setModel 64 { (s.model 64) with phys := rest }).countQ 64 y.cls 17 else ((s.tick t).setModel 64 { (s.model 64) with phys := rest }).extract64 y))
    ∧ (∀ (port : Nat) (fwFull : Bool) (t : Instant) (s : State) (c : AppCore) (y : PhysTx) (rest : List PhysTx),
      port = (if c = AppCore.ac0 then 65 else 66) →
      (s.model port).phys = y :: rest →
      y.ended.isSome = true →
      exec (.extractFrame port fwFull t) s = .next (((s.tick t).setModel port { (s.model port) with phys := rest }).extractTo c port y))
    ∧ (∀ (src : InjectSource) (t : Instant) (s : State) (c : AppCore),
      src = .core c →
      exec (.injectDescriptor src t) s = .next ((s.tick t).injectFrom c t))
    ∧ (∀ (src : InjectSource) (t : Instant) (s : State) (direct : Bool) (hb3 hb0 : Word) (bs : List Byte),
      src = .firmware direct hb3 hb0 bs →
      64 ≤ bs.length →
      bs.length ≤ 9216 →
      State.outerType bs ≠ 0x88B5 →
      exec (.injectDescriptor src t) s = .next ((s.tick t).inject (if direct then (s.tick t).directFrame 64 hb3.toNat hb0.toNat bs t else { inPort := 64, stamp := t, bytes := bs, pipe := 0 }) t))
    ∧ (∀ (t : Instant) (s : State) (y : PhysTx) (rest : List PhysTx),
      (s.model 67).phys = y :: rest →
      y.begun = false →
      y.ended = none →
      exec (.loopbackReentry t) s = .next ((s.tick t).loopStart y rest))
    ∧ (∀ (t : Instant) (s : State) (y : PhysTx) (rest : List PhysTx) (e : Instant),
      (s.model 67).phys = y :: rest →
      y.begun = false →
      y.ended = some e →
      exec (.loopbackReentry t) s = .next (((s.tick t).loopStart y rest).loopEnd rest e))
    ∧ (∀ (t : Instant) (s : State) (y : PhysTx) (rest : List PhysTx) (e : Instant),
      (s.model 67).phys = y :: rest →
      y.begun = true →
      y.ended = some e →
      exec (.loopbackReentry t) s = .next ((s.tick t).loopEnd rest e))

/-- An occurrence of a gate sets the gates, one of a launch with a claimed copy launches it and one without is counted; an unclaimed window is released; a swap comes at its instant; a rebase comes once what is keyed before the step is released. -/
def Obligations.CourseEventsComplete : Prop :=
    (∀ (port entry error : Nat) (whole : Bool) (t : Instant) (s : State) (w : State),
      w = (s.tick t).egressPort port t →
      port < 64 →
      entry < 1024 →
      State.isOccurrence (w.course port) ((w.course port).act.entry entry) t = true →
      ((w.course port).act.entry entry).act = .gate →
      exec (.courseOccurrence port entry error whole t) s = .next ((w.setCourse port { w.course port with gates := ((w.course port).act.entry entry).gates }).setReport port entry { status := if (w.model port).up then 3 else 4, course := State.courseOf (w.course port) t % 65536 }))
    ∧ (∀ (port entry error : Nat) (whole : Bool) (t : Instant) (s : State) (w : State),
      w = (s.tick t).egressPort port t →
      port < 64 →
      entry < 1024 →
      State.isOccurrence (w.course port) ((w.course port).act.entry entry) t = true →
      ((w.course port).act.entry entry).act.launches = true →
      (w.model port).up = false →
      exec (.courseOccurrence port entry error whole t) s = .next (w.setReport port entry { status := 4, course := State.courseOf (w.course port) t % 65536 }))
    ∧ (∀ (port entry error : Nat) (whole : Bool) (t : Instant) (s : State) (w : State) (x : Copy) (h : Claim),
      w = (s.tick t).egressPort port t →
      port < 64 →
      entry < 1024 →
      State.isOccurrence (w.course port) ((w.course port).act.entry entry) t = true →
      ((w.course port).act.entry entry).act.launches = true →
      (w.model port).up = true →
      (w.equeue (q7 port)).copies.find? (fun x => x.claims entry t && !w.isLaunched port x) = some x →
      x.claim = some h →
      exec (.courseOccurrence port entry error whole t) s = .next ((w.launch port entry x h ((w.course port).act.entry entry) error whole t).runPort port (min t (w.unitBound 5))))
    ∧ (∀ (port entry error : Nat) (whole : Bool) (t : Instant) (s : State) (w : State),
      w = (s.tick t).egressPort port t →
      port < 64 →
      entry < 1024 →
      State.isOccurrence (w.course port) ((w.course port).act.entry entry) t = true →
      ((w.course port).act.entry entry).act.launches = true →
      (w.model port).up = true →
      (w.equeue (q7 port)).copies.find? (fun x => x.claims entry t && !w.isLaunched port x) = none →
      exec (.courseOccurrence port entry error whole t) s = .next ((w.countP port 72).setReport port entry { status := 3, course := State.courseOf (w.course port) t % 65536 }))
    ∧ (∀ (port entry : Nat) (t : Instant) (s : State),
      port < 64 →
      (((s.tick t).course port).act.entry entry).act.launches = true →
      State.isOccurrence ((s.tick t).course port) (((s.tick t).course port).act.entry entry) (t + ns 320) = true →
      (((s.tick t).equeue (q7 port)).copies.any fun x => x.claims entry (t + ns 320)) = false →
      exec (.windowRelease port entry t) s = .next ((s.tick t).egressPort port t))
    ∧ (∀ (port : Nat) (t : Instant) (s : State) (w : SwapPending),
      ((s.tick t).course port).pend = some w →
      w.a ≤ min t ((s.tick t).unitBound 5) →
      exec (.courseSwap port t) s = .next (((s.tick t).egressTo w.a t).courseSwap port t))
    ∧ (∀ (t : Instant) (s : State) (r : RebaseRun),
      s.fab.rebase = some r →
      (s.tick t).heldBefore r.s = false →
      exec (.rebase t) s = .next ((s.tick t).rebase r t))

/-- A servo cycle of started keepers runs; XO is lost and returns; PPS and time are latched; votes, qualification and reference edges are taken; PTP and ESMC messages of an enabled port are sent and taken. -/
def Obligations.KeeperEventsComplete : Prop :=
    (∀ (m : ServoIn) (t : Instant) (s : State),
      t % servoPeriod = 0 →
      s.started = true →
      s.pwr.inReset = false →
      exec (.servoCycle m t) s = .next ((s.tick t).servoCycle m t))
    ∧ (∀ (t : Instant) (s : State) (w : State),
      s.tk.xoLost = false →
      w = (({ (s.tick t) with tk := { s.tk with xoLost := true, bond := { s.tk.bond with xoFault := true } } }).tkFlag 5).raise 0x0406 87 [] t →
      exec (.xoLost t) s = .next ((w.xoLostKeeper t .a).xoLostKeeper t .b))
    ∧ (∀ (t : Instant) (s : State),
      s.tk.xoLost = true →
      exec (.xoResume t) s = .next ({ (s.tick t) with tk := { s.tk with xoLost := false, xoBack := true } }))
    ∧ (∀ (t : Instant) (s : State),
      s.tk.xoLost = false →
      exec (.aonTrim t) s = .next ({ (s.tick t) with tk := { s.tk with aonTrim := some t } }))
    ∧ (∀ (which : Nat) (t : Instant) (s : State),
      which = 0 →
      s.started = true →
      s.runs .a = true →
      s.tkTime .a t % sec 1 = 0 →
      exec (.ppsOutput which t) s = .next ({ (s.tick t) with tk := { s.tk with ppsMonA := s.tkTime .a t } }.emit (.pps 0 t)))
    ∧ (∀ (which : Nat) (t : Instant) (s : State),
      which = 1 →
      s.started = true →
      s.runs .b = true →
      s.tkTime .b t % sec 1 = 0 →
      exec (.ppsOutput which t) s = .next ({ (s.tick t) with tk := { s.tk with ppsMonB := s.tkTime .b t } }.emit (.pps 1 t)))
    ∧ (∀ (which : Nat) (t : Instant) (s : State),
      which = 2 →
      s.started = true →
      t % sec 1 = 0 →
      exec (.ppsOutput which t) s = .next ({ (s.tick t) with tk := { s.tk with ppsOut := t } }.emit (.pps 2 t)))
    ∧ (∀ (t : Instant) (s : State),
      exec (.timeLatch t) s = .next ((s.tick t).latchTime t))
    ∧ (∀ (fs : List FreqMeas) (t : Instant) (s : State),
      s.tk.voteAt + ms s.tk.cfg.voteWindow ≤ t →
      exec (.voteWindowEnd fs t) s = .next ((s.tick t).vote fs t))
    ∧ (∀ (cand : Nat) (t : Instant) (s : State),
      cand < 16 →
      (s.cand cand).valid = true →
      s.candProblem cand t = none →
      exec (.candidateQualify cand t) s = .next ((s.tick t).qualifyDue cand t))
    ∧ (∀ (input : Nat) (edge : PpsEdge) (t : Instant) (s : State),
      input < 2 →
      (s.refCfg input).falling = edge.falling →
      (s.refCfg input).mode = 3 →
      exec (.refPpsEdge input edge t) s = .next ((s.tick t).setRefSt input { (s.refSt input) with lastPps := some t, ppsOk := (s.refSt input).ppsInStep t, ppsOff := some (fromSecond t) }))
    ∧ (∀ (input : Nat) (edge : PpsEdge) (t : Instant) (s : State),
      input < 2 →
      (s.refCfg input).falling = edge.falling →
      (s.refCfg input).mode = 1 →
      edge.phase = none →
      exec (.refPpsEdge input edge t) s = .next ((s.tick t).setRefSt input { (s.refSt input) with lastPps := some t, ppsOk := (s.refSt input).ppsInStep t }))
    ∧ (∀ (input : Nat) (edge : PpsEdge) (t : Instant) (s : State) (p w : Int),
      input < 2 →
      (s.refCfg input).falling = edge.falling →
      (s.refCfg input).mode = 1 →
      edge.phase = some p →
      w = divRound (fromSecond t - p) (s.refCfg input).period * (s.refCfg input).period →
      exec (.refPpsEdge input edge t) s = .next ((s.tick t).setRefSt input { (s.refSt input) with lastPps := some t, ppsOk := (s.refSt input).ppsInStep t, whole := some w, posOk := decide ((fromSecond t - p - w).natAbs * 100 ≤ 40 * (s.refCfg input).period) }))
    ∧ (∀ (input : Nat) (t : Instant) (s : State),
      input < 2 →
      (s.refSt input).ppsDue t = true →
      exec (.ppsMissing input t) s = .next ((s.tick t).setRefSt input { (s.refSt input) with ppsOk := false }))
    ∧ (∀ (input : Nat) (t : Instant) (s : State),
      input < 2 →
      exec (.refClockLost input t) s = .next ((s.tick t).setRefSt input { (s.refSt input) with clock := false, phase := none }))
    ∧ (∀ (port : Nat) (msg : PtpMsg) (stamp t : Instant) (s : State) (q : Nat) (origin : Instant) (corr : Int),
      port < 64 →
      (s.ptpCfg port).role = 1 →
      msg = .sync q false origin corr →
      exec (.ptpRx port msg stamp t) s = .next ((s.tick t).ptpOffset port origin stamp corr))
    ∧ (∀ (port : Nat) (msg : PtpMsg) (stamp t : Instant) (s : State) (q : Nat) (origin : Instant) (corr : Int),
      port < 64 →
      (s.ptpCfg port).role = 1 →
      msg = .sync q true origin corr →
      exec (.ptpRx port msg stamp t) s = .next ((s.tick t).setPtpSt port { (s.ptpSt port) with sync := some (q, stamp, corr) }))
    ∧ (∀ (port : Nat) (msg : PtpMsg) (stamp t : Instant) (s : State) (q : Nat) (origin : Instant) (corr : Int) (t2 : Instant) (c : Int),
      port < 64 →
      (s.ptpCfg port).role ≠ 0 →
      msg = .followUp q origin corr →
      (s.ptpSt port).sync = some (q, t2, c) →
      exec (.ptpRx port msg stamp t) s = .next ((s.tick t).ptpOffset port origin t2 (corr + c)))
    ∧ (∀ (port kind : Nat) (t : Instant) (s : State),
      port < 64 →
      kind = 0 →
      (s.ptpCfg port).role = 2 →
      (s.ptpCfg port).twoStep = false →
      exec (.ptpTx port kind t) s = .next (((s.tick t).setPtpSt port { (s.ptpSt port) with seqTx := ((s.ptpSt port).seqTx + 1) % 65536 }).emit (.ptp port (s.ptpCfg port).transport (.sync (s.ptpSt port).seqTx false (ns (nsFloor t)) (t % 65536 : Nat)))))
    ∧ (∀ (port kind : Nat) (t : Instant) (s : State),
      port < 64 →
      kind = 1 →
      (s.ptpCfg port).role = 2 →
      exec (.ptpTx port kind t) s = .next ((s.tick t).emit (.ptp port (s.ptpCfg port).transport (.announce (s.portMac port) s.clockClass true s.tk.cfg.utcOffset))))
    ∧ (∀ (port : Nat) (t : Instant) (s : State),
      port < 64 →
      (s.ptpCfg port).role ≠ 0 →
      ¬ ((s.ptpCfg port).role = 2 ∧ (s.ptpCfg port).profile = 0) →
      exec (.ptpDelayReqTx port t) s = .next (((s.tick t).setPtpSt port { (s.ptpSt port) with seqTx := ((s.ptpSt port).seqTx + 1) % 65536, req := some ((s.ptpSt port).seqTx, t), resp := none }).emit (.ptp port (s.ptpCfg port).transport (if (s.ptpCfg port).profile = 0 then .delayReq (s.ptpSt port).seqTx else .pdelayReq (s.ptpSt port).seqTx))))
    ∧ (∀ (port : Nat) (msg : PtpMsg) (stamp t : Instant) (s : State) (q : Nat),
      port < 64 →
      (s.ptpCfg port).role = 2 →
      (s.ptpCfg port).profile = 0 →
      msg = .delayReq q →
      exec (.ptpDelayReqRx port msg stamp t) s = .next ((s.tick t).emit (.ptp port (s.ptpCfg port).transport (.delayResp q (ns (nsFloor stamp)) (-((stamp % 65536 : Nat) : Int))))))
    ∧ (∀ (port ql : Nat) (t : Instant) (s : State),
      port < 64 →
      (s.synceCfg port).en = true →
      (s.synceCfg port).rx = true →
      exec (.esmcRx port ql t) s = .next ((s.tick t).setEsmc port { s.esmc port with ql := some (ql % 16), at_ := t }))
    ∧ (∀ (port : Nat) (t : Instant) (s : State),
      (s.esmc port).ql.isSome = true →
      (s.esmc port).at_ + sec 5 < t →
      exec (.esmcQlTimeout port t) s = .next ((s.tick t).setEsmc port { s.esmc port with ql := some 0xF }))
    ∧ (∀ (port : Nat) (t : Instant) (s : State),
      port < 64 →
      (s.synceCfg port).en = true →
      (s.synceCfg port).tx = true →
      exec (.esmcTx port t) s = .next (((s.tick t).setEsmc port { s.esmc port with sent := some ((s.tick t).qlToSend port) }).emit (.esmc port ((s.tick t).qlToSend port))))

/-- A beat period gives its samples; a due mark is sent and a good one is kept; the slots send their frames and good frames are taken; runs and windows end with their results. -/
def Obligations.LinkTimingEventsComplete : Prop :=
    (∀ (port phiRx phiTx : Nat) (t : Instant) (s : State),
      port < 64 →
      (s.link port).state ≠ .coarse →
      (s.link port).state ≠ .fine →
      (s.link port).state ≠ .stale →
      exec (.beatSample port phiRx phiTx t) s = .next ((s.tick t).sampleBeat port phiRx phiTx))
    ∧ (∀ (port phiRx phiTx : Nat) (t : Instant) (s : State),
      port < 64 →
      ((s.link port).state = .coarse ∨ (s.link port).state = .fine) →
      exec (.beatSample port phiRx phiTx t) s = .next (((s.tick t).sampleBeat port phiRx phiTx).ltByDetector port t))
    ∧ (∀ (port : Nat) (t : Instant) (s : State),
      (s.link port).state = .stale →
      s.isActive port = true →
      s.relockPast port t = true →
      exec (.ltRelockTimeout port t) s = .next ((s.tick t).ltWait port t))
    ∧ (∀ (port cycle sym : Nat) (t : Instant) (s : State) (m : OwnMark),
      port < 64 →
      s.sendsTiming port = true →
      (s.link port).marks.find? (fun m => m.dep.isNone) = some m →
      m.at_ ≤ t →
      (s.tick t).lineIdle port t = true →
      (s.link port).clearOfMarks ((s.tick t).departure port cycle sym) (txTime ((s.tick t).model port).rate 4) = true →
      exec (.tmarkTx port cycle sym t) s = .next (((s.tick t).setLink port { (s.link port) with marks := (s.link port).marks.map fun x => if x == m then { x with dep := some ((s.tick t).departure port cycle sym), epoch := s.lt.steps } else x }).emit (.tmark port [m.seq % 256, m.seq / 256, m.flags] ((s.tick t).departure port cycle sym))))
    ∧ (∀ (port : Nat) (symbols : List Nat) (codeError : Bool) (cycle sym : Nat) (t : Instant) (s : State) (b0 b1 b2 q : Nat),
      port < 64 →
      symbols = [b0, b1, b2] →
      q = (b0 + 256 * b1) % 65536 →
      codeError = false →
      oddOnes (q + 65536 * b2) = false →
      s.isActive port = true →
      s.isTl port = true →
      (s.link port).lastKept ≠ some q →
      (s.link port).kept.any (fun m => m.seq == q) = false →
      exec (.tmarkRx port symbols codeError cycle sym t) s = .next ((s.tick t).keepMark port q (flag b2 7) cycle sym))
    ∧ (∀ (port : Nat) (t : Instant) (s : State),
      port < 64 →
      (s.lane port).state = .calx →
      (s.link port).loopDone = true →
      (s.lane port).calxCal = false →
      exec (.timingFrameTx port t) s = .next (((s.tick t).countP port 79).emit (.frame port ((s.tick t).localFrame port ((s.tick t).calPayload port)) t)))
    ∧ (∀ (port : Nat) (t : Instant) (s : State) (x : Slot) (rest : List Slot) (w : State),
      port < 64 →
      (s.lane port).state ≠ .calx →
      s.sendsTiming port = true →
      (s.link port).slots = x :: rest →
      x.at_ ≤ t →
      (s.model port).tx = none →
      (s.model port).freeAt ≤ t →
      s.fitsWindow port 64 t = true →
      w = (s.tick t).sendLocal port ((s.tick t).timingPayload port x) t →
      x.timing = true →
      exec (.timingFrameTx port t) s = .next (w.setLink port { w.link port with slots := if x.cal || (s.link port).calSend then { x with timing := false, cal := true } :: rest else rest, calSend := false }))
    ∧ (∀ (port : Nat) (t : Instant) (s : State) (x : Slot) (rest : List Slot) (w : State),
      port < 64 →
      (s.lane port).state ≠ .calx →
      s.sendsTiming port = true →
      (s.link port).slots = x :: rest →
      x.at_ ≤ t →
      (s.model port).tx = none →
      (s.model port).freeAt ≤ t →
      s.fitsWindow port 64 t = true →
      w = (s.tick t).sendLocal port ((s.tick t).calPayload port) t →
      x.timing = false →
      exec (.timingFrameTx port t) s = .next (w.setLink port { w.link port with slots := rest }))
    ∧ (∀ (port : Nat) (bytes : List Byte) (t : Instant) (s : State),
      port < 64 →
      goodTiming bytes = true →
      timingByte bytes 0 1 = 0x11 →
      exec (.timingFrameRx port bytes t) s = .next (((s.tick t).countP port 80).takeTiming port (farFrameOf bytes)))
    ∧ (∀ (port : Nat) (bytes : List Byte) (t : Instant) (s : State),
      port < 64 →
      goodTiming bytes = true →
      timingByte bytes 0 1 = 0x12 →
      exec (.timingFrameRx port bytes t) s = .next (((s.tick t).countP port 80).takeCal port (farCalOf bytes)))
    ∧ (∀ (port fixedTx fixedRx resTx resRx : Nat) (t : Instant) (s : State),
      port < 64 →
      (s.link port).running = true →
      exec (.delayRunDone port fixedTx fixedRx resTx resRx t) s = .next ((s.tick t).setLink port { (s.link port) with runPending := some (fixedTx, fixedRx, resTx, resRx) }))
    ∧ (∀ (quad dnl : Nat) (t : Instant) (s : State),
      quad < 4 →
      (s.vernier quad).running = true →
      exec (.vernierCalDone quad dnl t) s = .next ((s.tick t).setVernier quad { s.vernier quad with next := some (min 0xFFFF dnl) }))
    ∧ (∀ (t : Instant) (s : State) (a : AsymOpen),
      s.lt.asym = some a →
      a.until_ ≤ t →
      exec (.asymWindowEnd t) s = .next (if a.second then (s.tick t).asymSecondEnd a t else (s.tick t).asymFirstEnd a t))

/-- An expired lease is freed, a failed check stops a keeper, a stopped one comes back; a cell that disagrees is reloaded; core faults move the roles; footing is entered, and left, when it is due. -/
def Obligations.BondEventsComplete : Prop :=
    (∀ (t : Instant) (s : State),
      s.holder.isSome = true →
      s.tk.bond.renewed + (s.tick t).aonLeast s.leaseTime ≤ t →
      exec (.leaseExpiry t) s = .next ((s.tick t).freeLease true t))
    ∧ (∀ (k : Tk) (check : Nat) (t : Instant) (s : State),
      (s.bk k).cond = .run →
      check < 7 →
      check ≠ 1 →
      ¬ (check = 3 ∧ s.tk.xoLost = true) →
      exec (.keeperCheckFail k check t) s = .next ((s.tick t).stopKeeper k check t))
    ∧ (∀ (k : Tk) (check : Nat) (t : Instant) (s : State) (w : State),
      (s.bk k).cond = .run →
      check = 1 →
      w = (s.tick t).setBk k { s.bk k with supply := false } →
      (w.bk k).cond = .run →
      exec (.keeperCheckFail k check t) s = .next (w.stopKeeper k 1 t))
    ∧ (∀ (k : Tk) (t : Instant) (s : State),
      (s.bk k).supply = false →
      (s.bk k).cond = .down →
      exec (.keeperSupplyReturn k t) s = .next (State.retryRejoin t ((s.tick t).setBk k { s.bk k with supply := true }) k))
    ∧ (∀ (k : Tk) (ok : Bool) (t : Instant) (s : State),
      (s.bk k).cond = .loading →
      ok = true →
      exec (.rejoinBandDone k ok t) s = .next ((s.tick t).setBk k { s.bk k with cond := .seed }))
    ∧ (∀ (k : Tk) (ok : Bool) (t : Instant) (s : State),
      (s.bk k).cond = .loading →
      ok = false →
      exec (.rejoinBandDone k ok t) s = .next ((s.tick t).stopKeeper k 8 t))
    ∧ (∀ (cell : Nat) (t : Instant) (s : State) (c : Cell) (q : List Instant),
      s.cells[cell]? = some c →
      (s.cells.any fun x => x.isolated) = false →
      c.isolated = false →
      q = t :: c.reloads.filter (fun r => decide (t < r + sec 1)) →
      q.length < 3 →
      exec (.bondCellDisagree cell t) s = .next ((((s.tick t).countD 9).bondFlag 5).setCell cell { c with vote := State.voteOf s.holder, reloads := q }))
    ∧ (∀ (cell : Nat) (t : Instant) (s : State) (c : Cell) (q : List Instant),
      s.cells[cell]? = some c →
      (s.cells.any fun x => x.isolated) = false →
      c.isolated = false →
      q = t :: c.reloads.filter (fun r => decide (t < r + sec 1)) →
      3 ≤ q.length →
      exec (.bondCellDisagree cell t) s = .next ((((((s.tick t).countD 9).bondFlag 5).setCell cell { vote := .none, reloads := q, isolated := true }).bondFlag 4).raise 0x0802 88 [bytesBE 1 cell] t))
    ∧ (∀ (k : Tk) (band : Option Nat) (t : Instant) (s : State) (w : State),
      (s.bk k).cond = .boot →
      s.pwr.inReset = false →
      w = ((s.tick t).bandEnd k band).bandGrant t →
      w.started = false →
      exec (.keeperBandSearchDone k band t) s = .next (w))
    ∧ (∀ (k : Tk) (band : Option Nat) (t : Instant) (s : State) (w : State),
      (s.bk k).cond = .boot →
      s.pwr.inReset = false →
      w = ((s.tick t).bandEnd k band).bandGrant t →
      w.started = true →
      exec (.keeperBandSearchDone k band t) s = .next (w.startTime t))
    ∧ (∀ (t : Instant) (s : State),
      exec (.heartbeatTimeout t) s = .next (((s.tick t).interpFault 0 t).firmwareFailure))
    ∧ (∀ (cause : Nat) (t : Instant) (s : State),
      cause < 4 →
      exec (.interpreterFault cause t) s = .next (((s.tick t).interpFault cause t).firmwareFailure))
    ∧ (∀ (cause : Nat) (t : Instant) (s : State) (n : Nat) (w : State),
      s.standbyCore = some n →
      cause < 4 →
      w = ((s.tick t).raise 0x0805 90 [bytesBE 1 n, bytesBE 1 cause] t).restartCore n t →
      exec (.standbyFault cause t) s = .next ((if n = 1 then w.withdrawFlushes t else w).firmwareFailure))
    ∧ (∀ (t : Instant) (s : State) (n : Nat) (w : State),
      s.flt.takeover = some n →
      w = (s.tick t).replayJournal t →
      exec (.coreTakeover t) s = .next ((({ w with flt := { w.flt with takeover := none }, host := { w.host with ready := true, interp := n } }).countD 10).raise 0x0806 90 [bytesBE 1 n] t))
    ∧ (∀ (core : Nat) (ok : Bool) (t : Instant) (s : State) (n : Nat),
      core < 2 →
      s.coreRole core = .restarting →
      ok = true →
      s.interpCore = some n →
      exec (.coreRestartDone core ok t) s = .next ((s.tick t).setCoreRole core .standby))
    ∧ (∀ (core : Nat) (ok : Bool) (t : Instant) (s : State) (w : State),
      core < 2 →
      s.coreRole core = .restarting →
      ok = true →
      s.interpCore = none →
      w = ((s.tick t).setCoreRole core .interp).replayJournal t →
      exec (.coreRestartDone core ok t) s = .next ({ w with host := { w.host with ready := true, interp := core } }))
    ∧ (∀ (cause : Nat) (t : Instant) (s : State),
      s.causeStands cause = true →
      exec (.footingCauseDetect cause t) s = .next ((s.tick t).detectCause cause t))
    ∧ (∀ (t : Instant) (s : State) (e : Instant),
      s.flt.e = some e →
      e ≤ t →
      s.flt.cmdEnter = [] →
      s.flt.state ≠ 2 →
      exec (.footingEntry t) s = .next ((s.tick t).footEnter e t))
    ∧ (∀ (t : Instant) (s : State),
      s.flt.state = 2 →
      exec (.bufPowerDown t) s = .next ({ (s.tick t) with flt := { s.flt with bufOff := true } }))
    ∧ (∀ (cause : Nat) (t : Instant) (s : State) (w : State),
      w = (s.tick t).footCfgDue t →
      w.causeGone cause t = true →
      exec (.footingCauseClear cause t) s = .next (({ w with flt := { w.flt with causes := w.flt.causes &&& ~~~ State.causeBit cause } }).footAuto t))
    ∧ (∀ (t : Instant) (s : State) (x : Instant),
      s.flt.x = some x →
      x ≤ t →
      exec (.footingExitApply t) s = .next ((s.tick t).footExit x t))

/-- Energy, lock, training and CAPX move a port between its link states as the table says; park is requested, entered and left; the PLLs unlock, lock and search; a quad comes up. -/
def Obligations.LaneEventsComplete : Prop :=
    (∀ (port : Nat) (t : Instant) (s : State) (w : State),
      port < 64 →
      w = (s.tick t).setLane port { s.lane port with energy := true } →
      (w.lane port).state = .detect →
      (w.lane port).since + us (100 * (w.lane port).cfg.hold) ≤ t →
      (w.lane port).cfg.mode = 0 →
      w.mayStart port t = true →
      exec (.detectHoldExpiry port t) s = .next (w.goLane port .base 0 t))
    ∧ (∀ (port : Nat) (t : Instant) (s : State) (w : State),
      port < 64 →
      w = (s.tick t).setLane port { s.lane port with energy := false } →
      (w.lane port).state = .active →
      exec (.energyLost port t) s = .next (w.lockLoss port (w.arrivedBy port t) 5 t))
    ∧ (∀ (port arrived : Nat) (t : Instant) (s : State),
      port < 64 →
      s.isActive port = true →
      exec (.lossOfSymbolLock port arrived t) s = .next ((s.tick t).lockLoss port arrived 6 t))
    ∧ (∀ (port : Nat) (p : LinkProgress) (t : Instant) (s : State) (tl25 : Bool) (far : Nat),
      port < 64 →
      (s.lane port).state = .base →
      p = .agreed tl25 far →
      exec (.linkStateProgress port p t) s = .next ((s.tick t).toStep port tl25 far t))
    ∧ (∀ (port : Nat) (p : LinkProgress) (t : Instant) (s : State),
      port < 64 →
      (s.lane port).state = .step →
      p = .farTrain →
      exec (.linkStateProgress port p t) s = .next ((s.tick t).goLane port .train 0 t))
    ∧ (∀ (port : Nat) (p : LinkProgress) (t : Instant) (s : State),
      port < 64 →
      (s.lane port).state = .train →
      p = .bothReady →
      8 ≤ (s.lane port).farReady →
      exec (.linkStateProgress port p t) s = .next ((s.tick t).goLane port .lock 0 t))
    ∧ (∀ (port : Nat) (p : LinkProgress) (t : Instant) (s : State),
      port < 64 →
      (s.lane port).state = .lock →
      p = .locked →
      exec (.linkStateProgress port p t) s = .next ((s.tick t).lockTaken port t))
    ∧ (∀ (port : Nat) (p : LinkProgress) (t : Instant) (s : State),
      port < 64 →
      (s.lane port).state = .calx →
      p = .calxDone →
      (s.lane port).calxCal = true →
      4 ≤ (s.lane port).calxRecv →
      (s.link port).loopDone = true →
      exec (.linkStateProgress port p t) s = .next (((s.tick t).emit (.capx port 1)).enterActive port (s.lane port).going false 0 t))
    ∧ (∀ (port : Nat) (t : Instant) (s : State) (d : Nat),
      port < 64 →
      (s.lane port).timeout = some d →
      (s.lane port).since + d ≤ t →
      (s.lane port).state ≠ .fallback →
      exec (.linkStateTimeout port t) s = .next (if (s.lane port).cfg.fixed then (s.tick t).toDetect port 7 t else ((s.tick t).ltOff port t).toFallback port 7 (State.fbOf (s.lane port).state) t))
    ∧ (∀ (port req status check : Nat) (codeError : Bool) (t : Instant) (s : State),
      port < 64 →
      codeError = false →
      check = (req ^^^ status) ^^^ 0xA5 →
      (s.lane port).state = .train →
      exec (.trainSetRx port req status check codeError t) s = .next ((s.tick t).setLane port { (s.lane port).train req with farReady := if flag status 7 then ((s.lane port).train req).farReady + 1 else ((s.lane port).train req).farReady }))
    ∧ (∀ (port type flags check : Nat) (codeError : Bool) (t : Instant) (s : State),
      port < 64 →
      codeError = false →
      check = (type ^^^ flags) ^^^ 0xA5 →
      (s.lane port).state = .calx →
      type = 1 →
      exec (.capxRx port type flags check codeError t) s = .next ((s.tick t).setLane port { (s.lane port) with calxRecv := (s.lane port).calxRecv + 1 }))
    ∧ (∀ (port type flags check : Nat) (codeError : Bool) (t : Instant) (s : State),
      port < 64 →
      codeError = false →
      check = (type ^^^ flags) ^^^ 0xA5 →
      (s.lane port).state = .active →
      type = 2 →
      s.parkable port = true →
      (s.lane port).parkFrom = none →
      s.parkForbidden port = false →
      exec (.capxRx port type flags check codeError t) s = .next (((s.tick t).emit (.capx port 3)).toPark port t))
    ∧ (∀ (port type flags check : Nat) (codeError : Bool) (t : Instant) (s : State),
      port < 64 →
      codeError = false →
      check = (type ^^^ flags) ^^^ 0xA5 →
      (s.lane port).state = .active →
      type = 3 →
      (s.lane port).parkFrom.isSome = true →
      s.parkable port = true →
      s.parkForbidden port = false →
      exec (.capxRx port type flags check codeError t) s = .next ((s.tick t).toPark port t))
    ∧ (∀ (port : Nat) (t : Instant) (s : State),
      port < 64 →
      (s.lane port).state = .lock →
      exec (.symbolLock port t) s = .next ((s.tick t).lockTaken port t))
    ∧ (∀ (port : Nat) (t : Instant) (s : State) (e : Instant) (w : State),
      port < 64 →
      (s.lane port).state = .park →
      (s.lane port).exitFrom = some e →
      t < e + us 10 →
      w = (((s.tick t).countP port 99).finishOpt (s.lane port).exitJid State.stOk [] t).enterActive port (s.lane port).rate (s.lane port).fallen 12 t →
      exec (.symbolLock port t) s = .next (w.setLane port { w.lane port with exitJid := none }))
    ∧ (∀ (port fixedTx fixedRx : Nat) (t : Instant) (s : State) (w : State),
      port < 64 →
      (s.lane port).state = .calx →
      w = (s.tick t).setLink port { s.link port with fixedTx := fixedTx, fixedRx := fixedRx, loopDone := true, liveDone := false } →
      exec (.calxLoopbackDone port fixedTx fixedRx t) s = .next ((w.countP port 79).emit (.frame port (w.localFrame port (w.calPayload port)) t)))
    ∧ (∀ (port : Nat) (t : Instant) (s : State),
      s.parkable port = true →
      (s.lane port).cfg.parkEn = true →
      (s.lane port).parkFrom = none →
      (s.lane port).parkWait = false →
      s.parkForbidden port = false →
      s.holdsCopy port = false →
      (s.model port).freeAt + us (s.lane port).cfg.parkIdle ≤ t →
      (s.lane port).since + us (s.lane port).cfg.parkIdle ≤ t →
      exec (.parkAuto port t) s = .next ((s.tick t).requestPark port none t))
    ∧ (∀ (port : Nat) (t : Instant) (s : State) (v : Instant),
      (s.lane port).parkFrom = some v →
      v + us 100 ≤ t →
      exec (.parkReqLapse port t) s = .next ((s.tick t).endPark port State.stConflict t))
    ∧ (∀ (port : Nat) (t : Instant) (s : State),
      port < 64 →
      (s.lane port).state = .park →
      (s.lane port).exitFrom = none →
      exec (.parkExit port t) s = .next ((s.tick t).burst port t))
    ∧ (∀ (port : Nat) (t : Instant) (s : State) (e : Instant),
      port < 64 →
      (s.lane port).state = .park →
      (s.lane port).exitFrom = some e →
      e + us 10 ≤ t →
      exec (.parkExitFail port t) s = .next (((s.tick t).countP port 100).toDetect port 13 t))
    ∧ (∀ (quad pll : Nat) (t : Instant) (s : State) (w : State),
      quad < 4 →
      pll = 0 →
      (s.quad quad).powered = true →
      w = (({ (s.tick t) with lan := ((s.tick t).setQuad quad { s.quad quad with lbLock := false }).lan } : State).count (0x7EC0 + quad)).raise 0x0108 101 [bytesBE 1 quad, bytesBE 1 0] t →
      exec (.pllUnlock quad pll t) s = .next ((w.pllPorts quad 0).foldl (fun s p => s.lockLoss p (s.arrivedBy p t) 8 t) w))
    ∧ (∀ (quad pll : Nat) (t : Instant) (s : State),
      quad < 4 →
      pll = 0 →
      (s.quad quad).powered = true →
      exec (.pllRelock quad pll t) s = .next ((s.tick t).setQuad quad { s.quad quad with lbLock := true }))
    ∧ (∀ (quad pll : Nat) (t : Instant) (s : State),
      quad = 3 →
      1 ≤ pll →
      pll < 3 →
      (s.quad 3).powered = true →
      (s.hb pll).rate ≠ 0 →
      (s.hb pll).slots.getLsbD ((s.hb pll).rate - 1) = true →
      exec (.pllRelock quad pll t) s = .next ((s.tick t).setHb pll { s.hb pll with lock := true }))
    ∧ (∀ (pll : Nat) (t : Instant) (s : State) (w : State),
      1 ≤ pll →
      pll < 3 →
      (s.hb pll).rate ≠ 0 →
      (s.hb pll).lock = false →
      w = ((s.tick t).setHb pll { s.hb pll with slots := (s.hb pll).slots &&& ~~~ BitVec.ofNat 4 (2 ^ ((s.hb pll).rate - 1)) }).startSearch pll (s.hb pll).rate false →
      exec (.pllHopTimeout pll t) s = .next ((w.pllPorts 3 pll).foldl (State.pllFail t) w))
    ∧ (∀ (pll : Nat) (ok : Bool) (t : Instant) (s : State),
      1 ≤ pll →
      pll < 3 →
      (s.hb pll).search = some 3 →
      exec (.hbBandSearchDone pll ok t) s = .next (((s.tick t).setHb pll { s.hb pll with slots := if ok then (s.hb pll).slots ||| BitVec.ofNat 4 (2 ^ (3 - 1)) else (s.hb pll).slots, search := none }).setBand pll false))
    ∧ (∀ (quad : Nat) (t : Instant) (s : State) (w : State),
      quad < 4 →
      (s.quad quad).powered = true →
      (s.quad quad).starting = true →
      w = (State.portsOf quad).foldl (State.startPort t) ((State.portsOf quad).foldl (fun s p => s.startSource (pipeOf p) p t) ((s.tick t).setQuad quad { s.quad quad with lbLock := true, starting := false, jid := none })) →
      exec (.quadPowerUpDone quad t) s = .next ((w.stagePortOff t t ((State.portsOf quad).filter fun p => (w.lane p).cfg.enable && !(w.lane p).shut) false).finishOpt (s.quad quad).jid State.stOk [] t))

/-- Scans take agreed inputs; a module comes, is identified and goes; bus accesses end with their bytes, a NACK or a stuck bus; IO33 falls and returns; eyes and sensors are read and runs end. -/
def Obligations.ModuleEventsComplete : Prop :=
    (∀ (inputs : List (Nat × Nat)) (t : Instant) (s : State),
      s.lan.io33Low = false →
      exec (.sidebandScan inputs t) s = .next (inputs.foldl State.scanPort ((s.tick t).emit (.sideband (BitVec.ofNat 256 ((List.range 64).foldl (fun n p => n + (s.tick t).sideOut p * 2 ^ (4 * p)) 0))))))
    ∧ (∀ (port : Nat) (absent : Bool) (t : Instant) (s : State),
      port < 64 →
      s.lan.io33Low = false →
      flag (s.lane port).side 0 = absent →
      (s.lane port).modPresent = absent →
      exec (.modulePresenceChange port absent t) s = .next (if absent then (s.tick t).moduleGone port t else (s.tick t).moduleIn port t))
    ∧ (∀ (port ident rate : Nat) (t : Instant) (s : State),
      port < 64 →
      (s.lane port).modPresent = true →
      (s.lane port).modReady = false →
      (s.lane port).moduleHeld t = false →
      moduleKind port ident ≠ 3 →
      exec (.moduleReady port ident rate t) s = .next ((s.tick t).setLane port { (s.lane port) with modKind := moduleKind port ident, modReady := true, modRate := rate, heldUntil := none, since := t }))
    ∧ (∀ (port ident rate : Nat) (t : Instant) (s : State),
      port < 64 →
      (s.lane port).modPresent = true →
      (s.lane port).modReady = false →
      (s.lane port).moduleHeld t = false →
      moduleKind port ident = 3 →
      exec (.moduleReady port ident rate t) s = .next (((s.tick t).setLane port { (s.lane port) with modKind := 3 }).moduleEvent port 2 ident t))
    ∧ (∀ (bus : Nat) (t : Instant) (s : State),
      bus < 4 →
      (s.bus bus).stuck = false →
      s.lan.io33Low = false →
      exec (.moduleAlarmPoll bus t) s = .next (((State.portsOf bus).filter fun p => (s.lane p).modReady).foldl (State.pollModule bus) (s.tick t)))
    ∧ (∀ (bus : Nat) (r : I2cResult) (t : Instant) (s : State) (x : I2cReq) (rest : List I2cReq),
      bus < 4 →
      (s.bus bus).queue = x :: rest →
      r = .stuck →
      exec (.i2cTransactionDone bus r t) s = .next ((((s.tick t).abortBus bus t).count (0x7EC8 + 2 * bus + 1)).raise 0x0109 101 [bytesBE 1 bus, bytesBE 1 0] t))
    ∧ (∀ (bus : Nat) (r : I2cResult) (t : Instant) (s : State) (x : I2cReq) (rest : List I2cReq) (j : Nat) (w : State),
      bus < 4 →
      (s.bus bus).queue = x :: rest →
      r = .nack →
      x.jid = some j →
      w = ((s.tick t).setBus bus { (s.bus bus) with queue := rest, nack := true }).count (0x7EC8 + 2 * bus) →
      exec (.i2cTransactionDone bus r t) s = .next (w.finish j State.stAborted (w.i2cFailWords j 31) t))
    ∧ (∀ (bus : Nat) (r : I2cResult) (t : Instant) (s : State) (x : I2cReq) (rest : List I2cReq) (bs : List Byte),
      bus < 4 →
      (s.bus bus).queue = x :: rest →
      r = .data bs →
      exec (.i2cTransactionDone bus r t) s = .next (((s.tick t).setBus bus { (s.bus bus) with queue := rest }).i2cOk bus x bs t))
    ∧ (∀ (bus : Nat) (freed : Bool) (t : Instant) (s : State),
      bus < 4 →
      (s.bus bus).stuck = true →
      freed = true →
      s.lan.io33Low = false →
      exec (.i2cRetry bus freed t) s = .next ((s.tick t).setBus bus { (s.bus bus) with stuck := false }))
    ∧ (∀ (t : Instant) (s : State) (w : State),
      s.lan.io33Low = false →
      w = (List.range 4).foldl (fun s q => s.abortBus q t) (s.tick t) →
      exec (.io33Low t) s = .next (({ w with lan := { w.lan with io33Low := true } }).raise 0x0109 101 [bytesBE 1 0xFF, bytesBE 1 1] t))
    ∧ (∀ (t : Instant) (s : State) (w : State),
      s.lan.io33Low = true →
      w = (List.range 4).foldl (fun s q => s.setBus q { s.bus q with stuck := false }) (s.tick t) →
      exec (.io33Restore t) s = .next ({ w with lan := { w.lan with io33Low := false } }))
    ∧ (∀ (port width height ctle : Nat) (dfe : List Int) (t : Instant) (s : State) (w : State),
      port < 64 →
      (s.lane port).eqRun = false →
      w = (s.tick t).setLane port { (s.lane port) with eyeValid := true, eyeW := min 1000 width, eyeH := min 1023 height, ctle := ctle % 32, dfe := dfe.take 8, eyeLow := (s.lane port).eyeLow || (s.lane port).eyeIsLow width height } →
      exec (.eyeMonitorUpdate port width height ctle dfe t) s = .next (if (s.lane port).eyeIsLow width height then w.raiseLimited (0x400 + port) 0x0102 port [bytesBE 1 port, bytesBE 2 (min 1000 width), bytesBE 2 height] t else w))
    ∧ (∀ (sensor : Nat) (temp : Int) (t : Instant) (s : State) (w : State),
      sensor < 8 →
      w = (s.tick t).takeTemp sensor temp t →
      exec (.dieSensorRead sensor temp t) s = .next (if w.lan.calDt * 16 < (temp - (s.sensor sensor).ref).natAbs * 10 then w.triggerRuns sensor else w))
    ∧ (∀ (port ctle : Nat) (t : Instant) (s : State),
      port < 64 →
      (s.lane port).eqRun = true →
      exec (.eqRunDone port ctle t) s = .next ((((s.tick t).setLane port { (s.lane port) with eqRun := false, ctle := ctle % 32 }).countP port 102).startRuns))

/-- A selected input edge is stamped, filtered or latched; a mode change and an output edge come at their instant; the channels take START, STOP and gate edges; MREF goes and comes; a calibration run ends. -/
def Obligations.TimedIoEventsComplete : Prop :=
    (∀ (pin : Nat) (rising : Bool) (t : Instant) (s : State) (w : State),
      pin < 8 →
      w = (s.tick t).filterDone pin t →
      (w.pin pin).cfg.mode = 1 →
      w.pwr.asleep = none →
      (w.pin pin).edgeClose t = false →
      (w.pin pin).cfg.filter = 0 →
      State.edgeSelected (w.pin pin) rising = true →
      exec (.evtInputEdge pin rising t) s = .next (((w.wakeSource pin).setPin pin { (w.pin pin) with level := rising, lastEdge := some t, calOld := (w.pin pin).calOld && !State.inputIdle (w.pin pin) t, filtering := none }).stampRec pin t rising false false t))
    ∧ (∀ (pin : Nat) (rising : Bool) (t : Instant) (s : State) (w : State),
      pin < 8 →
      w = (s.tick t).filterDone pin t →
      (w.pin pin).cfg.mode = 0 →
      w.pwr.asleep = none →
      exec (.evtInputEdge pin rising t) s = .next (w.setPin pin { (w.pin pin) with level := rising }))
    ∧ (∀ (pin : Nat) (t : Instant) (s : State) (e : Instant) (rising : Bool),
      pin < 8 →
      (s.pin pin).filtering = some (e, rising) →
      e + ns (s.pin pin).cfg.filter ≤ t →
      State.edgeSelected (s.pin pin) rising = true →
      exec (.evtFilterDone pin t) s = .next (((s.tick t).setPin pin { (s.pin pin) with filtering := none }).stampRec pin e rising false false t))
    ∧ (∀ (pin : Nat) (rising : Bool) (t : Instant) (s : State),
      pin < 8 →
      (s.pin pin).cfg.mode = 1 →
      s.pwr.asleep.isNone = false →
      State.edgeSelected (s.pin pin) rising = true →
      (s.pin pin).aonLatch = none →
      exec (.evtAonLatch pin rising t) s = .next (((s.tick t).setPin pin { (s.pin pin) with aonLatch := some rising }).wakeSource pin))
    ∧ (∀ (pin : Nat) (t : Instant) (s : State) (x : EvtPending) (w : State) (d : Nat),
      pin < 8 →
      State.nextPinCfg (s.pin pin) = some x →
      x.a ≤ t →
      (s.tick t).applyPin pin x.a x.cfg = (w, d) →
      exec (.evtCfgApply pin t) s = .next ((w.setPin pin { w.pin pin with next := (w.pin pin).next.map fun y => if y = x then { y with discarded := some d } else y }).cfgDone pin t))
    ∧ (∀ (pin : Nat) (placeable : Bool) (t : Instant) (s : State) (e : Instant),
      pin < 8 →
      (s.pin pin).pulseEnd = some e →
      e ≤ t →
      exec (.evtOutputEdge pin placeable t) s = .next ((s.tick t).pulseFalls pin (placeable && s.tio.calValid && e == t) t))
    ∧ (∀ (pin : Nat) (placeable : Bool) (t : Instant) (s : State) (e : Instant) (l : Bool) (rest : List (Instant × Bool)),
      pin < 8 →
      (s.pin pin).pulseEnd = none →
      (s.pin pin).queue = (e, l) :: rest →
      e ≤ t →
      exec (.evtOutputEdge pin placeable t) s = .next ((s.tick t).queuedEdge pin l rest (placeable && s.tio.calValid && e == t) t))
    ∧ (∀ (pin : Nat) (placeable : Bool) (t : Instant) (s : State),
      pin < 8 →
      (s.pin pin).pulseEnd = none →
      (s.pin pin).queue = [] →
      s.pulseRises (s.pin pin) t = true →
      exec (.evtOutputEdge pin placeable t) s = .next ((s.tick t).pulseStarts pin (placeable && s.tio.calValid) t))
    ∧ (∀ (dnl : Nat) (t : Instant) (s : State) (w : State),
      (s.tio.calValid && !s.tio.calRun) = false →
      w = (s.tick t).takeCalTables t →
      w.calTaken = true →
      exec (.timeioCalDone dnl t) s = .next (w.calRunEnds dnl t))
    ∧ (∀ (chan : Nat) (rising : Bool) (raw : Nat) (t : Instant) (s : State),
      chan < 4 →
      s.mrefOk = true →
      (s.chan chan).cfg.enable = true →
      rising ≠ (s.chan chan).cfg.startFall →
      (s.chan chan).armed = true →
      (s.chan chan).armedAt ≤ raw →
      (s.chan chan).startDead raw = false →
      (s.chan chan).openAt = none →
      exec (.timStartEdge chan rising raw t) s = .next ((s.tick t).setChan chan { (s.chan chan) with openAt := some (raw, t), lastStart := some raw }))
    ∧ (∀ (chan : Nat) (rising : Bool) (raw : Nat) (t : Instant) (s : State) (x : Nat) (d : Instant),
      chan < 4 →
      s.mrefOk = true →
      (s.chan chan).cfg.enable = true →
      (s.chan chan).cfg.period = false →
      rising ≠ (s.chan chan).cfg.stopFall →
      (s.chan chan).openAt = some (x, d) →
      x < raw →
      raw ≤ x + sec 20 →
      exec (.timStopEdge chan rising raw t) s = .next ((s.tick t).closeMeas chan 0 raw t))
    ∧ (∀ (chan : Nat) (high : Bool) (raw : Nat) (t : Instant) (s : State),
      chan < 4 →
      (s.chan chan).cfg.gate ≠ 2 →
      (s.chan chan).cfg.enable = true →
      s.tio.off = false →
      State.gateArms { (s.chan chan) with gateOn := high } = true →
      exec (.timGateEdge chan high raw t) s = .next ((s.tick t).setChan chan { (s.chan chan) with gateOn := high, armed := true, armedAt := if s.mrefOk then raw else 0 }))
    ∧ (∀ (chan : Nat) (high : Bool) (raw : Nat) (t : Instant) (s : State),
      chan < 4 →
      (s.chan chan).cfg.gate ≠ 2 →
      (s.chan chan).cfg.enable = true →
      s.tio.off = false →
      State.gateArms { (s.chan chan) with gateOn := high } = false →
      (s.chan chan).cfg.period = false →
      exec (.timGateEdge chan high raw t) s = .next ((s.tick t).setChan chan { (s.chan chan) with gateOn := high, armed := false }))
    ∧ (∀ (chan : Nat) (t : Instant) (s : State) (x : Nat) (d : Instant),
      chan < 4 →
      (s.chan chan).openAt = some (x, d) →
      d + ms 19980 ≤ t →
      exec (.timOverrange chan t) s = .next ((s.tick t).closeMeas chan 1 0 t))
    ∧ (∀ (t : Instant) (s : State),
      (s.tio.mrefPresent || s.tio.mrefLock) = true →
      exec (.mrefLost t) s = .next (((List.range 4).foldl (fun s c => (s.closeMeas c 3 0 t).dropWindow c) ((s.tick t).setTio { s.tio with mrefPresent := false, mrefLock := false, mrefLost := true })).raise 0x0511 84 [bytesBE 1 0] t))
    ∧ (∀ (err : Int) (t : Instant) (s : State),
      s.tio.mrefLock = false →
      err.natAbs ≤ 10000 →
      s.tio.off = false →
      exec (.mrefLock err t) s = .next (((List.range 4).foldl (fun s c => s.setChan c { s.chan c with armedAt := 0, lastStart := none }) ((s.tick t).setTio { s.tio with mrefPresent := true, mrefLock := true, mrefErr := err })).raise 0x0511 84 [bytesBE 1 1] t))

/-- A band search ends; an output starts at its A, goes to BYPASS and returns, starts a profile and ends its segments, locks again after footing, and is disabled at its A. -/
def Obligations.ClockOutputEventsComplete : Prop :=
    (∀ (out band : Nat) (ok : Bool) (t : Instant) (s : State) (w : CkoWait × Instant × Option Nat) (x : CkoCfg) (r : Bool),
      out < 8 →
      band < 64 →
      ok = true →
      (s.cko out).waits.find? (fun w => w.1.searching) = some w →
      w.1 = .set x r →
      exec (.ckoBandSearchDone out band ok t) s = .next ((s.tick t).setCko out { (s.cko out) with
          state := if (s.cko out).state = .held then .held else .locking
          band := band, bandFor := x.f0 * Cko.divider x.f0
          waits := (s.cko out).waits.map fun y => if y = w then (.set x true, y.2) else y }))
    ∧ (∀ (out : Nat) (t : Instant) (s : State) (w : CkoWait × Instant × Option Nat) (x : CkoCfg) (r : Bool) (y : State),
      out < 8 →
      State.ckoDue (s.cko out) t CkoWait.isReady = some w →
      w.1 = .set x r →
      y = ((s.tick t).withdrawProfile out t).dropWait out w →
      exec (.ckoAlignStart out t) s = .next ((y.setCko out { y.cko out with
          cfg := x, div := Cko.divider x.f0, a := w.2.1, prof := none, forced := false
          state := if (y.cko out).state = .held then .held else .running
          pllLock := true, lockSince := t, relock := none }).finishOpt w.2.2 State.stOk [] t))
    ∧ (∀ (out cause : Nat) (t : Instant) (s : State),
      out < 8 →
      cause < 2 →
      (s.cko out).state = .running →
      (cause = 0 ∨ s.nclk = false) →
      exec (.ckoBypass out cause t) s = .next ((s.tick t).toBypass out cause false t))
    ∧ (∀ (out cause : Nat) (t : Instant) (s : State) (w : CkoWait × Instant × Option Nat),
      out < 8 →
      cause = 2 →
      State.ckoDue (s.cko out) t CkoWait.isForce = some w →
      (s.cko out).state = .running →
      exec (.ckoBypass out cause t) s = .next ((((s.tick t).dropWait out w).toBypass out 2 true t).finishOpt w.2.2 State.stOk [] t))
    ∧ (∀ (out : Nat) (t : Instant) (s : State) (w : CkoWait × Instant × Option Nat),
      out < 8 →
      State.ckoDue (s.cko out) t CkoWait.isBack = some w →
      ((s.tick t).dropWait out w).mayReturn out = true →
      exec (.ckoReturn out t) s = .next ((((s.tick t).dropWait out w).fromBypass out t).finishOpt w.2.2 State.stOk [] t))
    ∧ (∀ (out : Nat) (t : Instant) (s : State),
      out < 8 →
      State.ckoDue (s.cko out) t CkoWait.isBack = none →
      s.mayReturn out = true →
      (s.cko out).cfg.auto = true →
      (s.cko out).forced = false →
      (s.cko out).lockSince + ms 100 ≤ t →
      exec (.ckoReturn out t) s = .next ((s.tick t).fromBypass out t))
    ∧ (∀ (out : Nat) (t : Instant) (s : State) (p : ProfilePend),
      out < 8 →
      (s.cko out).pend = some p →
      p.s ≤ t →
      exec (.ckoProfileApply out t) s = .next (((s.tick t).setCko out { (s.cko out) with pend := none, prof := some { start := p.s, y0 := ((s.cko out).phaseAt p.s).1, segs := p.segs, acc := ((s.cko out).phaseAt p.s).2 } }).finishOpt p.jid State.stOk [] t))
    ∧ (∀ (out : Nat) (t : Instant) (s : State) (p : Profile),
      out < 8 →
      (s.cko out).prof = some p →
      p.done < p.segs.length →
      Cko.segEnd p (p.done + 1) ≤ t →
      exec (.ckoSegmentEnd out t) s = .next (if p.done + 1 = p.segs.length then ((s.tick t).setCko out { (s.cko out) with prof := some { p with done := p.done + 1 } }).raise 0x0601 (76 + out) [bytesBE 1 out] t else (s.tick t).setCko out { (s.cko out) with prof := some { p with done := p.done + 1 } }))
    ∧ (∀ (out : Nat) (t : Instant) (s : State) (x : Instant),
      out < 8 →
      s.nclk = true →
      (s.cko out).state = .locking →
      (s.cko out).relock = some x →
      (s.cko out).relocksAt x t = true →
      exec (.ckoRelock out t) s = .next ((s.tick t).setCko out { (s.cko out) with state := .running, relock := none, pllLock := true, lockSince := t }))
    ∧ (∀ (out : Nat) (t : Instant) (s : State) (w : CkoWait × Instant × Option Nat) (x : CkoCfg) (y : State),
      out < 8 →
      State.ckoDue (s.cko out) t CkoWait.isDisable = some w →
      w.1 = .disable x →
      y = ((s.tick t).withdrawProfile out t).dropWait out w →
      exec (.ckoDisableApply out t) s = .next ((y.setCko out { y.cko out with
          cfg := x, prof := none, forced := false, pllLock := false, relock := none
          state := if (y.cko out).state = .held then .held else .off }).finishOpt w.2.2 State.stOk [] t))

/-- SEM_ACQUIRE takes a free semaphore, renews one that the host holds and is denied while another holds it; SEM_RENEW by the holder restarts the lease; a release, a lost link and an expired lease free it; SEM_LEASE and MB_TIMEOUT writes of the holder in range are taken. -/
def Obligations.SemaphoreEventsComplete : Prop :=
    (∀ (h : HostPort) (t : Instant) (s : State),
      s.hostOff h.pf0 = false →
      s.host.sem.owner = .free →
      exec (.semAcquire h t) s = .next (({ (s.tick t) with host := { s.host with sem := { s.host.sem with owner := h.owner, epoch := (s.host.sem.epoch + 1) % 65536 } } }.semRestart t).semFlag h 0x01#5))
    ∧ (∀ (h : HostPort) (t : Instant) (s : State) (g : HostPort),
      s.hostOff h.pf0 = false →
      s.semHolder = some g →
      g ≠ h →
      t < s.host.sem.expiry →
      exec (.semAcquire h t) s = .next (((s.tick t).semFlag h 0x02#5).countF h.pf0 1))
    ∧ (∀ (h : HostPort) (t : Instant) (s : State),
      s.hostOff h.pf0 = false →
      s.semHolder = some h →
      t < s.host.sem.expiry + us 1 →
      exec (.semAcquire h t) s = .next ((s.tick t).semRestart t))
    ∧ (∀ (h : HostPort) (t : Instant) (s : State),
      s.hostOff h.pf0 = true →
      exec (.semAcquire h t) s = .next ((s.tick t)))
    ∧ (∀ (h : HostPort) (t : Instant) (s : State),
      s.semHolder = some h →
      t < s.host.sem.expiry + us 1 →
      exec (.semRenew h t) s = .next ((s.tick t).semRestart t))
    ∧ (∀ (h : HostPort) (t : Instant) (s : State),
      s.semHolder = some h →
      t < s.host.sem.expiry →
      exec (.semRelease h t) s = .next ((s.tick t).semFree 0 t))
    ∧ (∀ (h : HostPort) (t : Instant) (s : State),
      s.semHolder = some h →
      t < s.host.sem.expiry →
      exec (.semLinkLost h t) s = .next ((s.tick t).semFree 0x04#5 t))
    ∧ (∀ (t : Instant) (s : State),
      s.semHolder ≠ none →
      s.host.sem.expiry ≤ t →
      exec (.semLeaseExpiry t) s = .next ((s.tick t).semFree 0x08#5 t))
    ∧ (∀ (h : HostPort) (value : Nat) (t : Instant) (s : State),
      s.semHolder = some h →
      50 ≤ value →
      value ≤ 800 →
      exec (.semLeaseWrite h value t) s = .next ({ (s.tick t) with host := { s.host with sem := { s.host.sem with lease := value } } }))
    ∧ (∀ (h : HostPort) (value : Nat) (t : Instant) (s : State),
      s.semHolder = some h →
      20 ≤ value →
      value ≤ 10000 →
      exec (.mbTimeoutWrite h value t) s = .next ({ (s.tick t) with host := { s.host with mbTimeout := value } }))

/-- A GO with a free slot from a function that may send fills the slot; timeouts free the slot and abort the batch; a finished command gets its final reply; ring and doorbell writes are taken; FLR and PERST reset the functions. -/
def Obligations.MailboxEventsComplete : Prop :=
    (∀ (fn : Sender) (tag : Nat) (t : Instant) (s : State) (g : HostPort) (w : State) (m : MboxRegs),
      w = ((s.tick t).wakeSource 13).semRenew g t →
      m = w.mbox fn (if fn.pf1 then 1 else 0) →
      fn.host = some g →
      fn.core = none →
      fn.code < 4 →
      s.hostOff fn = false →
      w.holds fn = true →
      (w.fn fn).enable = true →
      w.slotOf (if fn.pf1 then 1 else 0) = none →
      exec (.cmbGo fn tag t) s = .next (w.setSlotOf (if fn.pf1 then 1 else 0) (some { sender := fn, buf := { lo := m.lo, hi := m.hi, len := m.len }, tag := tag % 65536, t := t, until_ := t + us w.host.mbTimeout })))
    ∧ (∀ (fn : Sender) (tag : Nat) (t : Instant) (s : State) (g : HostPort) (w : State) (m : MboxRegs),
      w = ((s.tick t).wakeSource 13).semRenew g t →
      m = w.mbox fn (2 + fn.code) →
      fn.host = some g →
      fn.core = none →
      fn.code < 4 →
      s.hostOff fn = false →
      (w.fn fn).enable = true →
      w.slotOf (2 + fn.code) = none →
      exec (.pmbGo fn tag t) s = .next (w.setSlotOf (2 + fn.code) (some { sender := fn, buf := { lo := m.lo, hi := m.hi, len := m.len }, tag := tag % 65536, t := t, until_ := t + us w.host.mbTimeout })))
    ∧ (∀ (core : AppCore) (tag : Nat) (t : Instant) (s : State),
      ((s.tick t).ac core).status = .running →
      ((s.tick t).ac core).permits.getLsbD 5 = true →
      ((s.tick t).fn core.sender).enable = true →
      (s.tick t).slotOf (2 + core.sender.code) = none →
      exec (.acMailboxGo core tag t) s = .next ((s.tick t).setSlotOf (2 + core.sender.code) (some { sender := core.sender, buf := { lo := ((s.tick t).mbox core.sender (2 + core.sender.code)).lo, hi := ((s.tick t).mbox core.sender (2 + core.sender.code)).hi, len := ((s.tick t).mbox core.sender (2 + core.sender.code)).len }, tag := tag % 65536, t := t, until_ := t + us s.host.mbTimeout })))
    ∧ (∀ (slot : Nat) (t : Instant) (s : State) (n : Notice),
      (s.tick t).slotOf slot = some n →
      n.until_ ≤ t →
      exec (.mailboxTimeout slot t) s = .next ((s.tick t).timeoutNotice slot n))
    ∧ (∀ (fn : Sender) (t : Instant) (s : State) (last : Instant),
      Tbl.find s.host.batch fn.code = some last →
      last + ms 10 ≤ t →
      exec (.batchTimeout fn t) s = .next ((s.tick t).abortBatch fn t))
    ∧ (∀ (t : Instant) (s : State) (j : Nat) (f : Finish),
      (s.tick t).nextFinished t = some (j, f) →
      exec (.commandComplete t) s = .next ((s.tick t).endCommand j f.status f.words f.t))
    ∧ (∀ (fn : Sender) (value : Nat) (t : Instant) (s : State),
      s.hostOff fn = false →
      exec (.rrRdWrite fn value t) s = .next (State.drainWaiting fn ((s.tick t).fn fn).waiting.length ((s.tick t).setFn fn { (s.tick t).fn fn with rd := value % 4096 })))
    ∧ (∀ (fn : Sender) (log2 : Nat) (t : Instant) (s : State),
      s.hostOff fn = false →
      ((s.tick t).fn fn).enable = false →
      4 ≤ log2 →
      log2 ≤ (if fn.code < 4 then 12 else 8) →
      exec (.ringEnable fn log2 t) s = .next ((s.tick t).setFn fn { (s.tick t).fn fn with enable := true, log2 := log2, wr := 0, rd := 0, phase := true }))
    ∧ (∀ (fn : Sender) (t : Instant) (s : State),
      ((s.tick t).fn fn).enable = true →
      (s.tick t).openOf fn = 0 →
      exec (.ringDisable fn t) s = .next ((s.tick t).setFn fn { (s.tick t).fn fn with enable := false }))
    ∧ (∀ (fn : Sender) (t : Instant) (s : State),
      ((s.tick t).fn fn).enable = true →
      (s.tick t).openOf fn ≠ 0 →
      exec (.ringDisable fn t) s = .next ((s.tick t).setFn fn { (s.tick t).fn fn with disableWanted := true }))
    ∧ (∀ (fn : Sender) (value : Word) (t : Instant) (s : State),
      fn.code < 4 →
      s.hostOff fn = false →
      exec (.dbRing fn value t) s = .next ((s.tick t).dbRing fn value))
    ∧ (∀ (fn : Sender) (value : Word) (t : Instant) (s : State),
      fn.code < 4 →
      s.hostOff fn = false →
      exec (.dbMaskWrite fn value t) s = .next ((s.tick t).dbMaskSet fn value))
    ∧ (∀ (fn : Sender) (tag : Nat) (t : Instant) (s : State),
      s.hostOff fn = true →
      exec (.cmbGo fn tag t) s = .next ((s.tick t)))
    ∧ (∀ (fn : Sender) (tag : Nat) (t : Instant) (s : State),
      s.hostOff fn = true →
      exec (.pmbGo fn tag t) s = .next ((s.tick t)))
    ∧ (∀ (fn : Sender) (value : Nat) (t : Instant) (s : State),
      s.hostOff fn = true →
      exec (.rrRdWrite fn value t) s = .next ((s.tick t)))
    ∧ (∀ (fn : Sender) (log2 : Nat) (t : Instant) (s : State),
      s.hostOff fn = true →
      exec (.ringEnable fn log2 t) s = .next ((s.tick t)))
    ∧ (∀ (fn : Sender) (value : Word) (t : Instant) (s : State),
      s.hostOff fn = true →
      exec (.dbRing fn value t) s = .next ((s.tick t)))
    ∧ (∀ (fn : Sender) (value : Word) (t : Instant) (s : State),
      s.hostOff fn = true →
      exec (.dbMaskWrite fn value t) s = .next ((s.tick t)))
    ∧ (∀ (fn : Sender) (t : Instant) (s : State),
      fn.code < 4 →
      exec (.functionLevelReset fn t) s = .next ((s.tick t).fnReset fn))
    ∧ (∀ (h : HostPort) (t : Instant) (s : State) (w : State),
      ((s.tick t).hostRegs h).perst = false →
      w = ((((((s.tick t).dropUncommitted h.pf0).dropUncommitted h.pf1).semRelease h 0x04#5 t).fnReset h.pf0).fnReset h.pf1) →
      exec (.hostReset h t) s = .next ((w.setHostRegs h { w.hostRegs h with perst := true }).perstEvent h false t))
    ∧ (∀ (h : HostPort) (t : Instant) (s : State),
      ((s.tick t).hostRegs h).perst = true →
      exec (.hostResetRelease h t) s = .next (((s.tick t).setHostRegs h { (s.tick t).hostRegs h with perst := false }).perstEvent h true t))

/-- A RUNNING core whose watchdog runs out or that faults goes through the fault; a kick restarts the watchdog; messages are sent and popped; a verified image runs and a refused one completes with its reason; TK_NOW latches and timers fire. -/
def Obligations.CoreEventsComplete : Prop :=
    (∀ (core : AppCore) (pc mcause : Word) (t : Instant) (s : State),
      (s.ac core).status = .running →
      0 < (s.ac core).wdog →
      (s.ac core).lastKick + us (s.ac core).wdog ≤ t →
      exec (.acWatchdogExpiry core pc mcause t) s = .next ((s.tick t).coreFault core 1 pc mcause t))
    ∧ (∀ (core : AppCore) (cause : Nat) (pc mcause : Word) (t : Instant) (s : State),
      (s.ac core).status = .running →
      (cause = 2 ∨ cause = 3) →
      exec (.acFault core cause pc mcause t) s = .next ((s.tick t).coreFault core cause pc mcause t))
    ∧ (∀ (core : AppCore) (t : Instant) (s : State),
      (s.ac core).status = .running →
      exec (.wdogKick core t) s = .next ((s.tick t).setAc core { (s.ac core) with lastKick := t }))
    ∧ (∀ (target : Target) (t : Instant) (s : State),
      exec (.tkNowRead target t) s = .next ((s.tick t).setTarget target { s.target target with tkNow := instantWords t }))
    ∧ (∀ (target : Target) (n : Nat) (t : Instant) (s : State) (x : EvcTimer),
      n = 0 →
      State.fireTimer (s.target target).timer0 t = some x →
      exec (.evcTimerExpiry target n t) s = .next (((s.tick t).setTarget target { (s.target target) with timer0 := x }).raisePrivate target 160))
    ∧ (∀ (target : Target) (n : Nat) (t : Instant) (s : State) (x : EvcTimer),
      n = 1 →
      State.fireTimer (s.target target).timer1 t = some x →
      exec (.evcTimerExpiry target n t) s = .next (((s.tick t).setTarget target { (s.target target) with timer1 := x }).raisePrivate target 161))
    ∧ (∀ (target : Target) (value : Nat) (t : Instant) (s : State) (x y : EvcTimer),
      State.enableTimer (s.target target).timer0 (flag value 0) t = (x, false) →
      State.enableTimer (s.target target).timer1 (flag value 1) t = (y, false) →
      exec (.timerEnable target value t) s = .next ((s.tick t).setTarget target { (s.target target) with timer0 := x, timer1 := y }))
    ∧ (∀ (target : Target) (value : Nat) (t : Instant) (s : State) (x y : EvcTimer),
      State.enableTimer (s.target target).timer0 (flag value 0) t = (x, true) →
      State.enableTimer (s.target target).timer1 (flag value 1) t = (y, true) →
      exec (.timerEnable target value t) s = .next ((((s.tick t).setTarget target { (s.target target) with timer0 := x, timer1 := y }).raisePrivate target 160).raisePrivate target 161))
    ∧ (∀ (core : AppCore) (toH0 toH1 : Bool) (t : Instant) (s : State),
      (s.ac core).status = .running →
      toH0 = true →
      toH1 = true →
      exec (.acMsgSend core toH0 toH1 t) s = .next (((s.tick t).sendToHost core .h0).sendToHost core .h1))
    ∧ (∀ (core : AppCore) (toH0 toH1 : Bool) (t : Instant) (s : State),
      (s.ac core).status = .running →
      toH0 = true →
      toH1 = false →
      exec (.acMsgSend core toH0 toH1 t) s = .next ((s.tick t).sendToHost core .h0))
    ∧ (∀ (core : AppCore) (popH0 popH1 : Bool) (t : Instant) (s : State),
      (s.ac core).status = .running →
      exec (.acMsgPop core popH0 popH1 t) s = .next ((s.tick t).setAc core { (s.ac core) with fromH0 := if popH0 then (s.ac core).fromH0.drop 1 else (s.ac core).fromH0, fromH1 := if popH1 then (s.ac core).fromH1.drop 1 else (s.ac core).fromH1 }))
    ∧ (∀ (h : HostPort) (ac0 ac1 : Bool) (t : Instant) (s : State),
      s.hostOff h.pf0 = false →
      ac0 = true →
      ac1 = true →
      exec (.hostMsgSend h ac0 ac1 t) s = .next (((s.tick t).sendToCore h .ac0).sendToCore h .ac1))
    ∧ (∀ (h : HostPort) (ac0 ac1 : Bool) (t : Instant) (s : State),
      s.hostOff h.pf0 = false →
      ac0 = false →
      ac1 = true →
      exec (.hostMsgSend h ac0 ac1 t) s = .next ((s.tick t).sendToCore h .ac1))
    ∧ (∀ (h : HostPort) (ac0 ac1 : Bool) (t : Instant) (s : State),
      ac0 = true →
      ac1 = false →
      exec (.hostMsgPop h ac0 ac1 t) s = .next ((s.tick t).popFromCore h .ac0))
    ∧ (∀ (h : HostPort) (ac0 ac1 : Bool) (t : Instant) (s : State),
      ac0 = true →
      ac1 = true →
      exec (.hostMsgPop h ac0 ac1 t) s = .next (((s.tick t).popFromCore h .ac0).popFromCore h .ac1))
    ∧ (∀ (core : AppCore) (t : Instant) (s : State) (j : Nat) (r : Req) (key : List Byte) (w : State) (h : List Byte),
      (s.ac core).starting = some (j, r) →
      activeKey s.pwr.otp.apps = some key →
      w = (s.tick t).setAc core { s.ac core with starting := none } →
      h = (s.tick t).imageHash core r →
      ecdsaOk key h (sigNat r 8) (sigNat r 20) = true →
      exec (.acImageVerified core t) s = .next ((w.coreRuns core r h t).finish j State.stOk [] t))
    ∧ (∀ (core : AppCore) (t : Instant) (s : State) (j : Nat) (r : Req),
      (s.ac core).starting = some (j, r) →
      activeKey s.pwr.otp.apps = none →
      exec (.acImageVerified core t) s = .next (((s.tick t).setAc core { s.ac core with starting := none }).finish j State.stNotPermitted [1] t))

/-- An event of a shared source is raised and a soft one too; a claim takes the best source or counts a spurious one; a completion ends the service; a log is popped; a delivery and an mret move the core; pallet triggers, snapshot starts and their ends are taken. -/
def Obligations.EventAndPalletEventsComplete : Prop :=
    (∀ (code source : Nat) (params : List Byte) (latched : Bool) (t : Instant) (s : State),
      source < 160 →
      exec (.evcEvent code source params latched t) s = .next ((s.tick t).raise code source [params.take 20] t latched))
    ∧ (∀ (target : Target) (t : Instant) (s : State) (src : Nat) (w : State),
      (s.tick t).bestClaim target = some src →
      w = (s.tick t).claimSource target src →
      exec (.evcClaim target t) s = .next ({ w with host := { w.host with lastRead := [word (2147483648 + src)] } }))
    ∧ (∀ (target : Target) (t : Instant) (s : State) (w : State),
      (s.tick t).bestClaim target = none →
      w = (s.tick t).count (0x7EF0 + 2 * target.code + 1) →
      exec (.evcClaim target t) s = .next ({ w with host := { w.host with lastRead := [0] } }))
    ∧ (∀ (target : Target) (source : Nat) (t : Instant) (s : State) (w : State),
      source < 176 →
      (s.target target).inServ.getLsbD source = true →
      w = (s.tick t).setTarget target { (s.target target) with inServ := (s.target target).inServ &&& ~~~ BitVec.ofNat 176 (2 ^ source) } →
      target.host = none →
      (160 ≤ source ∨ (s.effTarget (s.route source).target) = target) →
      exec (.evcComplete target source t) s = .next (w))
    ∧ (∀ (target : Target) (source : Nat) (t : Instant) (s : State) (h : HostPort) (w x : State),
      source < 176 →
      (s.target target).inServ.getLsbD source = true →
      w = (s.tick t).setTarget target { (s.target target) with inServ := (s.target target).inServ &&& ~~~ BitVec.ofNat 176 (2 ^ source) } →
      target.host = some h →
      x = (if 0 < w.claimCount target then w.ringDbBoth h 16 else w) →
      (160 ≤ source ∨ (s.effTarget (s.route source).target) = target) →
      exec (.evcComplete target source t) s = .next (x))
    ∧ (∀ (target : Target) (source : Nat) (t : Instant) (s : State) (w : State),
      source < 176 →
      (s.target target).inServ.getLsbD source = true →
      w = (s.tick t).setTarget target { (s.target target) with inServ := (s.target target).inServ &&& ~~~ BitVec.ofNat 176 (2 ^ source) } →
      target.host = none →
      source < 160 →
      (s.effTarget (s.route source).target) ≠ target →
      exec (.evcComplete target source t) s = .next (State.recheck (s.tick t) w (s.effTarget (s.route source).target)))
    ∧ (∀ (target : Target) (t : Instant) (s : State),
      exec (.evlogPop target t) s = .next ((s.tick t).setTarget target { (s.target target) with log := (s.target target).log.drop 1 }))
    ∧ (∀ (_target : Target) (n : Nat) (t : Instant) (s : State),
      n < 32 →
      exec (.evcSoftSet _target n t) s = .next ((s.tick t).raise 0x0C00 (128 + n) [] t))
    ∧ (∀ (core : AppCore) (pc : Word) (t : Instant) (s : State) (src : Nat),
      (s.ac core).status = .running →
      (s.ac core).mie = true →
      (s.tick t).deliverable core.target = some src →
      exec (.evcDelivery core pc t) s = .next ((s.tick t).coreDelivers core pc src))
    ∧ (∀ (core : AppCore) (t : Instant) (s : State),
      (s.ac core).status = .running →
      0 < (s.ac core).depth →
      (s.tick t).deliverable core.target = none →
      exec (.evcExit core t) s = .next ((s.tick t).coreReturns core))
    ∧ (∀ (core : AppCore) (t : Instant) (s : State) (src : Nat),
      (s.ac core).status = .running →
      0 < (s.ac core).depth →
      (s.tick t).deliverable core.target = some src →
      exec (.evcExit core t) s = .next ((s.tick t).enterVector core src))
    ∧ (∀ (pallet : Nat) (t : Instant) (s : State),
      pallet < 3 →
      s.snapBusy = false →
      exec (.palletTrigger pallet t) s = .next ((s.tick t).setSnaps (s.cores.snaps ++ [{ t := State.usCeil (t + us 2), pallet := pallet, byReg := true }])))
    ∧ (∀ (pallet : Nat) (t : Instant) (s : State),
      pallet < 3 →
      s.snapBusy = true →
      exec (.palletTrigger pallet t) s = .next ({ (s.tick t) with cores := { s.cores with missed := true } }))
    ∧ (∀ (t : Instant) (s : State) (w : State) (x : Snapshot),
      w = (s.tick t).periodicDue t →
      w.snapsDue t = [x] →
      w.snapBusy = false →
      exec (.palletSnapshotStart t) s = .next (w.beginSnap x))
    ∧ (∀ (t : Instant) (s : State) (w : State),
      w = (s.tick t).periodicDue t →
      exec (.palletSnapshotStart t) s = .next ((w.snapsDue t).foldl (State.startSnap t) w))
    ∧ (∀ (t : Instant) (s : State) (x : Snapshot),
      s.cores.snaps.find? (·.begun) = some x →
      exec (.palletDone t) s = .next ((s.tick t).snapDone x t))

/-- Cold and warm resets of every cause are taken; the release starts the boot; a slot and a host image are checked and run or leave their code; the configuration part runs; forwarding starts; wake sources wake the device; OTP writes, erases and the update timeout end. -/
def Obligations.PowerAndBootEventsComplete : Prop :=
    (∀ (cause bootsel : Nat) (hostcfg : Bool) (t : Instant) (s : State),
      (cause = 1 ∨ cause = 2) →
      exec (.coldReset cause bootsel hostcfg t) s = .next ((s.tick t).coldReset cause bootsel hostcfg))
    ∧ (∀ (cause bootsel : Nat) (hostcfg : Bool) (t : Instant) (s : State) (w : PowerWait × Instant × Nat),
      cause = 6 →
      (s.tick t).resetDue true t = some w →
      exec (.coldReset cause bootsel hostcfg t) s = .next (((s.tick t).endCommand w.2.2 State.stOk [] w.2.1).coldReset 6 bootsel hostcfg))
    ∧ (∀ (cause : Nat) (t : Instant) (s : State),
      (cause = 3 ∨ cause = 4) →
      exec (.warmReset cause t) s = .next ((s.tick t).warmReset cause))
    ∧ (∀ (cause : Nat) (t : Instant) (s : State) (w : PowerWait × Instant × Nat),
      cause = 5 →
      (s.tick t).resetDue false t = some w →
      exec (.warmReset cause t) s = .next (((s.tick t).endCommand w.2.2 State.stOk [] w.2.1).warmReset 5))
    ∧ (∀ (cause : Nat) (t : Instant) (s : State),
      cause = 7 →
      exec (.warmReset cause t) s = .next ((s.tick t).firmwareFailure))
    ∧ (∀ (t : Instant) (s : State),
      s.pwr.inReset = true →
      s.pwr.hold ≤ t →
      exec (.resetRelease t) s = .next (s.released))
    ∧ (∀ (src : ImageSource) (readable : Bool) (t : Instant) (s : State) (b trial : Bool),
      (s.tick t).nextSlot = some (b, trial) →
      (s.tick t).booting = true →
      src = (if b then ImageSource.slotB else .slotA) →
      (s.tick t).imageCode ((s.tick t).slotRead b) readable = 0 →
      exec (.bootImageVerify src readable t) s = .next (((s.tick t).slotReason b 0).runImage ((s.tick t).slotRead b) (if b then 2 else 1) trial))
    ∧ (∀ (src : ImageSource) (readable : Bool) (t : Instant) (s : State) (b trial : Bool) (c : Nat) (w : State),
      (s.tick t).nextSlot = some (b, trial) →
      (s.tick t).booting = true →
      src = (if b then ImageSource.slotB else .slotA) →
      c = (s.tick t).imageCode ((s.tick t).slotRead b) readable →
      c ≠ 0 →
      w = (s.tick t).slotReason b c →
      exec (.bootImageVerify src readable t) s = .next (if w.nextSlot.isSome then w else w.awaitHost))
    ∧ (∀ (h : HostPort) (image : List Byte) (t : Instant) (s : State),
      s.pwr.stage = 8 →
      s.pwr.recovSt = 2 →
      (h = .h0 ∨ s.pwr.hostcfg = false) →
      (s.tick t).hostImageCode image = 0 →
      exec (.recoveryLoad h image t) s = .next ({ (s.tick t) with pwr := { s.pwr with recovRes := 0 } }.runImage (State.hostRead image) 3 false))
    ∧ (∀ (h : HostPort) (image : List Byte) (t : Instant) (s : State) (c : Nat),
      s.pwr.stage = 8 →
      s.pwr.recovSt = 2 →
      h = .h0 →
      (s.tick t).hostImageCode image = c →
      c ≠ 0 →
      exec (.recoveryLoad h image t) s = .next ({ (s.tick t) with pwr := { s.pwr with recovRes := c, recovSt := 4 } }))
    ∧ (∀ (t : Instant) (s : State),
      s.pwr.image ≠ 0 →
      s.pwr.stage = 4 →
      s.started = true →
      s.pwr.inReset = false →
      exec (.configPartRun t) s = .next ((s.tick t).configPart t))
    ∧ (∀ (t : Instant) (s : State) (f : Instant),
      s.pwr.fwdAt = some f →
      f ≤ t →
      s.fab.forwarding = false →
      s.pwr.asleep = none →
      exec (.forwardingStart t) s = .next ((s.tick t).forwards f t))
    ∧ (∀ (t : Instant) (s : State) (b : Instant),
      s.pwr.asleep = some b →
      0 < s.pwr.wakeAfter →
      b + (s.tick t).aonLeast (ms s.pwr.wakeAfter) ≤ t →
      exec (.wakeTimerExpiry t) s = .next ((s.tick t).wakeSource 15))
    ∧ (∀ (_fn : Sender) (t : Instant) (s : State),
      exec (.pwrWake _fn t) s = .next ((s.tick t).wakeSource 14))
    ∧ (∀ (wakeN : Bool) (t : Instant) (s : State),
      wakeN = false →
      s.pwr.asleep ≠ none →
      s.pwr.wakePend = true →
      exec (.wake wakeN t) s = .next ((s.tick t).wakeUp t))
    ∧ (∀ (wakeN : Bool) (t : Instant) (s : State) (w : State),
      wakeN = true →
      w = (s.tick t).wakeSource 9 →
      w.pwr.asleep ≠ none →
      w.pwr.wakePend = true →
      exec (.wake wakeN t) s = .next (w.wakeUp t))
    ∧ (∀ (t : Instant) (s : State) (app : Bool) (k : List Byte) (j : Nat) (w : State),
      s.pwr.otpWrite = some (.enrol app k, j) →
      w = { (s.tick t) with pwr := { s.pwr with otp := s.pwr.otp.apply (.enrol app k), otpWrite := none } } →
      exec (.otpWriteDone t) s = .next ((w.keyEvent 0 (if app then s.pwr.otp.apps.length else s.pwr.otp.owners.length) t).finish j State.stOk [] t))
    ∧ (∀ (t : Instant) (s : State) (n j : Nat),
      s.pwr.otpWrite = some (.floor n, j) →
      exec (.otpWriteDone t) s = .next ({ (s.tick t) with pwr := { s.pwr with otp := s.pwr.otp.apply (.floor n), otpWrite := none } }.finish j State.stOk [word 0] t))
    ∧ (∀ (t : Instant) (s : State) (u : FwUpdate) (j : Nat) (w : State),
      s.pwr.update = some u →
      u.erasing = some j →
      w = (s.tick t).setSlot u.slotB [] →
      exec (.flashEraseDone t) s = .next ({ w with pwr := { w.pwr with update := some { u with erasing := none } } }.finish j State.stOk [] t))
    ∧ (∀ (t : Instant) (s : State) (u : FwUpdate) (w : State),
      s.pwr.update = some u →
      u.last + sec 600 ≤ t →
      u.erasing = none →
      w = (s.tick t).setSlot u.slotB [] →
      exec (.fwUpdateTimeout t) s = .next ({ w with pwr := { w.pwr with update := none } }.updateEvent 2 7 t))

/-- A host write of a DWORD of BAR0 writes its register; a longer one is counted; BAR2 takes the bytes within the quarter; a running core stores into its map; a read gives its DWORDs; the next notice is taken, or times out in its slot. -/
def Obligations.RegisterAndNoticeEventsComplete : Prop :=
    (∀ (fn : Sender) (w : BarWrite) (t : Instant) (s : State) (off : Nat) (value : Word) (en : BitVec 4),
      fn.code < 4 →
      s.hostOff fn = false →
      w = .bar0 off value en →
      off % 4 = 0 →
      en ≠ 0 →
      exec (.registerWrite fn w t) s = .next ((s.tick t).regWrite fn off { v := value, m := State.enMask en } t))
    ∧ (∀ (fn : Sender) (w : BarWrite) (t : Instant) (s : State) (off : Nat),
      fn.code < 4 →
      s.hostOff fn = false →
      w = .bar0Long off →
      exec (.registerWrite fn w t) s = .next ((s.tick t).countF fn 0))
    ∧ (∀ (fn : Sender) (w : BarWrite) (t : Instant) (s : State) (off : Nat) (bytes : List Byte),
      fn.code < 4 →
      s.hostOff fn = false →
      w = .bar2 off bytes →
      exec (.registerWrite fn w t) s = .next ({ (s.tick t) with host := { s.host with sram := s.host.sram.writeN (State.quarterBase fn + off) (bytes.take (0x80000 - off)) } }))
    ∧ (∀ (fn : Sender) (w : BarWrite) (t : Instant) (s : State) (addr : Nat) (value : Word) (c : AppCore),
      w = .core addr value →
      fn.core = some c →
      (s.ac c).status = .running →
      exec (.registerWrite fn w t) s = .next ((s.tick t).mapWrite c addr value t))
    ∧ (∀ (fn : Sender) (off len : Nat) (t : Instant) (s : State) (r : List Word × State),
      fn.code < 4 →
      s.hostOff fn = false →
      off % 4 = 0 →
      0 < len →
      len ≤ 128 →
      r = State.readDwords fn t ((len + 3) / 4) off len (s.tick t) →
      exec (.rcFieldRead fn off len t) s = .next ({ r.2 with host := { r.2.host with lastRead := r.1 } }))
    ∧ (∀ (dma : Option (List Word)) (t : Instant) (s : State) (slot : Nat) (n : Notice),
      s.host.ready = true →
      (s.tick t).nextNotice = some (slot, n) →
      t ≤ n.until_ →
      exec (.noticeTake dma t) s = .next ((s.tick t).takeNotice slot n dma t))
    ∧ (∀ (dma : Option (List Word)) (t : Instant) (s : State) (slot : Nat) (n : Notice),
      s.host.ready = true →
      (s.tick t).nextNotice = some (slot, n) →
      n.until_ < t →
      exec (.noticeTake dma t) s = .next ((s.tick t).timeoutNotice slot n))

/-- With a command at the front of the queue, step is exec of that command on the state with the rest of the queue. -/
def Obligations.StepRunsFrontCommand : Prop :=
    (∀ (c : Instr) (rest : List Instr) (s : State), s.pending = c :: rest → step s = exec c { s with pending := rest })

/-- With no command waiting, step answers the same state: the model's choice, assumption 4. -/
def Obligations.EmptyQueueIdles : Prop :=
    (∀ (s : State), s.pending = [] → step s = .next s)

/-- Every command, in every state, answers a next state: no fault and no refusal. An event whose condition does not hold changes nothing (the model's choice, assumption 7). -/
def Obligations.EveryCommandAnswersNext : Prop :=
    (∀ (i : Instr) (s : State), ∃ t, exec i s = .next t)

/-- After reset the semaphore is FREE with LEASE 400 and MB_TIMEOUT 200, no command is open or waiting, every counter is 0 with its overflow bit clear, the policy is FIRST_STEP and COUNTER_PF0 alone, the pools hold 32,768 and 8,192 tiles, the automatic calibrations are on with CAL_DT 30, the grid offset is 0, and no event is pending. -/
def Obligations.ResetValues : Prop :=
    (State.reset.semHolder = none ∧ State.reset.host.sem.lease = 400 ∧ State.reset.host.mbTimeout = 200
    ∧ State.reset.openAll = 0 ∧ State.reset.pending = [] ∧ (∀ i, State.reset.counter i = 0)
    ∧ State.reset.cores.ovfAny = false ∧ State.reset.pwr.policy = 0b001001#6 ∧ State.reset.cfg.c7Pool = 32768
    ∧ State.reset.cfg.fwPool = 8192 ∧ State.reset.lan.auto = 0xF#4 ∧ State.reset.lan.calDt = 30
    ∧ State.reset.tk.grid5 = 0 ∧ State.reset.cores.pendSh = 0
    ∧ (∀ t, (State.reset.target t).pend = 0 ∧ (State.reset.target t).inServ = 0 ∧ (State.reset.target t).log = []))

/-- For each command that comes as a packet: when the notice that the interpreter serves next points at a buffer whose words are the command's packet as R504 lays it out, with every operand at any value its field admits, NOTICE_TAKE has exactly the effect of that command on the state with the slot emptied and TAKEN set. -/
def Obligations.PacketIsItsCommand : Prop :=
    (∀ (c : Instr) (opcode slot : Nat) (r : Req) (n : Notice) (dma : Option (List Word)) (rest : List Word) (t : Instant)
      (s w : State),
      packetOfInstr c = some (opcode, r) → r.wf = true → s.host.ready = true → (s.tick t).nextNotice = some (slot, n) →
      t ≤ n.until_ → r.sender = n.sender → r.viaPriv = (decide (2 ≤ slot) && n.sender.core.isNone) → r.tag = n.tag →
      r.buf = n.buf → r.t = t → n.buf.len % 4 = 0 → n.buf.len ≤ 4096 → 16 + 4 * r.pw ≤ n.buf.len →
      w = ((s.tick t).setSlotOf slot none).setMbox n.sender slot
        { ((s.tick t).setSlotOf slot none).mbox n.sender slot with taken := true } →
      w.readPacket n.sender n.buf dma = some (packetOf opcode r ++ rest) →
      exec (.noticeTake dma t) s = exec c w)

/-- The notice served next stands in its slot, no waiting notice has an earlier GO, and of notices with the same GO the lowest slot is served, so the common mailboxes come first; there is none only when no slot holds a notice. -/
def Obligations.NoticesServedInOrder : Prop :=
    (∀ (s : State),
      (∀ (i : Nat) (n : Notice), s.nextNotice = some (i, n) → i < 8 ∧ s.slotOf i = some n ∧
        ∀ (j : Nat) (m : Notice), j < 8 → s.slotOf j = some m → n.t < m.t ∨ (n.t = m.t ∧ i ≤ j))
      ∧ (s.nextNotice = none → ∀ j, j < 8 → s.slotOf j = none))

/-- A single packet command completes with the status of the first of steps 3 to 8 of R506 that it fails: BAD_LENGTH, then BAD_PARAM for reserved FLAGS or an apply-at that the opcode does not allow, NOT_PERMITTED, NO_SEMAPHORE, and STATE in footing; the reply is all that the command does. -/
def Obligations.ChecksInOrder : Prop :=
    (∀ (c : Instr) (opcode : Nat) (r : Req) (op : OpSpec) (s : State),
      packetOfInstr c = some (opcode, r) → opTable opcode = some op → r.flags % 2 = 0 → s.slotFree r.viaPriv = true →
      (r.viaPriv || !s.batchOpen r.sender) = true →
      (((op.pw r && decide (16 + 4 * r.pw ≤ r.buf.len)) = false →
        exec c s = .next ((taken op r s).replyTo opcode s.host.nextJid State.stBadLength true [] r))
      ∧ ((op.pw r && decide (16 + 4 * r.pw ≤ r.buf.len)) = true →
        ((applyFits op r && decide (r.flags < 4)) = false →
          exec c s = .next ((taken op r s).replyTo opcode s.host.nextJid State.stBadParam true [] r))
        ∧ ((applyFits op r && decide (r.flags < 4)) = true →
          (maySend op r s = false →
            exec c s = .next ((taken op r s).replyTo opcode s.host.nextJid State.stNotPermitted true [] r))
          ∧ (maySend op r s = true →
            ((!op.sem || s.holds r.sender) = false →
              exec c s = .next ((taken op r s).replyTo opcode s.host.nextJid State.stNoSemaphore true [] r))
            ∧ ((!op.sem || s.holds r.sender) = true → (!(s.cfgAt (max s.now r.t)).footing || op.footing) = false →
              exec c s = .next ((taken op r s).replyTo opcode s.host.nextJid State.stState true [] r)))))))

/-- A single packet command with CHECK_ONLY leaves the data plane, the keepers, the lanes, timed I/O, power and security as they were, whatever its status. -/
def Obligations.CheckOnlyAppliesNothing : Prop :=
    (∀ (c : Instr) (opcode : Nat) (r : Req) (s t : State),
      packetOfInstr c = some (opcode, r) → r.checkOnly = true → singleReq r s = true → exec c s = .next t → s.sameDevice t)

/-- Each GET command, alone, leaves the data plane, the keepers, the lanes, timed I/O, power and security as they were (the GETs of event-pin and interval records, which take records out, are not among them). -/
def Obligations.ReadsChangeNothing : Prop :=
    (∀ (r : Req) (s t : State), singleReq r s = true →
      (exec (.nop r) s = .next t → s.sameDevice t)
      ∧ (exec (.sysInfoGet r) s = .next t → s.sameDevice t)
      ∧ (exec (.journalGet r) s = .next t → s.sameDevice t)
      ∧ (exec (.mortarGet r) s = .next t → s.sameDevice t)
      ∧ (exec (.portGet r) s = .next t → s.sameDevice t)
      ∧ (exec (.laneStatusGet r) s = .next t → s.sameDevice t)
      ∧ (exec (.quadGet r) s = .next t → s.sameDevice t)
      ∧ (exec (.eqGet r) s = .next t → s.sameDevice t)
      ∧ (exec (.moduleCfgGet r) s = .next t → s.sameDevice t)
      ∧ (exec (.ingressGet r) s = .next t → s.sameDevice t)
      ∧ (exec (.poolGet r) s = .next t → s.sameDevice t)
      ∧ (exec (.queueGet r) s = .next t → s.sameDevice t)
      ∧ (exec (.schedGet r) s = .next t → s.sameDevice t)
      ∧ (exec (.pauseGet r) s = .next t → s.sameDevice t)
      ∧ (exec (.mirrorGet r) s = .next t → s.sameDevice t)
      ∧ (exec (.l2Get r) s = .next t → s.sameDevice t)
      ∧ (exec (.tableCfgGet r) s = .next t → s.sameDevice t)
      ∧ (exec (.l2PortGet r) s = .next t → s.sameDevice t)
      ∧ (exec (.vlanGet r) s = .next t → s.sameDevice t)
      ∧ (exec (.streamGet r) s = .next t → s.sameDevice t)
      ∧ (exec (.meterGet r) s = .next t → s.sameDevice t)
      ∧ (exec (.recoveryGet r) s = .next t → s.sameDevice t)
      ∧ (exec (.courseGet r) s = .next t → s.sameDevice t)
      ∧ (exec (.courseEntryGet r) s = .next t → s.sameDevice t)
      ∧ (exec (.courseReportGet r) s = .next t → s.sameDevice t)
      ∧ (exec (.tkStatusGet r) s = .next t → s.sameDevice t)
      ∧ (exec (.refStatusGet r) s = .next t → s.sameDevice t)
      ∧ (exec (.refGet r) s = .next t → s.sameDevice t)
      ∧ (exec (.servoGet r) s = .next t → s.sameDevice t)
      ∧ (exec (.keeperCfgGet r) s = .next t → s.sameDevice t)
      ∧ (exec (.ptpPortGet r) s = .next t → s.sameDevice t)
      ∧ (exec (.synceGet r) s = .next t → s.sameDevice t)
      ∧ (exec (.refinGet r) s = .next t → s.sameDevice t)
      ∧ (exec (.linkTimingGet r) s = .next t → s.sameDevice t)
      ∧ (exec (.asymGet r) s = .next t → s.sameDevice t)
      ∧ (exec (.linkStatusGet r) s = .next t → s.sameDevice t)
      ∧ (exec (.evtCfgGet r) s = .next t → s.sameDevice t)
      ∧ (exec (.timCfgGet r) s = .next t → s.sameDevice t)
      ∧ (exec (.timStatsGet r) s = .next t → s.sameDevice t)
      ∧ (exec (.mrefGet r) s = .next t → s.sameDevice t)
      ∧ (exec (.ckoGet r) s = .next t → s.sameDevice t)
      ∧ (exec (.ckoPhaseGet r) s = .next t → s.sameDevice t)
      ∧ (exec (.counterGet r) s = .next t → s.sameDevice t)
      ∧ (exec (.palletGet r) s = .next t → s.sameDevice t)
      ∧ (exec (.counterCatalogGet r) s = .next t → s.sameDevice t)
      ∧ (exec (.bondStatusGet r) s = .next t → s.sameDevice t)
      ∧ (exec (.bondCfgGet r) s = .next t → s.sameDevice t)
      ∧ (exec (.footingCfgGet r) s = .next t → s.sameDevice t)
      ∧ (exec (.calCfgGet r) s = .next t → s.sameDevice t)
      ∧ (exec (.policyGet r) s = .next t → s.sameDevice t)
      ∧ (exec (.keyStatusGet r) s = .next t → s.sameDevice t)
      ∧ (exec (.powerStatusGet r) s = .next t → s.sameDevice t)
      ∧ (exec (.wakeCfgGet r) s = .next t → s.sameDevice t)
      ∧ (exec (.evcRouteGet r) s = .next t → s.sameDevice t)
      ∧ (exec (.evcTargetGet r) s = .next t → s.sameDevice t)
      ∧ (exec (.acStatusGet r) s = .next t → s.sameDevice t)
      ∧ (exec (.acPermitGet r) s = .next t → s.sameDevice t))

/-- When the PERST_N of the host that holds the semaphore is asserted, or its PCIe link goes down, the semaphore is free in the next state; a Function Level Reset leaves the semaphore as it is. -/
def Obligations.SemaphoreReleasedOnLinkLoss : Prop :=
    (∀ (h : HostPort) (fn : Sender) (t : Instant) (s : State),
      (s.semHolder = some h → (s.hostRegs h).perst = false → ∃ u, exec (.hostReset h t) s = .next u ∧ u.semHolder = none)
      ∧ (s.semHolder = some h → ∃ u, exec (.semLinkLost h t) s = .next u ∧ u.semHolder = none)
      ∧ (∃ u, exec (.functionLevelReset fn t) s = .next u ∧ u.host.sem = s.host.sem))

/-- SEM_ACQUIRE while the other host holds an unexpired lease leaves the holder and EPOCH; while the semaphore is free, or the other host's lease has expired, the acquirer holds it and EPOCH is one more modulo 2^16; a holder that acquires again keeps it and EPOCH, or is granted it anew where the lease ran out in an earlier tick. A host that HOSTCFG leaves off acquires nothing. -/
def Obligations.SemaphoreGrants : Prop :=
    (∀ (h g : HostPort) (t : Instant) (s : State), g ≠ h →
      (s.hostOff h.pf0 = true → exec (.semAcquire h t) s = .next (s.tick t))
      ∧ (s.hostOff h.pf0 = false →
      (s.semHolder = some g → t < s.host.sem.expiry →
        ∃ u, exec (.semAcquire h t) s = .next u ∧ u.semHolder = some g ∧ u.host.sem.epoch = s.host.sem.epoch)
      ∧ (s.semHolder = none ∨ (s.semHolder = some g ∧ s.host.sem.expiry ≤ t) →
        ∃ u, exec (.semAcquire h t) s = .next u ∧ u.semHolder = some h
          ∧ u.host.sem.epoch = (s.host.sem.epoch + 1) % 65536)
      ∧ (s.semHolder = some h → t < s.host.sem.expiry + us 1 →
        ∃ u, exec (.semAcquire h t) s = .next u ∧ u.semHolder = some h ∧ u.host.sem.epoch = s.host.sem.epoch)
      ∧ (s.semHolder = some h → s.host.sem.expiry + us 1 ≤ t →
        ∃ u, exec (.semAcquire h t) s = .next u ∧ u.semHolder = some h
          ∧ u.host.sem.epoch = (s.host.sem.epoch + 1) % 65536)))

/-- Of an instant whose seconds fit 64 bits, word 0 holds the low and word 1 the high 32 bits of the seconds, word 2 the nanoseconds below 10^9 and word 3 the sub-ns units below 2^16; the four words give the instant back. -/
def Obligations.InstantWordsReadBack : Prop :=
    (∀ (t : Nat), t < sec 18446744073709551616 →
      ∃ w0 w1 w2 w3, instantWords t = [w0, w1, w2, w3] ∧ instantOfWords w0 w1 w2 w3 = t
        ∧ w0.toNat + 4294967296 * w1.toNat = t / sec 1 ∧ w2.toNat = t % sec 1 / ns 1 ∧ w2.toNat ≤ 999999999
        ∧ w3.toNat = t % ns 1 ∧ w3.toNat < 65536)

/-- The seconds of an apply-at field extend to a value congruent modulo 2^32 to the field that lies within 2^31 s of the current TK seconds; no other congruent value lies nearer. -/
def Obligations.ApplyAtSecondsNearest : Prop :=
    (∀ (cur v : Nat),
      (nearest32 cur v - v) % 4294967296 = 0
      ∧ (nearest32 cur v - cur).natAbs ≤ 2147483648
      ∧ (∀ y : Int, (y - v) % 4294967296 = 0 → (nearest32 cur v - cur).natAbs ≤ (y - cur).natAbs)
      ∧ (∀ (r : Req) (now : Instant), 0 ≤ nearest32 (now / sec 1) r.applySec →
        (r.applyAt now : Int) = nearest32 (now / sec 1) r.applySec * (sec 1 : Nat) + (ns r.applyNs : Nat)))

/-- An increment that would reach or pass 2^64 - 1 leaves the counter at all ones with its overflow set and raises EV_COUNTER_SAT; a smaller one adds; a counter at all ones never changes; the increment itself leaves every other counter. -/
def Obligations.CountersSaturate : Prop :=
    (∀ (s : State) (i n : Nat),
      (0 < n → s.counter i + n < 18446744073709551615 → (s.count i n).counter i = s.counter i + n)
      ∧ (s.counter i ≠ 18446744073709551615 → 18446744073709551615 ≤ s.counter i + n →
        (s.countQuiet i n).counter i = 18446744073709551615 ∧ (s.countQuiet i n).cores.ovfAny = true
        ∧ (s.countQuiet i n).cores.ovfLast = i ∧ s.count i n = (s.countQuiet i n).raise 0x0701 103 [bytesBE 2 i] s.now)
      ∧ (s.counter i = 18446744073709551615 → s.count i n = s)
      ∧ (∀ j, j ≠ i → (s.countQuiet i n).counter j = s.counter j))

/-- AC_LOAD of a core that is RUNNING or HELD completes STATE; one whose OFFSET + 4 x (PW - 2) exceeds 262,144 completes BAD_PARAM; else each data word stands in the TCM from OFFSET on, first byte in [7:0], and every other byte is 0 with CLEAR and as before without it. -/
def Obligations.AcLoadWritesTcm : Prop :=
    (∀ (r : Req) (s : State), accepted opAcLoad r s = true → s.memOk →
      ((s.ac (coreOf r)).status = .running ∨ (s.ac (coreOf r)).status = .held →
        exec (.acLoad r) s = .next ((taken opAcLoad r s).replyTo 0x0D00 s.host.nextJid State.stState true [] r))
      ∧ ((s.ac (coreOf r)).status ≠ .running → (s.ac (coreOf r)).status ≠ .held →
        (262144 < r.f 5 0 18 + 4 * (r.pw - 2) →
          exec (.acLoad r) s = .next ((taken opAcLoad r s).replyTo 0x0D00 s.host.nextJid State.stBadParam true [] r))
        ∧ (okAcLoad r = true → ∃ u m, exec (.acLoad r) s = .next (okReply opAcLoad r s u [])
          ∧ u = (taken opAcLoad r s).setAc (coreOf r) { s.ac (coreOf r) with tcm := m, status := .loaded }
          ∧ (∀ i k, i < r.pw - 2 → k < 4 → m.read (r.f 5 0 18 + 4 * i + k) = BitVec.ofNat 8 (r.w (6 + i) / 2 ^ (8 * k)))
          ∧ (∀ a, (a < r.f 5 0 18 ∨ r.f 5 0 18 + 4 * (r.pw - 2) ≤ a) →
            m.read a = if r.b 4 8 then 0#8 else Memory.read (s.ac (coreOf r)).tcm a))))

/-- A write of bytes at an offset of BAR2 stores them in the function's quarter of the message SRAM; every other byte of the SRAM, the TCMs and the rest of the device are as before. -/
def Obligations.Bar2WritesItsQuarter : Prop :=
    (∀ (fn : Sender) (off : Nat) (bytes : List Byte) (t : Instant) (s : State),
      fn.code < 4 → s.hostOff fn = false → off + bytes.length ≤ 0x80000 → s.memOk →
      ∃ u, exec (.registerWrite fn (.bar2 off bytes) t) s = .next u ∧ s.sameDevice u
        ∧ (∀ c, u.ac c = s.ac c)
        ∧ (∀ i, i < bytes.length → Memory.read u.host.sram (State.quarterBase fn + off + i) = bytes.getD i 0)
        ∧ (∀ a, (a < State.quarterBase fn + off ∨ State.quarterBase fn + off + bytes.length ≤ a) →
          Memory.read u.host.sram a = Memory.read s.host.sram a))

/-- LINK_PARK with PARK set, on a port that could park, completes CONFLICT while a valid kind-0 candidate names the port or the last TIMING frame from its far end carried CAND = 1; PARK_AUTO then asks for nothing. -/
def Obligations.ParkOfTimingPortConflicts : Prop :=
    (∀ (r : Req) (s : State) (i : Nat), accepted opLinkPark r s = true → r.f 4 0 7 < 48 → s.parkable (r.f 4 0 7) = true →
      r.only 4 0x8000007F = true → r.b 4 31 = true → (s.lane (r.f 4 0 7)).state ≠ .park →
      ((i < 16 ∧ (s.cand i).valid = true ∧ (s.cand i).kind = 0 ∧ (s.cand i).port = r.f 4 0 7)
        ∨ (s.link (r.f 4 0 7)).farCand = true) →
      exec (.linkPark r) s = .next ((taken opLinkPark r s).replyTo 0x0104 s.host.nextJid State.stConflict true [] r)
        ∧ (∀ t, exec (.parkAuto (r.f 4 0 7) t) s = .next (s.tick t)))

/-- The source that EVC_CLAIM returns is claimable, none claimable has a higher priority, and of those of equal priority it has the lowest number; it is in service and no longer pending in the next state unless it is a level source. With none claimable the read returns 0. -/
def Obligations.ClaimTakesBestSource : Prop :=
    (∀ (target : Target) (t : Instant) (s : State),
      (∀ src, (s.tick t).bestClaim target = some src →
        src < 176 ∧ (s.tick t).claimable target src = true
        ∧ (∀ x, x < 176 → (s.tick t).claimable target x = true →
          (s.tick t).prioAt target x < (s.tick t).prioAt target src ∨ ((s.tick t).prioAt target x = (s.tick t).prioAt target src ∧ src ≤ x))
        ∧ ∃ u, exec (.evcClaim target t) s = .next u ∧ u.host.lastRead = [word (2147483648 + src)]
          ∧ (u.target target).inServ.getLsbD src = true
          ∧ (src < 160 → u.cores.pendSh.getLsbD src = false)
          ∧ (160 ≤ src → (u.target target).pend.getLsbD (src - 160) = false))
      ∧ ((s.tick t).bestClaim target = none →
        (∀ x, x < 176 → (s.tick t).claimable target x = false)
        ∧ ∃ u, exec (.evcClaim target t) s = .next u ∧ u.host.lastRead = [0]))

/-- A core's send to a host whose queue holds fewer than 16, with the right to send, puts MSG_TX at the end of the queue; a send to a full queue, or without the right, leaves it. A pop by the host takes the oldest message. -/
def Obligations.MessageQueues : Prop :=
    (∀ (c : AppCore) (t : Instant) (s : State), (s.ac c).status = .running →
      ((s.ac c).toH0.length < 16 → State.msgRight (s.ac c) .h0 = true →
        ∃ u, exec (.acMsgSend c true false t) s = .next u ∧ (u.ac c).toH0 = (s.ac c).toH0 ++ [State.msgWords (s.ac c).msgTx 0])
      ∧ (16 ≤ (s.ac c).toH0.length ∨ State.msgRight (s.ac c) .h0 = false →
        ∃ u, exec (.acMsgSend c true false t) s = .next u ∧ (u.ac c).toH0 = (s.ac c).toH0)
      ∧ (∃ u, exec (.hostMsgPop .h0 (c == .ac0) (c == .ac1) t) s = .next u ∧ (u.ac c).toH0 = (s.ac c).toH0.drop 1))

/-- An event whose source has a nonzero priority writes a record at the end of the log of a host that is its target while the log holds fewer than 64; with 64 the log stays and LOG_OVF is set; either way the sequence number advances and the source is pended. -/
def Obligations.EventLogKeepsSixtyFour : Prop :=
    (∀ (code src : Nat) (ps : List (List Byte)) (at_ : Instant) (latched : Bool) (s : State) (h : HostPort),
      src < 160 → (s.route src).target = (match h with | .h0 => Target.h0 | .h1 => Target.h1) → 0 < (s.route src).prio →
      let k := (s.route src).target
      let u := s.raise code src ps at_ latched
      u.cores.pendSh.getLsbD src = true ∧ (u.target k).seq = ((s.target k).seq + 1) % 256
        ∧ ((s.target k).log.length < 64 → (u.target k).log.length = (s.target k).log.length + 1
          ∧ (u.target k).log.take (s.target k).log.length = (s.target k).log)
        ∧ (64 ≤ (s.target k).log.length → (u.target k).log = (s.target k).log ∧ (u.target k).ovf = true))

/-- If the message SRAM, both TCMs and both flash slots are in canonical form and step answers a next state, they are so in it. -/
def Obligations.MemoryStaysCanonical : Prop :=
    (∀ (s t : State), s.memOk → step s = .next t → t.memOk)

/-- At reset no memory lists a byte, and every memory is in canonical form. -/
def Obligations.MemoryCanonicalAtReset : Prop :=
    (State.reset.memOk ∧ State.reset.host.sram = [] ∧ State.reset.cores.ac0.tcm = [] ∧ State.reset.cores.ac1.tcm = [])

/-- A command leaves the queue of waiting commands as it finds it. -/
def Obligations.QueueIsTheHosts : Prop :=
    (∀ (i : Instr) (s t : State), exec i s = .next t → t.pending = s.pending)

/-- For LINK_TIMING_SET, ASYM_SET, SYNCE_SET, REFIN_SET, METER_SET and EQ_SET in range, the words that the GET gives for the settings of the packet are the packet's own parameter words. -/
def Obligations.SettingsReadBack : Prop :=
    (∀ (r : Req),
      (okLinkTimingSet r = true → r.pw = 3 → (ltCfgOf r).words (r.f 4 0 7) = r.params)
      ∧ (okAsymSet r = true → r.pw = 4 → (asymCfgOf r).words (r.f 4 0 7) = r.params)
      ∧ (okSynceSet r = true → r.pw = 1 → (synceOf r).words (r.f 4 0 7) = r.params)
      ∧ (okRefinSet r = true → r.pw = 3 → (refinOf r).words (r.f 4 0 1) = r.params)
      ∧ (okMeterSet r = true → r.pw = 5 → (meterOf r).words (r.f 4 0 15) = r.params)
      ∧ (okEqSet r = true → r.pw = 4 → (eqCfgOf r).words (r.f 4 0 7) = r.params))

/-- An accepted FW_UPDATE_BEGIN of a slot that does not run, with no update open, opens the update, starts the erasure and replies PENDING. FW_UPDATE_DATA at the bytes written so far and within LENGTH writes its data there and replies OK. FW_UPDATE_COMMIT of a slot that passes every check of R579 replies with word 4 equal to 0: VERIFY changes nothing else, ACTIVATE writes the directory that prefers the slot with TRIAL set, CONFIRM clears TRIAL, and RAISE_FLOOR, unless the running slot is on trial, opens the OTP write of the floor and replies PENDING. -/
def Obligations.FirmwareUpdateCommandsComplete : Prop :=
    (∀ (r : Req) (s : State), accepted opFwUpdateBegin r s = true →
      okFwUpdateBegin r = true →
      (taken opFwUpdateBegin r s).runsSlot (r.b 4 0) = false →
      s.pwr.update = none →
      exec (.fwUpdateBegin r) s = .next (pendingReply opFwUpdateBegin r s (({ (taken opFwUpdateBegin r s) with pwr := { s.pwr with update := some { slotB := r.b 4 0, length := r.w 5, last := r.t, erasing := some s.host.nextJid } } }.updateEvent 0 7 r.t)) ([])))
    ∧ (∀ (r : Req) (s : State) (u : FwUpdate), accepted opFwUpdateData r s = true → s.pwr.update = some u → u.erasing = none →
      r.only 4 0x7FFFFF = true → r.f 4 0 23 % 4 = 0 → r.f 4 0 23 = u.written →
      r.f 4 0 23 + 4 * (r.pw - 1) ≤ (u.length + 3) / 4 * 4 →
      exec (.fwUpdateData r) s = .next (okReply opFwUpdateData r s
        ((taken opFwUpdateData r s).fwWrite u (State.wordsBytes (r.params.drop 1)) (4 * (r.pw - 1)) r.t) []))
    ∧ (∀ (r : Req) (s : State), accepted opFwUpdateCommit r s = true →
      (r.f 4 0 2 == 3 && s.pwr.trial) = false →
      r.only 4 0x103 = true →
      (taken opFwUpdateCommit r s).imageCode ((taken opFwUpdateCommit r s).slotRead (r.b 4 8)) true = 0 →
      r.f 4 0 2 = 0 →
      exec (.fwUpdateCommit r) s = .next (okReply opFwUpdateCommit r s ((taken opFwUpdateCommit r s).touchUpdate r.t) ([word 0])))
    ∧ (∀ (r : Req) (s : State), accepted opFwUpdateCommit r s = true →
      (r.f 4 0 2 == 3 && s.pwr.trial) = false →
      r.only 4 0x103 = true →
      (taken opFwUpdateCommit r s).imageCode ((taken opFwUpdateCommit r s).slotRead (r.b 4 8)) true = 0 →
      r.f 4 0 2 = 1 →
      exec (.fwUpdateCommit r) s = .next (okReply opFwUpdateCommit r s ((taken opFwUpdateCommit r s).fwActivate (r.b 4 8) r.t) ([word 0])))
    ∧ (∀ (r : Req) (s : State), accepted opFwUpdateCommit r s = true →
      (r.f 4 0 2 == 3 && s.pwr.trial) = false →
      r.only 4 0x103 = true →
      (taken opFwUpdateCommit r s).imageCode ((taken opFwUpdateCommit r s).slotRead (r.b 4 8)) true = 0 →
      r.f 4 0 2 = 2 →
      exec (.fwUpdateCommit r) s = .next (okReply opFwUpdateCommit r s ((taken opFwUpdateCommit r s).fwConfirm r.t) ([word 0])))
    ∧ (∀ (r : Req) (s : State), accepted opFwUpdateCommit r s = true →
      s.pwr.trial = false →
      r.only 4 0x103 = true →
      (taken opFwUpdateCommit r s).imageCode ((taken opFwUpdateCommit r s).slotRead (r.b 4 8)) true = 0 →
      r.f 4 0 2 = 3 →
      s.pwr.otpWrite = none →
      exec (.fwUpdateCommit r) s = .next (pendingReply opFwUpdateCommit r s ({ (taken opFwUpdateCommit r s).touchUpdate r.t with pwr := { ((taken opFwUpdateCommit r s).touchUpdate r.t).pwr with otpWrite := some (.floor s.pwr.svn, s.host.nextJid) } }) ([])))
end

