-- ==== Sys2Proof/Machine/Bricks.lean ====
section
/-! DEFINITION. Bricks and tiles (02 R37 to R42): the 36-bit brick and its tags, how a receiver reads one, the bricks
of a frame and of the other channel items, and the tiles of 8 bricks a frame fills. The machine moves frames as
`Item`s, one for the lead tile and one for the end grout; this file gives the bricks they stand for. -/

namespace Sys2Proof.Machine

/-- A brick: its tag in bits [35:32] over 32 bits of data (02 R37). -/
abbrev Brick := BitVec 36

/-- The roles of a brick (02 R37). -/
inductive BrickTag
  | data | hdr | sof
  | eof (valid : Nat)        -- 1 to 4 valid bytes
  | grout | poison | fence
  deriving DecidableEq, Repr

/-- The tag's code. -/
def BrickTag.code : BrickTag → Nat
  | .data => 0x0 | .hdr => 0x1 | .sof => 0x2 | .eof v => 0x3 + v | .grout => 0x8 | .poison => 0x9 | .fence => 0xA

/-- The tag a code stands for, none for a reserved code (02 R37). -/
def BrickTag.ofCode : Nat → Option BrickTag
  | 0x0 => some .data | 0x1 => some .hdr | 0x2 => some .sof
  | 0x4 => some (.eof 1) | 0x5 => some (.eof 2) | 0x6 => some (.eof 3) | 0x7 => some (.eof 4)
  | 0x8 => some .grout | 0x9 => some .poison | 0xA => some .fence
  | _ => none

namespace Brick

def of (t : BrickTag) (w : Word) : Brick := BitVec.ofNat 4 t.code ++ w

def tag (b : Brick) : Nat := (b.extractLsb' 32 4).toNat
def word (b : Brick) : Word := b.extractLsb' 0 32

/-- How a unit reads a brick: one with a reserved tag is a POISON brick with reason 0x05 (02 R40). -/
def read (b : Brick) : BrickTag × Word :=
  match BrickTag.ofCode b.tag with
  | some t => (t, b.word)
  | none => (.poison, 0x05#32)

/-- Up to four frame bytes in wire order, the first in [31:24]; bytes that are not there are 0 (02 R37, R38). -/
def pack (bs : List Byte) : Word :=
  bs.getD 0 0 ++ bs.getD 1 0 ++ bs.getD 2 0 ++ bs.getD 3 0

end Brick

/-- `n` pieces of `k`, the last one short where the list ends in it. -/
def cut {α : Type} (k : Nat) : Nat → List α → List (List α)
  | 0, _ => []
  | n + 1, l => l.take k :: cut k n (l.drop k)

/-- The bricks that carry whole groups of four bytes: SOF for the first, DATA for the others (02 R42). -/
def wholeBricks : List (List Byte) → List Brick
  | [] => []
  | g :: gs => Brick.of .sof (Brick.pack g) :: gs.map fun g => Brick.of .data (Brick.pack g)

/-- HB0 to HB3 (02 R45). -/
def Frame.header (f : Frame) : List Brick := [f.hb0, f.hb1, f.hb2, f.hb3].map (Brick.of .hdr)

/-- A frame's bricks up to its end grout (02 R42): the header bricks, its bytes, and the EOF brick by L mod 4. A frame
ended by POISON keeps the whole bricks it had and has the POISON brick in the place of its EOF brick. -/
def Frame.bricks (f : Frame) : List Brick :=
  let n := f.bytes.length
  match f.poison with
  | none =>
    let last := f.bytes.drop ((n - 1) / 4 * 4)
    f.header ++ wholeBricks (cut 4 ((n - 1) / 4) f.bytes) ++ [Brick.of (.eof last.length) (Brick.pack last)]
  | some r =>
    f.header ++ wholeBricks (cut 4 (n / 4) f.bytes) ++ [Brick.of .poison (BitVec.ofNat 32 (r % 256))]

/-- The GROUT brick of a horizon or an end stamp, by its low 32 bits (02 R37). -/
def groutBrick (ns : Nat) : Brick := Brick.of .grout (BitVec.ofNat 32 ns)

/-- Bricks filled up to whole tiles with the end grout: at least one GROUT brick follows the bricks (02 R42). -/
def withGrout (bs : List Brick) (endNs : Nat) : List Brick :=
  bs ++ List.replicate (8 - bs.length % 8) (groutBrick endNs)

/-- The tiles of a frame that has ended, the last one with its end grout (02 R41, R42). -/
def Frame.tiles (f : Frame) (endNs : Nat) : List (List Brick) :=
  cut 8 (f.bricks.length / 8 + 1) (withGrout f.bricks endNs)

/-- The tiles of a frame as far as it is held: until it has ended, with no value yet for its end grout. -/
def Frame.held (f : Frame) : List (List Brick) := f.tiles (f.endNs.getD 0)

/-- The bricks of an ordered item or a grout on a channel: a lead tile is the frame's first tile, an end grout the
tile that carries it, a grout and a fence one brick each (02 R37, R41, R42). A learn notice is no brick. -/
def State.itemBricks (s : State) : Item → List Brick
  | .lead id => ((Tbl.get none s.fab.frames id).map fun f => f.held.headD []).getD []
  | .fin id => ((Tbl.get none s.fab.frames id).map fun f => f.held.getLastD []).getD []
  | .grout v => [groutBrick v]
  | .fence v => [Brick.of .fence (BitVec.ofNat 32 v)]
  | .notice _ _ => []

end Sys2Proof.Machine
end

