-- ==== Sys2Proof/Laws/Bricks.lean ====
section
/-! SUPPORT. The layout of a frame in bricks fills the tiles the buffer charges for it (02 R42, R44; 05 R180). -/

namespace Sys2Proof.Machine

@[simp] theorem wholeBricks_length (gs : List (List Byte)) : (wholeBricks gs).length = gs.length := by
  cases gs <;> simp [wholeBricks]

@[simp] theorem Frame.header_length (f : Frame) : f.header.length = 4 := rfl

@[simp] theorem cut_length {α : Type} (k n : Nat) (l : List α) : (cut k n l).length = n := by
  induction n generalizing l with
  | zero => rfl
  | succ n ih => simp [cut, ih]

/-- A whole frame has four header bricks and one brick for each group of four bytes. -/
theorem Frame.bricks_length (f : Frame) (h : f.poison = none) :
    f.bricks.length = 4 + (f.bytes.length - 1) / 4 + 1 := by
  simp only [Frame.bricks, h, List.length_append, Frame.header_length, wholeBricks_length, cut_length,
    List.length_singleton]

theorem Frame.bricks_length_poison (f : Frame) (r : Nat) (h : f.poison = some r) :
    f.bricks.length = 4 + f.bytes.length / 4 + 1 := by
  simp only [Frame.bricks, h, List.length_append, Frame.header_length, wholeBricks_length, cut_length,
    List.length_singleton]

/-- A frame that is not poisoned fills the tiles of R44. -/
theorem Frame.tiles_length (f : Frame) (e : Nat) (h : f.poison = none) (hl : 0 < f.bytes.length) :
    (f.tiles e).length = tilesOf f.bytes.length := by
  simp only [Frame.tiles, cut_length, Frame.bricks_length f h, tilesOf]; omega

/-- A poisoned frame fills the tiles that admission keeps charged for it. -/
theorem Frame.tiles_length_poison (f : Frame) (e r : Nat) (h : f.poison = some r) :
    (f.tiles e).length = tilesPoison f.bytes.length := by
  simp only [Frame.tiles, cut_length, Frame.bricks_length_poison f r h, tilesPoison]; omega

theorem cut_eight {α : Type} (n : Nat) (l : List α) (h : 8 * n ≤ l.length) : ∀ t ∈ cut 8 n l, t.length = 8 := by
  induction n generalizing l with
  | zero => intro t ht; cases ht
  | succ n ih =>
    intro t ht
    rcases List.mem_cons.1 ht with rfl | ht
    · simp only [List.length_take]; omega
    · exact ih (l.drop 8) (by simp only [List.length_drop]; omega) t ht

theorem withGrout_length (bs : List Brick) (e : Nat) :
    (withGrout bs e).length = 8 * (bs.length / 8 + 1) := by
  simp only [withGrout, List.length_append, List.length_replicate]; omega

/-- Every tile is 8 bricks. -/
theorem Frame.tiles_eight (f : Frame) (e : Nat) : ∀ t ∈ f.tiles e, t.length = 8 :=
  cut_eight _ _ (Nat.le_of_eq (withGrout_length f.bricks e).symm)

theorem cut_flatten {α : Type} (k n : Nat) (l : List α) : (cut k n l).flatten = l.take (k * n) := by
  induction n generalizing l with
  | zero => simp [cut]
  | succ n ih =>
    simp only [cut, List.flatten_cons, ih]
    rw [Nat.mul_succ, Nat.add_comm (k * n) k, List.take_add]

/-- The tiles in order are the frame's bricks followed by its end grout. -/
theorem Frame.tiles_flatten (f : Frame) (e : Nat) : (f.tiles e).flatten = withGrout f.bricks e := by
  rw [Frame.tiles, cut_flatten, ← withGrout_length f.bricks e, List.take_length]

end Sys2Proof.Machine
end

