-- ==== Sys2Proof/Laws/Ops.lean ====
section
/-! SUPPORT. What the shared operations on State can do: for each, one law that names every field it may change. -/

namespace Sys2Proof.Machine.State

/-- Two states that differ at most in the functions' registers, the event concentrator, the counters, the pallets and
what has left the device. -/
def EventOnly (s t : State) : Prop :=
  ∃ fns targets pend lim ctr last any p0 p1 out,
    t = { s with
      host := { s.host with fns := fns }
      cores := { s.cores with
        targets := targets, pendSh := pend, limiter := lim, counters := ctr, ovfLast := last, ovfAny := any
        pallet0 := p0, pallet1 := p1 }
      out := out }

theorem EventOnly.refl (s : State) : EventOnly s s := ⟨_, _, _, _, _, _, _, _, _, _, rfl⟩

theorem EventOnly.trans {s t u : State} (h : EventOnly s t) (k : EventOnly t u) : EventOnly s u := by
  obtain ⟨_, _, _, _, _, _, _, _, _, _, rfl⟩ := h
  obtain ⟨_, _, _, _, _, _, _, _, _, _, rfl⟩ := k
  exact ⟨_, _, _, _, _, _, _, _, _, _, rfl⟩

theorem setFn_eventOnly (s : State) (x : Sender) (r : FnRegs) : EventOnly s (s.setFn x r) :=
  ⟨_, _, _, _, _, _, _, _, _, _, rfl⟩

theorem setTarget_eventOnly (s : State) (t : Target) (v : EvcTarget) : EventOnly s (s.setTarget t v) :=
  ⟨_, _, _, _, _, _, _, _, _, _, rfl⟩

theorem emit_eventOnly (s : State) (o : Out) : EventOnly s (s.emit o) := ⟨_, _, _, _, _, _, _, _, _, _, rfl⟩

theorem msixSend_eventOnly (s : State) (x : Sender) (v : Nat) : EventOnly s (s.msixSend x v) := by
  unfold msixSend
  dsimp only
  split
  · exact setFn_eventOnly ..
  · exact emit_eventOnly ..

theorem ringDb_eventOnly (s : State) (x : Sender) (b : Nat) : EventOnly s (s.ringDb x b) := by
  unfold ringDb
  dsimp only
  split
  · exact .refl s
  · split
    · exact setFn_eventOnly ..
    · exact (setFn_eventOnly ..).trans (msixSend_eventOnly ..)

theorem ringDbBoth_eventOnly (s : State) (h : HostPort) (b : Nat) : EventOnly s (s.ringDbBoth h b) :=
  (ringDb_eventOnly ..).trans (ringDb_eventOnly ..)

theorem recheck_eventOnly (b s : State) (t : Target) : EventOnly s (recheck b s t) := by
  unfold recheck
  split
  · exact .refl s
  · split
    · exact ringDbBoth_eventOnly ..
    · exact .refl s

theorem setPallet_eventOnly (s : State) (n : Nat) (p : Pallet) : EventOnly s (s.setPallet n p) := by
  unfold setPallet
  split <;> exact ⟨_, _, _, _, _, _, _, _, _, _, rfl⟩

theorem countPast_eventOnly (s : State) (i n : Nat) : EventOnly s (s.countPast i n) := by
  unfold countPast
  split
  · split
    · exact setPallet_eventOnly ..
    · exact .refl s
  · exact .refl s

theorem countQuiet_eventOnly (s : State) (i n : Nat) : EventOnly s (s.countQuiet i n) := by
  unfold countQuiet
  dsimp only
  refine (countPast_eventOnly s i n).trans ?_
  split
  · exact .refl _
  · split <;> exact ⟨_, _, _, _, _, _, _, _, _, _, rfl⟩

theorem logEvent_eventOnly (s : State) (t : Target) (c k : Nat) (ps : List Byte) (l : Bool) (a : Instant) :
    EventOnly s (s.logEvent t c k ps l a) := by
  unfold logEvent
  dsimp only
  split
  · exact (setTarget_eventOnly ..).trans (countQuiet_eventOnly ..)
  · exact setTarget_eventOnly ..

theorem raise_eventOnly (s : State) (c k : Nat) (ps : List (List Byte)) (a : Instant) (l : Bool) :
    EventOnly s (s.raise c k ps a l) := by
  unfold raise
  dsimp only
  refine EventOnly.trans ?_ (recheck_eventOnly ..)
  split
  · exact EventOnly.trans ⟨_, _, _, _, _, _, _, _, _, _, rfl⟩ (logEvent_eventOnly ..)
  · exact ⟨_, _, _, _, _, _, _, _, _, _, rfl⟩

theorem raisePrivate_eventOnly (s : State) (t : Target) (k : Nat) : EventOnly s (s.raisePrivate t k) :=
  (setTarget_eventOnly ..).trans (recheck_eventOnly ..)

theorem raiseLimited_eventOnly (s : State) (key c k : Nat) (ps : List (List Byte)) (a : Instant) :
    EventOnly s (s.raiseLimited key c k ps a) := by
  unfold raiseLimited
  split
  · exact .refl s
  · exact EventOnly.trans ⟨_, _, _, _, _, _, _, _, _, _, rfl⟩ (raise_eventOnly ..)

theorem count_eventOnly (s : State) (i n : Nat) : EventOnly s (s.count i n) := by
  unfold count
  dsimp only
  split
  · exact (countQuiet_eventOnly ..).trans (raise_eventOnly ..)
  · exact countQuiet_eventOnly ..

theorem countF_eventOnly (s : State) (x : Sender) (i n : Nat) : EventOnly s (s.countF x i n) := by
  unfold countF
  split
  · exact count_eventOnly ..
  · exact .refl s

/-! What an EventOnly change leaves. -/

variable {s t : State} (h : EventOnly s t)
include h

theorem EventOnly.now : t.now = s.now := by obtain ⟨_, _, _, _, _, _, _, _, _, _, rfl⟩ := h; rfl
theorem EventOnly.pending : t.pending = s.pending := by obtain ⟨_, _, _, _, _, _, _, _, _, _, rfl⟩ := h; rfl
theorem EventOnly.cfg : t.cfg = s.cfg := by obtain ⟨_, _, _, _, _, _, _, _, _, _, rfl⟩ := h; rfl
theorem EventOnly.fab : t.fab = s.fab := by obtain ⟨_, _, _, _, _, _, _, _, _, _, rfl⟩ := h; rfl
theorem EventOnly.tab : t.tab = s.tab := by obtain ⟨_, _, _, _, _, _, _, _, _, _, rfl⟩ := h; rfl
theorem EventOnly.egr : t.egr = s.egr := by obtain ⟨_, _, _, _, _, _, _, _, _, _, rfl⟩ := h; rfl
theorem EventOnly.crs : t.crs = s.crs := by obtain ⟨_, _, _, _, _, _, _, _, _, _, rfl⟩ := h; rfl
theorem EventOnly.tk : t.tk = s.tk := by obtain ⟨_, _, _, _, _, _, _, _, _, _, rfl⟩ := h; rfl
theorem EventOnly.lt : t.lt = s.lt := by obtain ⟨_, _, _, _, _, _, _, _, _, _, rfl⟩ := h; rfl
theorem EventOnly.flt : t.flt = s.flt := by obtain ⟨_, _, _, _, _, _, _, _, _, _, rfl⟩ := h; rfl
theorem EventOnly.lan : t.lan = s.lan := by obtain ⟨_, _, _, _, _, _, _, _, _, _, rfl⟩ := h; rfl
theorem EventOnly.tio : t.tio = s.tio := by obtain ⟨_, _, _, _, _, _, _, _, _, _, rfl⟩ := h; rfl
theorem EventOnly.pwr : t.pwr = s.pwr := by obtain ⟨_, _, _, _, _, _, _, _, _, _, rfl⟩ := h; rfl
theorem EventOnly.sem : t.host.sem = s.host.sem := by obtain ⟨_, _, _, _, _, _, _, _, _, _, rfl⟩ := h; rfl
theorem EventOnly.sram : t.host.sram = s.host.sram := by obtain ⟨_, _, _, _, _, _, _, _, _, _, rfl⟩ := h; rfl
theorem EventOnly.journal : t.host.journal = s.host.journal := by obtain ⟨_, _, _, _, _, _, _, _, _, _, rfl⟩ := h; rfl
theorem EventOnly.nextJid : t.host.nextJid = s.host.nextJid := by obtain ⟨_, _, _, _, _, _, _, _, _, _, rfl⟩ := h; rfl
theorem EventOnly.batch : t.host.batch = s.host.batch := by obtain ⟨_, _, _, _, _, _, _, _, _, _, rfl⟩ := h; rfl
theorem EventOnly.ac (c : AppCore) : t.ac c = s.ac c := by obtain ⟨_, _, _, _, _, _, _, _, _, _, rfl⟩ := h; cases c <;> rfl

end Sys2Proof.Machine.State
end

