-- ==== Sys2Proof/Laws/Interp.lean ====
section
/-! SUPPORT. An accepted command runs its body on the state that `taken` gives, and its body's answer decides the
rest. -/

namespace Sys2Proof.Machine

open State

theorem taken_eventOnly (op : OpSpec) (r : Req) (s : State) :
    ∃ u, EventOnly (s.tick r.t) u ∧ taken op r s = { u with host := { u.host with
      journal := Tbl.put s.host.journal s.host.nextJid (takenRec op r s)
      nextJid := s.host.nextJid + 1 } } := by
  have h := countF_eventOnly (s.tick r.t) r.sender 5 1
  have hj : ((s.tick r.t).countF r.sender 5).host.journal = s.host.journal := h.journal
  refine ⟨_, h, ?_⟩
  simp only [taken, setJrec, hj]

theorem taken_now (op : OpSpec) (r : Req) (s : State) : (taken op r s).now = max s.now r.t := by
  obtain ⟨u, h, e⟩ := taken_eventOnly op r s
  rw [e]; exact h.now
theorem taken_cfg (op : OpSpec) (r : Req) (s : State) : (taken op r s).cfg = s.cfg := by
  obtain ⟨u, h, e⟩ := taken_eventOnly op r s
  rw [e]; exact h.cfg
theorem taken_fab (op : OpSpec) (r : Req) (s : State) : (taken op r s).fab = s.fab := by
  obtain ⟨u, h, e⟩ := taken_eventOnly op r s
  rw [e]; exact h.fab
theorem taken_tab (op : OpSpec) (r : Req) (s : State) : (taken op r s).tab = s.tab := by
  obtain ⟨u, h, e⟩ := taken_eventOnly op r s
  rw [e]; exact h.tab
theorem taken_egr (op : OpSpec) (r : Req) (s : State) : (taken op r s).egr = s.egr := by
  obtain ⟨u, h, e⟩ := taken_eventOnly op r s
  rw [e]; exact h.egr
theorem taken_crs (op : OpSpec) (r : Req) (s : State) : (taken op r s).crs = s.crs := by
  obtain ⟨u, h, e⟩ := taken_eventOnly op r s
  rw [e]; exact h.crs
theorem taken_tk (op : OpSpec) (r : Req) (s : State) : (taken op r s).tk = s.tk := by
  obtain ⟨u, h, e⟩ := taken_eventOnly op r s
  rw [e]; exact h.tk
theorem taken_lt (op : OpSpec) (r : Req) (s : State) : (taken op r s).lt = s.lt := by
  obtain ⟨u, h, e⟩ := taken_eventOnly op r s
  rw [e]; exact h.lt
theorem taken_flt (op : OpSpec) (r : Req) (s : State) : (taken op r s).flt = s.flt := by
  obtain ⟨u, h, e⟩ := taken_eventOnly op r s
  rw [e]; exact h.flt
theorem taken_lan (op : OpSpec) (r : Req) (s : State) : (taken op r s).lan = s.lan := by
  obtain ⟨u, h, e⟩ := taken_eventOnly op r s
  rw [e]; exact h.lan
theorem taken_tio (op : OpSpec) (r : Req) (s : State) : (taken op r s).tio = s.tio := by
  obtain ⟨u, h, e⟩ := taken_eventOnly op r s
  rw [e]; exact h.tio
theorem taken_pwr (op : OpSpec) (r : Req) (s : State) : (taken op r s).pwr = s.pwr := by
  obtain ⟨u, h, e⟩ := taken_eventOnly op r s
  rw [e]; exact h.pwr
theorem taken_sem (op : OpSpec) (r : Req) (s : State) : (taken op r s).host.sem = s.host.sem := by
  obtain ⟨u, h, e⟩ := taken_eventOnly op r s
  rw [e]; exact h.sem
theorem taken_batch (op : OpSpec) (r : Req) (s : State) : (taken op r s).host.batch = s.host.batch := by
  obtain ⟨u, h, e⟩ := taken_eventOnly op r s
  rw [e]; exact h.batch
theorem taken_journal (op : OpSpec) (r : Req) (s : State) :
    (taken op r s).host.journal = Tbl.put s.host.journal s.host.nextJid (takenRec op r s) := by
  obtain ⟨u, h, e⟩ := taken_eventOnly op r s
  rw [e]
theorem taken_ac (op : OpSpec) (r : Req) (s : State) (c : AppCore) : (taken op r s).ac c = s.ac c := by
  obtain ⟨u, h, e⟩ := taken_eventOnly op r s
  rw [e]; exact h.ac c

/-- What `accepted` says, condition by condition. -/
theorem accepted_iff {op : OpSpec} {r : Req} {s : State} (h : accepted op r s = true) :
    s.slotFree r.viaPriv = true ∧ (r.viaPriv || !s.batchOpen r.sender) = true ∧ r.flags = 0 ∧ op.pw r = true
      ∧ 16 + 4 * r.pw ≤ r.buf.len ∧ op.known = true ∧ applyFits op r = true ∧ maySend op r s = true
      ∧ (op.sem = true → s.holds r.sender = true) ∧ ((s.cfgAt (max s.now r.t)).footing = true → op.footing = true) := by
  simp only [accepted, Bool.and_eq_true, decide_eq_true_eq, beq_iff_eq] at h
  obtain ⟨⟨⟨⟨⟨⟨⟨⟨⟨h1, h2⟩, h3⟩, h4⟩, h5⟩, h6⟩, h7⟩, h8⟩, h9⟩, h10⟩ := h
  refine ⟨h1, h2, h3, h4, h5, h6, h7, h8, ?_, ?_⟩
  · intro e; simpa [e] using h9
  · intro e; simpa [e] using h10

/-- An accepted command is stopped by none of the checks of 12 R506. -/
theorem precheck_accepted {op : OpSpec} {r : Req} {s : State} (h : accepted op r s = true) :
    precheck op r (taken op r s) false = none := by
  obtain ⟨-, -, h3, h4, h5, h6, h7, h8, h9, h10⟩ := accepted_iff h
  have e1 : ¬ (r.buf.len < 16 + 4 * r.pw ∨ (!op.pw r) = true) := by simp [h4]; omega
  have e2 : ¬ ((!op.known) = true) := by simp [h6]
  have hl : r.link = false := by simp [Req.link, h3, flag]
  have e3 : (decide (4 ≤ r.flags) || (r.link && (r.viaPriv || r.sender.core.isSome)) || false
      || (match op.apply with
          | .ignored => false
          | .mustBe v => r.resv || r.applyOn != v || (v && decide (999999999 < r.applyNs))
          | .honoured => r.resv || (r.applyOn && decide (999999999 < r.applyNs)))) = false := by
    rw [hl, h3]
    simp only [applyFits] at h7
    cases ha : op.apply with
    | ignored => simp
    | mustBe v => cases v <;> simp [ha] at h7 ⊢ <;> simp [h7]
    | honoured => simp [ha] at h7 ⊢; simpa [h7] using fun e => (h7.2).resolve_left (by simp [e])
  have ht : (taken op r s).hasTimeAuth r.sender = s.hasTimeAuth r.sender := by
    simp only [hasTimeAuth, taken_pwr]
  have hs : (taken op r s).holds r.sender = s.holds r.sender := by simp only [holds, taken_sem]
  have e4 : ((op.opcode / 256 == 0x0A && !r.sender.pf1)
      || ((taken op r s).pwr.lockPf0 && !r.sender.pf1 && (op.sem || op.owner))
      || (r.viaPriv && !op.priv)
      || (r.sender.core.isSome && !(op.priv || op.acAlso))
      || (match r.sender.core with
          | some c => op.opcode / 256 == 7 && !((taken op r s).ac c).permits.getLsbD 2
          | none => false)
      || (op.timeAuth && !(taken op r s).hasTimeAuth r.sender)) = false := by
    rw [ht, taken_pwr]
    simp only [maySend, bne] at h8
    simp only [taken_ac]
    clear h3 h4 h5 h6 h7 h9 h10 e1 e2 e3 hl ht
    generalize (op.opcode / 256 == 10) = g at h8 ⊢
    cases hc : r.sender.core with
    | none => grind
    | some c => rw [hc] at h8; generalize (op.opcode / 256 == 7) = g7 at h8 ⊢; grind
  have e5 : ¬ (op.sem = true ∧ (!(taken op r s).holds r.sender) = true) := by rw [hs]; rintro ⟨a, b⟩; simp [h9 a] at b
  have e6 : ¬ ((taken op r s).cfgNow.footing = true ∧ (!op.footing) = true) := by
    rw [show (taken op r s).cfgNow = s.cfgAt (max s.now r.t) by simp only [cfgNow, cfgAt, taken_cfg, taken_fab, taken_now]]
    rintro ⟨a, b⟩; simp [h10 a] at b
  exact (if_neg e1).trans <| (if_neg e2).trans <| (if_neg (ne_true_of_eq_false e3)).trans <|
    (if_neg (ne_true_of_eq_false e4)).trans <| (if_neg e5).trans (if_neg e6)

theorem applyInstant_taken (op : OpSpec) (r : Req) (s : State) :
    (if r.applyOn ∧ op.apply ≠ .ignored then some (r.applyAt (taken op r s).now) else none) = applyInstant op r s := by
  simp only [applyInstant, taken_now]

theorem runCommand_accepted {tbl : Nat → Option OpSpec} {op : OpSpec} {r : Req} {s : State}
    (h : accepted op r s = true) :
    runCommand tbl op r s =
      match commitOne op s.host.nextJid r (taken op r s) with
      | .inl s2 => s2
      | .inr f => (f.mark (taken op r s)).replyTo op.opcode s.host.nextJid f.status true f.words r := by
  obtain ⟨h1, h2, h3, -⟩ := accepted_iff h
  have hl : r.link = false := by simp [Req.link, h3, flag]
  have hc : r.checkOnly = false := by simp [Req.checkOnly, h3, flag]
  have hE := countF_eventOnly (s.tick r.t) r.sender 5 1
  have hf : ((s.tick r.t).countF r.sender 5).slotFree r.viaPriv = true := by
    have : ((s.tick r.t).countF r.sender 5).host.journal = s.host.journal := hE.journal
    simp only [slotFree, openAll, this] at h1 ⊢; exact h1
  have hb : (!r.viaPriv && (taken op r s).batchOpen r.sender) = false := by
    simp only [batchOpen, taken_batch] at h2 ⊢
    cases hv : r.viaPriv
    · simpa [hv] using h2
    · rfl
  unfold runCommand
  simp only [hf, Bool.not_true, Bool.false_eq_true, if_false]
  simp only [hb, hl, hc, Bool.false_eq_true, if_false, Bool.false_and, Bool.or_self, precheck_accepted h]
  all_goals rfl

theorem runCommand_done {tbl : Nat → Option OpSpec} {op : OpSpec} {r : Req} {s s' : State} {ws : List Word}
    (h : accepted op r s = true)
    (hb : op.body ⟨r, s.host.nextJid, applyInstant op r s⟩ (taken op r s) = .done s' ws) :
    runCommand tbl op r s = okReply op r s s' ws := by
  rw [runCommand_accepted h]
  simp only [commitOne, runBody, applyInstant_taken, hb, okReply]

theorem runCommand_wait {tbl : Nat → Option OpSpec} {op : OpSpec} {r : Req} {s s' : State} {ws : List Word}
    (h : accepted op r s = true)
    (hb : op.body ⟨r, s.host.nextJid, applyInstant op r s⟩ (taken op r s) = .wait s' ws) :
    runCommand tbl op r s = pendingReply op r s s' ws := by
  rw [runCommand_accepted h]
  simp only [commitOne, runBody, applyInstant_taken, hb, pendingReply]

theorem runCommand_fail {tbl : Nat → Option OpSpec} {op : OpSpec} {r : Req} {s : State} {st : Nat} {ws : List Word}
    {mark : State → State} (h : accepted op r s = true)
    (hb : op.body ⟨r, s.host.nextJid, applyInstant op r s⟩ (taken op r s) = .fail st ws mark) :
    runCommand tbl op r s = (mark (taken op r s)).replyTo op.opcode s.host.nextJid st true ws r := by
  rw [runCommand_accepted h]
  simp only [commitOne, runBody, applyInstant_taken, hb]

/-! ### Staging -/

theorem cfgAt_taken (op : OpSpec) (r : Req) (s : State) (a : Instant) : (taken op r s).cfgAt a = s.cfgAt a := by
  simp only [cfgAt, taken_fab, taken_cfg]

theorem txnSlots_taken (op : OpSpec) (r : Req) (s : State) : (taken op r s).txnSlots = s.txnSlots := by
  have e : (taken op r s).flushAhead = s.flushAhead := funext fun f => by simp only [flushAhead, cfgAt_taken]
  simp only [txnSlots, taken_fab, taken_tab, e]

theorem wordsAt_taken (op : OpSpec) (r : Req) (s : State) (a : Instant) : (taken op r s).wordsAt a = s.wordsAt a := by
  simp only [wordsAt, txnSlots_taken]

theorem txnNear_taken (op : OpSpec) (r : Req) (s : State) (a : Instant) : (taken op r s).txnNear a = s.txnNear a := by
  simp only [txnNear, txnSlots_taken]

theorem earliestTxns_taken (op : OpSpec) (r : Req) (s : State) (g : List Nat) (a : Instant) :
    (taken op r s).earliestTxns g a = s.earliestTxns g a := by
  have e : (taken op r s).slotsOk g = s.slotsOk g := funext fun x => by simp only [slotsOk, txnNear_taken, wordsAt_taken]
  simp only [earliestTxns, txnSlots_taken, e]

theorem earliestTxn_taken (op : OpSpec) (r : Req) (s : State) (n : Nat) (a : Instant) :
    (taken op r s).earliestTxn n a = s.earliestTxn n a := earliestTxns_taken op r s [n] a

theorem effA_taken (op : OpSpec) (r : Req) (s : State) (j lead : Nat) (txn : Bool) (n : Nat) :
    (taken op r s).effA ⟨r, j, applyInstant op r s⟩ lead txn n = changeInstant op r s lead txn n := by
  simp only [effA, changeInstant, earliestTxn_taken, Ctx.t]
  all_goals rfl

theorem cfgPlanned_taken (op : OpSpec) (r : Req) (s : State) : (taken op r s).cfgPlanned = s.cfgPlanned := by
  simp only [cfgPlanned, taken_fab, taken_cfg]

theorem cfgsFrom_taken (op : OpSpec) (r : Req) (s : State) (a : Instant) : (taken op r s).cfgsFrom a = s.cfgsFrom a := by
  simp only [cfgsFrom, cfgsWith, taken_fab, cfgAt_taken]

theorem cfgsWith_taken (op : OpSpec) (r : Req) (s : State) (a : Instant) (chs : List Change) :
    (taken op r s).cfgsWith a chs = s.cfgsWith a chs := by
  simp only [cfgsWith, taken_fab, cfgAt_taken]

theorem longestCourse_taken (op : OpSpec) (r : Req) (s : State) (a : Instant) :
    longestCourse (taken op r s) a = longestCourse s a := by
  simp only [longestCourse, taken_crs]

/-- An accepted packet of an opcode that must have an apply-at instant has it. -/
theorem applyInstant_must {op : OpSpec} {r : Req} {s : State} (h : accepted op r s = true) (ho : op.apply = .mustBe true) :
    applyInstant op r s = some (r.applyAt (max s.now r.t)) := by
  obtain ⟨-, -, -, -, -, -, h7, -⟩ := accepted_iff h
  simp only [applyFits, ho, Bool.and_eq_true] at h7
  simp [applyInstant, ho, h7.1.2]

/-- An accepted packet of an opcode that must not have one has none. -/
theorem applyInstant_mustNot {op : OpSpec} {r : Req} {s : State} (h : accepted op r s = true) (ho : op.apply = .mustBe false) :
    applyInstant op r s = none := by
  obtain ⟨-, -, -, -, -, -, h7, -⟩ := accepted_iff h
  simp only [applyFits, ho, Bool.and_eq_true, Bool.not_eq_true'] at h7
  simp [applyInstant, h7.2]

/-- A change that fits is staged, or applied at once. -/
theorem stageChange_fits {op : OpSpec} {r : Req} {s : State} {lead words : Nat} {txn : Bool} {units : List Nat}
    {chs : List Change} {ws : List Word} (h : stageFits op r s lead txn words = true) :
    (taken op r s).stageChange ⟨r, s.host.nextJid, applyInstant op r s⟩ lead txn units words chs ws =
      (let a := changeInstant op r s lead txn words
       let u := taken op r s
       if ((applyInstant op r s).isNone && !txn) = true then
         .done ((u.stage { a := a, jids := [], txn := txn, units := units, words := words, change := chs }).applyDue
           a r.t) ws
       else .wait (u.stage { a := a, jids := [s.host.nextJid], txn := txn, units := units, words := words
                             change := chs }) ws) := by
  simp only [stageFits, Bool.and_eq_true, Bool.not_eq_true'] at h
  obtain ⟨⟨h1, h2⟩, h3⟩ := h
  have e1 : (txn && (taken op r s).txnNear (changeInstant op r s lead txn words)) = false := by
    simpa only [txnNear_taken] using h1
  have e2 : (txn && !(taken op r s).pwr.cfgRun
      && decide (64 < words + (taken op r s).wordsAt (changeInstant op r s lead txn words))) = false := by
    simp only [wordsAt_taken]
    cases txn
    · rfl
    · have h2' := of_decide_eq_false ((Bool.true_and _).symm.trans h2)
      simpa using fun _ => Nat.le_of_not_lt h2'
  have e3 : ((applyInstant op r s).isSome && !(taken op r s).pwr.cfgRun
      && decide (changeInstant op r s lead txn words < r.t + lead)) = false := by
    cases ha : applyInstant op r s with
    | none => rfl
    | some a =>
      have hc : changeInstant op r s lead txn words = a := by simp only [changeInstant, ha]
      rw [ha] at h3
      have : ¬ a < r.t + lead := by simpa using h3
      simp [hc, this]
  simp only [stageChange, effA_taken, Ctx.t, e1, e2, e3, Bool.false_eq_true, if_false]

/-- A transaction that fits at its instant is staged. -/
theorem stageChange_at {op : OpSpec} {r : Req} {s : State} {a : Instant} {words : Nat} {chs : List Change}
    {ws : List Word} (h : txnFits s r.t a words = true) :
    (taken op r s).stageChange ⟨r, s.host.nextJid, some a⟩ (ms 5) true copies5 words chs ws =
      .wait (txnState op r s a words chs) ws := by
  simp only [txnFits, Bool.and_eq_true, Bool.not_eq_true', decide_eq_true_eq] at h
  obtain ⟨⟨h1, h2⟩, h3⟩ := h
  simp [stageChange, effA, Ctx.t, txnNear_taken, wordsAt_taken, h1, txnState, Nat.not_lt.mpr h2, Nat.not_lt.mpr h3]

/-- A plan that fits at its instant is staged with its relocations. -/
theorem stagePlan_fits {op : OpSpec} {r : Req} {s : State} {c : Ctx} {a : Instant} {words : Nat} {moves puts : List Change}
    {after : State → State} (hc : c = ⟨r, s.host.nextJid, applyInstant op r s⟩) (h : txnFits s r.t a words = true) :
    stagePlan c (taken op r s) a words moves puts after =
      .wait (after ((txnState op r s a words puts).stageMoves a moves.reverse)) [] := by
  subst hc
  simp only [stagePlan, stageChange_at h]

theorem l2PlanAt_taken (op : OpSpec) (r : Req) (s : State) (a : Instant) : (taken op r s).l2PlanAt a = s.l2PlanAt a := by
  simp only [l2PlanAt, planFrom, changesFrom, taken_fab, cfgAt_taken]

theorem hostPlanAt_taken (op : OpSpec) (r : Req) (s : State) (a : Instant) :
    (taken op r s).hostPlanAt a = s.hostPlanAt a := by
  simp only [hostPlanAt, planFrom, changesFrom, taken_fab, cfgAt_taken]

theorem planTrie_taken (op : OpSpec) (r : Req) (s : State) (a t : Instant) (del : Bool) (rs : List TrieRoute) :
    planTrie (taken op r s) a t del rs = planTrie s a t del rs := by
  simp only [planTrie, freeBlocks, blocksBusy, cfgAt_taken, cfgsFrom_taken, taken_fab, taken_tab]

theorem flushA_taken (op : OpSpec) (r : Req) (s : State) (c : Ctx) : flushA c (taken op r s) = flushA c s := by
  simp only [flushA, earliestTxns_taken, cfgPlanned_taken]

theorem runCommand_staged {tbl : Nat → Option OpSpec} {op : OpSpec} {r : Req} {s : State} {lead words : Nat}
    {txn : Bool} {units : List Nat} {chs : List Change} {ws : List Word}
    (h : accepted op r s = true) (hf : stageFits op r s lead txn words = true)
    (hb : op.body ⟨r, s.host.nextJid, applyInstant op r s⟩ (taken op r s) =
      (taken op r s).stageChange ⟨r, s.host.nextJid, applyInstant op r s⟩ lead txn units words chs ws) :
    runCommand tbl op r s = stagedState op r s lead txn units words chs ws := by
  rw [stageChange_fits hf] at hb
  simp only [stagedState]
  split
  · next hc => rw [if_pos hc] at hb; exact runCommand_done h hb
  · next hc => rw [if_neg hc] at hb; exact runCommand_wait h hb

/-- A keeper change that keeps its lead is put for its instant. -/
theorem stageTk_fits {op : OpSpec} {r : Req} {s : State} {j : Nat} {ch : TkChange} (hl : leadOk op r s (ms 2) = true)
    (u : State) :
    stageTk ⟨r, j, applyInstant op r s⟩ u ch = .wait (u.putTk (tkInstant (applyInstant op r s) r.t) j ch) [] := by
  have hn : ¬ ((applyInstant op r s).isSome = true ∧ tkInstant (applyInstant op r s) r.t < r.t + ms 2) := by
    rintro ⟨h1, h2⟩
    cases ha : applyInstant op r s with
    | none => rw [ha] at h1; exact absurd h1 (by decide)
    | some a =>
      simp only [leadOk, ha, decide_eq_true_eq] at hl
      rw [ha] at h2
      exact absurd h2 (Nat.not_lt.mpr hl)
  exact if_neg hn

/-- A lane change that keeps its lead is put for its instant. -/
theorem stageLane_fits {op : OpSpec} {r : Req} {s : State} {j : Nat} {ch : LaneChange} {off on : List Nat}
    (hl : leadOk op r s (us 200) = true) (u : State) :
    u.stageLane ⟨r, j, applyInstant op r s⟩ ch off on = .wait (u.putLane (applyInstant op r s) r.t j ch off on) [] := by
  have hn : ¬ ((applyInstant op r s).isSome = true ∧ (applyInstant op r s).getD r.t < r.t + us 200) := by
    rintro ⟨h1, h2⟩
    cases ha : applyInstant op r s with
    | none => rw [ha] at h1; exact absurd h1 (by decide)
    | some a =>
      simp only [leadOk, ha, decide_eq_true_eq] at hl
      rw [ha] at h2
      exact absurd h2 (Nat.not_lt.mpr hl)
  exact if_neg hn

theorem runCommand_keeper {tbl : Nat → Option OpSpec} {op : OpSpec} {r : Req} {s : State} {ch : TkChange}
    (h : accepted op r s = true) (hl : leadOk op r s (ms 2) = true)
    (hb : op.body ⟨r, s.host.nextJid, applyInstant op r s⟩ (taken op r s) =
      stageTk ⟨r, s.host.nextJid, applyInstant op r s⟩ (taken op r s) ch) :
    runCommand tbl op r s = keeperState op r s ch := by
  exact runCommand_wait h (hb.trans (stageTk_fits hl _))

/-! ### What the body reads is what stood before the command -/

theorem course_taken (op : OpSpec) (r : Req) (s : State) (p : Nat) : (taken op r s).course p = s.course p := by
  simp only [State.course, taken_crs]

theorem model_taken (op : OpSpec) (r : Req) (s : State) (p : Nat) : (taken op r s).model p = s.model p := by
  simp only [State.model, taken_egr]

theorem lane_taken (op : OpSpec) (r : Req) (s : State) (p : Nat) : (taken op r s).lane p = s.lane p := by
  simp only [State.lane, taken_lan]

theorem confRate_taken (op : OpSpec) (r : Req) (s : State) (p : Nat) : (taken op r s).confRate p = s.confRate p := by
  simp only [State.confRate, lane_taken]

theorem portPlanned_taken (op : OpSpec) (r : Req) (s : State) (p : Nat) :
    (taken op r s).portPlanned p = s.portPlanned p := by
  simp only [State.portPlanned, State.lane, taken_lan]

theorem pin_taken (op : OpSpec) (r : Req) (s : State) (p : Nat) : (taken op r s).pin p = s.pin p := by
  simp only [State.pin, taken_tio]

theorem chan_taken (op : OpSpec) (r : Req) (s : State) (c : Nat) : (taken op r s).chan c = s.chan c := by
  simp only [State.chan, taken_tio]

theorem cko_taken (op : OpSpec) (r : Req) (s : State) (o : Nat) : (taken op r s).cko o = s.cko o := by
  simp only [State.cko, taken_tio]

theorem holds_taken (op : OpSpec) (r : Req) (s : State) (x : Sender) : (taken op r s).holds x = s.holds x := by
  simp only [State.holds, taken_sem]

theorem pinOwner_taken (op : OpSpec) (r q : Req) (s : State) (p : Nat) :
    pinOwner (taken op r s) q p = pinOwner s q p := by
  simp only [pinOwner, pin_taken]

theorem countersPf0_taken (op : OpSpec) (r : Req) (s : State) (x : Sender) :
    (taken op r s).countersPf0 x = s.countersPf0 x := by
  simp only [State.countersPf0, taken_pwr]

theorem poolsOk_taken (op : OpSpec) (r : Req) (s : State) (a : Instant) (chs : List Change) :
    poolsOk (taken op r s) a chs = poolsOk s a chs := by
  simp only [poolsOk, cfgsWith_taken]

theorem fenceF_taken (op : OpSpec) (r : Req) (s : State) (a : Option Instant) (t : Instant) :
    fenceF a t (taken op r s) = fenceF a t s := by
  simp only [fenceF, txnSlots_taken]

end Sys2Proof.Machine
end

