-- ==== Sys2Proof/Laws/Memory.lean ====
section
/-! SUPPORT. Laws of sparse tables and byte memories: every write keeps the canonical form, a read after a write of
the same place gives what was written, and other places read as before. -/

namespace Sys2Proof

namespace Tbl

variable {α : Type}

theorem find_put_same (t : Tbl α) (k : Nat) (v : α) : find (put t k v) k = some v := by
  induction t with
  | nil => simp [put, find]
  | cons e r ih =>
    unfold put
    split
    · simp [find]
    · split
      · simp [find]
      · simp_all [find]

theorem find_put_ne (t : Tbl α) {k j : Nat} (v : α) (h : j ≠ k) : find (put t k v) j = find t j := by
  induction t with
  | nil => simp [put, find, h]
  | cons e r ih =>
    unfold put
    split
    · simp [find, h]
    · split
      · simp_all [find]
      · simp_all [find]

theorem find_del_ne (t : Tbl α) {k j : Nat} (h : j ≠ k) : find (del t k) j = find t j := by
  induction t with
  | nil => rfl
  | cons e r ih =>
    unfold del
    split
    · simp_all [find]
    · simp_all [find]

theorem find_below {t : Tbl α} {b k : Nat} (h : rising b t = true) (hk : k < b) : find t k = none := by
  induction t generalizing b with
  | nil => rfl
  | cons e r ih =>
    simp only [rising, Bool.and_eq_true, decide_eq_true_eq] at h
    simp only [find]
    rw [if_neg (by omega)]
    exact ih h.2 (by omega)

theorem find_del_same {t : Tbl α} {b : Nat} (h : rising b t = true) (k : Nat) : find (del t k) k = none := by
  induction t generalizing b with
  | nil => rfl
  | cons e r ih =>
    simp only [rising, Bool.and_eq_true, decide_eq_true_eq] at h
    unfold del
    split
    · rename_i hk
      exact find_below h.2 (by omega)
    · rename_i hk
      simp only [find]
      rw [if_neg hk]
      exact ih h.2

theorem rising_mono {t : Tbl α} {a b : Nat} (h : rising b t = true) (hab : a ≤ b) : rising a t = true := by
  cases t with
  | nil => rfl
  | cons e r =>
    simp only [rising, Bool.and_eq_true, decide_eq_true_eq] at *
    exact ⟨by omega, h.2⟩

theorem rising_put {t : Tbl α} {b k : Nat} (v : α) (h : rising b t = true) (hk : b ≤ k) :
    rising b (put t k v) = true := by
  induction t generalizing b with
  | nil => simp [put, rising, hk]
  | cons e r ih =>
    simp only [rising, Bool.and_eq_true, decide_eq_true_eq] at h
    unfold put
    split
    · rename_i hlt
      simp only [rising, Bool.and_eq_true, decide_eq_true_eq]
      exact ⟨hk, by omega, h.2⟩
    · split
      · rename_i heq
        subst heq
        simp only [rising, Bool.and_eq_true, decide_eq_true_eq]
        exact ⟨hk, h.2⟩
      · simp only [rising, Bool.and_eq_true, decide_eq_true_eq]
        exact ⟨h.1, ih h.2 (by omega)⟩

theorem rising_del {t : Tbl α} {b k : Nat} (h : rising b t = true) : rising b (del t k) = true := by
  induction t generalizing b with
  | nil => rfl
  | cons e r ih =>
    simp only [rising, Bool.and_eq_true, decide_eq_true_eq] at h
    unfold del
    split
    · exact rising_mono h.2 (by omega)
    · simp only [rising, Bool.and_eq_true, decide_eq_true_eq]
      exact ⟨h.1, ih h.2⟩

theorem all_put {t : Tbl α} {k : Nat} {v : α} {p : Nat × α → Bool} (h : t.all p = true) (hv : p (k, v) = true) :
    (put t k v).all p = true := by
  induction t with
  | nil => simp [put, hv]
  | cons e r ih =>
    unfold put
    split
    · simp_all
    · split <;> simp_all

theorem all_del {t : Tbl α} {k : Nat} {p : Nat × α → Bool} (h : t.all p = true) : (del t k).all p = true := by
  induction t with
  | nil => rfl
  | cons e r ih =>
    unfold del
    split <;> simp_all

variable [DecidableEq α]

/-- A write keeps the canonical form. -/
theorem wf_set {d : α} {t : Tbl α} (h : wf (fun _ => d) t = true) (k : Nat) (v : α) :
    wf (fun _ => d) (set d t k v) = true := by
  simp only [wf, Bool.and_eq_true] at *
  unfold set
  split
  · exact ⟨rising_del h.1, all_del h.2⟩
  · rename_i hv
    exact ⟨rising_put v h.1 (Nat.zero_le k), all_put h.2 (by simpa using hv)⟩

theorem get_set_same {d : α} {t : Tbl α} (h : wf (fun _ => d) t = true) (k : Nat) (v : α) :
    get d (set d t k v) k = v := by
  simp only [wf, Bool.and_eq_true] at h
  unfold get set
  split
  · rename_i hv
    rw [find_del_same h.1, hv]
    rfl
  · rw [find_put_same]
    rfl

theorem get_set_ne {d : α} (t : Tbl α) {k j : Nat} (v : α) (h : j ≠ k) : get d (set d t k v) j = get d t j := by
  unfold get set
  split
  · rw [find_del_ne t h]
  · rw [find_put_ne t v h]

end Tbl

namespace Memory

theorem nil_wf : Memory.wf [] = true := rfl

theorem write_wf {m : Memory} (h : m.wf = true) (a : Nat) (b : Byte) : (m.write a b).wf = true := Tbl.wf_set h a b

theorem writeN_wf {m : Memory} (h : m.wf = true) (a : Nat) (bs : List Byte) : (m.writeN a bs).wf = true := by
  induction bs generalizing m a with
  | nil => exact h
  | cons b r ih => exact ih (write_wf h a b) (a + 1)

theorem writeWord_wf {m : Memory} (h : m.wf = true) (a : Nat) (w : Word) : (m.writeWord a w).wf = true :=
  writeN_wf h a _

theorem writeWords_wf {m : Memory} (h : m.wf = true) (a : Nat) (ws : List Word) : (m.writeWords a ws).wf = true := by
  induction ws generalizing m a with
  | nil => exact h
  | cons w r ih => exact ih (writeWord_wf h a w) (a + 4)

theorem read_write_same {m : Memory} (h : m.wf = true) (a : Nat) (b : Byte) : (m.write a b).read a = b :=
  Tbl.get_set_same h a b

theorem read_write_ne (m : Memory) {a c : Nat} (b : Byte) (h : c ≠ a) : (m.write a b).read c = m.read c :=
  Tbl.get_set_ne m b h

/-- A read outside the bytes written gives what it gave. -/
theorem read_writeN_out (m : Memory) (a : Nat) (bs : List Byte) {c : Nat} (h : c < a ∨ a + bs.length ≤ c) :
    (m.writeN a bs).read c = m.read c := by
  induction bs generalizing m a with
  | nil => rfl
  | cons b r ih =>
    simp only [List.length_cons] at h
    exact (ih (m.write a b) (a + 1) (by omega)).trans (read_write_ne m b (by omega))

/-- A read of a byte written gives it. -/
theorem read_writeN_in {m : Memory} (h : m.wf = true) (a : Nat) (bs : List Byte) {i : Nat} (hi : i < bs.length) :
    (m.writeN a bs).read (a + i) = bs.getD i 0 := by
  induction bs generalizing m a i with
  | nil => cases hi
  | cons b r ih =>
    cases i with
    | zero =>
      refine (read_writeN_out (m.write a b) (a + 1) r (.inl (by omega))).trans ?_
      exact read_write_same h a b
    | succ i =>
      have := ih (write_wf h a b) (a + 1) (i := i) (by simpa using hi)
      rw [show a + (i + 1) = a + 1 + i by omega]
      simpa [Memory.writeN] using this

end Memory

end Sys2Proof
end

