-- ==== Sys2Proof/Laws/KeepOps.lean ====
section
/-! SUPPORT. The queue and the memories' canonical form stay as they are in the shared operations, resets, staging,
the egress scheduler and the command interpreter: for each function that answers a state, if the state it takes has
queue q and canonical memories, so has the one it answers (`State.Good`). -/

namespace Sys2Proof.Machine

/-- What is kept: a queue, and a property of memories that the empty memory has and that a write of a byte keeps. -/
structure Keep where
  queue : List Instr
  mem   : Memory → Prop
  nil   : mem []
  write : ∀ {m : Memory} (a : Nat) (b : Byte), mem m → mem (m.write a b)

/-- The queue alone. -/
def Keep.queueOnly (l : List Instr) : Keep := ⟨l, fun _ => True, trivial, fun _ _ _ => trivial⟩

/-- The queue and the memories' canonical form. -/
def Keep.canonical (l : List Instr) : Keep := ⟨l, fun m => m.wf = true, rfl, fun a b h => Memory.write_wf h a b⟩

theorem Keep.writeN (k : Keep) {m : Memory} (h : k.mem m) (a : Nat) (bs : List Byte) : k.mem (m.writeN a bs) := by
  induction bs generalizing m a with
  | nil => exact h
  | cons b r ih => exact ih (k.write a b h) (a + 1)

theorem Keep.writeWord (k : Keep) {m : Memory} (h : k.mem m) (a : Nat) (w : Word) : k.mem (m.writeWord a w) :=
  k.writeN h a _

theorem Keep.writeWords (k : Keep) {m : Memory} (h : k.mem m) (a : Nat) (ws : List Word) :
    k.mem (m.writeWords a ws) := by
  induction ws generalizing m a with
  | nil => exact h
  | cons w r ih => exact ih (k.writeWord h a w) (a + 4)

/-- The queue is that of `q`, and every memory has its property. -/
def State.Good (q : Keep) (s : State) : Prop :=
  s.pending = q.queue ∧ q.mem s.host.sram ∧ q.mem s.cores.ac0.tcm ∧ q.mem s.cores.ac1.tcm
    ∧ q.mem s.pwr.flash.slotA ∧ q.mem s.pwr.flash.slotB ∧ q.mem s.pwr.flash.dir0 ∧ q.mem s.pwr.flash.dir1

/-- An outcome whose next state, if it is one, is good. -/
def OutGood (q : Keep) : Host.Outcome State Fault Refusal → Prop
  | .next s => s.Good q
  | .fault _ => True
  | .refused _ => True

/-- The state that a body leaves is good. -/
def Res.Good (q : Keep) : Res → Prop
  | .done s _ => s.Good q
  | .wait s _ => s.Good q
  | .fail _ _ f => ∀ z : State, z.Good q → (f z).Good q

variable {q : Keep}

/-- The data plane, the keepers, the lanes, timed I/O, the outputs and the time may change. -/
theorem State.Good.of {s : State} (hg : s.Good q) {s0 s2 s3 s4 s5 s6 s7 s8 s9 s10 s11 s15} :
(State.mk s0 s.pending s2 s3 s4 s5 s6 s7 s8 s9 s10 s11 s.host s.cores s.pwr s15).Good q := hg
/-- So may the host ports but for the message SRAM. -/
theorem State.Good.ofHost {s : State} (hg : s.Good q) {s0 s2 s3 s4 s5 s6 s7 s8 s9 s10 s11 s15 h0 h1 h2 h3 h4
    h5 h7 h8 h9 h10 h11 h12 h13 h14} :
(State.mk s0 s.pending s2 s3 s4 s5 s6 s7 s8 s9 s10 s11 (HostState.mk h0 h1 h2 h3 h4 h5 s.host.sram h7 h8 h9
    h10 h11 h12 h13 h14) s.cores s.pwr s15).Good q := hg
/-- So may the cores' unit but for the cores. -/
theorem State.Good.ofCores {s : State} (hg : s.Good q) {s0 s2 s3 s4 s5 s6 s7 s8 s9 s10 s11 s15 c2 c3 c4 c5 c6
    c7 c8 c9 c10 c11 c12 c13 c14 c15 c16} :
(State.mk s0 s.pending s2 s3 s4 s5 s6 s7 s8 s9 s10 s11 s.host (CoresState.mk s.cores.ac0 s.cores.ac1 c2 c3 c4
    c5 c6 c7 c8 c9 c10 c11 c12 c13 c14 c15 c16) s.pwr s15).Good q := hg
/-- So may the power unit but for the flash. -/
theorem State.Good.ofPwr {s : State} (hg : s.Good q) {s0 s2 s3 s4 s5 s6 s7 s8 s9 s10 s11 s15 p0 p1 p2 p3 p4 p6
    p7 p8 p9 p10 p11 p12 p13 p14 p15 p16 p17 p18 p19 p20 p21 p22 p23 p24 p25 p26 p27 p28 p29 p30 p31 p32 p33
    p34 p35 p36 p37 p38 p39 p40 p41 p42 p43 p44 p45 p46 p47 p48 p49 p50 p51 p52 p53 p54 p55} :
(State.mk s0 s.pending s2 s3 s4 s5 s6 s7 s8 s9 s10 s11 s.host s.cores (Power.mk p0 p1 p2 p3 p4 s.pwr.flash p6
    p7 p8 p9 p10 p11 p12 p13 p14 p15 p16 p17 p18 p19 p20 p21 p22 p23 p24 p25 p26 p27 p28 p29 p30 p31 p32 p33
    p34 p35 p36 p37 p38 p39 p40 p41 p42 p43 p44 p45 p46 p47 p48 p49 p50 p51 p52 p53 p54 p55) s15).Good q := hg
/-- So may these three together. -/
theorem State.Good.ofAll {s : State} (hg : s.Good q) {s0 s2 s3 s4 s5 s6 s7 s8 s9 s10 s11 s15 h0 h1 h2 h3 h4 h5
    h7 h8 h9 h10 h11 h12 h13 h14 c2 c3 c4 c5 c6 c7 c8 c9 c10 c11 c12 c13 c14 c15 c16 p0 p1 p2 p3 p4 p6 p7 p8 p9
    p10 p11 p12 p13 p14 p15 p16 p17 p18 p19 p20 p21 p22 p23 p24 p25 p26 p27 p28 p29 p30 p31 p32 p33 p34 p35
    p36 p37 p38 p39 p40 p41 p42 p43 p44 p45 p46 p47 p48 p49 p50 p51 p52 p53 p54 p55} :
(State.mk s0 s.pending s2 s3 s4 s5 s6 s7 s8 s9 s10 s11 (HostState.mk h0 h1 h2 h3 h4 h5 s.host.sram h7 h8 h9
    h10 h11 h12 h13 h14) (CoresState.mk s.cores.ac0 s.cores.ac1 c2 c3 c4 c5 c6 c7 c8 c9 c10 c11 c12 c13 c14
    c15 c16) (Power.mk p0 p1 p2 p3 p4 s.pwr.flash p6 p7 p8 p9 p10 p11 p12 p13 p14 p15 p16 p17 p18 p19 p20 p21 p22
    p23 p24 p25 p26 p27 p28 p29 p30 p31 p32 p33 p34 p35 p36 p37 p38 p39 p40 p41 p42 p43 p44 p45 p46 p47 p48
    p49 p50 p51 p52 p53 p54 p55) s15).Good q := hg

theorem good_ite {c : Prop} [Decidable c] {s t : State} (h : s.Good q) (k : t.Good q) :
    (if c then s else t).Good q := by split <;> assumption
theorem outGood_ite {c : Prop} [Decidable c] {s t : Host.Outcome State Fault Refusal} (h : OutGood q s)
    (k : OutGood q t) : OutGood q (if c then s else t) := by split <;> assumption
theorem resGood_ite {c : Prop} [Decidable c] {s t : Res} (h : s.Good q) (k : t.Good q) :
    (if c then s else t).Good q := by split <;> assumption
theorem outNext {s : State} (h : s.Good q) : OutGood q (.next s) := h
theorem resDone {s : State} {ws : List Word} (h : s.Good q) : (Res.done s ws).Good q := h
theorem resWait {s : State} {ws : List Word} (h : s.Good q) : (Res.wait s ws).Good q := h
theorem resFail {n : Nat} {ws : List Word} {f : State → State} (h : ∀ z : State, z.Good q → (f z).Good q) :
    (Res.fail n ws f).Good q := h
theorem resGood_fail {n : Nat} {ws : List Word} : (Res.fail n ws).Good q := fun _ h => h
theorem resGood_refuse {b : Bool} {n : Nat} {r : Res} (h : r.Good q) : (refuseIf b n r).Good q := by
  unfold refuseIf
  split
  · exact resGood_fail
  · exact h
theorem good2_ite {α : Type} {c : Prop} [Decidable c] {x y : α × State} (h : x.2.Good q) (k : y.2.Good q) :
    (if c then x else y).2.Good q := by split <;> assumption
theorem pair1 {α : Type} {s : State} {x : α} (h : s.Good q) : (s, x).1.Good q := h
theorem pair2 {α : Type} {s : State} {x : α} (h : s.Good q) : (x, s).2.Good q := h
theorem good_foldl {α : Type} {f : State → α → State} {l : List α} {s : State} (h : s.Good q)
    (k : ∀ z y, z.Good q → (f z y).Good q) : (l.foldl f s).Good q := by
  induction l generalizing s with
  | nil => exact h
  | cons x l ih => exact ih (k s x h)
theorem goodFst_foldl {α β : Type} {P : α → Prop} {f : α → β → α} {l : List β} {a : α} (h : P a)
    (k : ∀ z y, P z → P (f z y)) : P (l.foldl f a) := by
  induction l generalizing a with
  | nil => exact h
  | cons x l ih => exact ih (k a x h)

theorem State.tick_good (s : State) (a1 : Instant) (hs : s.Good q) : (State.tick s a1).Good q := by
  unfold State.tick
  exact (.of hs)

theorem State.setFn_good (s : State) (a1 : Sender) (a2 : FnRegs) (hs : s.Good q) : (State.setFn s a1 a2).Good q :=
    by
  unfold State.setFn
  exact (.ofHost hs)

theorem State.setHostRegs_good (s : State) (a1 : HostPort) (a2 : HostRegs) (hs : s.Good q) : (State.setHostRegs s
    a1 a2).Good q := by
  unfold State.setHostRegs
  split
  · exact (.ofHost hs)
  · exact (.ofHost hs)

theorem State.Good.tcm {s : State} (h : s.Good q) (c : AppCore) : q.mem (s.ac c).tcm := by
  cases c
  exacts [h.2.2.1, h.2.2.2.1]

/-- A core's TCM is written. -/
theorem State.setTcm_good (s : State) (c : AppCore) (a : AcState) (h : s.Good q) (ht : q.mem a.tcm) :
    (State.setAc s c a).Good q := by
  obtain ⟨p, b, c0, c1, d⟩ := h
  cases c
  exacts [⟨p, b, ht, c1, d⟩, ⟨p, b, c0, ht, d⟩]

/-- The message SRAM is written. -/
theorem State.Good.sram {s t : State} (h : s.Good q) (e : t.pending = s.pending) (m : q.mem t.host.sram)
    (c : t.cores = s.cores) (p : t.pwr = s.pwr) : t.Good q := by
  obtain ⟨a, _, b⟩ := h
  unfold State.Good
  rw [e, c, p]
  exact ⟨a, m, b⟩

theorem State.setTarget_good (s : State) (a1 : Target) (a2 : EvcTarget) (hs : s.Good q) : (State.setTarget s a1
    a2).Good q := by
  unfold State.setTarget
  exact (.ofCores hs)

theorem State.emit_good (s : State) (a1 : Out) (hs : s.Good q) : (State.emit s a1).Good q := by
  unfold State.emit
  exact (.of hs)

theorem State.keyedAt_good (s : State) (k : Instant) (f : State → State) (h : s.Good q)
    (hf : ∀ z : State, z.Good q → (f z).Good q) : (State.keyedAt s k f).Good q :=
  .ofCores (hf _ (.ofCores h))

theorem State.setPallet_good (s : State) (a1 : Nat) (a2 : Pallet) (hs : s.Good q) : (State.setPallet s a1 a2).Good q
    := by
  unfold State.setPallet
  exact (good_ite (.ofCores hs) (.ofCores hs))

theorem State.countPast_good (s : State) (a1 : Nat) (a2 : Nat) (hs : s.Good q) : (State.countPast s a1 a2).Good q := by
  unfold State.countPast
  split
  · refine good_ite ?_ ?_
    · extract_lets -underBinder +onlyGivenNames v0
      exact (State.setPallet_good _ _ _ hs)
    · exact hs
  · exact hs

theorem State.countQuiet_good (s : State) (a1 : Nat) (a2 : Nat) (hs : s.Good q) : (State.countQuiet s a1 a2).Good q :=
    by
  unfold State.countQuiet
  extract_lets -underBinder +onlyGivenNames v0
  have w0 : State.Good q (v0) := by
    unfold v0
    exact (State.countPast_good _ _ _ hs)
  clear_value v0
  extract_lets -underBinder +onlyGivenNames v20
  exact (good_ite w0 (good_ite (.ofCores w0) (.ofCores w0)))

theorem State.msixSend_good (s : State) (a1 : Sender) (a2 : Nat) (hs : s.Good q) : (State.msixSend s a1 a2).Good q :=
    by
  unfold State.msixSend
  extract_lets -underBinder +onlyGivenNames v0
  exact (good_ite (State.setFn_good _ _ _ hs) (State.emit_good _ _ hs))

theorem State.ringDb_good (s : State) (a1 : Sender) (a2 : Nat) (hs : s.Good q) : (State.ringDb s a1 a2).Good q := by
  unfold State.ringDb
  extract_lets -underBinder +onlyGivenNames v0
  refine good_ite ?_ ?_
  · exact hs
  · extract_lets -underBinder +onlyGivenNames v1
    have w1 : State.Good q (v1) := by
      unfold v1
      exact (State.setFn_good _ _ _ hs)
    clear_value v1
    exact (good_ite w1 (State.msixSend_good _ _ _ w1))

theorem State.ringDbBoth_good (s : State) (a1 : HostPort) (a2 : Nat) (hs : s.Good q) : (State.ringDbBoth s a1
    a2).Good q := by
  unfold State.ringDbBoth
  exact (State.ringDb_good _ _ _ (State.ringDb_good _ _ _ hs))

theorem State.recheck_good (s : State) (s1 : State) (a2 : Target) (hs : s.Good q) (hs1 : s1.Good q) :
    (State.recheck s s1 a2).Good q := by
  unfold State.recheck
  split
  · exact hs1
  · exact (good_ite (State.ringDbBoth_good _ _ _ hs1) hs1)

theorem State.logEvent_good (s : State) (a1 : Target) (a2 : Nat) (a3 : Nat) (a4 : List Byte) (a5 : Bool) (a6 : Instant)
    (hs : s.Good q) : (State.logEvent s a1 a2 a3 a4 a5 a6).Good q := by
  unfold State.logEvent
  extract_lets -underBinder +onlyGivenNames v0 v1 v2 v3
  have w3 : State.Good q (v3) := by
    unfold v3
    exact (State.setTarget_good _ _ _ hs)
  clear_value v3
  exact (good_ite (State.countQuiet_good _ _ _ w3) w3)

theorem State.raise_good (s : State) (a1 : Nat) (a2 : Nat) (a3 : List (List Byte)) (a4 : Instant) (a5 : Bool) (hs :
    s.Good q) : (State.raise s a1 a2 a3 a4 a5).Good q := by
  unfold State.raise
  extract_lets -underBinder +onlyGivenNames v0 v1 v2 v3
  have w3 : State.Good q (v3) := by
    unfold v3
    exact (.ofCores hs)
  clear_value v3
  exact (State.recheck_good _ _ _ hs (good_ite (State.logEvent_good _ _ _ _ _ _ _ w3) w3))

theorem State.raisePrivate_good (s : State) (a1 : Target) (a2 : Nat) (hs : s.Good q) : (State.raisePrivate s a1
    a2).Good q := by
  unfold State.raisePrivate
  extract_lets -underBinder +onlyGivenNames v0
  exact (State.recheck_good _ _ _ hs (State.setTarget_good _ _ _ hs))

theorem State.raiseLimited_good (s : State) (a1 : Nat) (a2 : Nat) (a3 : Nat) (a4 : List (List Byte)) (a5 : Instant) (hs :
    s.Good q) : (State.raiseLimited s a1 a2 a3 a4 a5).Good q := by
  unfold State.raiseLimited
  refine good_ite ?_ ?_
  · exact hs
  · extract_lets -underBinder +onlyGivenNames v0
    extract_lets -underBinder +onlyGivenNames v1
    have w1 : State.Good q (v1) := by
      unfold v1
      exact (.ofCores hs)
    clear_value v1
    exact (State.raise_good _ _ _ _ _ _ w1)

theorem State.count_good (s : State) (a1 : Nat) (a2 : Nat) (hs : s.Good q) : (State.count s a1 a2).Good q := by
  unfold State.count
  extract_lets -underBinder +onlyGivenNames v0 v1
  have w1 : State.Good q (v1) := by
    unfold v1
    exact (State.countQuiet_good _ _ _ hs)
  clear_value v1
  exact (good_ite (State.raise_good _ _ _ _ _ _ w1) w1)

theorem State.countQ_good (s : State) (a1 : Nat) (a2 : Nat) (a3 : Nat) (a4 : Nat) (hs : s.Good q) : (State.countQ s a1 a2
    a3 a4).Good q := by
  unfold State.countQ
  exact (State.count_good _ _ _ hs)

theorem State.countP_good (s : State) (a1 : Nat) (a2 : Nat) (a3 : Nat) (hs : s.Good q) : (State.countP s a1 a2 a3).Good q
    := by
  unfold State.countP
  exact (State.count_good _ _ _ hs)

theorem State.countR_good (s : State) (a1 : Nat) (a2 : Nat) (a3 : Nat) (hs : s.Good q) : (State.countR s a1 a2 a3).Good q
    := by
  unfold State.countR
  exact (State.count_good _ _ _ hs)

theorem State.countF_good (s : State) (a1 : Sender) (a2 : Nat) (a3 : Nat) (hs : s.Good q) : (State.countF s a1 a2
    a3).Good q := by
  unfold State.countF
  exact (good_ite (State.count_good _ _ _ hs) hs)

theorem State.countA_good (s : State) (a1 : AppCore) (a2 : Nat) (a3 : Nat) (hs : s.Good q) : (State.countA s a1 a2
    a3).Good q := by
  unfold State.countA
  exact (State.count_good _ _ _ hs)

theorem State.countD_good (s : State) (a1 : Nat) (a2 : Nat) (hs : s.Good q) : (State.countD s a1 a2).Good q := by
  unfold State.countD
  exact (State.count_good _ _ _ hs)

theorem State.footTime_good (s : State) (a1 : Instant) (hs : s.Good q) : (State.footTime s a1).Good q := by
  unfold State.footTime
  split
  · exact hs
  · extract_lets -underBinder +onlyGivenNames v0
    exact (good_ite hs (State.countD_good _ _ _ (.of hs)))

theorem State.writeMem_good (s : State) (x : Sender) (lo hi : Word) (off : Nat) (bs : List Byte) (h : s.Good q) :
    (State.writeMem s x lo hi off bs).Good q := by
  unfold State.writeMem
  split
  · exact State.setTcm_good _ _ _ h (q.writeN (h.tcm _) _ _)
  · exact good_ite (h.sram rfl (q.writeN h.2.1 _ _) rfl rfl) (State.emit_good _ _ h)

theorem State.setJrec_good (s : State) (a1 : Nat) (a2 : JRec) (hs : s.Good q) : (State.setJrec s a1 a2).Good q := by
  unfold State.setJrec
  exact (.ofHost hs)

theorem State.closeJrec_good (s : State) (a1 : Nat) (hs : s.Good q) : (State.closeJrec s a1).Good q := by
  unfold State.closeJrec
  split
  · exact hs
  · extract_lets -underBinder +onlyGivenNames v0
    extract_lets -underBinder +onlyGivenNames v1
    have w1 : State.Good q (v1) := by
      unfold v1
      exact (.ofHost hs)
    clear_value v1
    extract_lets -underBinder +onlyGivenNames v21 v22
    exact (good_ite (State.setFn_good _ _ _ w1) w1)

theorem State.writeReply_good (s : State) (a1 : Sender) (a2 : Reply) (hs : s.Good q) : (State.writeReply s a1
    a2).Good q := by
  unfold State.writeReply
  extract_lets -underBinder +onlyGivenNames v0 v1
  have w1 : State.Good q (v1) := by
    unfold v1
    exact (State.writeMem_good _ _ _ _ _ _ hs)
  clear_value v1
  extract_lets -underBinder +onlyGivenNames v21
  have w21 : State.Good q (v21) := by
    unfold v21
    exact (State.writeMem_good _ _ _ _ _ _ w1)
  clear_value v21
  extract_lets -underBinder +onlyGivenNames v41 v42 v43
  have w43 : State.Good q (v43) := by
    unfold v43
    exact (State.setFn_good _ _ _ w21)
  clear_value v43
  extract_lets -underBinder +onlyGivenNames v63
  have w63 : State.Good q (v63) := by
    unfold v63
    split
    · exact (State.raisePrivate_good _ _ _ w43)
    · exact (State.ringDb_good _ _ _ w43)
  clear_value v63
  exact (good_ite (State.closeJrec_good _ _ w63) w63)

theorem State.post_good (s : State) (a1 : Sender) (a2 : Reply) (hs : s.Good q) : (State.post s a1 a2).Good q := by
  unfold State.post
  extract_lets -underBinder +onlyGivenNames v0
  refine good_ite ?_ ?_
  · extract_lets -underBinder +onlyGivenNames v1
    have w1 : State.Good q (v1) := by
      unfold v1
      exact (State.countF_good _ _ _ _ hs)
    clear_value v1
    exact (good_ite (State.closeJrec_good _ _ w1) w1)
  · refine good_ite ?_ ?_
    · extract_lets -underBinder +onlyGivenNames v1
      have w1 : State.Good q (v1) := by
        unfold v1
        exact (State.setFn_good _ _ _ hs)
      clear_value v1
      extract_lets -underBinder +onlyGivenNames v21
      have w21 : State.Good q (v21) := by
        unfold v21
        split
        · exact (good_ite (State.setJrec_good _ _ _ w1) w1)
        · exact w1
      clear_value v21
      split
      · exact w21
      · exact (State.ringDb_good _ _ _ w21)
    · exact (State.writeReply_good _ _ _ hs)

theorem State.drainWaiting_good (x : Sender) (n : Nat) (s : State) (h : s.Good q) :
    (State.drainWaiting x n s).Good q := by
  induction n generalizing s with
  | zero => exact h
  | succ n ih =>
    unfold State.drainWaiting
    dsimp only
    split
    · exact h
    · exact good_ite h (ih _ (State.writeReply_good _ _ _ (State.setFn_good _ _ _ h)))

theorem State.finish_good (s : State) (a1 : Nat) (a2 : Nat) (a3 : List Word) (a4 : Instant) (hs : s.Good q) :
    (State.finish s a1 a2 a3 a4).Good q := by
  unfold State.finish
  split
  · exact hs
  · exact (good_ite hs (State.setJrec_good _ _ _ hs))

theorem State.finishOpt_good (s : State) (a1 : Option Nat) (a2 : Nat) (a3 : List Word) (a4 : Instant) (hs : s.Good q) :
    (State.finishOpt s a1 a2 a3 a4).Good q := by
  unfold State.finishOpt
  split
  · exact hs
  · exact (State.finish_good _ _ _ _ _ hs)

theorem State.setLane_good (s : State) (a1 : Nat) (a2 : Lane) (hs : s.Good q) : (State.setLane s a1 a2).Good q := by
  unfold State.setLane
  exact (.of hs)

theorem State.refusePark_good (s : State) (a1 : Nat) (hs : s.Good q) : (State.refusePark s a1).Good q := by
  unfold State.refusePark
  extract_lets -underBinder +onlyGivenNames v0
  refine good_ite ?_ ?_
  · exact hs
  · extract_lets -underBinder +onlyGivenNames v1
    have w1 : State.Good q (v1) := by
      unfold v1
      exact (State.finishOpt_good _ _ _ _ _ hs)
    clear_value v1
    exact (State.setLane_good _ _ _ w1)

theorem State.endCommand_good (s : State) (a1 : Nat) (a2 : Nat) (a3 : List Word) (a4 : Instant) (hs : s.Good q) :
    (State.endCommand s a1 a2 a3 a4).Good q := by
  unfold State.endCommand
  split
  · exact hs
  · exact (good_ite hs (State.post_good _ _ _ hs))

/-- A reset empties the message SRAM and the TCMs; the flash stays. -/
theorem State.afterReset_good (s : State) (p : Power) (h : s.Good q) : (State.afterReset s p).Good q :=
  ⟨h.1, q.nil, q.nil, q.nil, h.2.2.2.2⟩

theorem State.coldReset_good (s : State) (a1 : Nat) (a2 : Nat) (a3 : Bool) (hs : s.Good q) : (State.coldReset s a1 a2
    a3).Good q := by
  unfold State.coldReset
  exact (State.afterReset_good _ _ hs)

theorem State.warmReset_good (s : State) (a1 : Nat) (hs : s.Good q) : (State.warmReset s a1).Good q := by
  unfold State.warmReset
  exact (State.afterReset_good _ _ hs)

theorem State.firmwareFailure_good (s : State) (hs : s.Good q) : (State.firmwareFailure s).Good q := by
  unfold State.firmwareFailure
  exact (good_ite (State.warmReset_good _ _ hs) hs)

theorem State.wakeSource_good (s : State) (a1 : Nat) (hs : s.Good q) : (State.wakeSource s a1).Good q := by
  unfold State.wakeSource
  exact (good_ite (.ofPwr hs) hs)

theorem State.setModel_good (s : State) (a1 : Nat) (a2 : PortModel) (hs : s.Good q) : (State.setModel s a1 a2).Good q
    := by
  unfold State.setModel
  exact (.of hs)

theorem State.setEqueue_good (s : State) (a1 : Nat) (a2 : EQueue) (hs : s.Good q) : (State.setEqueue s a1 a2).Good q
    := by
  unfold State.setEqueue
  exact (.of hs)

theorem State.setCourse_good (s : State) (a1 : Nat) (a2 : Course) (hs : s.Good q) : (State.setCourse s a1 a2).Good q
    := by
  unfold State.setCourse
  exact (.of hs)

theorem State.setBucket_good (s : State) (a1 : Nat) (a2 : Nat) (a3 : Bucket) (hs : s.Good q) : (State.setBucket s a1 a2
    a3).Good q := by
  unfold State.setBucket
  exact (.of hs)

theorem State.setRecov_good (s : State) (a1 : Nat) (a2 : RecovState) (hs : s.Good q) : (State.setRecov s a1 a2).Good
    q := by
  unfold State.setRecov
  exact (.of hs)

theorem State.setCharge_good (s : State) (a1 : Nat) (a2 : Option Charge) (hs : s.Good q) : (State.setCharge s a1
    a2).Good q := by
  unfold State.setCharge
  exact (.of hs)

theorem State.setFrame_good (s : State) (a1 : Nat) (a2 : Option Frame) (hs : s.Good q) : (State.setFrame s a1
    a2).Good q := by
  unfold State.setFrame
  exact (.of hs)

theorem State.setInput_good (s : State) (a1 : Nat) (a2 : Nat) (a3 : MergeIn) (hs : s.Good q) : (State.setInput s a1 a2
    a3).Good q := by
  unfold State.setInput
  exact (.of hs)

theorem State.setOutq_good (s : State) (a1 : Nat) (a2 : List Item) (hs : s.Good q) : (State.setOutq s a1 a2).Good q
    := by
  unfold State.setOutq
  exact (.of hs)

theorem State.addFree_good (s : State) (a1 : Pool) (a2 : Int) (hs : s.Good q) : (State.addFree s a1 a2).Good q := by
  unfold State.addFree
  split
  · exact (.of hs)
  · exact (.of hs)
  · exact (.of hs)

theorem State.touchCredit_good (s : State) (a1 : Nat) (a2 : Instant) (hs : s.Good q) : (State.touchCredit s a1
    a2).Good q := by
  unfold State.touchCredit
  exact (State.setModel_good _ _ _ hs)

theorem State.updCopy_good (s : State) (a1 : Nat) (a2 : Nat) (a3 : Bool) (a4 : Copy → Copy) (hs : s.Good q) :
    (State.updCopy s a1 a2 a3 a4).Good q := by
  unfold State.updCopy
  extract_lets -underBinder +onlyGivenNames v0
  exact (State.setEqueue_good _ _ _ hs)

theorem State.leaveCharge_good (s : State) (a1 : Nat) (hs : s.Good q) : (State.leaveCharge s a1).Good q := by
  unfold State.leaveCharge
  split
  · exact hs
  · refine good_ite ?_ ?_
    · exact (State.setCharge_good _ _ _ hs)
    · extract_lets -underBinder +onlyGivenNames v0
      extract_lets -underBinder +onlyGivenNames v1
      have w1 : State.Good q (v1) := by
        unfold v1
        exact (State.addFree_good _ _ _ (State.setEqueue_good _ _ _ hs))
      clear_value v1
      exact (good_ite (State.setFrame_good _ _ _ (State.setCharge_good _ _ _ w1)) (State.setCharge_good _ _ _ w1))

theorem State.leaveFences_good (s : State) (a1 : Nat) (a2 : Instant) (a3 : Instant) (hs : s.Good q) :
    (State.leaveFences s a1 a2 a3).Good q := by
  unfold State.leaveFences
  extract_lets -underBinder +onlyGivenNames v0
  exact (.of hs)

theorem State.removeCopy_good (s : State) (a1 : Nat) (a2 : Nat) (a3 : Bool) (a4 : Instant) (hs : s.Good q) :
    (State.removeCopy s a1 a2 a3 a4).Good q := by
  unfold State.removeCopy
  split
  · exact hs
  · extract_lets -underBinder +onlyGivenNames v0
    have w0 : State.Good q (v0) := by
      unfold v0
      exact (good_ite (State.touchCredit_good _ _ _ hs) hs)
    clear_value v0
    extract_lets -underBinder +onlyGivenNames v20 v21 v22
    have w22 : State.Good q (v22) := by
      unfold v22
      exact (State.setEqueue_good _ _ _ w0)
    clear_value v22
    exact (State.leaveCharge_good _ _ (State.leaveFences_good _ _ _ _ w22))

theorem State.beginTx_good (s : State) (a1 : Nat) (a2 : Nat) (a3 : Copy) (a4 : Instant) (hs : s.Good q) :
    (State.beginTx s a1 a2 a3 a4).Good q := by
  unfold State.beginTx
  extract_lets -underBinder +onlyGivenNames v0
  have w0 : State.Good q (v0) := by
    unfold v0
    exact (good_ite (State.touchCredit_good _ _ _ hs) hs)
  clear_value v0
  extract_lets -underBinder +onlyGivenNames v20 v21 v22
  exact (State.setModel_good _ _ _ w0)

theorem State.drr_good (c : Cfg) (p u : Nat) (order : List Nat) (n : Nat) (l : List Nat) (s s1 : State) (k : Nat)
    (x : Copy) (h : s.Good q) (e : State.drr c p u order n l s = some (k, x, s1)) : s1.Good q := by
  induction n generalizing l s with
  | zero => cases l <;> cases e
  | succ n ih =>
    cases l with
    | nil => exact ih _ _ h e
    | cons w r =>
      unfold State.drr at e
      dsimp only at e
      split at e
      · exact ih _ _ h e
      · split at e
        · exact ih _ _ (State.setEqueue_good _ _ _ h) e
        · cases e
          exact State.setModel_good _ _ _ (State.setEqueue_good _ _ _ h)

theorem State.choose_good (s s1 : State) (p : Nat) (u : Instant) (k : Nat) (c : Copy) (h : s.Good q)
    (e : s.choose p u = some (k, c, s1)) : s1.Good q := by
  unfold State.choose at e
  extract_lets _ _ _ at e
  split at e
  · cases e; exact h
  · split at e
    · cases e
    · exact State.drr_good _ _ _ _ _ _ _ _ _ _ h e

theorem State.modelStart_good (s : State) (p : Nat) (u : Instant) (h : s.Good q) : (State.modelStart s p u).Good q
    := by
  unfold State.modelStart
  dsimp only
  refine good_ite h ?_
  split
  · refine good_ite ?_ h
    split
    · exact State.beginTx_good _ _ _ _ _ h
    · exact State.setModel_good _ _ _ h
  · refine good_ite h ?_
    split
    · rename_i e
      exact State.beginTx_good _ _ _ _ _ (State.choose_good _ _ _ _ _ _ h e)
    · exact h

theorem State.modelEnd_good (s : State) (a1 : Nat) (a2 : Instant) (hs : s.Good q) : (State.modelEnd s a1 a2).Good q
    := by
  unfold State.modelEnd
  extract_lets -underBinder +onlyGivenNames v0
  split
  · exact hs
  · extract_lets -underBinder +onlyGivenNames v1
    extract_lets -underBinder +onlyGivenNames v2 v3
    have w3 : State.Good q (v3) := by
      unfold v3
      exact (good_ite (State.touchCredit_good _ _ _ hs) hs)
    clear_value v3
    extract_lets -underBinder +onlyGivenNames v23 v24 v25
    have w25 : State.Good q (v25) := by
      unfold v25
      exact (State.setModel_good _ _ _ w3)
    clear_value v25
    extract_lets -underBinder +onlyGivenNames v45 v46
    have w46 : State.Good q (v46) := by
      unfold v46
      exact (good_ite w25 (State.countQ_good _ _ _ _ _ (State.countQ_good _ _ _ _ _ w25)))
    clear_value v46
    exact (State.removeCopy_good _ _ _ _ _ w46)

theorem State.dropPhys_good (s : State) (a1 : Nat) (a2 : Nat) (a3 : Bool) (hs : s.Good q) : (State.dropPhys s a1 a2
    a3).Good q := by
  unfold State.dropPhys
  extract_lets -underBinder +onlyGivenNames v0
  exact (State.setModel_good _ _ _ hs)

theorem State.markBad_good (s : State) (a1 : Nat) (a2 : Nat) (a3 : Bool) (a4 : Option Nat) (hs : s.Good q) :
    (State.markBad s a1 a2 a3 a4).Good q := by
  unfold State.markBad
  extract_lets -underBinder +onlyGivenNames v0
  split
  · exact (good_ite (State.setModel_good _ _ _ hs) hs)
  · exact hs

theorem State.endEarly_good (s : State) (a1 : Nat) (a2 : PhysTx) (a3 : Nat) (a4 : Nat) (hs : s.Good q) : (State.endEarly
    s a1 a2 a3 a4).Good q := by
  unfold State.endEarly
  extract_lets -underBinder +onlyGivenNames v0
  have w0 : State.Good q (v0) := by
    unfold v0
    exact (State.countQ_good _ _ _ _ _ (State.dropPhys_good _ _ _ _ (State.markBad_good _ _ _ _ _ hs)))
  clear_value v0
  exact (good_ite (State.emit_good _ _ w0) w0)

theorem State.sendPhys_good (s : State) (a1 : Nat) (hs : s.Good q) : (State.sendPhys s a1).Good q := by
  unfold State.sendPhys
  extract_lets -underBinder +onlyGivenNames v0
  split
  · exact (good_ite (good_ite (State.endEarly_good _ _ _ _ _ hs) (good_ite hs (State.emit_good _ _
      (State.setModel_good _ _ _ hs)))) hs)
  · exact hs

theorem State.takeLaunch_good (s : State) (a1 : Nat) (a2 : Launch) (hs : s.Good q) : (State.takeLaunch s a1 a2).Good
    q := by
  unfold State.takeLaunch
  extract_lets -underBinder +onlyGivenNames v0 v1
  have w1 : State.Good q (v1) := by
    unfold v1
    exact (State.setModel_good _ _ _ hs)
  clear_value v1
  split
  · exact w1
  · refine good_ite ?_ ?_
    · exact (State.removeCopy_good _ _ _ _ _ w1)
    · extract_lets -underBinder +onlyGivenNames v21
      have w21 : State.Good q (v21) := by
        unfold v21
        exact (State.dropPhys_good _ _ _ _ (State.beginTx_good _ _ _ _ _ w1))
      clear_value v21
      exact (State.setModel_good _ _ _ w21)

theorem State.modelRun_good (p : Nat) (k : Instant) (n : Nat) (s : State) (h : s.Good q) :
    (State.modelRun p k n s).Good q := by
  induction n generalizing s with
  | zero => exact h
  | succ n ih =>
    have hm := fun v => State.keyedAt_good s v (fun s => s.modelStart p v) h fun _ k => State.modelStart_good _ _ _
        k
    unfold State.modelRun
    split
    · split
      · exact good_ite (ih _ (State.keyedAt_good _ _ _ h fun _ k =>
          State.sendPhys_good _ _ (State.modelEnd_good _ _ _ k))) h
      · exact h
    · split
      · split
        · exact good_ite h (ih _ (hm _))
        · exact ih _ (State.keyedAt_good _ _ _ h fun _ k => State.takeLaunch_good _ _ _ k)
      · split
        · exact good_ite h (ih _ (hm _))
        · exact h

theorem State.endPause_good (s : State) (a1 : Nat) (a2 : Instant) (hs : s.Good q) : (State.endPause s a1 a2).Good q
    := by
  unfold State.endPause
  extract_lets -underBinder +onlyGivenNames v0
  split
  · exact hs
  · exact (State.keyedAt_good _ _ _ (State.setModel_good _ _ _ hs) (fun _ k0 => (State.countP_good _ _ _ _ k0)))

theorem State.pausedPort_good (a0 : Instant) (s1 : State) (a2 : Nat) (hs1 : s1.Good q) : (State.pausedPort a0 s1
    a2).Good q := by
  unfold State.pausedPort
  extract_lets -underBinder +onlyGivenNames v0 v1
  split
  · exact (good_ite hs1 (State.keyedAt_good _ _ _ (State.setModel_good _ _ _ hs1) (fun _ k0 => (State.countP_good _
      _ _ _ k0))))
  · exact hs1

theorem State.ceilPause_good (s : State) (a1 : Nat) (a2 : Instant) (a3 : Nat) (hs : s.Good q) : (State.ceilPause s a1
    a2 a3).Good q := by
  unfold State.ceilPause
  extract_lets -underBinder +onlyGivenNames v0
  have w0 : State.Good q (v0) := by
    unfold v0
    exact (State.keyedAt_good _ _ _ (State.endPause_good _ _ _ hs) (fun _ k0 => (State.countP_good _ _ _ _ k0)))
  clear_value v0
  exact (State.raise_good _ _ _ _ _ _ (State.setModel_good _ _ _ w0))

theorem State.pauseTo_good (s : State) (a1 : Nat) (a2 : Instant) (hs : s.Good q) : (State.pauseTo s a1 a2).Good q :=
    by
  unfold State.pauseTo
  extract_lets -underBinder +onlyGivenNames v0
  split
  · exact hs
  · extract_lets -underBinder +onlyGivenNames v1
    extract_lets -underBinder +onlyGivenNames v2
    exact (good_ite (good_ite (State.ceilPause_good _ _ _ _ hs) hs) (good_ite (State.endPause_good _ _ _ hs) hs))

theorem State.pausedTime_good (s : State) (a1 : Instant) (hs : s.Good q) : (State.pausedTime s a1).Good q := by
  unfold State.pausedTime
  exact (good_foldl hs fun _ _ k0 => (State.pausedPort_good _ _ _ (State.pauseTo_good _ _ _ k0)))

theorem State.setPause_good (s : State) (a1 : Nat) (a2 : Nat) (a3 : Instant) (hs : s.Good q) : (State.setPause s a1 a2
    a3).Good q := by
  unfold State.setPause
  extract_lets -underBinder +onlyGivenNames v0
  refine good_ite ?_ ?_
  · exact (State.endPause_good _ _ _ hs)
  · extract_lets -underBinder +onlyGivenNames v1
    exact (State.setModel_good _ _ _ hs)

theorem State.macControl_good (s : State) (a1 : Nat) (a2 : Frame) (a3 : Instant) (hs : s.Good q) : (State.macControl
    s a1 a2 a3).Good q := by
  unfold State.macControl
  extract_lets -underBinder +onlyGivenNames v0
  refine good_ite ?_ ?_
  · exact hs
  · refine good_ite ?_ ?_
    · exact (State.countP_good _ _ _ _ hs)
    · refine good_ite ?_ ?_
      · exact hs
      · extract_lets -underBinder +onlyGivenNames v1
        have w1 : State.Good q (v1) := by
          unfold v1
          exact (State.pauseTo_good _ _ _ hs)
        clear_value v1
        exact (good_ite (State.countP_good _ _ _ _ w1) (State.pauseTo_good _ _ _ (State.setPause_good _ _ _ _
            (State.countP_good _ _ _ _ w1))))

theorem State.ctrlTo_good (s : State) (a1 : Nat) (a2 : Instant) (hs : s.Good q) : (State.ctrlTo s a1 a2).Good q := by
  unfold State.ctrlTo
  extract_lets -underBinder +onlyGivenNames v0 v1 v2 v3
  have w3 : State.Good q (v3) := by
    unfold v3
    exact (.of hs)
  clear_value v3
  refine good_foldl ?_ fun z23 y23 h23 => ?_
  · exact w3
  · split
    · exact (State.keyedAt_good _ _ _ (State.setFrame_good _ _ _ h23) (fun _ k0 => (State.macControl_good _ _ _ _
        k0)))
    · exact h23

theorem State.ageCopy_good (s : State) (a1 : Nat) (a2 : Nat) (a3 : Copy) (a4 : Instant) (hs : s.Good q) :
    (State.ageCopy s a1 a2 a3 a4).Good q := by
  unfold State.ageCopy
  extract_lets -underBinder +onlyGivenNames v0 v1
  have w1 : State.Good q (v1) := by
    unfold v1
    split
    · exact (good_ite (State.setModel_good _ _ _ hs) hs)
    · exact hs
  clear_value v1
  exact (State.keyedAt_good _ _ _ (State.removeCopy_good _ _ _ _ _ w1) (fun _ k0 => (State.countQ_good _ _ _ _ _
      k0)))

theorem State.ageQueue_good (a0 : Nat) (a1 : Instant) (s2 : State) (a3 : Nat) (hs2 : s2.Good q) : (State.ageQueue a0 a1
    s2 a3).Good q := by
  unfold State.ageQueue
  extract_lets -underBinder +onlyGivenNames v0
  exact (good_foldl hs2 fun _ _ k0 => (State.ageCopy_good _ _ _ _ _ k0))

theorem State.ranTo_good (s : State) (a1 : Nat) (a2 : Instant) (hs : s.Good q) : (State.ranTo s a1 a2).Good q := by
  unfold State.ranTo
  exact (good_ite hs (State.setModel_good _ _ _ hs))

theorem State.portPoint_good (a0 : Nat) (a1 : Nat) (s2 : State) (a3 : Instant) (hs2 : s2.Good q) : (State.portPoint a0
    a1 s2 a3).Good q := by
  unfold State.portPoint
  exact (good_foldl (State.ctrlTo_good _ _ _ (State.ranTo_good _ _ _ (State.modelRun_good _ _ _ _ hs2))) fun _ _ k0
      => (State.ageQueue_good _ _ _ _ k0))

theorem State.runPort_good (s : State) (a1 : Nat) (a2 : Instant) (hs : s.Good q) : (State.runPort s a1 a2).Good q :=
    by
  unfold State.runPort
  extract_lets -underBinder +onlyGivenNames v0 v1
  exact (State.ranTo_good _ _ _ (State.pauseTo_good _ _ _ (State.modelRun_good _ _ _ _ (good_foldl hs fun _ _ k0 =>
      (State.portPoint_good _ _ _ _ k0)))))

theorem State.runAll_good (s : State) (a1 : Instant) (hs : s.Good q) : (State.runAll s a1).Good q := by
  unfold State.runAll
  exact (good_foldl hs fun _ _ k0 => (State.runPort_good _ _ _ k0))

theorem State.unitEffect_good (a0 : Nat) (a1 : Instant) (s2 : State) (a3 : Change) (hs2 : s2.Good q) :
    (State.unitEffect a0 a1 s2 a3).Good q := by
  unfold State.unitEffect
  split
  · exact (good_ite (State.setBucket_good _ _ _ _ hs2) hs2)
  · exact (good_ite (State.setRecov_good _ _ _ hs2) hs2)
  · exact (good_ite (State.countR_good _ _ _ _ (State.setRecov_good _ _ _ hs2)) hs2)
  · exact (.of hs2)
  · refine good_ite ?_ ?_
    · extract_lets -underBinder +onlyGivenNames v0
      have w0 : State.Good q (v0) := by
        unfold v0
        exact (State.touchCredit_good _ _ _ hs2)
      clear_value v0
      extract_lets -underBinder +onlyGivenNames v20 v21
      have w21 : ∀ b21_0 b21_1, State.Good q b21_0 → State.Good q (v21 b21_0 b21_1) := by
        intro b21_0 b21_1 hb21_0
        unfold v21
        dsimp only
        exact (good_ite (State.setEqueue_good _ _ _ hb21_0) hb21_0)
      clear_value v21
      extract_lets -underBinder +onlyGivenNames v41
      have w41 : State.Good q (v41) := by
        unfold v41
        exact (good_foldl w0 fun _ _ k0 => (w21 _ _ k0))
      clear_value v41
      extract_lets -underBinder +onlyGivenNames v61
      exact (State.setModel_good _ _ _ w41)
    · exact hs2
  · exact (good_ite (State.endPause_good _ _ _ hs2) hs2)
  · exact hs2

theorem State.carryCharges_good (s : State) (hs : s.Good q) : (State.carryCharges s).Good q := by
  unfold State.carryCharges
  refine good_foldl ?_ fun z0 y0 h0 => ?_
  · exact hs
  · split
    · extract_lets -underBinder +onlyGivenNames v1
      refine good_ite ?_ ?_
      · exact h0
      · extract_lets -underBinder +onlyGivenNames v2
        extract_lets -underBinder +onlyGivenNames v3
        have w3 : State.Good q (v3) := by
          unfold v3
          exact (State.setEqueue_good _ _ _ h0)
        clear_value v3
        exact (State.setCharge_good _ _ _ w3)
    · exact h0

theorem State.poolEffect_good (a0 : Cfg) (a1 : Cfg) (s2 : State) (hs2 : s2.Good q) : (State.poolEffect a0 a1
    s2).Good q := by
  unfold State.poolEffect
  refine good_ite ?_ ?_
  · exact (.of hs2)
  · extract_lets -underBinder +onlyGivenNames v0
    have w0 : State.Good q (v0) := by
      unfold v0
      exact (good_ite (State.carryCharges_good _ hs2) hs2)
    clear_value v0
    exact (.of w0)

theorem State.ffEffect_good (a0 : Cfg) (a1 : Cfg) (a2 : Instant) (s3 : State) (hs3 : s3.Good q) : (State.ffEffect
    a0 a1 a2 s3).Good q := by
  unfold State.ffEffect
  refine good_foldl ?_ fun z0 y0 h0 => ?_
  · exact hs3
  · extract_lets -underBinder +onlyGivenNames v1
    exact (good_ite (State.raise_good _ _ _ _ _ _ (State.count_good _ _ _ h0)) h0)

theorem State.complete_good (s : State) (a1 : Staged) (a2 : Instant) (hs : s.Good q) : (State.complete s a1
    a2).Good q := by
  unfold State.complete
  extract_lets -underBinder +onlyGivenNames v0 v1
  have w1 : State.Good q (v1) := by
    unfold v1
    exact (State.ffEffect_good _ _ _ _ (State.poolEffect_good _ _ _ hs))
  clear_value v1
  extract_lets -underBinder +onlyGivenNames v21 v22 v23 v24
  have w24 : State.Good q (v24) := by
    unfold v24
    exact (.of w1)
  clear_value v24
  extract_lets -underBinder +onlyGivenNames v44 v45 v46
  have w46 : State.Good q (v46) := by
    unfold v46
    exact (.of w24)
  clear_value v46
  refine good_foldl ?_ fun z66 y66 h66 => ?_
  · exact w46
  · split
    · exact (good_ite h66 (State.finish_good _ _ _ _ _ h66))
    · exact h66

theorem State.applyOne_good (a0 : Nat) (a1 : Instant) (a2 : Instant) (s3 : State) (a4 : Staged) (hs3 : s3.Good q) :
    (State.applyOne a0 a1 a2 s3 a4).Good q := by
  unfold State.applyOne
  refine good_ite ?_ ?_
  · exact hs3
  · extract_lets -underBinder +onlyGivenNames v0
    have w0 : State.Good q (v0) := by
      unfold v0
      exact (good_foldl hs3 fun _ _ k0 => (State.unitEffect_good _ _ _ _ k0))
    clear_value v0
    extract_lets -underBinder +onlyGivenNames v20 v21
    have w21 : State.Good q (v21) := by
      unfold v21
      exact (good_ite (.of w0) w0)
    clear_value v21
    extract_lets -underBinder +onlyGivenNames v41 v42 v43
    have w43 : State.Good q (v43) := by
      unfold v43
      exact (.of w21)
    clear_value v43
    exact (good_ite (State.complete_good _ _ _ w43) w43)

theorem State.applyTo_good (s : State) (a1 : Nat) (a2 : Instant) (a3 : Instant) (a4 : Instant) (hs : s.Good q) :
    (State.applyTo s a1 a2 a3 a4).Good q := by
  unfold State.applyTo
  exact (good_foldl hs fun _ _ k0 => (State.applyOne_good _ _ _ _ _ (good_ite (State.runAll_good _ _ k0) k0)))

theorem State.applyUnit_good (s : State) (a1 : Nat) (a2 : Instant) (a3 : Instant) (hs : s.Good q) : (State.applyUnit
    s a1 a2 a3).Good q := by
  unfold State.applyUnit
  exact (State.applyTo_good _ _ _ _ _ hs)

theorem State.applyAllUnits_good (s : State) (a1 : Instant) (a2 : Instant) (a3 : Instant) (hs : s.Good q) :
    (State.applyAllUnits s a1 a2 a3).Good q := by
  unfold State.applyAllUnits
  exact (good_foldl hs fun _ _ k0 => (State.applyTo_good _ _ _ _ _ k0))

theorem State.applyDue_good (s : State) (a1 : Instant) (a2 : Instant) (hs : s.Good q) : (State.applyDue s a1
    a2).Good q := by
  unfold State.applyDue
  exact (good_foldl hs fun _ _ k0 => (State.applyUnit_good _ _ _ _ k0))

theorem State.egressTo_good (s : State) (a1 : Instant) (a2 : Instant) (hs : s.Good q) : (State.egressTo s a1
    a2).Good q := by
  unfold State.egressTo
  exact (State.runAll_good _ _ (State.applyUnit_good _ _ _ _ hs))

theorem State.egressDue_good (s : State) (a1 : Instant) (a2 : Instant) (hs : s.Good q) : (State.egressDue s a1
    a2).Good q := by
  unfold State.egressDue
  exact (State.egressTo_good _ _ _ hs)

theorem State.egressPort_good (s : State) (a1 : Nat) (a2 : Instant) (hs : s.Good q) : (State.egressPort s a1 a2).Good
    q := by
  unfold State.egressPort
  extract_lets -underBinder +onlyGivenNames v0
  exact (State.runPort_good _ _ _ (State.applyUnit_good _ _ _ _ hs))

theorem State.stage_good (s : State) (a1 : Staged) (hs : s.Good q) : (State.stage s a1).Good q := by
  unfold State.stage
  extract_lets -underBinder +onlyGivenNames v0
  exact (.of hs)

theorem State.stageChange_good (s : State) (a1 : Ctx) (a2 : Nat) (a3 : Bool) (a4 : List Nat) (a5 : Nat) (a6 : List
    Change) (a7 : List Word) (hs : s.Good q) : (State.stageChange s a1 a2 a3 a4 a5 a6 a7).Good q := by
  unfold State.stageChange
  extract_lets -underBinder +onlyGivenNames v0
  refine resGood_ite ?_ ?_
  · exact resGood_fail
  · refine resGood_ite ?_ ?_
    · exact resGood_fail
    · refine resGood_ite ?_ ?_
      · exact resGood_fail
      · extract_lets -underBinder +onlyGivenNames v1
        exact (resGood_ite (State.applyDue_good _ _ _ (State.stage_good _ _ hs)) (State.stage_good _ _ hs))

theorem State.replyTo_good (s : State) (a1 : Nat) (a2 : Nat) (a3 : Nat) (a4 : Bool) (a5 : List Word) (a6 : Req) (hs :
    s.Good q) : (State.replyTo s a1 a2 a3 a4 a5 a6).Good q := by
  unfold State.replyTo
  exact (State.post_good _ _ _ hs)

theorem State.setBatch_good (s : State) (a1 : Sender) (a2 : Option Instant) (hs : s.Good q) : (State.setBatch s a1
    a2).Good q := by
  unfold State.setBatch
  exact (.ofHost hs)

theorem State.abortBatch_good (s : State) (a1 : Sender) (a2 : Instant) (hs : s.Good q) : (State.abortBatch s a1
    a2).Good q := by
  unfold State.abortBatch
  exact (good_foldl (State.setBatch_good _ _ _ hs) fun _ _ k0 => (State.replyTo_good _ _ _ _ _ _ _ k0))

/-- A body leaves the queue and keeps the memories canonical; so does what it marks when it fails. -/
def OpSpec.Good (op : OpSpec) : Prop := ∀ (q : Keep) (c : Ctx) (s : State), s.Good q → (op.body c s).Good q

def TblGood (tbl : Nat → Option OpSpec) : Prop := ∀ n op, tbl n = some op → op.Good

theorem runBody_good (op : OpSpec) (jid : Nat) (r : Req) (s : State) (h : s.Good q) (k : op.Good) :
    (runBody op jid r s).Good q := k _ _ _ h

theorem State.commitRec_good (s : State) (a1 : Nat) (a2 : List Word) (hs : s.Good q) : (State.commitRec s a1 a2).Good
    q := by
  unfold State.commitRec
  split
  · exact (State.setJrec_good _ _ _ hs)
  · exact hs

theorem failBatch_good (jid : Nat) (f : Failure) (x : Sender) (t : Instant) (s : State)
    (h : (f.mark s).Good q) : (failBatch jid f x t s).Good q := by
  unfold failBatch
  refine State.setBatch_good _ _ _ (good_foldl h fun z y hz => ?_)
  exact good_ite (State.replyTo_good _ _ _ _ _ _ _ hz) (State.replyTo_good _ _ _ _ _ _ _ hz)

theorem taken_good (a0 : OpSpec) (a1 : Req) (s2 : State) (hs2 : s2.Good q) : (taken a0 a1 s2).Good q := by
  unfold taken
  extract_lets -underBinder +onlyGivenNames v0
  have w0 : State.Good q (v0) := by
    unfold v0
    exact (State.setJrec_good _ _ _ (State.countF_good _ _ _ _ (State.tick_good _ _ hs2)))
  clear_value v0
  exact (.ofHost w0)

theorem commitOne_good (op : OpSpec) (jid : Nat) (r : Req) (s : State) (h : s.Good q) (k : op.Good) :
    (∀ s', commitOne op jid r s = .inl s' → s'.Good q)
    ∧ (∀ f, commitOne op jid r s = .inr f → ∀ z : State, z.Good q → (f.mark z).Good q) := by
  have hb := runBody_good op jid r s h k
  constructor
  · intro s' e
    unfold commitOne at e
    split at e <;> (rename_i he; rw [he] at hb; cases e)
    · exact State.replyTo_good _ _ _ _ _ _ _ hb
    · exact State.replyTo_good _ _ _ _ _ _ _ (State.commitRec_good _ _ _ hb)
  · intro f e
    unfold commitOne at e
    split at e <;> (rename_i he; rw [he] at hb; cases e)
    exact hb

theorem applyHeld_good {tbl : Nat → Option OpSpec} (ht : TblGood tbl) (l : List (Nat × JRec)) (s t : State)
    (h : s.Good q) (e : applyHeld tbl l s = some t) : t.Good q := by
  induction l generalizing s with
  | nil => cases e; exact h
  | cons x l ih =>
    unfold applyHeld at e
    split at e
    · cases e
    · rename_i op ho
      have hb := runBody_good op x.1 x.2.req s h (ht _ _ ho)
      split at e
      · exact ih _ h e
      · split at e <;> rename_i he
        · cases e
        · rw [he] at hb; exact ih _ hb e
        · rw [he] at hb; exact ih _ hb e

theorem commitAll_good {tbl : Nat → Option OpSpec} (ht : TblGood tbl) (l : List (Nat × JRec)) (s : State)
    (h : s.Good q) : (∀ s', commitAll tbl l s = .inl s' → s'.Good q)
    ∧ (∀ j f, commitAll tbl l s = .inr (j, f) → ∀ z : State, z.Good q → (f.mark z).Good q) := by
  induction l generalizing s with
  | nil => exact ⟨fun _ e => by cases e; exact h, fun _ _ e => by cases e⟩
  | cons x l ih =>
    constructor <;> intro s'
    · intro e
      unfold commitAll at e
      split at e
      · cases e
      · rename_i op ho
        split at e
        · exact (ih _ (State.replyTo_good _ _ _ _ _ _ _ h)).1 _ e
        · split at e <;> rename_i he
          · cases e
          · exact (ih _ ((commitOne_good _ _ _ _ h (ht _ _ ho)).1 _ he)).1 _ e
    · intro f e
      unfold commitAll at e
      split at e
      · cases e; exact fun _ hz => hz
      · rename_i op ho
        split at e
        · exact (ih _ (State.replyTo_good _ _ _ _ _ _ _ h)).2 _ _ e
        · split at e <;> rename_i he
          · cases e; exact (commitOne_good _ _ _ _ h (ht _ _ ho)).2 _ he
          · exact (ih _ ((commitOne_good _ _ _ _ h (ht _ _ ho)).1 _ he)).2 _ _ e

theorem batchFailure_good (r : Req) (x : Res) (h : x.Good q) (f : Failure) (e : batchFailure r x = some f) (z :
    State)
    (hz : z.Good q) : (f.mark z).Good q := by
  unfold batchFailure at e
  split at e
  · simp only [Option.map_eq_some_iff] at e
    obtain ⟨_, _, rfl⟩ := e
    exact hz
  · split at e <;> cases e
    exact h z hz

theorem runCommand_good (tbl : Nat → Option OpSpec) (op : OpSpec) (r : Req) (s : State) (h : s.Good q)
    (ht : TblGood tbl) (k : op.Good) : (runCommand tbl op r s).Good q := by
  have hs1 := taken_good op r s h
  unfold runCommand
  extract_lets -underBinder +onlyGivenNames u
  refine good_ite ?_ ?_
  · have hu : u.Good q := State.countF_good _ _ _ _ (State.tick_good _ _ h)
    exact State.replyTo_good _ _ _ _ _ _ _ (good_ite (State.abortBatch_good _ _ _ hu) hu)
  · extract_lets -underBinder +onlyGivenNames jid s1 inb held
    change s1.Good q at hs1
    split
    · exact State.replyTo_good _ _ _ _ _ _ _ (good_ite (State.abortBatch_good _ _ _ hs1) hs1)
    · refine good_ite ?_ (good_ite ?_ ?_)
      · split
        · exact State.replyTo_good _ _ _ _ _ _ _ (State.abortBatch_good _ _ _ hs1)
        · rename_i sh he
          have hh := applyHeld_good ht _ _ _ hs1 he
          split
          · rename_i f hf
            exact State.replyTo_good _ _ _ _ _ _ _ (State.abortBatch_good _ _ _
              (batchFailure_good _ _ (runBody_good _ _ _ _ hh k) _ hf _ hs1))
          · have h2 := State.setJrec_good s1 jid { takenRec op r s with state := .held } hs1
            refine good_ite (State.setBatch_good _ _ _ h2) ?_
            have hc := commitAll_good ht ((s1.setJrec jid { takenRec op r s with state := .held }).heldOf r.sender)
                _
              (State.setBatch_good _ r.sender none h2)
            split <;> rename_i he2
            · exact hc.1 _ he2
            · exact failBatch_good _ _ _ _ _ (hc.2 _ _ he2 _ h2)
      · split
        · exact State.replyTo_good _ _ _ _ _ _ _ hs1
        · exact State.replyTo_good _ _ _ _ _ _ _ hs1
      · have hc := commitOne_good op jid r s1 hs1 k
        split <;> rename_i he2
        · exact hc.1 _ he2
        · exact State.replyTo_good _ _ _ _ _ _ _ (hc.2 _ he2 _ hs1)

end Sys2Proof.Machine
end

