-- ==== Sys2Proof/Laws/KeepDataPlane.lean ====
section
/-! SUPPORT. The queue and the memories' canonical form stay as they are in the data plane: fabric, pipelines, egress,
courses and time steps: for each function that answers a state, if the state it takes has queue q and canonical
memories, so has the one it answers (`State.Good`). -/

namespace Sys2Proof.Machine

variable {q : Keep}

theorem State.startSource_good (s : State) (a1 : Nat) (a2 : Nat) (a3 : Instant) (hs : s.Good q) : (State.startSource s
    a1 a2 a3).Good q := by
  unfold State.startSource
  extract_lets -underBinder +onlyGivenNames v0
  exact (State.setInput_good _ _ _ _ hs)

theorem State.gotFence_good (s : State) (a1 : Nat) (a2 : Nat) (hs : s.Good q) : (State.gotFence s a1 a2).Good q := by
  unfold State.gotFence
  exact (.of hs)

theorem State.takeHeads_good (mp i n : Nat) (s : State) (h : s.Good q) : (State.takeHeads mp i n s).Good q := by
  induction n generalizing s with
  | zero => exact h
  | succ n ih =>
    unfold State.takeHeads
    dsimp only
    split
    · exact ih _ (State.setInput_good _ _ _ _ h)
    · exact ih _ (State.gotFence_good _ _ _ (State.setInput_good _ _ _ _ h))
    · exact h

theorem State.sendFences_good (s : State) (a1 : Nat) (a2 : Instant) (hs : s.Good q) : (State.sendFences s a1 a2).Good
    q := by
  unfold State.sendFences
  extract_lets -underBinder +onlyGivenNames v0 v1
  refine good_ite ?_ ?_
  · exact hs
  · extract_lets -underBinder +onlyGivenNames v2
    extract_lets -underBinder +onlyGivenNames v3 v4
    have w4 : State.Good q (v4) := by
      unfold v4
      exact (.of hs)
    clear_value v4
    exact (State.setOutq_good _ _ _ w4)

theorem State.mergeLoop_good (mp : Nat) (ins : List Nat) (n : Nat) (s : State) (h : s.Good q) :
    (State.mergeLoop mp ins n s).Good q := by
  induction n generalizing s with
  | zero => exact h
  | succ n ih =>
    have h1 : (ins.foldl (fun s i => State.takeHeads mp i (s.input mp i).items.length s) s).Good q :=
      good_foldl h fun _ _ k => State.takeHeads_good _ _ _ _ k
    unfold State.mergeLoop
    dsimp only
    split
    · exact h1
    · exact good_ite (ih _ (State.setOutq_good _ _ _ (State.sendFences_good _ _ _ (State.setInput_good _ _ _ _
        h1)))) h1

theorem State.pushItem_good (s : State) (a1 : Nat) (a2 : Nat) (a3 : Item) (hs : s.Good q) : (State.pushItem s a1 a2
    a3).Good q := by
  unfold State.pushItem
  extract_lets -underBinder +onlyGivenNames v0
  refine good_ite ?_ ?_
  · split
    · split
      · exact (State.countP_good _ _ _ _ (State.setFrame_good _ _ _ hs))
      · exact hs
    · exact (State.countP_good _ _ _ _ hs)
    · exact hs
    · exact hs
    · exact hs
  · extract_lets -underBinder +onlyGivenNames v1
    extract_lets -underBinder +onlyGivenNames v2
    have w2 : State.Good q (v2) := by
      unfold v2
      exact (State.setInput_good _ _ _ _ hs)
    clear_value v2
    exact (good_ite w2 (.of w2))

theorem State.flushPipe_good (p n : Nat) (s : State) (h : s.Good q) : (State.flushPipe p n s).Good q := by
  induction n generalizing s with
  | zero => exact h
  | succ n ih =>
    unfold State.flushPipe
    split
    · exact ih _ (State.pushItem_good _ _ _ _ (State.pushItem_good _ _ _ _ (State.setOutq_good _ _ _ h)))
    · exact ih _ (State.pushItem_good _ _ _ _ (State.setOutq_good _ _ _ h))
    · exact h

theorem State.pushFrom_good (s : State) (a1 : Frame) (a2 : Item) (hs : s.Good q) : (State.pushFrom s a1 a2).Good q
    := by
  unfold State.pushFrom
  exact (good_ite (State.pushItem_good _ _ _ _ hs) (State.pushItem_good _ _ _ _ hs))

theorem State.drainNotices_good (n : Nat) (s : State) (h : s.Good q) : (State.drainNotices n s).Good q := by
  induction n generalizing s with
  | zero => exact h
  | succ n ih =>
    unfold State.drainNotices
    dsimp only
    split
    · have h1 := fun r => State.setOutq_good s 6 r h
      exact good_ite (ih _ (.of (h1 _)))
        (ih _ (State.raiseLimited_good _ _ _ _ _ _ (.of (State.countD_good _ _ _ (h1 _)))))
    · exact h

theorem State.mergeRun_good (s : State) (a1 : Nat) (hs : s.Good q) : (State.mergeRun s a1).Good q := by
  unfold State.mergeRun
  extract_lets -underBinder +onlyGivenNames v0 v1 v2
  have w2 : State.Good q (v2) := by
    unfold v2
    exact (State.mergeLoop_good _ _ _ _ hs)
  clear_value v2
  extract_lets -underBinder +onlyGivenNames v22
  refine good_ite ?_ ?_
  · extract_lets -underBinder +onlyGivenNames v23
    have w23 : State.Good q (v23) := by
      unfold v23
      exact (State.sendFences_good _ _ _ w2)
    clear_value v23
    extract_lets -underBinder +onlyGivenNames v43
    have w43 : State.Good q (v43) := by
      unfold v43
      exact (State.setOutq_good _ _ _ w23)
    clear_value v43
    exact (State.flushPipe_good _ _ _ w43)
  · exact (good_ite (.of w2) (State.drainNotices_good _ _ w2))

theorem State.setRx_good (s : State) (a1 : Nat) (a2 : Option Nat) (hs : s.Good q) : (State.setRx s a1 a2).Good q := by
  unfold State.setRx
  exact (.of hs)

theorem State.newFrame_good (s : State) (a1 : Frame) (hs : s.Good q) : (State.newFrame s a1).1.Good q := by
  unfold State.newFrame
  extract_lets -underBinder +onlyGivenNames v0 v1
  have w1 : State.Good q (v1) := by
    unfold v1
    exact (State.setFrame_good _ _ _ hs)
  clear_value v1
  dsimp only
  exact (.of w1)

theorem State.abortRx_good (s : State) (a1 : Nat) (a2 : Nat) (a3 : Nat) (a4 : Nat) (a5 : Instant) (hs : s.Good q) :
    (State.abortRx s a1 a2 a3 a4 a5).Good q := by
  unfold State.abortRx
  split
  · exact hs
  · split
    · exact (State.setRx_good _ _ _ hs)
    · extract_lets -underBinder +onlyGivenNames v0
      have w0 : State.Good q (v0) := by
        unfold v0
        exact (State.countP_good _ _ _ _ (State.setRx_good _ _ _ hs))
      clear_value v0
      refine good_ite ?_ ?_
      · exact (State.countP_good _ _ _ _ (State.setFrame_good _ _ _ w0))
      · extract_lets -underBinder +onlyGivenNames v20
        exact (State.pushFrom_good _ _ _ (State.setFrame_good _ _ _ w0))

theorem execFrameStamp_good (a0 : Nat) (a1 : List Byte) (a2 : Bool) (a3 : Instant) (s4 : State) (hs4 : s4.Good q) :
    OutGood q (execFrameStamp a0 a1 a2 a3 s4) := by
  unfold execFrameStamp
  extract_lets -underBinder +onlyGivenNames v0
  have w0 : State.Good q (v0) := by
    unfold v0
    exact (State.tick_good _ _ hs4)
  clear_value v0
  extract_lets -underBinder +onlyGivenNames v20
  refine outGood_ite ?_ ?_
  · exact w0
  · refine outGood_ite ?_ ?_
    · exact (State.countP_good _ _ _ _ w0)
    · refine outGood_ite ?_ ?_
      · exact (State.countP_good _ _ _ _ w0)
      · refine outGood_ite ?_ ?_
        · exact (State.countP_good _ _ _ _ w0)
        · refine outGood_ite ?_ ?_
          · extract_lets -underBinder +onlyGivenNames v21
            have w21 : State.Good q (v21) := by
              unfold v21
              exact (State.countP_good _ _ _ _ w0)
            clear_value v21
            exact (State.raiseLimited_good _ _ _ _ _ _ (.of w21))
          · extract_lets -underBinder +onlyGivenNames v21
            extract_lets -underBinder +onlyGivenNames v22
            have w22 : State.Good q (v22).1 := by
              unfold v22
              exact (State.newFrame_good _ _ w0)
            clear_value v22
            extract_lets -underBinder +onlyGivenNames v42
            have w42 : State.Good q (v42) := by
              unfold v42
              exact (State.setRx_good _ _ _ w22)
            clear_value v42
            exact (good_ite (State.countP_good _ _ _ _ w42) (State.pushItem_good _ _ _ _ w42))

theorem State.frameArrived_good (s : State) (a1 : Nat) (a2 : Nat) (a3 : Frame) (hs : s.Good q) : (State.frameArrived s
    a1 a2 a3).Good q := by
  unfold State.frameArrived
  extract_lets -underBinder +onlyGivenNames v0 v1 v2 v3
  have w3 : State.Good q (v3) := by
    unfold v3
    exact (good_ite (State.countP_good _ _ _ _ hs) (good_ite (State.countP_good _ _ _ _ hs) hs))
  clear_value v3
  extract_lets -underBinder +onlyGivenNames v23 v24 v25
  have w25 : State.Good q (v25) := by
    unfold v25
    exact (State.setFrame_good _ _ _ (State.setRx_good _ _ _ w3))
  clear_value v25
  refine good_ite ?_ ?_
  · extract_lets -underBinder +onlyGivenNames v45
    have w45 : State.Good q (v45) := by
      unfold v45
      exact (State.countP_good _ _ _ _ w25)
    clear_value v45
    exact (good_ite (.of w45) (State.setFrame_good _ _ _ w45))
  · exact (State.pushItem_good _ _ _ _ w25)

theorem execRxFrameEnd_good (a0 : Nat) (a1 : Instant) (s2 : State) (hs2 : s2.Good q) : OutGood q (execRxFrameEnd a0
    a1 s2) := by
  unfold execRxFrameEnd
  extract_lets -underBinder +onlyGivenNames v0
  have w0 : State.Good q (v0) := by
    unfold v0
    exact (State.tick_good _ _ hs2)
  clear_value v0
  split
  · exact w0
  · split
    · exact (State.setRx_good _ _ _ w0)
    · exact (outGood_ite (State.abortRx_good _ _ _ _ _ _ w0) (State.frameArrived_good _ _ _ _ w0))

theorem execRxOversize_good (a0 : Nat) (a1 : Instant) (s2 : State) (hs2 : s2.Good q) : OutGood q (execRxOversize a0
    a1 s2) := by
  unfold execRxOversize
  extract_lets -underBinder +onlyGivenNames v0
  have w0 : State.Good q (v0) := by
    unfold v0
    exact (State.tick_good _ _ hs2)
  clear_value v0
  split
  · exact w0
  · split
    · exact w0
    · exact (outGood_ite w0 (State.abortRx_good _ _ _ _ _ _ w0))

theorem execRxSymbolAbort_good (a0 : Nat) (a1 : Nat) (a2 : Instant) (s3 : State) (hs3 : s3.Good q) : OutGood q
    (execRxSymbolAbort a0 a1 a2 s3) := by
  unfold execRxSymbolAbort
  exact (State.abortRx_good _ _ _ _ _ _ (State.tick_good _ _ hs3))

theorem execGrout_good (a0 : Nat) (a1 : Instant) (a2 : Instant) (s3 : State) (hs3 : s3.Good q) : OutGood q (execGrout
    a0 a1 a2 s3) := by
  unfold execGrout
  extract_lets -underBinder +onlyGivenNames v0
  have w0 : State.Good q (v0) := by
    unfold v0
    exact (State.tick_good _ _ hs3)
  clear_value v0
  refine outGood_ite ?_ ?_
  · exact w0
  · extract_lets -underBinder +onlyGivenNames v20
    extract_lets -underBinder +onlyGivenNames v21
    have w21 : State.Good q (v21) := by
      unfold v21
      exact (State.pushItem_good _ _ _ _ w0)
    clear_value v21
    refine outGood_ite ?_ ?_
    · extract_lets -underBinder +onlyGivenNames v41
      have w41 : State.Good q (v41) := by
        unfold v41
        exact (State.pushItem_good _ _ _ _ w21)
      clear_value v41
      exact (.of w41)
    · exact w21

theorem State.poisonRx_good (s : State) (a1 : Nat) (a2 : Instant) (hs : s.Good q) : (State.poisonRx s a1 a2).Good q
    := by
  unfold State.poisonRx
  split
  · exact hs
  · split
    · exact (State.setRx_good _ _ _ hs)
    · extract_lets -underBinder +onlyGivenNames v0
      exact (State.setFrame_good _ _ _ (State.setRx_good _ _ _ hs))

theorem State.tagError_good (s : State) (a1 : Nat) (a2 : Nat) (a3 : Instant) (hs : s.Good q) : (State.tagError s a1 a2
    a3).Good q := by
  unfold State.tagError
  extract_lets -underBinder +onlyGivenNames v0
  have w0 : State.Good q (v0) := by
    unfold v0
    split
    · split
      · exact (State.pushItem_good _ _ _ _ (State.poisonRx_good _ _ _ hs))
      · exact hs
    · exact hs
  clear_value v0
  exact (State.raise_good _ _ _ _ _ _ (State.countD_good _ _ _ w0))

theorem execMergeRelease_good (a0 : Nat) (a1 : Option Nat) (a2 : Instant) (s3 : State) (hs3 : s3.Good q) : OutGood q
    (execMergeRelease a0 a1 a2 s3) := by
  unfold execMergeRelease
  extract_lets -underBinder +onlyGivenNames v0
  have w0 : State.Good q (v0) := by
    unfold v0
    exact (State.tick_good _ _ hs3)
  clear_value v0
  refine outGood_ite ?_ ?_
  · exact w0
  · split
    · exact (State.mergeRun_good _ _ w0)
    · exact (State.mergeRun_good _ _ (State.tagError_good _ _ _ _ w0))

theorem State.stallInput_good (s : State) (a1 : Nat) (a2 : Nat) (a3 : Instant) (hs : s.Good q) : (State.stallInput s a1
    a2 a3).Good q := by
  unfold State.stallInput
  extract_lets -underBinder +onlyGivenNames v0
  have w0 : ∀ b0_0 b0_1, State.Good q b0_0 → State.Good q (v0 b0_0 b0_1) := by
    intro b0_0 b0_1 hb0_0
    unfold v0
    split
    · exact (State.pushItem_good _ _ _ _ (State.poisonRx_good _ _ _ hb0_0))
    · exact hb0_0
  clear_value v0
  extract_lets -underBinder +onlyGivenNames v20
  have w20 : State.Good q (v20) := by
    unfold v20
    exact (good_foldl hs fun _ _ k0 => (w0 _ _ k0))
  clear_value v20
  extract_lets -underBinder +onlyGivenNames v40 v41
  have w41 : State.Good q (v41) := by
    unfold v41
    exact (State.setInput_good _ _ _ _ w20)
  clear_value v41
  extract_lets -underBinder +onlyGivenNames v61 v62
  have w62 : State.Good q (v62) := by
    unfold v62
    exact (.of w41)
  clear_value v62
  exact (State.raise_good _ _ _ _ _ _ w62)

theorem execChannelStall_good (a0 : Nat) (a1 : Nat) (a2 : Instant) (s3 : State) (hs3 : s3.Good q) : OutGood q
    (execChannelStall a0 a1 a2 s3) := by
  unfold execChannelStall
  extract_lets -underBinder +onlyGivenNames v0
  have w0 : State.Good q (v0) := by
    unfold v0
    exact (State.tick_good _ _ hs3)
  clear_value v0
  exact (outGood_ite w0 (State.stallInput_good _ _ _ _ w0))

theorem execRingCountUpdate_good (a0 : Nat) (a1 : Instant) (s2 : State) (hs2 : s2.Good q) : OutGood q
    (execRingCountUpdate a0 a1 s2) := by
  unfold execRingCountUpdate
  extract_lets -underBinder +onlyGivenNames v0
  have w0 : State.Good q (v0) := by
    unfold v0
    exact (State.tick_good _ _ hs2)
  clear_value v0
  exact (.of w0)

theorem State.digestAdd_good (s : State) (a1 : Nat) (a2 : Instant) (a3 : List Byte) (hs : s.Good q) :
    (State.digestAdd s a1 a2 a3).Good q := by
  unfold State.digestAdd
  split
  · exact hs
  · refine good_ite ?_ ?_
    · extract_lets -underBinder +onlyGivenNames v0
      exact (.of hs)
    · exact hs

theorem State.digestEnd_good (s : State) (a1 : Instant) (hs : s.Good q) : (State.digestEnd s a1).Good q := by
  unfold State.digestEnd
  split
  · exact hs
  · extract_lets -underBinder +onlyGivenNames v0
    extract_lets -underBinder +onlyGivenNames v1 v2 v3
    have w3 : State.Good q (v3) := by
      unfold v3
      exact (.of hs)
    clear_value v3
    exact (State.raise_good _ _ _ _ _ _ (State.finishOpt_good _ _ _ _ _ w3))

theorem execDigestComplete_good (a0 : Instant) (s1 : State) (hs1 : s1.Good q) : OutGood q (execDigestComplete a0
    s1) := by
  unfold execDigestComplete
  extract_lets -underBinder +onlyGivenNames v0
  have w0 : State.Good q (v0) := by
    unfold v0
    exact (State.tick_good _ _ hs1)
  clear_value v0
  split
  · exact w0
  · exact (outGood_ite (State.digestEnd_good _ _ w0) w0)

theorem bodyMortarSet_good (a0 : Ctx) (s1 : State) (hs1 : s1.Good q) : (bodyMortarSet a0 s1).Good q := by
  unfold bodyMortarSet
  extract_lets -underBinder +onlyGivenNames v0 v1
  exact (resGood_refuse (resGood_refuse (State.stageChange_good _ _ _ _ _ _ _ _ hs1)))

theorem bodyMortarGet_good (a0 : Ctx) (s1 : State) (hs1 : s1.Good q) : (bodyMortarGet a0 s1).Good q := by
  unfold bodyMortarGet
  exact hs1

theorem bodyDigestRun_good (a0 : Ctx) (s1 : State) (hs1 : s1.Good q) : (bodyDigestRun a0 s1).Good q := by
  unfold bodyDigestRun
  extract_lets -underBinder +onlyGivenNames v0
  split
  · exact resGood_fail
  · exact (resGood_refuse (resGood_refuse (resGood_refuse (.of hs1))))

theorem discardFrame_good (a0 : Frame) (a1 : Nat) (s2 : State) (hs2 : s2.Good q) : (discardFrame a0 a1 s2).2.Good q
    := by
  unfold discardFrame
  dsimp only
  exact (State.countP_good _ _ _ _ hs2)

theorem stages2to7_good (f : Frame) (p : Parsed) (pipe : Nat) (s : State) (h : s.Good q) :
    (stages2to7 f p pipe s).2.Good q := by
  unfold stages2to7
  extract_lets -underBinder +onlyGivenNames c g vid f1 vl tag
  clear_value tag vid
  refine good2_ite (discardFrame_good _ _ _ h) (good2_ite (discardFrame_good _ _ _ h)
    (good2_ite (discardFrame_good _ _ _ h) (good2_ite (discardFrame_good _ _ _ h) ?_)))
  extract_lets -underBinder +onlyGivenNames si st f2
  clear_value si
  refine good2_ite (discardFrame_good _ _ _ h) ?_
  extract_lets -underBinder +onlyGivenNames cls dei f3 mi bk use s1 s2 f4
  have h1 : s1.Good q := good_ite (State.setBucket_good _ _ _ _ h) h
  have h2 : s2.Good q := good_ite (State.countP_good _ _ _ _ h1) h1
  clear_value s2 f4
  refine good2_ite (discardFrame_good _ _ _ h2) (good2_ite (good2_ite (discardFrame_good _ _ _ h2) ?_)
    (good2_ite ?_ h2))
  · exact good_ite (State.countP_good _ _ _ _ (.of h2)) (.of h2)
  · extract_lets -underBinder +onlyGivenNames fi rc
    refine good2_ite (discardFrame_good _ _ _ (State.raiseLimited_good _ _ _ _ _ _ (State.countP_good _ _ _ _ h2)))
        ?_
    split
    · exact h2
    · exact good2_ite (State.countR_good _ _ _ _ h2) (discardFrame_good _ _ _ (State.countR_good _ _ _ _ h2))

theorem learnLead_good (a0 : Frame) (a1 : Parsed) (a2 : Nat) (s3 : State) (hs3 : s3.Good q) : (learnLead a0 a1 a2
    s3).2.Good q := by
  unfold learnLead
  extract_lets -underBinder +onlyGivenNames v0
  split
  · dsimp only
    exact (State.countP_good _ _ _ _ hs3)
  · extract_lets -underBinder +onlyGivenNames v1
    split
    · dsimp only
      exact hs3
    · split
      · extract_lets -underBinder +onlyGivenNames v2
        extract_lets -underBinder +onlyGivenNames v3 v4
        dsimp only
        exact (.of hs3)
      · split
        · dsimp only
          exact hs3
        · split
          · dsimp only
            exact (State.countP_good _ _ _ _ hs3)
          · dsimp only
            exact hs3

theorem eccWord_good (s : State) (a1 : Nat) (a2 : Nat) (a3 : Nat) (a4 : Instant) (hs : s.Good q) : (eccWord s a1 a2 a3
    a4).Good q := by
  unfold eccWord
  extract_lets -underBinder +onlyGivenNames v0 v1
  have w1 : State.Good q (v1) := by
    unfold v1
    exact (.of hs)
  clear_value v1
  extract_lets -underBinder +onlyGivenNames v21
  have w21 : State.Good q (v21) := by
    unfold v21
    exact (State.raise_good _ _ _ _ _ _ w1)
  clear_value v21
  exact (State.stage_good _ _ w21)

theorem stage8_good (a0 : Frame) (a1 : Parsed) (a2 : Nat) (a3 : Option (Nat × Nat)) (s4 : State) (hs4 : s4.Good q) :
    (stage8 a0 a1 a2 a3 s4).2.Good q := by
  unfold stage8
  extract_lets -underBinder +onlyGivenNames v0
  split
  · extract_lets -underBinder +onlyGivenNames v1
    have w1 : State.Good q (v1).2 := by
      unfold v1
      exact (learnLead_good _ _ _ _ (eccWord_good _ _ _ _ _ hs4))
    clear_value v1
    exact (discardFrame_good _ _ _ w1)
  · extract_lets -underBinder +onlyGivenNames v1
    have w1 : State.Good q (v1).2 := by
      unfold v1
      exact (learnLead_good _ _ _ _ hs4)
    clear_value v1
    extract_lets -underBinder +onlyGivenNames v21 v22
    have w22 : State.Good q (v22) := by
      unfold v22
      exact w1
    clear_value v22
    extract_lets -underBinder +onlyGivenNames v42 v43 v44
    have w44 : State.Good q (v44) := by
      unfold v44
      exact (good_ite (State.countP_good _ _ _ _ w22) w22)
    clear_value v44
    split
    · exact (discardFrame_good _ _ _ w44)
    · extract_lets -underBinder +onlyGivenNames v64
      extract_lets -underBinder +onlyGivenNames v65 v66
      split
      · dsimp only
        exact (State.countP_good _ _ _ _ w44)
      · dsimp only
        exact w44

theorem State.leadStages_good (a0 : Nat) (a1 : Nat) (a2 : Frame) (a3 : Option (Nat × Nat)) (a4 : Instant) (s5 : State) (hs5
    : s5.Good q) : (State.leadStages a0 a1 a2 a3 a4 s5).Good q := by
  unfold State.leadStages
  extract_lets -underBinder +onlyGivenNames v0
  have w0 : State.Good q (v0) := by
    unfold v0
    exact (State.countP_good _ _ _ _ (State.applyUnit_good _ _ _ _ hs5))
  clear_value v0
  extract_lets -underBinder +onlyGivenNames v20 v21 v22
  have w22 : State.Good q (v22) := by
    unfold v22
    split
    · exact (State.countP_good _ _ _ _ w0)
    · exact (State.countP_good _ _ _ _ w0)
    · exact w0
  clear_value v22
  extract_lets -underBinder +onlyGivenNames v42
  have w42 : State.Good q (v42).2 := by
    unfold v42
    exact (stages2to7_good _ _ _ _ w22)
  clear_value v42
  extract_lets -underBinder +onlyGivenNames v62
  have w62 : State.Good q (v62).2 := by
    unfold v62
    split
    · dsimp only
      exact w22
    · split
      · exact w42
      · exact (stage8_good _ _ _ _ _ w42)
  clear_value v62
  extract_lets -underBinder +onlyGivenNames v82
  have w82 : State.Good q (v82) := by
    unfold v82
    exact (State.setFrame_good _ _ _ w62)
  clear_value v82
  exact (good_ite w82 (State.pushItem_good _ _ _ _ w82))

theorem State.leadPass_good (s : State) (a1 : Nat) (a2 : Nat) (a3 : Frame) (a4 : Option (Nat × Nat)) (a5 : Instant) (hs :
    s.Good q) : (State.leadPass s a1 a2 a3 a4 a5).Good q := by
  unfold State.leadPass
  exact (State.keyedAt_good _ _ _ hs (fun _ k0 => (State.leadStages_good _ _ _ _ _ _ k0)))

theorem execPipelineLead_good (a0 : Nat) (a1 : Option (Nat × Nat)) (a2 : Instant) (s3 : State) (hs3 : s3.Good q) :
    OutGood q (execPipelineLead a0 a1 a2 s3) := by
  unfold execPipelineLead
  extract_lets -underBinder +onlyGivenNames v0
  have w0 : State.Good q (v0) := by
    unfold v0
    exact (State.tick_good _ _ hs3)
  clear_value v0
  split
  · refine outGood_ite ?_ ?_
    · exact w0
    · extract_lets -underBinder +onlyGivenNames v20
      have w20 : State.Good q (v20) := by
        unfold v20
        exact (State.setOutq_good _ _ _ w0)
      clear_value v20
      split
      · exact (State.flushPipe_good _ _ _ w20)
      · exact (State.flushPipe_good _ _ _ (State.leadPass_good _ _ _ _ _ _ w20))
  · exact w0

theorem postNotice_good (s : State) (a1 : Nat) (a2 : LearnNotice) (a3 : Nat) (a4 : Instant) (hs : s.Good q) :
    (postNotice s a1 a2 a3 a4).Good q := by
  unfold postNotice
  extract_lets -underBinder +onlyGivenNames v0
  refine good_ite ?_ ?_
  · exact hs
  · extract_lets -underBinder +onlyGivenNames v1
    extract_lets -underBinder +onlyGivenNames v2
    have w2 : State.Good q (v2) := by
      unfold v2
      exact (.of hs)
    clear_value v2
    exact (State.pushItem_good _ _ _ _ w2)

theorem State.endStage_good (a0 : Nat) (a1 : Nat) (a2 : Frame) (a3 : Instant) (s4 : State) (hs4 : s4.Good q) :
    (State.endStage a0 a1 a2 a3 s4).Good q := by
  unfold State.endStage
  extract_lets -underBinder +onlyGivenNames v0 v1
  have w1 : State.Good q (v1) := by
    unfold v1
    exact (State.countP_good _ _ _ _ (State.applyUnit_good _ _ _ _ hs4))
  clear_value v1
  extract_lets -underBinder +onlyGivenNames v21
  have w21 : State.Good q (v21) := by
    unfold v21
    split
    · extract_lets -underBinder +onlyGivenNames v22
      exact (good_ite w1 (State.setBucket_good _ _ _ _ w1))
    · exact w1
  clear_value v21
  extract_lets -underBinder +onlyGivenNames v41 v42
  have w42 : State.Good q (v42).2 := by
    unfold v42
    split
    · split
      · extract_lets -underBinder +onlyGivenNames v43
        extract_lets -underBinder +onlyGivenNames v44
        have w44 : State.Good q (v44) := by
          unfold v44
          exact (State.setRecov_good _ _ _ w21)
        clear_value v44
        dsimp only
        exact (good_foldl w44 fun _ _ k0 => (State.countR_good _ _ _ _ k0))
      · dsimp only
        exact w21
    · dsimp only
      exact w21
  clear_value v42
  extract_lets -underBinder +onlyGivenNames v62 v63
  have w63 : State.Good q (v63) := by
    unfold v63
    split
    · exact (good_ite (postNotice_good _ _ _ _ _ w42) w42)
    · exact w42
  clear_value v63
  exact (good_ite (State.setFrame_good _ _ _ w63) (State.pushItem_good _ _ _ _ (State.setFrame_good _ _ _ w63)))

theorem State.endPass_good (s : State) (a1 : Nat) (a2 : Nat) (a3 : Frame) (a4 : Instant) (hs : s.Good q) :
    (State.endPass s a1 a2 a3 a4).Good q := by
  unfold State.endPass
  exact (State.keyedAt_good _ _ _ hs (fun _ k0 => (State.endStage_good _ _ _ _ _ k0)))

theorem execEndKeyStage_good (a0 : Nat) (a1 : Instant) (s2 : State) (hs2 : s2.Good q) : OutGood q (execEndKeyStage a0
    a1 s2) := by
  unfold execEndKeyStage
  extract_lets -underBinder +onlyGivenNames v0
  have w0 : State.Good q (v0) := by
    unfold v0
    exact (State.tick_good _ _ hs2)
  clear_value v0
  split
  · refine outGood_ite ?_ ?_
    · exact w0
    · extract_lets -underBinder +onlyGivenNames v20
      have w20 : State.Good q (v20) := by
        unfold v20
        exact (State.setOutq_good _ _ _ w0)
      clear_value v20
      split
      · exact (State.flushPipe_good _ _ _ w20)
      · exact (State.flushPipe_good _ _ _ (State.endPass_good _ _ _ _ _ w20))
  · exact w0

theorem State.dropCopy_good (s : State) (a1 : Frame) (a2 : Nat) (a3 : Nat) (a4 : Nat) (hs : s.Good q) : (State.dropCopy s
    a1 a2 a3 a4).Good q := by
  unfold State.dropCopy
  extract_lets -underBinder +onlyGivenNames v0
  have w0 : State.Good q (v0) := by
    unfold v0
    exact (State.digestAdd_good _ _ _ _ (State.countQ_good _ _ _ _ _ hs))
  clear_value v0
  extract_lets -underBinder +onlyGivenNames v20
  have w20 : ∀ b20_0 b20_1 b20_2, State.Good q b20_0 → State.Good q (v20 b20_0 b20_1 b20_2) := by
    intro b20_0 b20_1 b20_2 hb20_0
    unfold v20
    exact (State.raiseLimited_good _ _ _ _ _ _ hb20_0)
  clear_value v20
  refine good_ite ?_ ?_
  · extract_lets -underBinder +onlyGivenNames v40
    have w40 : State.Good q (v40) := by
      unfold v40
      exact (w20 _ _ _ w0)
    clear_value v40
    exact (.of w40)
  · refine good_ite ?_ ?_
    · extract_lets -underBinder +onlyGivenNames v40
      have w40 : State.Good q (v40) := by
        unfold v40
        exact (w20 _ _ _ w0)
      clear_value v40
      exact (.of w40)
    · refine good_ite ?_ ?_
      · extract_lets -underBinder +onlyGivenNames v40
        have w40 : State.Good q (v40) := by
          unfold v40
          exact (w20 _ _ _ w0)
        clear_value v40
        exact (.of w40)
      · exact w0

theorem State.admitCopy_good (c : Cfg) (f : Frame) (id n nl : Nat) (acc : State × Bool) (x : Nat × Nat × Bool)
    (h : acc.1.Good q) : (State.admitCopy c f id n nl acc x).1.Good q := by
  unfold State.admitCopy
  extract_lets -underBinder +onlyGivenNames s p k mir g mn v m r
  split
  · exact State.dropCopy_good _ _ _ _ _ h
  · extract_lets -underBinder +onlyGivenNames pool d above ecn ce s1 ct s2 copy v2 s3 s4 use eg s5 mo s6 s7 s8
    have h1 : s1.Good q := good_ite (State.countQ_good _ _ _ _ _ h) h
    have h2 : s2.Good q := good_ite (State.touchCredit_good _ _ _ h1) h1
    have h3 : s3.Good q := State.setEqueue_good _ _ _ h2
    have h4 : s4.Good q := by
      unfold s4
      split
      · exact State.setCharge_good _ _ _ h3
      · exact State.setCharge_good _ _ _ (State.addFree_good _ _ _ h3)
    have h5 : s5.Good q := .of h4
    have h6 : s6.Good q := good_ite (State.setModel_good _ _ _ h5) (good_ite (State.setModel_good _ _ _ h5) h5)
    have h7 : s7.Good q := State.countQ_good _ _ _ _ _ h6
    exact State.digestAdd_good _ _ _ _ (State.refusePark_good _ _ (good_ite (State.countQ_good _ _ _ _ _ h7) h7))

theorem State.admitLead_good (s : State) (id : Nat) (f : Frame) (h : s.Good q) : (State.admitLead s id f).Good q :=
  goodFst_foldl (P := fun (x : State × Bool) => x.1.Good q) h fun _ _ k => State.admitCopy_good _ _ _ _ _ _ _ k

theorem State.dropLaunch_good (s : State) (a1 : Nat) (a2 : Copy) (a3 : Nat) (a4 : Instant) (hs : s.Good q) :
    (State.dropLaunch s a1 a2 a3 a4).Good q := by
  unfold State.dropLaunch
  exact (State.countP_good _ _ _ _ (State.removeCopy_good _ _ _ _ _ hs))

theorem State.setClaim_good (s : State) (a1 : Nat) (a2 : Copy) (a3 : Instant) (a4 : Claim) (hs : s.Good q) :
    (State.setClaim s a1 a2 a3 a4).Good q := by
  unfold State.setClaim
  exact (State.updCopy_good _ _ _ _ _ hs)

theorem State.countLate_good (s : State) (a1 : Nat) (a2 : Nat) (a3 : Instant) (hs : s.Good q) : (State.countLate s a1
    a2 a3).Good q := by
  unfold State.countLate
  extract_lets -underBinder +onlyGivenNames v0
  have w0 : State.Good q (v0) := by
    unfold v0
    exact (State.countP_good _ _ _ _ hs)
  clear_value v0
  exact (State.raiseLimited_good _ _ _ _ _ _ (.of w0))

theorem State.noEntry_good (s : State) (a1 : Nat) (a2 : Copy) (a3 : Nat) (a4 : Instant) (hs : s.Good q) :
    (State.noEntry s a1 a2 a3 a4).Good q := by
  unfold State.noEntry
  exact (State.raiseLimited_good _ _ _ _ _ _ (State.dropLaunch_good _ _ _ _ _ hs))

theorem State.rebind_good (s : State) (a1 : Nat) (a2 : Copy) (a3 : Nat) (a4 : Nat) (a5 : Instant) (a6 : Instant) (a7 :
    Instant) (hs : s.Good q) : (State.rebind s a1 a2 a3 a4 a5 a6 a7).Good q := by
  unfold State.rebind
  extract_lets -underBinder +onlyGivenNames v0 v1
  refine good_ite ?_ ?_
  · exact (State.dropLaunch_good _ _ _ _ _ hs)
  · extract_lets -underBinder +onlyGivenNames v2
    extract_lets -underBinder +onlyGivenNames v3
    split
    · exact (State.dropLaunch_good _ _ _ _ _ hs)
    · exact (State.countP_good _ _ _ _ (State.setClaim_good _ _ _ _ _ hs))

theorem State.bindCopy_good (s : State) (p : Nat) (c : Copy) (k : Nat) (cp : Instant) (h : s.Good q) :
    (State.bindCopy s p c k cp).Good q := by
  unfold State.bindCopy
  extract_lets -underBinder +onlyGivenNames co lost
  refine good_ite (State.noEntry_good _ _ _ _ _ h) ?_
  clear_value lost
  rcases lost with _ | ⟨a, carry, bank, base⟩
  · dsimp only
    refine good_ite (State.noEntry_good _ _ _ _ _ h) (good_ite (State.dropLaunch_good _ _ _ _ _ h) (good_ite ?_ ?_))
    · exact State.countP_good _ _ _ _ (State.setClaim_good _ _ _ _ _ h)
    · have h1 := State.countLate_good s p k cp h
      exact good_ite (State.setClaim_good _ _ _ _ _ h1) (State.dropLaunch_good _ _ _ _ _ h1)
  · exact good_ite (State.rebind_good _ _ _ _ _ _ _ _ h) (State.dropLaunch_good _ _ _ _ _ h)

theorem State.bindLoop_good (p k : Nat) (l : List Copy) (prev : Instant) (s : State) (h : s.Good q) :
    (State.bindLoop p k l prev s).Good q := by
  induction l generalizing prev s with
  | nil => exact h
  | cons c l ih =>
    unfold State.bindLoop
    split
    · exact ih _ _ h
    · exact good_ite (ih _ _ (good_ite h (State.bindCopy_good _ _ _ _ _ h))) (good_ite (ih _ _ h) h)

theorem State.bindQueue_good (s : State) (a1 : Nat) (a2 : Nat) (hs : s.Good q) : (State.bindQueue s a1 a2).Good q := by
  unfold State.bindQueue
  extract_lets -underBinder +onlyGivenNames v0
  exact (State.bindLoop_good _ _ _ _ _ hs)

theorem State.refund_good (s : State) (a1 : Nat) (a2 : Nat) (hs : s.Good q) : (State.refund s a1 a2).Good q := by
  unfold State.refund
  split
  · exact hs
  · extract_lets -underBinder +onlyGivenNames v0
    extract_lets -underBinder +onlyGivenNames v1 v2
    exact (State.setCharge_good _ _ _ (State.addFree_good _ _ _ (State.setEqueue_good _ _ _ hs)))

theorem State.dropBad_good (a0 : Frame) (a1 : Instant) (s2 : State) (a3 : Nat) (a4 : Copy) (hs2 : s2.Good q) :
    (State.dropBad a0 a1 s2 a3 a4).Good q := by
  unfold State.dropBad
  extract_lets -underBinder +onlyGivenNames v0
  refine good_ite ?_ ?_
  · exact hs2
  · extract_lets -underBinder +onlyGivenNames v1
    extract_lets -underBinder +onlyGivenNames v2
    have w2 : State.Good q (v2) := by
      unfold v2
      split
      · exact (good_ite (State.setModel_good _ _ _ hs2) hs2)
      · exact hs2
    clear_value v2
    extract_lets -underBinder +onlyGivenNames v22
    have w22 : State.Good q (v22) := by
      unfold v22
      exact (State.removeCopy_good _ _ _ _ _ w2)
    clear_value v22
    exact (good_ite w22 (State.countQ_good _ _ _ _ _ w22))

theorem State.updPhys_good (s : State) (a1 : Nat) (a2 : Nat) (a3 : Frame) (hs : s.Good q) : (State.updPhys s a1 a2
    a3).Good q := by
  unfold State.updPhys
  extract_lets -underBinder +onlyGivenNames v0
  exact (good_ite (State.setModel_good _ _ _ hs) hs)

theorem State.countEnq_good (s : State) (a1 : Frame) (a2 : Charge) (hs : s.Good q) : (State.countEnq s a1 a2).Good
    q := by
  unfold State.countEnq
  refine good_foldl ?_ fun z0 y0 h0 => ?_
  · exact hs
  · extract_lets -underBinder +onlyGivenNames v1
    exact (State.countQ_good _ _ _ _ _ h0)

theorem State.endQueue_good (a0 : Nat) (a1 : Nat) (a2 : Frame) (a3 : Instant) (s4 : State) (a5 : Nat) (hs4 : s4.Good q) :
    (State.endQueue a0 a1 a2 a3 s4 a5).Good q := by
  unfold State.endQueue
  extract_lets -underBinder +onlyGivenNames v0
  exact (State.updPhys_good _ _ _ _ (State.setEqueue_good _ _ _ hs4))

theorem State.endAdmitted_good (a0 : Nat) (a1 : Frame) (a2 : Instant) (s3 : State) (hs3 : s3.Good q) :
    (State.endAdmitted a0 a1 a2 s3).Good q := by
  unfold State.endAdmitted
  split
  · exact (State.setFrame_good _ _ _ hs3)
  · extract_lets -underBinder +onlyGivenNames v0
    extract_lets -underBinder +onlyGivenNames v1 v2
    have w2 : State.Good q (v2) := by
      unfold v2
      exact (State.countEnq_good _ _ _ hs3)
    clear_value v2
    refine good_ite ?_ ?_
    · exact (State.setFrame_good _ _ _ (State.setCharge_good _ _ _ w2))
    · extract_lets -underBinder +onlyGivenNames v22
      have w22 : State.Good q (v22) := by
        unfold v22
        exact (State.refund_good _ _ _ (good_foldl w2 fun _ _ k0 => (State.endQueue_good _ _ _ _ _ _ k0)))
      clear_value v22
      extract_lets -underBinder +onlyGivenNames v42
      have w42 : State.Good q (v42) := by
        unfold v42
        exact (good_foldl w22 fun _ _ k0 => (good_ite (State.bindQueue_good _ _ _ k0) k0))
      clear_value v42
      extract_lets -underBinder +onlyGivenNames v62
      have w62 : ∀ b62_0 b62_1, State.Good q b62_0 → State.Good q (v62 b62_0 b62_1) := by
        intro b62_0 b62_1 hb62_0
        unfold v62
        exact (good_foldl hb62_0 fun _ _ k0 => (State.dropBad_good _ _ _ _ _ k0))
      clear_value v62
      exact (good_ite (good_foldl w42 fun _ _ k0 => (w62 _ _ k0)) w42)

theorem State.admitEnd_good (s : State) (a1 : Nat) (a2 : Frame) (a3 : Instant) (hs : s.Good q) : (State.admitEnd s a1
    a2 a3).Good q := by
  unfold State.admitEnd
  exact (State.keyedAt_good _ _ _ hs (fun _ k0 => (State.endAdmitted_good _ _ _ _ k0)))

theorem execAdmission_good (a0 : Instant) (s1 : State) (hs1 : s1.Good q) : OutGood q (execAdmission a0 s1) := by
  unfold execAdmission
  extract_lets -underBinder +onlyGivenNames v0
  have w0 : State.Good q (v0) := by
    unfold v0
    exact (State.tick_good _ _ hs1)
  clear_value v0
  split
  · extract_lets -underBinder +onlyGivenNames v20
    have w20 : State.Good q (v20) := by
      unfold v20
      exact (State.setOutq_good _ _ _ w0)
    clear_value v20
    split
    · exact w20
    · exact (State.admitLead_good _ _ _ (State.egressTo_good _ _ _ w20))
  · exact w0

theorem execEndKeyAdmission_good (a0 : Instant) (s1 : State) (hs1 : s1.Good q) : OutGood q (execEndKeyAdmission a0
    s1) := by
  unfold execEndKeyAdmission
  extract_lets -underBinder +onlyGivenNames v0
  have w0 : State.Good q (v0) := by
    unfold v0
    exact (State.tick_good _ _ hs1)
  clear_value v0
  split
  · extract_lets -underBinder +onlyGivenNames v20
    have w20 : State.Good q (v20) := by
      unfold v20
      exact (State.setOutq_good _ _ _ w0)
    clear_value v20
    split
    · exact w20
    · extract_lets -underBinder +onlyGivenNames v40
      exact (State.admitEnd_good _ _ _ _ (State.egressTo_good _ _ _ w20))
  · exact w0

theorem execAging_good (a0 : Nat) (a1 : Instant) (s2 : State) (hs2 : s2.Good q) : OutGood q (execAging a0 a1 s2) := by
  unfold execAging
  extract_lets -underBinder +onlyGivenNames v0
  have w0 : State.Good q (v0) := by
    unfold v0
    exact (State.tick_good _ _ hs2)
  clear_value v0
  exact (good_ite w0 (State.egressPort_good _ _ _ w0))

theorem execModelStart_good (a0 : Nat) (a1 : Instant) (s2 : State) (hs2 : s2.Good q) : OutGood q (execModelStart a0
    a1 s2) := by
  unfold execModelStart
  extract_lets -underBinder +onlyGivenNames v0
  have w0 : State.Good q (v0) := by
    unfold v0
    exact (State.tick_good _ _ hs2)
  clear_value v0
  exact (good_ite w0 (State.egressPort_good _ _ _ w0))

theorem execPhysicalTxStart_good (a0 : Nat) (a1 : Instant) (s2 : State) (hs2 : s2.Good q) : OutGood q
    (execPhysicalTxStart a0 a1 s2) := by
  unfold execPhysicalTxStart
  extract_lets -underBinder +onlyGivenNames v0
  have w0 : State.Good q (v0) := by
    unfold v0
    exact (State.sendPhys_good _ _ (State.tick_good _ _ hs2))
  clear_value v0
  extract_lets -underBinder +onlyGivenNames v20
  refine outGood_ite ?_ ?_
  · exact w0
  · split
    · exact (outGood_ite w0 (State.sendPhys_good _ _ (State.setModel_good _ _ _ w0)))
    · exact w0

theorem execCutPoison_good (a0 : Nat) (a1 : Instant) (s2 : State) (hs2 : s2.Good q) : OutGood q (execCutPoison a0 a1
    s2) := by
  unfold execCutPoison
  extract_lets -underBinder +onlyGivenNames v0
  have w0 : State.Good q (v0) := by
    unfold v0
    exact (State.tick_good _ _ hs2)
  clear_value v0
  split
  · exact (State.endEarly_good _ _ _ _ _ w0)
  · exact w0

theorem execCutUnderrun_good (a0 : Nat) (a1 : Instant) (s2 : State) (hs2 : s2.Good q) : OutGood q (execCutUnderrun a0
    a1 s2) := by
  unfold execCutUnderrun
  extract_lets -underBinder +onlyGivenNames v0
  have w0 : State.Good q (v0) := by
    unfold v0
    exact (State.tick_good _ _ hs2)
  clear_value v0
  split
  · extract_lets -underBinder +onlyGivenNames v20
    have w20 : State.Good q (v20) := by
      unfold v20
      exact (State.endEarly_good _ _ _ _ _ w0)
    clear_value v20
    exact (State.raise_good _ _ _ _ _ _ (.of w20))
  · exact w0

theorem State.tileBad_good (s : State) (a1 : Nat) (a2 : Nat) (a3 : Instant) (hs : s.Good q) : (State.tileBad s a1 a2
    a3).Good q := by
  unfold State.tileBad
  extract_lets -underBinder +onlyGivenNames v0
  have w0 : State.Good q (v0) := by
    unfold v0
    split
    · extract_lets -underBinder +onlyGivenNames v1
      extract_lets -underBinder +onlyGivenNames v2
      exact (good_ite (State.endEarly_good _ _ _ _ _ hs) (State.countQ_good _ _ _ _ _ (State.dropPhys_good _ _ _ _
          (State.markBad_good _ _ _ _ _ hs))))
    · exact hs
  extract_lets -underBinder +onlyGivenNames v20 v21 v22
  have w22 : State.Good q (v22) := by
    unfold v22
    exact (.of w0)
  clear_value v22
  extract_lets -underBinder +onlyGivenNames v42
  have w42 : State.Good q (v42) := by
    unfold v42
    exact (good_ite (State.stage_good _ _ w22) w22)
  clear_value v42
  exact (State.raise_good _ _ _ _ _ _ w42)

theorem execTxTileRead_good (a0 : Nat) (a1 : Nat) (a2 : Nat) (a3 : Instant) (s4 : State) (hs4 : s4.Good q) : OutGood q
    (execTxTileRead a0 a1 a2 a3 s4) := by
  unfold execTxTileRead
  extract_lets -underBinder +onlyGivenNames v0
  have w0 : State.Good q (v0) := by
    unfold v0
    exact (State.sendPhys_good _ _ (State.tick_good _ _ hs4))
  clear_value v0
  exact (outGood_ite w0 (outGood_ite (State.countD_good _ _ _ w0) (State.tileBad_good _ _ _ _ w0)))

theorem execPauseRx_good (a0 : Nat) (a1 : Instant) (s2 : State) (hs2 : s2.Good q) : OutGood q (execPauseRx a0 a1 s2)
    := by
  unfold execPauseRx
  extract_lets -underBinder +onlyGivenNames v0
  have w0 : State.Good q (v0) := by
    unfold v0
    exact (State.tick_good _ _ hs2)
  clear_value v0
  exact (good_ite w0 (State.egressPort_good _ _ _ w0))

theorem execPauseEnd_good (a0 : Nat) (a1 : Instant) (s2 : State) (hs2 : s2.Good q) : OutGood q (execPauseEnd a0 a1
    s2) := by
  unfold execPauseEnd
  extract_lets -underBinder +onlyGivenNames v0
  have w0 : State.Good q (v0) := by
    unfold v0
    exact (State.tick_good _ _ hs2)
  clear_value v0
  exact (good_ite w0 (State.egressPort_good _ _ _ w0))

theorem execPauseCeiling_good (a0 : Nat) (a1 : Instant) (s2 : State) (hs2 : s2.Good q) : OutGood q (execPauseCeiling
    a0 a1 s2) := by
  unfold execPauseCeiling
  extract_lets -underBinder +onlyGivenNames v0
  have w0 : State.Good q (v0) := by
    unfold v0
    exact (State.tick_good _ _ hs2)
  clear_value v0
  exact (good_ite w0 (State.egressPort_good _ _ _ w0))

theorem execPauseRearmEnd_good (a0 : Nat) (a1 : Instant) (s2 : State) (hs2 : s2.Good q) : OutGood q
    (execPauseRearmEnd a0 a1 s2) := by
  unfold execPauseRearmEnd
  extract_lets -underBinder +onlyGivenNames v0
  have w0 : State.Good q (v0) := by
    unfold v0
    exact (State.egressPort_good _ _ _ (State.tick_good _ _ hs2))
  clear_value v0
  extract_lets -underBinder +onlyGivenNames v20
  split
  · exact (outGood_ite (State.setModel_good _ _ _ w0) w0)
  · exact w0

theorem State.extractTo_good (s : State) (c : AppCore) (p : Nat) (y : PhysTx) (h : s.Good q) :
    (State.extractTo s c p y).Good q := by
  unfold State.extractTo
  dsimp only
  generalize (wordsBytes _ ++ _) = bs
  exact good_ite (State.countQ_good _ _ _ _ _ h) (State.countQ_good _ _ _ _ _ (State.countQ_good _ _ _ _ _
    (State.setTcm_good _ _ _ h (q.writeN (h.tcm c) _ _))))

theorem State.extract64_good (s : State) (a1 : PhysTx) (hs : s.Good q) : (State.extract64 s a1).Good q := by
  unfold State.extract64
  extract_lets -underBinder +onlyGivenNames v0
  exact (State.emit_good _ _ (State.countQ_good _ _ _ _ _ (State.countQ_good _ _ _ _ _ hs)))

theorem execExtractFrame_good (a0 : Nat) (a1 : Bool) (a2 : Instant) (s3 : State) (hs3 : s3.Good q) : OutGood q
    (execExtractFrame a0 a1 a2 s3) := by
  unfold execExtractFrame
  extract_lets -underBinder +onlyGivenNames v0
  have w0 : State.Good q (v0) := by
    unfold v0
    exact (State.tick_good _ _ hs3)
  clear_value v0
  extract_lets -underBinder +onlyGivenNames v20
  refine outGood_ite ?_ ?_
  · exact w0
  · split
    · refine outGood_ite ?_ ?_
      · exact w0
      · extract_lets -underBinder +onlyGivenNames v21
        have w21 : State.Good q (v21) := by
          unfold v21
          exact (State.setModel_good _ _ _ w0)
        clear_value v21
        exact (outGood_ite (outGood_ite (State.countQ_good _ _ _ _ _ w21) (State.extract64_good _ _ w21))
            (State.extractTo_good _ _ _ _ w21))
    · exact w0

theorem State.inject_good (s : State) (a1 : Frame) (a2 : Instant) (hs : s.Good q) : (State.inject s a1 a2).Good q
    := by
  unfold State.inject
  extract_lets -underBinder +onlyGivenNames v0
  refine good_ite ?_ ?_
  · exact (State.countP_good _ _ _ _ hs)
  · refine good_ite ?_ ?_
    · exact (State.countP_good _ _ _ _ hs)
    · refine good_ite ?_ ?_
      · exact (State.countP_good _ _ _ _ hs)
      · extract_lets -underBinder +onlyGivenNames v1
        extract_lets -underBinder +onlyGivenNames v2 v3 v4 v5
        have w5 : State.Good q (v5) := by
          unfold v5
          exact (.of hs)
        clear_value v5
        extract_lets -underBinder +onlyGivenNames v25
        have w25 : State.Good q (v25).1 := by
          unfold v25
          exact (State.newFrame_good _ _ w5)
        clear_value v25
        exact (State.pushItem_good _ _ _ _ (State.pushItem_good _ _ _ _ w25))

theorem State.injectFrom_good (s : State) (c : AppCore) (t : Instant) (h : s.Good q) : (State.injectFrom s c
    t).Good q := by
  unfold State.injectFrom
  extract_lets -underBinder +onlyGivenNames a n base w len addr direct raw bs s1 f
  have h1 : s1.Good q := State.setTcm_good _ _ _ h (h.tcm c)
  clear_value s1 f bs
  exact good_ite h (good_ite (State.countA_good _ _ _ _ h1) (State.countA_good _ _ _ _ (State.inject_good _ _ _
      h1)))

theorem execInjectDescriptor_good (a0 : InjectSource) (a1 : Instant) (s2 : State) (hs2 : s2.Good q) : OutGood q
    (execInjectDescriptor a0 a1 s2) := by
  unfold execInjectDescriptor
  extract_lets -underBinder +onlyGivenNames v0
  have w0 : State.Good q (v0) := by
    unfold v0
    exact (State.tick_good _ _ hs2)
  clear_value v0
  split
  · exact (State.injectFrom_good _ _ _ w0)
  · refine outGood_ite ?_ ?_
    · exact w0
    · extract_lets -underBinder +onlyGivenNames v20
      exact (State.inject_good _ _ _ w0)

theorem State.loopStart_good (s : State) (a1 : PhysTx) (a2 : List PhysTx) (hs : s.Good q) : (State.loopStart s a1
    a2).Good q := by
  unfold State.loopStart
  extract_lets -underBinder +onlyGivenNames v0 v1
  have w1 : State.Good q (v1) := by
    unfold v1
    exact (State.setModel_good _ _ _ hs)
  clear_value v1
  extract_lets -underBinder +onlyGivenNames v21
  refine good_ite ?_ ?_
  · exact w1
  · extract_lets -underBinder +onlyGivenNames v22
    have w22 : State.Good q (v22).1 := by
      unfold v22
      exact (State.newFrame_good _ _ w1)
    clear_value v22
    exact (State.pushItem_good _ _ _ _ (State.setRx_good _ _ _ w22))

theorem State.loopEnd_good (s : State) (a1 : List PhysTx) (a2 : Instant) (hs : s.Good q) : (State.loopEnd s a1
    a2).Good q := by
  unfold State.loopEnd
  extract_lets -underBinder +onlyGivenNames v0 v1
  have w1 : State.Good q (v1) := by
    unfold v1
    exact (State.setModel_good _ _ _ hs)
  clear_value v1
  split
  · exact w1
  · extract_lets -underBinder +onlyGivenNames v21
    have w21 : State.Good q (v21) := by
      unfold v21
      exact (State.setRx_good _ _ _ w1)
    clear_value v21
    split
    · exact (State.pushItem_good _ _ _ _ (State.setFrame_good _ _ _ w21))
    · exact w21

theorem execLoopbackReentry_good (a0 : Instant) (s1 : State) (hs1 : s1.Good q) : OutGood q (execLoopbackReentry a0
    s1) := by
  unfold execLoopbackReentry
  extract_lets -underBinder +onlyGivenNames v0
  have w0 : State.Good q (v0) := by
    unfold v0
    exact (State.tick_good _ _ hs1)
  clear_value v0
  split
  · extract_lets -underBinder +onlyGivenNames v20
    have w20 : State.Good q (v20) := by
      unfold v20
      exact (good_ite w0 (State.loopStart_good _ _ _ w0))
    clear_value v20
    split
    · exact (State.loopEnd_good _ _ _ w20)
    · exact w20
  · exact w0

theorem bodyPoolSet_good (a0 : Ctx) (s1 : State) (hs1 : s1.Good q) : (bodyPoolSet a0 s1).Good q := by
  unfold bodyPoolSet
  extract_lets -underBinder +onlyGivenNames v0 v1
  exact (resGood_refuse (resGood_refuse (State.stageChange_good _ _ _ _ _ _ _ _ hs1)))

theorem bodyPoolGet_good (a0 : Ctx) (s1 : State) (hs1 : s1.Good q) : (bodyPoolGet a0 s1).Good q := by
  unfold bodyPoolGet
  extract_lets -underBinder +onlyGivenNames v0
  exact hs1

theorem bodyQueueSet_good (a0 : Ctx) (s1 : State) (hs1 : s1.Good q) : (bodyQueueSet a0 s1).Good q := by
  unfold bodyQueueSet
  extract_lets -underBinder +onlyGivenNames v0 v1
  exact (resGood_refuse (resGood_refuse (State.stageChange_good _ _ _ _ _ _ _ _ hs1)))

theorem bodyQueueGet_good (a0 : Ctx) (s1 : State) (hs1 : s1.Good q) : (bodyQueueGet a0 s1).Good q := by
  unfold bodyQueueGet
  extract_lets -underBinder +onlyGivenNames v0
  exact (resGood_refuse hs1)

theorem schedSet_good (a0 : Nat → Nat) (a1 : Ctx) (s2 : State) (hs2 : s2.Good q) : (schedSet a0 a1 s2).Good q := by
  unfold schedSet
  extract_lets -underBinder +onlyGivenNames v0 v1
  exact (resGood_refuse (State.stageChange_good _ _ _ _ _ _ _ _ hs2))

theorem bodySchedGet_good (a0 : Ctx) (s1 : State) (hs1 : s1.Good q) : (bodySchedGet a0 s1).Good q := by
  unfold bodySchedGet
  extract_lets -underBinder +onlyGivenNames v0
  exact (resGood_refuse hs1)

theorem bodyPauseSet_good (a0 : Ctx) (s1 : State) (hs1 : s1.Good q) : (bodyPauseSet a0 s1).Good q := by
  unfold bodyPauseSet
  exact (resGood_refuse (State.stageChange_good _ _ _ _ _ _ _ _ hs1))

theorem bodyPauseGet_good (a0 : Ctx) (s1 : State) (hs1 : s1.Good q) : (bodyPauseGet a0 s1).Good q := by
  unfold bodyPauseGet
  extract_lets -underBinder +onlyGivenNames v0
  refine resGood_refuse ?_
  extract_lets -underBinder +onlyGivenNames v1
  exact hs1

theorem bodyMirrorSet_good (a0 : Ctx) (s1 : State) (hs1 : s1.Good q) : (bodyMirrorSet a0 s1).Good q := by
  unfold bodyMirrorSet
  exact (resGood_refuse (State.stageChange_good _ _ _ _ _ _ _ _ hs1))

theorem bodyMirrorGet_good (a0 : Ctx) (s1 : State) (hs1 : s1.Good q) : (bodyMirrorGet a0 s1).Good q := by
  unfold bodyMirrorGet
  extract_lets -underBinder +onlyGivenNames v0
  exact hs1

theorem State.setReport_good (s : State) (a1 : Nat) (a2 : Nat) (a3 : Report) (hs : s.Good q) : (State.setReport s a1 a2
    a3).Good q := by
  unfold State.setReport
  extract_lets -underBinder +onlyGivenNames v0
  exact (State.setCourse_good _ _ _ hs)

theorem State.launch_good (s : State) (a1 : Nat) (a2 : Nat) (a3 : Copy) (a4 : Claim) (a5 : Entry) (a6 : Nat) (a7 : Bool)
    (a8 : Instant) (hs : s.Good q) : (State.launch s a1 a2 a3 a4 a5 a6 a7 a8).Good q := by
  unfold State.launch
  extract_lets -underBinder +onlyGivenNames v0 v1 v2
  have w2 : State.Good q (v2) := by
    unfold v2
    exact (State.setCourse_good _ _ _ hs)
  clear_value v2
  extract_lets -underBinder +onlyGivenNames v22 v23
  have w23 : ∀ b23_0, State.Good q (v23 b23_0) := by
    intro b23_0
    unfold v23
    exact (State.setModel_good _ _ _ w2)
  clear_value v23
  refine good_ite ?_ ?_
  · extract_lets -underBinder +onlyGivenNames v43
    have w43 : State.Good q (v43) := by
      unfold v43
      exact (State.setReport_good _ _ _ _ (State.countP_good _ _ _ _ (w23 _)))
    clear_value v43
    exact (State.raise_good _ _ _ _ _ _ (State.setCourse_good _ _ _ w43))
  · refine good_ite ?_ ?_
    · exact w2
    · extract_lets -underBinder +onlyGivenNames v43
      have w43 : State.Good q (v43) := by
        unfold v43
        exact (State.setReport_good _ _ _ _ (w23 _))
      clear_value v43
      extract_lets -underBinder +onlyGivenNames v63
      refine good_ite ?_ ?_
      · split
        · exact (State.emit_good _ _ w43)
        · exact (State.emit_good _ _ (State.countP_good _ _ _ _ w43))
      · exact (State.emit_good _ _ w43)

theorem execCourseOccurrence_good (port entry error : Nat) (whole : Bool) (t : Instant) (s : State) (h : s.Good q) :
    OutGood q (execCourseOccurrence port entry error whole t s) := by
  unfold execCourseOccurrence
  extract_lets -underBinder +onlyGivenNames s1 c e no mine
  have h1 : s1.Good q := State.egressPort_good _ port t (State.tick_good s t h)
  clear_value mine s1
  refine outGood_ite h1 (outGood_ite (State.setReport_good _ _ _ _ (State.setCourse_good _ _ _ h1))
    (outGood_ite (State.setReport_good _ _ _ _ h1) ?_))
  rcases mine with _ | x
  · exact State.setReport_good _ _ _ _ (State.countP_good _ _ _ _ h1)
  · dsimp only
    split
    · exact State.runPort_good _ _ _ (State.launch_good _ _ _ _ _ _ _ _ _ h1)
    · exact h1

theorem execWindowRelease_good (a0 : Nat) (a1 : Nat) (a2 : Instant) (s3 : State) (hs3 : s3.Good q) : OutGood q
    (execWindowRelease a0 a1 a2 s3) := by
  unfold execWindowRelease
  extract_lets -underBinder +onlyGivenNames v0
  have w0 : State.Good q (v0) := by
    unfold v0
    exact (State.tick_good _ _ hs3)
  clear_value v0
  extract_lets -underBinder +onlyGivenNames v20 v21 v22 v23
  exact (outGood_ite w0 (State.egressPort_good _ _ _ w0))

theorem State.setMisfit_good (s : State) (a1 : Nat) (a2 : Instant) (hs : s.Good q) : (State.setMisfit s a1 a2).Good q
    := by
  unfold State.setMisfit
  extract_lets -underBinder +onlyGivenNames v0 v1 v2
  refine good_ite ?_ ?_
  · exact hs
  · extract_lets -underBinder +onlyGivenNames v3
    have w3 : State.Good q (v3) := by
      unfold v3
      exact (State.setCourse_good _ _ _ hs)
    clear_value v3
    exact (good_ite (State.raise_good _ _ _ _ _ _ w3) w3)

theorem State.carryOver_good (a0 : Nat) (a1 : SwapPending) (s2 : State) (a3 : Copy) (hs2 : s2.Good q) :
    (State.carryOver a0 a1 s2 a3).Good q := by
  unfold State.carryOver
  split
  · exact hs2
  · refine good_ite ?_ ?_
    · exact hs2
    · refine good_ite ?_ ?_
      · extract_lets -underBinder +onlyGivenNames v0
        have w0 : State.Good q (v0) := by
          unfold v0
          exact (State.updCopy_good _ _ _ _ _ hs2)
        clear_value v0
        exact (State.rebind_good _ _ _ _ _ _ _ _ w0)
      · exact (State.dropLaunch_good _ _ _ _ _ hs2)

theorem State.pinsAtSwap_good (s : State) (a1 : Nat) (a2 : Instant) (hs : s.Good q) : (State.pinsAtSwap s a1 a2).Good
    q := by
  unfold State.pinsAtSwap
  extract_lets -underBinder +onlyGivenNames v0
  exact (.of hs)

theorem State.courseSwap_good (s : State) (a1 : Nat) (a2 : Instant) (hs : s.Good q) : (State.courseSwap s a1 a2).Good
    q := by
  unfold State.courseSwap
  extract_lets -underBinder +onlyGivenNames v0
  split
  · exact hs
  · extract_lets -underBinder +onlyGivenNames v1
    refine good_ite ?_ ?_
    · exact (State.finishOpt_good _ _ _ _ _ (State.setCourse_good _ _ _ hs))
    · extract_lets -underBinder +onlyGivenNames v2
      extract_lets -underBinder +onlyGivenNames v3 v4 v5 v6 v7
      have w7 : State.Good q (v7) := by
        unfold v7
        exact (State.setMisfit_good _ _ _ (State.setCourse_good _ _ _ (State.pinsAtSwap_good _ _ _ hs)))
      clear_value v7
      extract_lets -underBinder +onlyGivenNames v27
      have w27 : State.Good q (v27) := by
        unfold v27
        exact (good_foldl w7 fun _ _ k0 => (State.carryOver_good _ _ _ _ k0))
      clear_value v27
      exact (State.finishOpt_good _ _ _ _ _ (State.raise_good _ _ _ _ _ _ w27))

theorem execCourseSwap_good (a0 : Nat) (a1 : Instant) (s2 : State) (hs2 : s2.Good q) : OutGood q (execCourseSwap a0
    a1 s2) := by
  unfold execCourseSwap
  extract_lets -underBinder +onlyGivenNames v0
  have w0 : State.Good q (v0) := by
    unfold v0
    exact (State.tick_good _ _ hs2)
  clear_value v0
  split
  · extract_lets -underBinder +onlyGivenNames v20
    exact (outGood_ite (State.courseSwap_good _ _ _ (State.egressTo_good _ _ _ w0)) w0)
  · exact w0

theorem State.dropClaims_good (s : State) (a1 : Instant) (hs : s.Good q) : (State.dropClaims s a1).Good q := by
  unfold State.dropClaims
  exact (good_foldl hs fun _ _ k0 => (good_foldl k0 fun _ _ k1 => (good_ite k1 (State.dropLaunch_good _ _ _ _ _
      k1))))

theorem State.skipSwap_good (a0 : RebaseRun) (a1 : Instant) (a2 : Instant) (s3 : State) (a4 : Nat) (hs3 : s3.Good q)
    : (State.skipSwap a0 a1 a2 s3 a4).Good q := by
  unfold State.skipSwap
  split
  · refine good_ite ?_ ?_
    · extract_lets -underBinder +onlyGivenNames v0
      have w0 : State.Good q (v0) := by
        unfold v0
        exact (State.courseSwap_good _ _ _ hs3)
      clear_value v0
      exact (good_ite (State.setCourse_good _ _ _ w0) w0)
    · exact hs3
  · exact hs3

theorem State.skipDigest_good (a0 : Instant) (a1 : Instant) (s2 : State) (hs2 : s2.Good q) : (State.skipDigest a0
    a1 s2).Good q := by
  unfold State.skipDigest
  split
  · exact (good_ite (State.digestEnd_good _ _ hs2) hs2)
  · exact hs2

theorem State.rebase_good (s : State) (a1 : RebaseRun) (a2 : Instant) (hs : s.Good q) : (State.rebase s a1 a2).Good
    q := by
  unfold State.rebase
  extract_lets -underBinder +onlyGivenNames v0 v1 v2
  have w2 : State.Good q (v2) := by
    unfold v2
    exact (State.applyAllUnits_good _ _ _ _ (State.runAll_good _ _ hs))
  clear_value v2
  extract_lets -underBinder +onlyGivenNames v22
  have w22 : State.Good q (v22) := by
    unfold v22
    exact (good_foldl w2 fun _ _ k0 => (State.skipSwap_good _ _ _ _ _ k0))
  clear_value v22
  extract_lets -underBinder +onlyGivenNames v42
  have w42 : State.Good q (v42) := by
    unfold v42
    exact (State.skipDigest_good _ _ _ (State.dropClaims_good _ _ w22))
  clear_value v42
  extract_lets -underBinder +onlyGivenNames v62 v63 v64 v65 v66 v67
  exact (.of w42)

theorem execRebase_good (a0 : Instant) (s1 : State) (hs1 : s1.Good q) : OutGood q (execRebase a0 s1) := by
  unfold execRebase
  extract_lets -underBinder +onlyGivenNames v0
  have w0 : State.Good q (v0) := by
    unfold v0
    exact (State.tick_good _ _ hs1)
  clear_value v0
  split
  · exact w0
  · exact (outGood_ite w0 (State.rebase_good _ _ _ w0))

theorem State.setShadow_good (s : State) (a1 : Nat) (a2 : Bank → Bank) (hs : s.Good q) : (State.setShadow s a1
    a2).Good q := by
  unfold State.setShadow
  extract_lets -underBinder +onlyGivenNames v0
  exact (State.setCourse_good _ _ _ hs)

theorem bodyCourseSet_good (a0 : Ctx) (s1 : State) (hs1 : s1.Good q) : (bodyCourseSet a0 s1).Good q := by
  unfold bodyCourseSet
  extract_lets -underBinder +onlyGivenNames v0
  exact (resGood_refuse (resGood_refuse (State.setShadow_good _ _ _ hs1)))

theorem bodyCourseClear_good (a0 : Ctx) (s1 : State) (hs1 : s1.Good q) : (bodyCourseClear a0 s1).Good q := by
  unfold bodyCourseClear
  extract_lets -underBinder +onlyGivenNames v0
  exact (resGood_refuse (resGood_refuse (State.setShadow_good _ _ _ hs1)))

theorem bodyCourseEntrySet_good (a0 : Ctx) (s1 : State) (hs1 : s1.Good q) : (bodyCourseEntrySet a0 s1).Good q := by
  unfold bodyCourseEntrySet
  extract_lets -underBinder +onlyGivenNames v0
  exact (resGood_refuse (resGood_refuse (State.setShadow_good _ _ _ hs1)))

theorem courseCommit_good (a0 : Nat → Nat) (a1 : Nat → Bool) (a2 : Nat → Bank → Instant → Bool) (a3 : Ctx) (s4 : State)
    (hs4 : s4.Good q) : (courseCommit a0 a1 a2 a3 s4).Good q := by
  unfold courseCommit
  extract_lets -underBinder +onlyGivenNames v0 v1 v2 v3
  split
  · exact resGood_fail
  · refine resGood_refuse ?_
    refine resGood_refuse ?_
    refine resGood_refuse ?_
    refine resGood_refuse ?_
    extract_lets -underBinder +onlyGivenNames v4
    exact (State.setCourse_good _ _ _ hs4)

theorem bodyCourseGet_good (a0 : Ctx) (s1 : State) (hs1 : s1.Good q) : (bodyCourseGet a0 s1).Good q := by
  unfold bodyCourseGet
  extract_lets -underBinder +onlyGivenNames v0
  exact (resGood_refuse hs1)

theorem bodyCourseEntryGet_good (a0 : Ctx) (s1 : State) (hs1 : s1.Good q) : (bodyCourseEntryGet a0 s1).Good q := by
  unfold bodyCourseEntryGet
  extract_lets -underBinder +onlyGivenNames v0
  refine resGood_refuse ?_
  extract_lets -underBinder +onlyGivenNames v1 v2
  exact hs1

theorem bodyCourseReportGet_good (a0 : Ctx) (s1 : State) (hs1 : s1.Good q) : (bodyCourseReportGet a0 s1).Good q :=
    by
  unfold bodyCourseReportGet
  extract_lets -underBinder +onlyGivenNames v0
  refine resGood_refuse ?_
  extract_lets -underBinder +onlyGivenNames v1
  exact hs1

theorem State.setKeeper_good (s : State) (a1 : Tk) (a2 : Keeper) (hs : s.Good q) : (State.setKeeper s a1 a2).Good q
    := by
  unfold State.setKeeper
  split
  · exact (.of hs)
  · exact (.of hs)

theorem State.setBond_good (s : State) (a1 : Bond) (hs : s.Good q) : (State.setBond s a1).Good q := by
  unfold State.setBond
  exact (.of hs)

theorem State.setBk_good (s : State) (a1 : Tk) (a2 : BondKeeper) (hs : s.Good q) : (State.setBk s a1 a2).Good q :=
    by
  unfold State.setBk
  split
  · exact (State.setBond_good _ _ hs)
  · exact (State.setBond_good _ _ hs)

theorem State.setD_good (s : State) (a1 : Tk) (a2 : Int) (hs : s.Good q) : (State.setD s a1 a2).Good q := by
  unfold State.setD
  split
  · exact (State.setBond_good _ _ hs)
  · exact (State.setBond_good _ _ hs)

theorem State.setCandSt_good (s : State) (a1 : Nat) (a2 : CandState) (hs : s.Good q) : (State.setCandSt s a1 a2).Good
    q := by
  unfold State.setCandSt
  exact (.of hs)

theorem State.setRefSt_good (s : State) (a1 : Nat) (a2 : RefState) (hs : s.Good q) : (State.setRefSt s a1 a2).Good q
    := by
  unfold State.setRefSt
  exact (.of hs)

theorem State.setPtpSt_good (s : State) (a1 : Nat) (a2 : PtpState) (hs : s.Good q) : (State.setPtpSt s a1 a2).Good q
    := by
  unfold State.setPtpSt
  exact (.of hs)

theorem State.setEsmc_good (s : State) (a1 : Nat) (a2 : EsmcState) (hs : s.Good q) : (State.setEsmc s a1 a2).Good q
    := by
  unfold State.setEsmc
  exact (.of hs)

theorem State.tkFlag_good (s : State) (a1 : Nat) (hs : s.Good q) : (State.tkFlag s a1).Good q := by
  unfold State.tkFlag
  exact (.of hs)

theorem State.bondFlag_good (s : State) (a1 : Nat) (hs : s.Good q) : (State.bondFlag s a1).Good q := by
  unfold State.bondFlag
  exact (State.setBond_good _ _ hs)

theorem State.setLink_good (s : State) (a1 : Nat) (a2 : Link) (hs : s.Good q) : (State.setLink s a1 a2).Good q := by
  unfold State.setLink
  exact (.of hs)

theorem State.setVernier_good (s : State) (a1 : Nat) (a2 : Vernier) (hs : s.Good q) : (State.setVernier s a1 a2).Good
    q := by
  unfold State.setVernier
  exact (.of hs)

theorem State.setQuad_good (s : State) (a1 : Nat) (a2 : Quad) (hs : s.Good q) : (State.setQuad s a1 a2).Good q := by
  unfold State.setQuad
  exact (.of hs)

theorem State.setBus_good (s : State) (a1 : Nat) (a2 : I2cBus) (hs : s.Good q) : (State.setBus s a1 a2).Good q := by
  unfold State.setBus
  exact (.of hs)

theorem State.setSensor_good (s : State) (a1 : Nat) (a2 : Sensor) (hs : s.Good q) : (State.setSensor s a1 a2).Good q
    := by
  unfold State.setSensor
  exact (.of hs)

theorem State.setPin_good (s : State) (a1 : Nat) (a2 : EvtPin) (hs : s.Good q) : (State.setPin s a1 a2).Good q := by
  unfold State.setPin
  exact (.of hs)

theorem State.setChan_good (s : State) (a1 : Nat) (a2 : TimChan) (hs : s.Good q) : (State.setChan s a1 a2).Good q :=
    by
  unfold State.setChan
  exact (.of hs)

theorem State.setCko_good (s : State) (a1 : Nat) (a2 : Cko) (hs : s.Good q) : (State.setCko s a1 a2).Good q := by
  unfold State.setCko
  exact (.of hs)

theorem State.countK_good (s : State) (a1 : Tk) (a2 : Nat) (hs : s.Good q) : (State.countK s a1 a2).Good q := by
  unfold State.countK
  exact (State.count_good _ _ _ hs)

theorem State.countE_good (s : State) (a1 : Nat) (a2 : Nat) (a3 : Nat) (hs : s.Good q) : (State.countE s a1 a2 a3).Good q
    := by
  unfold State.countE
  exact (State.count_good _ _ _ hs)

theorem State.countT_good (s : State) (a1 : Nat) (a2 : Nat) (hs : s.Good q) : (State.countT s a1 a2).Good q := by
  unfold State.countT
  exact (State.count_good _ _ _ hs)

theorem State.countO_good (s : State) (a1 : Nat) (a2 : Nat) (hs : s.Good q) : (State.countO s a1 a2).Good q := by
  unfold State.countO
  exact (State.count_good _ _ _ hs)

theorem State.moveIntervals_good (s : State) (d : Int) (h : s.Good q) : (State.moveIntervals s d).Good q :=
  ⟨h.1, h.2.1, h.2.2.1, h.2.2.2.1, h.2.2.2.2⟩

theorem State.stepTimer_good (s : State) (a1 : Target) (a2 : Nat) (a3 : Instant) (a4 : EvcTarget → EvcTimer) (a5 :
    EvcTarget → EvcTimer → EvcTarget) (hs : s.Good q) : (State.stepTimer s a1 a2 a3 a4 a5).Good q := by
  unfold State.stepTimer
  extract_lets -underBinder +onlyGivenNames v0
  split
  · exact hs
  · refine good_ite ?_ ?_
    · exact hs
    · extract_lets -underBinder +onlyGivenNames v1
      exact (State.raisePrivate_good _ _ _ (State.setTarget_good _ _ _ hs))

theorem State.stepTimers_good (s : State) (a1 : Instant) (hs : s.Good q) : (State.stepTimers s a1).Good q := by
  unfold State.stepTimers
  exact (good_foldl hs fun _ _ k0 => (State.stepTimer_good _ _ _ _ _ _ (State.stepTimer_good _ _ _ _ _ _ k0)))

theorem State.stepPins_good (s : State) (a1 : Instant) (hs : s.Good q) : (State.stepPins s a1).Good q := by
  unfold State.stepPins
  refine good_foldl ?_ fun z0 y0 h0 => ?_
  · exact hs
  · extract_lets -underBinder +onlyGivenNames v1
    extract_lets -underBinder +onlyGivenNames v2 v3
    exact (State.countE_good _ _ _ _ (State.setPin_good _ _ _ h0))

theorem State.stepCkos_good (s : State) (hs : s.Good q) : (State.stepCkos s).Good q := by
  unfold State.stepCkos
  refine good_foldl ?_ fun z0 y0 h0 => ?_
  · exact hs
  · extract_lets -underBinder +onlyGivenNames v1
    exact (good_ite (State.countO_good _ _ _ (State.setCko_good _ _ _ h0)) h0)

theorem State.stampStep_good (s : State) (a1 : Int) (hs : s.Good q) : (State.stampStep s a1).Good q := by
  unfold State.stampStep
  refine good_ite ?_ ?_
  · exact hs
  · extract_lets -underBinder +onlyGivenNames v0
    extract_lets -underBinder +onlyGivenNames v1
    have w1 : State.Good q (v1) := by
      unfold v1
      split
      · exact (State.rebase_good _ _ _ hs)
      · exact hs
    clear_value v1
    extract_lets -underBinder +onlyGivenNames v21
    have w21 : State.Good q (v21) := by
      unfold v21
      exact (State.stepCkos_good _ (State.stepPins_good _ _ (State.stepTimers_good _ _ w1)))
    clear_value v21
    extract_lets -underBinder +onlyGivenNames v41 v42
    have w42 : State.Good q (v42) := by
      unfold v42
      exact (State.moveIntervals_good _ _ w21)
    clear_value v42
    exact (.of w42)

theorem State.keeperStep_good (s : State) (a1 : Int) (a2 : Int) (hs : s.Good q) : (State.keeperStep s a1 a2).Good q :=
    by
  unfold State.keeperStep
  extract_lets -underBinder +onlyGivenNames v0 v1
  have w1 : ∀ b1_0 b1_1, State.Good q b1_0 → State.Good q (v1 b1_0 b1_1) := by
    intro b1_0 b1_1 hb1_0
    unfold v1
    exact (good_ite (State.countK_good _ _ _ hb1_0) hb1_0)
  clear_value v1
  extract_lets -underBinder +onlyGivenNames v21
  have w21 : State.Good q (v21) := by
    unfold v21
    exact (w1 _ _ (w1 _ _ hs))
  clear_value v21
  exact (State.stampStep_good _ _ (State.setBond_good _ _ w21))

end Sys2Proof.Machine
end

