-- ==== Sys2Proof/Laws/KeepTime.lean ====
section
/-! SUPPORT. The queue and the memories' canonical form stay as they are in the keepers: candidates, links, Bond and
the servo cycle: for each function that answers a state, if the state it takes has queue q and canonical memories, so
has the one it answers (`State.Good`). -/

namespace Sys2Proof.Machine

variable {q : Keep}

theorem State.setQual_good (s : State) (a1 : Nat) (a2 : Nat) (a3 : Nat) (a4 : Instant) (a5 : Instant) (hs : s.Good q) :
    (State.setQual s a1 a2 a3 a4 a5).Good q := by
  unfold State.setQual
  extract_lets -underBinder +onlyGivenNames v0 v1
  have w1 : State.Good q (v1) := by
    unfold v1
    exact (State.setCandSt_good _ _ _ hs)
  clear_value v1
  exact (good_ite w1 (State.raise_good _ _ _ _ _ _ w1))

theorem State.disqualify_good (s : State) (a1 : Nat) (a2 : Nat) (a3 : Instant) (hs : s.Good q) : (State.disqualify s a1
    a2 a3).Good q := by
  unfold State.disqualify
  extract_lets -underBinder +onlyGivenNames v0
  have w0 : State.Good q (v0) := by
    unfold v0
    exact (State.count_good _ _ _ (State.setQual_good _ _ _ _ _ _ hs))
  clear_value v0
  exact (.of w0)

theorem State.qualifyDue_good (s : State) (a1 : Nat) (a2 : Instant) (hs : s.Good q) : (State.qualifyDue s a1 a2).Good
    q := by
  unfold State.qualifyDue
  extract_lets -underBinder +onlyGivenNames v0
  exact (good_ite (State.setQual_good _ _ _ _ _ _ hs) hs)

theorem State.forgetCand_good (s : State) (a1 : Nat) (hs : s.Good q) : (State.forgetCand s a1).Good q := by
  unfold State.forgetCand
  exact (State.setCandSt_good _ _ _ hs)

theorem State.evalCand_good (a0 : Instant) (s1 : State) (a2 : Nat) (hs1 : s1.Good q) : (State.evalCand a0 s1 a2).Good
    q := by
  unfold State.evalCand
  extract_lets -underBinder +onlyGivenNames v0
  refine good_ite ?_ ?_
  · exact (State.forgetCand_good _ _ (State.setQual_good _ _ _ _ _ _ hs1))
  · refine good_ite ?_ ?_
    · exact (State.setQual_good _ _ _ _ _ _ hs1)
    · split
      · exact (good_ite (State.disqualify_good _ _ _ _ hs1) (State.setQual_good _ _ _ _ _ _ hs1))
      · exact (good_ite hs1 (good_ite (State.qualifyDue_good _ _ _ hs1) (State.qualifyDue_good _ _ _
          (State.setQual_good _ _ _ _ _ _ hs1))))

theorem State.votePair_good (t : Instant) (s : State) (pr : Nat × Nat) (h : s.Good q) : (State.votePair t s
    pr).Good q := by
  unfold State.votePair
  extract_lets -underBinder +onlyGivenNames i j ev s1 out
  have w : ∀ z k, State.Good q z → (ev z k).Good q := fun z k hz => good_ite (State.raise_good _ _ _ _ _ _ hz) hz
  have h1 : s1.Good q := State.tkFlag_good _ _ (w _ _ (w _ _ h))
  clear_value out
  refine good_ite h ?_
  rcases out with _ | x
  · exact good_ite h1 (.of h1)
  · exact State.setCandSt_good _ _ _ (State.disqualify_good _ _ _ _ h1)

theorem State.vote_good (s : State) (a1 : List FreqMeas) (a2 : Instant) (hs : s.Good q) : (State.vote s a1 a2).Good
    q := by
  unfold State.vote
  extract_lets -underBinder +onlyGivenNames v0
  have w0 : ∀ b0_0 b0_1, State.Good q b0_0 → State.Good q (v0 b0_0 b0_1) := by
    intro b0_0 b0_1 hb0_0
    unfold v0
    dsimp only
    exact (good_ite (State.setCandSt_good _ _ _ hb0_0) hb0_0)
  clear_value v0
  extract_lets -underBinder +onlyGivenNames v20
  have w20 : State.Good q (v20) := by
    unfold v20
    exact (good_foldl hs fun _ _ k0 => (w0 _ _ k0))
  clear_value v20
  extract_lets -underBinder +onlyGivenNames v40 v41
  have w41 : State.Good q (v41) := by
    unfold v41
    exact (.of w20)
  clear_value v41
  extract_lets -underBinder +onlyGivenNames v61 v62 v63 v64
  exact (good_foldl w41 fun _ _ k0 => (State.votePair_good _ _ _ k0))

theorem execVoteWindowEnd_good (a0 : List FreqMeas) (a1 : Instant) (s2 : State) (hs2 : s2.Good q) : OutGood q
    (execVoteWindowEnd a0 a1 s2) := by
  unfold execVoteWindowEnd
  extract_lets -underBinder +onlyGivenNames v0
  have w0 : State.Good q (v0) := by
    unfold v0
    exact (State.tick_good _ _ hs2)
  clear_value v0
  exact (outGood_ite w0 (State.vote_good _ _ _ w0))

theorem execCandidateQualify_good (a0 : Nat) (a1 : Instant) (s2 : State) (hs2 : s2.Good q) : OutGood q
    (execCandidateQualify a0 a1 s2) := by
  unfold execCandidateQualify
  extract_lets -underBinder +onlyGivenNames v0
  have w0 : State.Good q (v0) := by
    unfold v0
    exact (State.tick_good _ _ hs2)
  clear_value v0
  exact (outGood_ite (State.qualifyDue_good _ _ _ w0) w0)

theorem execRefPpsEdge_good (a0 : Nat) (a1 : PpsEdge) (a3 : Instant) (s4 : State) (hs4 : s4.Good q) :
    OutGood q (execRefPpsEdge a0 a1 a3 s4) := by
  unfold execRefPpsEdge
  extract_lets -underBinder +onlyGivenNames v0
  have w0 : State.Good q (v0) := by
    unfold v0
    exact (State.tick_good _ _ hs4)
  clear_value v0
  extract_lets -underBinder +onlyGivenNames v20
  refine outGood_ite ?_ ?_
  · exact w0
  · extract_lets -underBinder +onlyGivenNames v21
    extract_lets -underBinder +onlyGivenNames v22 v23
    refine outGood_ite ?_ ?_
    · exact (State.setRefSt_good _ _ _ w0)
    · split
      · exact (State.setRefSt_good _ _ _ w0)
      · extract_lets -underBinder +onlyGivenNames v24
        extract_lets -underBinder +onlyGivenNames v25
        exact (State.setRefSt_good _ _ _ w0)

theorem execPpsMissing_good (a0 : Nat) (a1 : Instant) (s2 : State) (hs2 : s2.Good q) : OutGood q (execPpsMissing a0
    a1 s2) := by
  unfold execPpsMissing
  extract_lets -underBinder +onlyGivenNames v0
  have w0 : State.Good q (v0) := by
    unfold v0
    exact (State.tick_good _ _ hs2)
  clear_value v0
  extract_lets -underBinder +onlyGivenNames v20
  exact (outGood_ite (State.setRefSt_good _ _ _ w0) w0)

theorem execRefClockLost_good (a0 : Nat) (a1 : Instant) (s2 : State) (hs2 : s2.Good q) : OutGood q (execRefClockLost
    a0 a1 s2) := by
  unfold execRefClockLost
  extract_lets -underBinder +onlyGivenNames v0
  have w0 : State.Good q (v0) := by
    unfold v0
    exact (State.tick_good _ _ hs2)
  clear_value v0
  exact (outGood_ite (State.setRefSt_good _ _ _ w0) w0)

theorem State.ptpOffset_good (s : State) (a1 : Nat) (a2 : Instant) (a3 : Instant) (a4 : Int) (hs : s.Good q) :
    (State.ptpOffset s a1 a2 a3 a4).Good q := by
  unfold State.ptpOffset
  extract_lets -underBinder +onlyGivenNames v0 v1
  split
  · exact (State.setPtpSt_good _ _ _ hs)
  · extract_lets -underBinder +onlyGivenNames v2
    exact (State.setPtpSt_good _ _ _ hs)

theorem State.addDelay_good (s : State) (a1 : Nat) (a2 : Int) (hs : s.Good q) : (State.addDelay s a1 a2).Good q := by
  unfold State.addDelay
  extract_lets -underBinder +onlyGivenNames v0
  exact (State.setPtpSt_good _ _ _ hs)

theorem State.peerDelay_good (s : State) (a1 : Nat) (a2 : Instant) (a3 : Instant) (a4 : Instant) (a5 : Instant) (a6 :
    Int) (hs : s.Good q) : (State.peerDelay s a1 a2 a3 a4 a5 a6).Good q := by
  unfold State.peerDelay
  extract_lets -underBinder +onlyGivenNames v0 v1 v2 v3
  have w3 : State.Good q (v3) := by
    unfold v3
    exact (State.addDelay_good _ _ _ hs)
  clear_value v3
  exact (State.setPtpSt_good _ _ _ w3)

theorem execPtpRx_good (a0 : Nat) (a1 : PtpMsg) (a2 : Instant) (a3 : Instant) (s4 : State) (hs4 : s4.Good q) :
    OutGood q (execPtpRx a0 a1 a2 a3 s4) := by
  unfold execPtpRx
  extract_lets -underBinder +onlyGivenNames v0
  have w0 : State.Good q (v0) := by
    unfold v0
    exact (State.tick_good _ _ hs4)
  clear_value v0
  extract_lets -underBinder +onlyGivenNames v20 v21
  refine outGood_ite ?_ ?_
  · exact w0
  · split
    · exact (outGood_ite w0 (outGood_ite (State.setPtpSt_good _ _ _ w0) (State.ptpOffset_good _ _ _ _ _ w0)))
    · split
      · exact (outGood_ite (State.ptpOffset_good _ _ _ _ _ w0) w0)
      · exact w0
    · split
      · exact (outGood_ite (State.addDelay_good _ _ _ w0) w0)
      · exact w0
    · split
      · exact (outGood_ite (State.setPtpSt_good _ _ _ w0) w0)
      · exact w0
    · split
      · exact (outGood_ite (State.peerDelay_good _ _ _ _ _ _ _ w0) w0)
      · exact w0
    · refine outGood_ite ?_ ?_
      · exact w0
      · extract_lets -underBinder +onlyGivenNames v22
        exact (outGood_ite (State.setPtpSt_good _ _ _ w0) w0)
    · exact w0
    · exact w0

theorem execPtpTx_good (a0 : Nat) (a1 : Nat) (a2 : Instant) (s3 : State) (hs3 : s3.Good q) : OutGood q (execPtpTx a0 a1
    a2 s3) := by
  unfold execPtpTx
  extract_lets -underBinder +onlyGivenNames v0
  have w0 : State.Good q (v0) := by
    unfold v0
    exact (State.tick_good _ _ hs3)
  clear_value v0
  extract_lets -underBinder +onlyGivenNames v20 v21
  refine outGood_ite ?_ ?_
  · exact w0
  · refine outGood_ite ?_ ?_
    · extract_lets -underBinder +onlyGivenNames v22
      extract_lets -underBinder +onlyGivenNames v23
      have w23 : State.Good q (v23) := by
        unfold v23
        exact (State.setPtpSt_good _ _ _ w0)
      clear_value v23
      exact (outGood_ite (State.emit_good _ _ (State.emit_good _ _ w23)) (State.emit_good _ _ w23))
    · refine outGood_ite ?_ ?_
      · exact (State.emit_good _ _ w0)
      · refine outGood_ite ?_ ?_
        · split
          · exact (State.emit_good _ _ (State.setPtpSt_good _ _ _ w0))
          · exact w0
        · exact w0

theorem execPtpDelayReqTx_good (a0 : Nat) (a1 : Instant) (s2 : State) (hs2 : s2.Good q) : OutGood q
    (execPtpDelayReqTx a0 a1 s2) := by
  unfold execPtpDelayReqTx
  extract_lets -underBinder +onlyGivenNames v0
  have w0 : State.Good q (v0) := by
    unfold v0
    exact (State.tick_good _ _ hs2)
  clear_value v0
  extract_lets -underBinder +onlyGivenNames v20 v21
  refine outGood_ite ?_ ?_
  · exact w0
  · extract_lets -underBinder +onlyGivenNames v22
    extract_lets -underBinder +onlyGivenNames v23
    have w23 : State.Good q (v23) := by
      unfold v23
      exact (State.setPtpSt_good _ _ _ w0)
    clear_value v23
    exact (State.emit_good _ _ w23)

theorem execPtpDelayReqRx_good (a0 : Nat) (a1 : PtpMsg) (a2 : Instant) (a3 : Instant) (s4 : State) (hs4 : s4.Good q)
    : OutGood q (execPtpDelayReqRx a0 a1 a2 a3 s4) := by
  unfold execPtpDelayReqRx
  extract_lets -underBinder +onlyGivenNames v0
  have w0 : State.Good q (v0) := by
    unfold v0
    exact (State.tick_good _ _ hs4)
  clear_value v0
  extract_lets -underBinder +onlyGivenNames v20 v21
  refine outGood_ite ?_ ?_
  · exact w0
  · split
    · exact (outGood_ite (State.emit_good _ _ w0) w0)
    · exact (outGood_ite (State.emit_good _ _ (State.setPtpSt_good _ _ _ w0)) w0)
    · exact w0

theorem execEsmcRx_good (a0 : Nat) (a1 : Nat) (a2 : Instant) (s3 : State) (hs3 : s3.Good q) : OutGood q (execEsmcRx a0
    a1 a2 s3) := by
  unfold execEsmcRx
  extract_lets -underBinder +onlyGivenNames v0
  have w0 : State.Good q (v0) := by
    unfold v0
    exact (State.tick_good _ _ hs3)
  clear_value v0
  extract_lets -underBinder +onlyGivenNames v20
  exact (outGood_ite w0 (State.setEsmc_good _ _ _ w0))

theorem execEsmcQlTimeout_good (a0 : Nat) (a1 : Instant) (s2 : State) (hs2 : s2.Good q) : OutGood q
    (execEsmcQlTimeout a0 a1 s2) := by
  unfold execEsmcQlTimeout
  extract_lets -underBinder +onlyGivenNames v0
  have w0 : State.Good q (v0) := by
    unfold v0
    exact (State.tick_good _ _ hs2)
  clear_value v0
  extract_lets -underBinder +onlyGivenNames v20
  exact (outGood_ite (State.setEsmc_good _ _ _ w0) w0)

theorem execEsmcTx_good (a0 : Nat) (a1 : Instant) (s2 : State) (hs2 : s2.Good q) : OutGood q (execEsmcTx a0 a1 s2) :=
    by
  unfold execEsmcTx
  extract_lets -underBinder +onlyGivenNames v0
  have w0 : State.Good q (v0) := by
    unfold v0
    exact (State.tick_good _ _ hs2)
  clear_value v0
  extract_lets -underBinder +onlyGivenNames v20
  refine outGood_ite ?_ ?_
  · exact w0
  · extract_lets -underBinder +onlyGivenNames v21
    exact (State.emit_good _ _ (State.setEsmc_good _ _ _ w0))

theorem State.takeBeats_good (s : State) (a1 : Nat) (hs : s.Good q) : (State.takeBeats s a1).Good q := by
  unfold State.takeBeats
  extract_lets -underBinder +onlyGivenNames v0
  exact (State.setLink_good _ _ _ hs)

theorem State.setLt_good (s : State) (a1 : Nat) (a2 : LtState) (a3 : Instant) (hs : s.Good q) : (State.setLt s a1 a2
    a3).Good q := by
  unfold State.setLt
  extract_lets -underBinder +onlyGivenNames v0
  exact (good_ite hs (State.raise_good _ _ _ _ _ _ (State.setLink_good _ _ _ hs)))

theorem State.clearHistory_good (s : State) (a1 : Nat) (hs : s.Good q) : (State.clearHistory s a1).Good q := by
  unfold State.clearHistory
  exact (State.setLink_good _ _ _ hs)

theorem State.ltOff_good (s : State) (a1 : Nat) (a2 : Instant) (hs : s.Good q) : (State.ltOff s a1 a2).Good q := by
  unfold State.ltOff
  extract_lets -underBinder +onlyGivenNames v0
  have w0 : State.Good q (v0) := by
    unfold v0
    exact (State.setLt_good _ _ _ _ (State.clearHistory_good _ _ hs))
  clear_value v0
  exact (State.setLink_good _ _ _ w0)

theorem State.ltActive_good (s : State) (a1 : Nat) (a2 : Instant) (hs : s.Good q) : (State.ltActive s a1 a2).Good q
    := by
  unfold State.ltActive
  extract_lets -underBinder +onlyGivenNames v0
  exact (good_ite (State.setLt_good _ _ _ _ (State.setLink_good _ _ _ hs)) hs)

theorem State.ltByDetector_good (s : State) (a1 : Nat) (a2 : Instant) (hs : s.Good q) : (State.ltByDetector s a1
    a2).Good q := by
  unfold State.ltByDetector
  exact (State.setLt_good _ _ _ _ hs)

theorem State.ltWait_good (s : State) (a1 : Nat) (a2 : Instant) (hs : s.Good q) : (State.ltWait s a1 a2).Good q := by
  unfold State.ltWait
  exact (State.setLt_good _ _ _ _ (State.clearHistory_good _ _ hs))

theorem State.sampleBeat_good (s : State) (a1 : Nat) (a2 : Nat) (a3 : Nat) (hs : s.Good q) : (State.sampleBeat s a1 a2
    a3).Good q := by
  unfold State.sampleBeat
  extract_lets -underBinder +onlyGivenNames v0 v1 v2 v3 v4 v5 v6 v7
  exact (State.setLink_good _ _ _ hs)

theorem execBeatSample_good (a0 : Nat) (a1 : Nat) (a2 : Nat) (a3 : Instant) (s4 : State) (hs4 : s4.Good q) : OutGood q
    (execBeatSample a0 a1 a2 a3 s4) := by
  unfold execBeatSample
  extract_lets -underBinder +onlyGivenNames v0
  have w0 : State.Good q (v0) := by
    unfold v0
    exact (State.tick_good _ _ hs4)
  clear_value v0
  refine outGood_ite ?_ ?_
  · exact w0
  · extract_lets -underBinder +onlyGivenNames v20
    extract_lets -underBinder +onlyGivenNames v21
    have w21 : State.Good q (v21) := by
      unfold v21
      exact (State.sampleBeat_good _ _ _ _ w0)
    clear_value v21
    exact (outGood_ite (State.ltByDetector_good _ _ _ w21) w21)

theorem execLtRelockTimeout_good (a0 : Nat) (a1 : Instant) (s2 : State) (hs2 : s2.Good q) : OutGood q
    (execLtRelockTimeout a0 a1 s2) := by
  unfold execLtRelockTimeout
  extract_lets -underBinder +onlyGivenNames v0
  have w0 : State.Good q (v0) := by
    unfold v0
    exact (State.tick_good _ _ hs2)
  clear_value v0
  exact (outGood_ite (State.ltWait_good _ _ _ w0) w0)

theorem State.issueMark_good (a0 : Tk) (a1 : Instant) (s2 : State) (a3 : Nat) (hs2 : s2.Good q) : (State.issueMark a0
    a1 s2 a3).Good q := by
  unfold State.issueMark
  refine good_ite ?_ ?_
  · exact hs2
  · extract_lets -underBinder +onlyGivenNames v0
    extract_lets -underBinder +onlyGivenNames v1 v2 v3 v4
    exact (State.setLink_good _ _ _ hs2)

theorem State.addSlot_good (a0 : Instant) (s1 : State) (a2 : Nat) (hs1 : s1.Good q) : (State.addSlot a0 s1 a2).Good q
    := by
  unfold State.addSlot
  extract_lets -underBinder +onlyGivenNames v0
  refine good_ite ?_ ?_
  · exact hs1
  · extract_lets -underBinder +onlyGivenNames v1
    exact (State.setLink_good _ _ _ hs1)

theorem State.issueMarks_good (s : State) (a1 : Instant) (hs : s.Good q) : (State.issueMarks s a1).Good q := by
  unfold State.issueMarks
  extract_lets -underBinder +onlyGivenNames v0 v1
  have w1 : State.Good q (v1) := by
    unfold v1
    exact (good_foldl (good_foldl hs fun _ _ k0 => (State.issueMark_good _ _ _ _ k0)) fun _ _ k0 =>
        (State.issueMark_good _ _ _ _ k0))
  clear_value v1
  extract_lets -underBinder +onlyGivenNames v21 v22
  have w22 : State.Good q (v22) := by
    unfold v22
    exact (good_ite (good_foldl w1 fun _ _ k0 => (State.addSlot_good _ _ _ k0)) w1)
  clear_value v22
  exact (.of w22)

theorem execTmarkTx_good (a0 : Nat) (a1 : Nat) (a2 : Nat) (a3 : Instant) (s4 : State) (hs4 : s4.Good q) : OutGood q
    (execTmarkTx a0 a1 a2 a3 s4) := by
  unfold execTmarkTx
  extract_lets -underBinder +onlyGivenNames v0
  have w0 : State.Good q (v0) := by
    unfold v0
    exact (State.tick_good _ _ hs4)
  clear_value v0
  extract_lets -underBinder +onlyGivenNames v20
  refine outGood_ite ?_ ?_
  · exact w0
  · split
    · exact w0
    · extract_lets -underBinder +onlyGivenNames v21
      refine outGood_ite ?_ ?_
      · exact w0
      · extract_lets -underBinder +onlyGivenNames v22
        exact (State.emit_good _ _ (State.setLink_good _ _ _ w0))

theorem State.keepMark_good (s : State) (a1 : Nat) (a2 : Nat) (a3 : Bool) (a4 : Nat) (a5 : Nat) (hs : s.Good q) :
    (State.keepMark s a1 a2 a3 a4 a5).Good q := by
  unfold State.keepMark
  extract_lets -underBinder +onlyGivenNames v0 v1 v2 v3
  have w3 : State.Good q (v3) := by
    unfold v3
    exact (State.countP_good _ _ _ _ (State.countP_good _ _ _ _ hs))
  clear_value v3
  extract_lets -underBinder +onlyGivenNames v23
  have w23 : State.Good q (v23) := by
    unfold v23
    exact (good_ite w3 (State.countP_good _ _ _ _ w3))
  clear_value v23
  exact (State.setLink_good _ _ _ w23)

theorem execTmarkRx_good (a0 : Nat) (a1 : List Nat) (a2 : Bool) (a3 : Nat) (a4 : Nat) (a5 : Instant) (s6 : State) (hs6 :
    s6.Good q) : OutGood q (execTmarkRx a0 a1 a2 a3 a4 a5 s6) := by
  unfold execTmarkRx
  extract_lets -underBinder +onlyGivenNames v0
  have w0 : State.Good q (v0) := by
    unfold v0
    exact (State.tick_good _ _ hs6)
  clear_value v0
  refine outGood_ite ?_ ?_
  · exact w0
  · split
    · extract_lets -underBinder +onlyGivenNames v20
      refine outGood_ite ?_ ?_
      · exact (State.countP_good _ _ _ _ w0)
      · extract_lets -underBinder +onlyGivenNames v21
        exact (outGood_ite (State.countP_good _ _ _ _ w0) (State.keepMark_good _ _ _ _ _ _ w0))
    · exact (State.countP_good _ _ _ _ w0)

theorem State.sendLocal_good (s : State) (a1 : Nat) (a2 : List Byte) (a3 : Instant) (hs : s.Good q) :
    (State.sendLocal s a1 a2 a3).Good q := by
  unfold State.sendLocal
  extract_lets -underBinder +onlyGivenNames v0 v1
  have w1 : State.Good q (v1) := by
    unfold v1
    exact (State.setModel_good _ _ _ hs)
  clear_value v1
  exact (State.emit_good _ _ (State.countP_good _ _ _ _ w1))

theorem execTimingFrameTx_good (a0 : Nat) (a1 : Instant) (s2 : State) (hs2 : s2.Good q) : OutGood q
    (execTimingFrameTx a0 a1 s2) := by
  unfold execTimingFrameTx
  extract_lets -underBinder +onlyGivenNames v0
  have w0 : State.Good q (v0) := by
    unfold v0
    exact (State.tick_good _ _ hs2)
  clear_value v0
  refine outGood_ite ?_ ?_
  · exact w0
  · refine outGood_ite ?_ ?_
    · exact (outGood_ite w0 (State.emit_good _ _ (State.countP_good _ _ _ _ w0)))
    · refine outGood_ite ?_ ?_
      · exact w0
      · extract_lets -underBinder +onlyGivenNames v20
        extract_lets -underBinder +onlyGivenNames v21
        split
        · exact w0
        · refine outGood_ite ?_ ?_
          · exact w0
          · refine outGood_ite ?_ ?_
            · extract_lets -underBinder +onlyGivenNames v22
              extract_lets -underBinder +onlyGivenNames v23 v24
              have w24 : State.Good q (v24) := by
                unfold v24
                exact (State.sendLocal_good _ _ _ _ w0)
              clear_value v24
              exact (State.setLink_good _ _ _ w24)
            · extract_lets -underBinder +onlyGivenNames v22
              have w22 : State.Good q (v22) := by
                unfold v22
                exact (State.sendLocal_good _ _ _ _ w0)
              clear_value v22
              exact (State.setLink_good _ _ _ w22)

theorem State.takeTiming_good (s : State) (a1 : Nat) (a2 : FarFrame) (hs : s.Good q) : (State.takeTiming s a1
    a2).Good q := by
  unfold State.takeTiming
  extract_lets -underBinder +onlyGivenNames v0
  exact (State.setLink_good _ _ _ hs)

theorem State.takeCal_good (s : State) (a1 : Nat) (a2 : FarCal) (hs : s.Good q) : (State.takeCal s a1 a2).Good q := by
  unfold State.takeCal
  extract_lets -underBinder +onlyGivenNames v0 v1
  have w1 : State.Good q (v1) := by
    unfold v1
    exact (State.setLink_good _ _ _ hs)
  clear_value v1
  exact (good_ite (State.setLane_good _ _ _ w1) w1)

theorem execTimingFrameRx_good (a0 : Nat) (a1 : List Byte) (a2 : Instant) (s3 : State) (hs3 : s3.Good q) : OutGood q
    (execTimingFrameRx a0 a1 a2 s3) := by
  unfold execTimingFrameRx
  extract_lets -underBinder +onlyGivenNames v0
  have w0 : State.Good q (v0) := by
    unfold v0
    exact (State.tick_good _ _ hs3)
  clear_value v0
  refine outGood_ite ?_ ?_
  · exact w0
  · refine outGood_ite ?_ ?_
    · exact (State.countP_good _ _ _ _ w0)
    · extract_lets -underBinder +onlyGivenNames v20
      have w20 : State.Good q (v20) := by
        unfold v20
        exact (State.countP_good _ _ _ _ w0)
      clear_value v20
      exact (good_ite (State.takeTiming_good _ _ _ w20) (State.takeCal_good _ _ _ w20))

theorem State.deliver_good (s : State) (a1 : Nat) (a2 : Meas) (a3 : List Int) (a4 : Instant) (hs : s.Good q) :
    (State.deliver s a1 a2 a3 a4).Good q := by
  unfold State.deliver
  extract_lets -underBinder +onlyGivenNames v0 v1
  have w1 : State.Good q (v1) := by
    unfold v1
    exact (State.countP_good _ _ _ _ (State.setLink_good _ _ _ hs))
  clear_value v1
  exact (good_ite (State.ltByDetector_good _ _ _ w1) w1)

theorem State.checkMeas_good (s : State) (a1 : Nat) (a2 : Quadruple) (a3 : Meas) (a4 : Instant) (hs : s.Good q) :
    (State.checkMeas s a1 a2 a3 a4).Good q := by
  unfold State.checkMeas
  extract_lets -underBinder +onlyGivenNames v0 v1
  have w1 : ∀ b1_0, State.Good q b1_0 → State.Good q (v1 b1_0) := by
    intro b1_0 hb1_0
    unfold v1
    dsimp only
    exact (State.setLink_good _ _ _ hb1_0)
  clear_value v1
  refine good_ite ?_ ?_
  · exact (w1 _ (State.countP_good _ _ _ _ hs))
  · refine good_ite ?_ ?_
    · exact (w1 _ (State.countP_good _ _ _ _ hs))
    · extract_lets -underBinder +onlyGivenNames v21
      extract_lets -underBinder +onlyGivenNames v22
      refine good_ite ?_ ?_
      · exact (State.deliver_good _ _ _ _ _ hs)
      · extract_lets -underBinder +onlyGivenNames v23
        have w23 : State.Good q (v23) := by
          unfold v23
          exact (w1 _ (State.countP_good _ _ _ _ hs))
        clear_value v23
        extract_lets -underBinder +onlyGivenNames v43 v44
        refine good_ite ?_ ?_
        · exact (State.setLink_good _ _ _ w23)
        · extract_lets -underBinder +onlyGivenNames v45
          extract_lets -underBinder +onlyGivenNames v46
          have w46 : State.Good q (v46) := by
            unfold v46
            exact (State.raise_good _ _ _ _ _ _ (State.deliver_good _ _ _ _ _ w23))
          clear_value v46
          exact (State.setLink_good _ _ _ w46)

theorem State.dropSeq_good (s : State) (a1 : Nat) (a2 : Nat) (hs : s.Good q) : (State.dropSeq s a1 a2).Good q := by
  unfold State.dropSeq
  extract_lets -underBinder +onlyGivenNames v0 v1
  exact (State.setLink_good _ _ _ hs)

theorem State.measureSeq_good (a0 : Nat) (a1 : Nat) (a2 : Option FarCal) (a3 : Instant) (s4 : State) (a5 : Nat) (hs4 :
    s4.Good q) : (State.measureSeq a0 a1 a2 a3 s4 a5).Good q := by
  unfold State.measureSeq
  extract_lets -underBinder +onlyGivenNames v0 v1
  have w1 : ∀ b1_0, State.Good q b1_0 → State.Good q (v1 b1_0) := by
    intro b1_0 hb1_0
    unfold v1
    exact (State.dropSeq_good _ _ _ hb1_0)
  clear_value v1
  split
  · exact (w1 _ (State.checkMeas_good _ _ _ _ _ hs4))
  · extract_lets -underBinder +onlyGivenNames v21
    refine good_ite ?_ ?_
    · extract_lets -underBinder +onlyGivenNames v22
      have w22 : State.Good q (v22) := by
        unfold v22
        exact (State.countP_good _ _ _ _ hs4)
      clear_value v22
      exact (w1 _ (State.setLink_good _ _ _ w22))
    · exact hs4

theorem State.linkCycle_good (a0 : Instant) (s1 : State) (a2 : Nat) (hs1 : s1.Good q) : (State.linkCycle a0 s1
    a2).Good q := by
  unfold State.linkCycle
  extract_lets -underBinder +onlyGivenNames v0 v1
  have w1 : State.Good q (v1) := by
    unfold v1
    exact (State.setLink_good _ _ _ hs1)
  clear_value v1
  extract_lets -underBinder +onlyGivenNames v21 v22
  have w22 : State.Good q (v22) := by
    unfold v22
    split
    · extract_lets -underBinder +onlyGivenNames v23
      exact (State.setLink_good _ _ _ w1)
    · exact w1
  clear_value v22
  extract_lets -underBinder +onlyGivenNames v42 v43
  have w43 : State.Good q (v43) := by
    unfold v43
    exact (good_ite (State.setLink_good _ _ _ w22) w22)
  clear_value v43
  extract_lets -underBinder +onlyGivenNames v63 v64
  have w64 : State.Good q (v64) := by
    unfold v64
    split
    · exact (State.setLink_good _ _ _ w43)
    · exact w43
  clear_value v64
  extract_lets -underBinder +onlyGivenNames v84 v85
  have w85 : State.Good q (v85) := by
    unfold v85
    split
    · exact (good_ite (good_ite w64 (State.raise_good _ _ _ _ _ _ (State.setLink_good _ _ _ w64)))
        (State.setLink_good _ _ _ w64))
    · exact w64
  clear_value v85
  extract_lets -underBinder +onlyGivenNames v105
  refine good_ite ?_ ?_
  · exact w85
  · extract_lets -underBinder +onlyGivenNames v106
    have w106 : State.Good q (v106) := by
      unfold v106
      exact (good_foldl w85 fun _ _ k0 => (State.measureSeq_good _ _ _ _ _ _ k0))
    clear_value v106
    extract_lets -underBinder +onlyGivenNames v126
    exact (good_ite (State.ltWait_good _ _ _ w106) w106)

theorem State.vernierCycle_good (s : State) (a1 : Nat) (hs : s.Good q) : (State.vernierCycle s a1).Good q := by
  unfold State.vernierCycle
  extract_lets -underBinder +onlyGivenNames v0
  split
  · exact (State.setVernier_good _ _ _ hs)
  · exact hs

theorem State.runCompletions_good (s : State) (a1 : Instant) (hs : s.Good q) : (State.runCompletions s a1).Good q
    := by
  unfold State.runCompletions
  extract_lets -underBinder +onlyGivenNames v0
  have w0 : State.Good q (v0) := by
    unfold v0
    split
    · extract_lets -underBinder +onlyGivenNames v1
      refine good_ite ?_ ?_
      · extract_lets -underBinder +onlyGivenNames v2
        extract_lets -underBinder +onlyGivenNames v3
        have w3 : State.Good q (v3) := by
          unfold v3
          exact (.of hs)
        clear_value v3
        exact (State.raise_good _ _ _ _ _ _ (State.finish_good _ _ _ _ _ w3))
      · exact (.of hs)
    · exact hs
  clear_value v0
  split
  · extract_lets -underBinder +onlyGivenNames v20
    refine good_ite ?_ ?_
    · extract_lets -underBinder +onlyGivenNames v21
      extract_lets -underBinder +onlyGivenNames v22
      have w22 : State.Good q (v22) := by
        unfold v22
        exact (.of w0)
      clear_value v22
      exact (State.raise_good _ _ _ _ _ _ (State.finish_good _ _ _ _ _ w22))
    · exact (.of w0)
  · exact w0

theorem execDelayRunDone_good (a0 : Nat) (a1 : Nat) (a2 : Nat) (a3 : Nat) (a4 : Nat) (a5 : Instant) (s6 : State) (hs6 :
    s6.Good q) : OutGood q (execDelayRunDone a0 a1 a2 a3 a4 a5 s6) := by
  unfold execDelayRunDone
  extract_lets -underBinder +onlyGivenNames v0
  have w0 : State.Good q (v0) := by
    unfold v0
    exact (State.tick_good _ _ hs6)
  clear_value v0
  extract_lets -underBinder +onlyGivenNames v20
  exact (outGood_ite w0 (State.setLink_good _ _ _ w0))

theorem execVernierCalDone_good (a0 : Nat) (a1 : Nat) (a2 : Instant) (s3 : State) (hs3 : s3.Good q) : OutGood q
    (execVernierCalDone a0 a1 a2 s3) := by
  unfold execVernierCalDone
  extract_lets -underBinder +onlyGivenNames v0
  have w0 : State.Good q (v0) := by
    unfold v0
    exact (State.tick_good _ _ hs3)
  clear_value v0
  extract_lets -underBinder +onlyGivenNames v20
  exact (outGood_ite w0 (State.setVernier_good _ _ _ w0))

theorem State.putTk_good (s : State) (a1 : Instant) (a2 : Nat) (a3 : TkChange) (hs : s.Good q) : (State.putTk s a1 a2
    a3).Good q := by
  unfold State.putTk
  exact (.of hs)

theorem stageTk_good (a0 : Ctx) (s1 : State) (a2 : TkChange) (hs1 : s1.Good q) : (stageTk a0 s1 a2).Good q := by
  unfold stageTk
  extract_lets -underBinder +onlyGivenNames v0
  exact (resGood_ite resGood_fail (State.putTk_good _ _ _ _ hs1))

theorem bodyLinkTimingSet_good (a0 : Ctx) (s1 : State) (hs1 : s1.Good q) : (bodyLinkTimingSet a0 s1).Good q := by
  unfold bodyLinkTimingSet
  extract_lets -underBinder +onlyGivenNames v0
  exact (resGood_refuse (resGood_refuse (stageTk_good _ _ _ hs1)))

theorem bodyLinkTimingGet_good (a0 : Ctx) (s1 : State) (hs1 : s1.Good q) : (bodyLinkTimingGet a0 s1).Good q := by
  unfold bodyLinkTimingGet
  extract_lets -underBinder +onlyGivenNames v0
  exact (resGood_refuse hs1)

theorem bodyAsymSet_good (a0 : Ctx) (s1 : State) (hs1 : s1.Good q) : (bodyAsymSet a0 s1).Good q := by
  unfold bodyAsymSet
  exact (resGood_refuse (stageTk_good _ _ _ hs1))

theorem bodyAsymGet_good (a0 : Ctx) (s1 : State) (hs1 : s1.Good q) : (bodyAsymGet a0 s1).Good q := by
  unfold bodyAsymGet
  extract_lets -underBinder +onlyGivenNames v0
  exact (resGood_refuse hs1)

theorem State.noteLink_good (s : State) (a1 : Nat) (hs : s.Good q) : (State.noteLink s a1).Good q := by
  unfold State.noteLink
  exact (.of hs)

theorem bodyLinkStatusGet_good (a0 : Ctx) (s1 : State) (hs1 : s1.Good q) : (bodyLinkStatusGet a0 s1).Good q := by
  unfold bodyLinkStatusGet
  exact (resGood_refuse hs1)

theorem State.asymAbort_good (s : State) (a1 : Instant) (hs : s.Good q) : (State.asymAbort s a1).Good q := by
  unfold State.asymAbort
  split
  · exact hs
  · exact (State.finish_good _ _ _ _ _ (.of hs))

theorem asymOpen_good (s : State) (a1 : Req) (a2 : Nat) (a3 : Instant) (hs : s.Good q) : (asymOpen s a1 a2 a3).Good q
    := by
  unfold asymOpen
  exact (.of hs)

theorem bodyAsymMeasure_good (a0 : Ctx) (s1 : State) (hs1 : s1.Good q) : (bodyAsymMeasure a0 s1).Good q := by
  unfold bodyAsymMeasure
  extract_lets -underBinder +onlyGivenNames v0 v1
  refine resGood_refuse ?_
  refine resGood_refuse ?_
  refine resGood_refuse ?_
  refine resGood_ite ?_ ?_
  · extract_lets -underBinder +onlyGivenNames v2
    have w2 : State.Good q (v2) := by
      unfold v2
      exact (State.asymAbort_good _ _ hs1)
    clear_value v2
    exact (.of w2)
  · exact (asymOpen_good _ _ _ _ hs1)

theorem State.asymCycle_good (s : State) (a1 : Instant) (hs : s.Good q) : (State.asymCycle s a1).Good q := by
  unfold State.asymCycle
  split
  · exact hs
  · extract_lets -underBinder +onlyGivenNames v0
    extract_lets -underBinder +onlyGivenNames v1
    refine good_ite ?_ ?_
    · exact (State.asymAbort_good _ _ hs)
    · split
      · extract_lets -underBinder +onlyGivenNames v2
        exact (.of hs)
      · exact hs

theorem State.asymFirstEnd_good (s : State) (a1 : AsymOpen) (a2 : Instant) (hs : s.Good q) : (State.asymFirstEnd s
    a1 a2).Good q := by
  unfold State.asymFirstEnd
  extract_lets -underBinder +onlyGivenNames v0
  exact (State.finish_good _ _ _ _ _ (.of hs))

theorem State.asymSecondEnd_good (s : State) (a1 : AsymOpen) (a2 : Instant) (hs : s.Good q) : (State.asymSecondEnd
    s a1 a2).Good q := by
  unfold State.asymSecondEnd
  extract_lets -underBinder +onlyGivenNames v0 v1 v2 v3
  have w3 : State.Good q (v3) := by
    unfold v3
    exact (.of hs)
  clear_value v3
  split
  · exact (State.finish_good _ _ _ _ _ w3)
  · extract_lets -underBinder +onlyGivenNames v23
    extract_lets -underBinder +onlyGivenNames v24
    refine good_ite ?_ ?_
    · exact (State.finish_good _ _ _ _ _ w3)
    · extract_lets -underBinder +onlyGivenNames v25
      extract_lets -underBinder +onlyGivenNames v26 v27 v28 v29 v30
      have w30 : State.Good q (v30) := by
        unfold v30
        exact (good_ite (.of w3) w3)
      clear_value v30
      exact (State.finish_good _ _ _ _ _ w30)

theorem execAsymWindowEnd_good (a0 : Instant) (s1 : State) (hs1 : s1.Good q) : OutGood q (execAsymWindowEnd a0 s1)
    := by
  unfold execAsymWindowEnd
  extract_lets -underBinder +onlyGivenNames v0
  have w0 : State.Good q (v0) := by
    unfold v0
    exact (State.tick_good _ _ hs1)
  clear_value v0
  split
  · exact w0
  · exact (outGood_ite w0 (good_ite (State.asymSecondEnd_good _ _ _ w0) (State.asymFirstEnd_good _ _ _ w0)))

theorem State.wantRun_good (s : State) (a1 : Nat) (hs : s.Good q) : (State.wantRun s a1).Good q := by
  unfold State.wantRun
  exact (State.setLink_good _ _ _ hs)

theorem State.startRuns_good (s : State) (h : s.Good q) : (State.startRuns s).Good q := by
  unfold State.startRuns
  extract_lets -underBinder +onlyGivenNames f g d ports
  refine good_foldl (good_foldl (good_foldl h fun z _ k => ?_) fun z _ k => ?_) fun z _ k => ?_
  · exact good_ite (State.Good.of (State.setVernier_good _ _ _ k)) k
  · exact good_ite (State.setLane_good _ _ _ k) k
  · exact good_ite (State.wantRun_good _ _ (State.setLane_good _ _ _ k)) k

theorem bodyCalDelayRun_good (a0 : Ctx) (s1 : State) (hs1 : s1.Good q) : (bodyCalDelayRun a0 s1).Good q := by
  unfold bodyCalDelayRun
  extract_lets -underBinder +onlyGivenNames v0
  refine resGood_refuse ?_
  extract_lets -underBinder +onlyGivenNames v1
  have w1 : State.Good q (v1) := by
    unfold v1
    exact (good_foldl hs1 fun _ _ k0 => (State.wantRun_good _ _ k0))
  clear_value v1
  exact (.of w1)

theorem startVerniers_good (s : State) (a1 : Nat) (hs : s.Good q) : (startVerniers s a1).Good q := by
  unfold startVerniers
  exact (good_foldl hs fun _ _ k0 => (State.setVernier_good _ _ _ k0))

theorem bodyCalVernierRun_good (a0 : Ctx) (s1 : State) (hs1 : s1.Good q) : (bodyCalVernierRun a0 s1).Good q := by
  unfold bodyCalVernierRun
  extract_lets -underBinder +onlyGivenNames v0 v1
  refine resGood_refuse ?_
  refine resGood_refuse ?_
  extract_lets -underBinder +onlyGivenNames v2
  have w2 : State.Good q (v2) := by
    unfold v2
    exact (startVerniers_good _ _ hs1)
  clear_value v2
  exact (.of w2)

theorem State.setVotes_good (s : State) (hs : s.Good q) : (State.setVotes s).Good q := by
  unfold State.setVotes
  extract_lets -underBinder +onlyGivenNames v0 v1 v2
  exact (State.setBond_good _ _ hs)

theorem State.handover_good (s : State) (a1 : Tk) (a2 : Bool) (a3 : Instant) (hs : s.Good q) : (State.handover s a1
    a2 a3).1.Good q := by
  unfold State.handover
  extract_lets -underBinder +onlyGivenNames v0 v1 v2
  have w2 : State.Good q (v2) := by
    unfold v2
    exact (State.raise_good _ _ _ _ _ _ hs)
  clear_value v2
  extract_lets -underBinder +onlyGivenNames v22 v23
  have w23 : State.Good q (v23) := by
    unfold v23
    exact (good_ite (State.stampStep_good _ _ w2) (.of w2))
  clear_value v23
  extract_lets -underBinder +onlyGivenNames v43 v44
  have w44 : State.Good q (v44) := by
    unfold v44
    exact (State.setBond_good _ _ w23)
  clear_value v44
  dsimp only
  exact (State.setVotes_good _ (State.bondFlag_good _ _ (State.countD_good _ _ _ w44)))

theorem State.freeLease_good (s : State) (a1 : Bool) (a2 : Instant) (hs : s.Good q) : (State.freeLease s a1
    a2).Good q := by
  unfold State.freeLease
  split
  · exact hs
  · extract_lets -underBinder +onlyGivenNames v0
    have w0 : State.Good q (v0) := by
      unfold v0
      exact (good_ite (State.bondFlag_good _ _ (State.countD_good _ _ _ hs)) hs)
    clear_value v0
    exact (good_ite (State.handover_good _ _ _ _ w0) (State.setVotes_good _ (State.setBond_good _ _
        (State.setD_good _ _ _ w0))))

theorem State.setFault_good (s : State) (a1 : Tk) (a2 : Bool) (hs : s.Good q) : (State.setFault s a1 a2).Good q :=
    by
  unfold State.setFault
  split
  · exact (State.setBond_good _ _ hs)
  · exact (State.setBond_good _ _ hs)

theorem State.stopped_good (s : State) (a1 : Tk) (a2 : KCond) (hs : s.Good q) : (State.stopped s a1 a2).Good q := by
  unfold State.stopped
  extract_lets -underBinder +onlyGivenNames v0
  exact (State.setKeeper_good _ _ _ (State.setBk_good _ _ _ (State.setD_good _ _ _ hs)))

theorem State.startRejoin_good (s : State) (a1 : Tk) (a2 : Instant) (hs : s.Good q) : (State.startRejoin s a1
    a2).Good q := by
  unfold State.startRejoin
  extract_lets -underBinder +onlyGivenNames v0
  exact (State.countK_good _ _ _ (State.setBk_good _ _ _ hs))

theorem State.retryRejoin_good (a0 : Instant) (s1 : State) (a2 : Tk) (hs1 : s1.Good q) : (State.retryRejoin a0 s1
    a2).Good q := by
  unfold State.retryRejoin
  extract_lets -underBinder +onlyGivenNames v0
  exact (good_ite (State.startRejoin_good _ _ _ hs1) hs1)

theorem State.autoRejoin_good (s : State) (a1 : Tk) (a2 : Instant) (hs : s.Good q) : (State.autoRejoin s a1
    a2).Good q := by
  unfold State.autoRejoin
  extract_lets -underBinder +onlyGivenNames v0
  exact (good_ite hs (State.retryRejoin_good _ _ _ (State.setBk_good _ _ _ hs)))

theorem State.noteFail_good (s : State) (a1 : Tk) (a2 : Instant) (hs : s.Good q) : (State.noteFail s a1 a2).Good q
    := by
  unfold State.noteFail
  extract_lets -underBinder +onlyGivenNames v0
  split
  · exact hs
  · extract_lets -underBinder +onlyGivenNames v1
    exact (State.setBk_good _ _ _ hs)

theorem State.stopKeeper_good (s : State) (a1 : Tk) (a2 : Nat) (a3 : Instant) (hs : s.Good q) : (State.stopKeeper s
    a1 a2 a3).Good q := by
  unfold State.stopKeeper
  extract_lets -underBinder +onlyGivenNames v0
  have w0 : State.Good q (v0) := by
    unfold v0
    exact (State.noteFail_good _ _ _ hs)
  clear_value v0
  extract_lets -underBinder +onlyGivenNames v20
  have w20 : State.Good q (v20) := by
    unfold v20
    exact (good_ite (State.freeLease_good _ _ _ w0) w0)
  clear_value v20
  extract_lets -underBinder +onlyGivenNames v40
  have w40 : State.Good q (v40) := by
    unfold v40
    exact (State.setFault_good _ _ _ (State.stopped_good _ _ _ w20))
  clear_value v40
  exact (State.autoRejoin_good _ _ _ (State.raise_good _ _ _ _ _ _ w40))

theorem execLeaseExpiry_good (a0 : Instant) (s1 : State) (hs1 : s1.Good q) : OutGood q (execLeaseExpiry a0 s1) := by
  unfold execLeaseExpiry
  extract_lets -underBinder +onlyGivenNames v0
  have w0 : State.Good q (v0) := by
    unfold v0
    exact (State.tick_good _ _ hs1)
  clear_value v0
  exact (outGood_ite (State.freeLease_good _ _ _ w0) w0)

theorem execKeeperCheckFail_good (a0 : Tk) (a1 : Nat) (a2 : Instant) (s3 : State) (hs3 : s3.Good q) : OutGood q
    (execKeeperCheckFail a0 a1 a2 s3) := by
  unfold execKeeperCheckFail
  extract_lets -underBinder +onlyGivenNames v0
  have w0 : State.Good q (v0) := by
    unfold v0
    exact (State.tick_good _ _ hs3)
  clear_value v0
  extract_lets -underBinder +onlyGivenNames v20 v21
  have w21 : State.Good q (v21) := by
    unfold v21
    exact (good_ite (State.setBk_good _ _ _ w0) w0)
  clear_value v21
  refine outGood_ite ?_ ?_
  · exact w0
  · split
    · exact w21
    · exact w21
    · exact w21
    · exact (State.stopKeeper_good _ _ _ _ w21)
    · exact (State.stopKeeper_good _ _ _ _ w21)
    · exact (State.stopKeeper_good _ _ _ _ w21)
    · exact (State.stopKeeper_good _ _ _ _ w21)
    · exact (State.stopKeeper_good _ _ _ _ w21)

theorem execKeeperSupplyReturn_good (a0 : Tk) (a1 : Instant) (s2 : State) (hs2 : s2.Good q) : OutGood q
    (execKeeperSupplyReturn a0 a1 s2) := by
  unfold execKeeperSupplyReturn
  extract_lets -underBinder +onlyGivenNames v0
  have w0 : State.Good q (v0) := by
    unfold v0
    exact (State.tick_good _ _ hs2)
  clear_value v0
  extract_lets -underBinder +onlyGivenNames v20
  refine outGood_ite ?_ ?_
  · exact w0
  · extract_lets -underBinder +onlyGivenNames v21
    have w21 : State.Good q (v21) := by
      unfold v21
      exact (State.setBk_good _ _ _ w0)
    clear_value v21
    exact (State.retryRejoin_good _ _ _ w21)

theorem execRejoinBandDone_good (a0 : Tk) (a1 : Bool) (a2 : Instant) (s3 : State) (hs3 : s3.Good q) : OutGood q
    (execRejoinBandDone a0 a1 a2 s3) := by
  unfold execRejoinBandDone
  extract_lets -underBinder +onlyGivenNames v0
  have w0 : State.Good q (v0) := by
    unfold v0
    exact (State.tick_good _ _ hs3)
  clear_value v0
  exact (outGood_ite w0 (outGood_ite (State.setBk_good _ _ _ w0) (State.stopKeeper_good _ _ _ _ w0)))

theorem State.setCell_good (s : State) (a1 : Nat) (a2 : Cell) (hs : s.Good q) : (State.setCell s a1 a2).Good q := by
  unfold State.setCell
  extract_lets -underBinder +onlyGivenNames v0
  exact (good_ite (State.setBond_good _ _ hs) (good_ite (State.setBond_good _ _ hs) (State.setBond_good _ _ hs)))

theorem execBondCellDisagree_good (a0 : Nat) (a1 : Instant) (s2 : State) (hs2 : s2.Good q) : OutGood q
    (execBondCellDisagree a0 a1 s2) := by
  unfold execBondCellDisagree
  extract_lets -underBinder +onlyGivenNames v0
  have w0 : State.Good q (v0) := by
    unfold v0
    exact (State.tick_good _ _ hs2)
  clear_value v0
  split
  · exact w0
  · refine outGood_ite ?_ ?_
    · exact w0
    · refine outGood_ite ?_ ?_
      · exact (State.setCell_good _ _ _ w0)
      · extract_lets -underBinder +onlyGivenNames v20
        extract_lets -underBinder +onlyGivenNames v21
        have w21 : State.Good q (v21) := by
          unfold v21
          exact (State.bondFlag_good _ _ (State.countD_good _ _ _ w0))
        clear_value v21
        exact (outGood_ite (State.setCell_good _ _ _ w21) (State.raise_good _ _ _ _ _ _ (State.bondFlag_good _ _
            (State.setCell_good _ _ _ w21))))

theorem State.bandEnd_good (s : State) (a1 : Tk) (a2 : Option Nat) (hs : s.Good q) : (State.bandEnd s a1 a2).Good q
    := by
  unfold State.bandEnd
  extract_lets -underBinder +onlyGivenNames v0 v1
  have w1 : State.Good q (v1) := by
    unfold v1
    exact (State.setBk_good _ _ _ hs)
  clear_value v1
  refine good_ite ?_ ?_
  · exact w1
  · extract_lets -underBinder +onlyGivenNames v21
    have w21 : State.Good q (v21) := by
      unfold v21
      exact (State.setFault_good _ _ _ w1)
    clear_value v21
    split
    · exact (.ofPwr w21)
    · exact (.ofPwr w21)

theorem State.bandGrant_good (s : State) (t : Instant) (h : s.Good q) : (State.bandGrant s t).Good q := by
  unfold State.bandGrant
  extract_lets -underBinder +onlyGivenNames g
  clear_value g
  rcases g with _ | g
  · exact h
  · exact good_ite h (State.setVotes_good _ (State.setBond_good _ _ h))

theorem State.startTime_good (s : State) (a1 : Instant) (hs : s.Good q) : (State.startTime s a1).Good q := by
  unfold State.startTime
  extract_lets -underBinder +onlyGivenNames v0
  have w0 : State.Good q (v0) := by
    unfold v0
    exact (State.moveIntervals_good _ _ hs)
  clear_value v0
  exact (.ofPwr w0)

theorem execKeeperBandSearchDone_good (a0 : Tk) (a1 : Option Nat) (a2 : Instant) (s3 : State) (hs3 : s3.Good q) :
    OutGood q (execKeeperBandSearchDone a0 a1 a2 s3) := by
  unfold execKeeperBandSearchDone
  extract_lets -underBinder +onlyGivenNames v0
  have w0 : State.Good q (v0) := by
    unfold v0
    exact (State.tick_good _ _ hs3)
  clear_value v0
  refine outGood_ite ?_ ?_
  · exact w0
  · extract_lets -underBinder +onlyGivenNames v20
    have w20 : State.Good q (v20) := by
      unfold v20
      exact (State.bandGrant_good _ _ (State.bandEnd_good _ _ _ w0))
    clear_value v20
    exact (outGood_ite (State.startTime_good _ _ w20) w20)

theorem State.stepTest_good (s : State) (a1 : Tk) (a2 : Int) (a3 : Instant) (hs : s.Good q) : (State.stepTest s a1 a2
    a3).Good q := by
  unfold State.stepTest
  extract_lets -underBinder +onlyGivenNames v0
  refine good_ite ?_ ?_
  · exact (State.setBk_good _ _ _ hs)
  · extract_lets -underBinder +onlyGivenNames v1
    extract_lets -underBinder +onlyGivenNames v2
    have w2 : State.Good q (v2) := by
      unfold v2
      exact (State.setBk_good _ _ _ hs)
    clear_value v2
    exact (good_ite (State.raise_good _ _ _ _ _ _ (State.bondFlag_good _ _ w2)) w2)

theorem State.agreeTest_good (s : State) (a1 : Tk) (a2 : Instant) (hs : s.Good q) : (State.agreeTest s a1 a2).Good
    q := by
  unfold State.agreeTest
  extract_lets -underBinder +onlyGivenNames v0
  refine good_ite ?_ ?_
  · extract_lets -underBinder +onlyGivenNames v1
    have w1 : State.Good q (v1) := by
      unfold v1
      exact (State.bondFlag_good _ _ (State.setBk_good _ _ _ hs))
    clear_value v1
    exact (good_ite w1 (State.raise_good _ _ _ _ _ _ w1))
  · exact (good_ite hs (good_ite (State.setBk_good _ _ _ hs) (State.setBk_good _ _ _ hs)))

theorem State.nonHolder_good (s : State) (a1 : Tk) (a2 : Option Tk) (a3 : Int) (a4 : Instant) (hs : s.Good q) :
    (State.nonHolder s a1 a2 a3 a4).Good q := by
  unfold State.nonHolder
  extract_lets -underBinder +onlyGivenNames v0 v1
  have w1 : State.Good q (v1) := by
    unfold v1
    exact (State.stepTest_good _ _ _ _ hs)
  clear_value v1
  extract_lets -underBinder +onlyGivenNames v21
  have w21 : State.Good q (v21) := by
    unfold v21
    exact (good_ite (good_ite (State.agreeTest_good _ _ _ w1) w1) hs)
  clear_value v21
  extract_lets -underBinder +onlyGivenNames v41 v42
  have w42 : ∀ b42_0, State.Good q (v42 b42_0) := by
    intro b42_0
    unfold v42
    exact (State.setBk_good _ _ _ w21)
  clear_value v42
  split
  · exact w21
  · exact w21
  · exact w21
  · exact w21
  · exact (State.setBk_good _ _ _ (State.setKeeper_good _ _ _ w21))
  · refine good_ite ?_ ?_
    · exact (State.stopKeeper_good _ _ _ _ w21)
    · refine good_ite ?_ ?_
      · exact (w42 _)
      · refine good_ite ?_ ?_
        · exact (State.stopKeeper_good _ _ _ _ w21)
        · extract_lets -underBinder +onlyGivenNames v62
          have w62 : State.Good q (v62) := by
            unfold v62
            exact (w42 _)
          clear_value v62
          exact (State.setD_good _ _ _ w62)
  · exact (good_ite (State.stopKeeper_good _ _ _ _ w21) (good_ite (w42 _) (good_ite (w42 _) (State.raise_good _ _ _
      _ _ _ (State.setFault_good _ _ _ (w42 _))))))
  · exact (good_ite (State.stopKeeper_good _ _ _ _ w21) (w42 _))

theorem State.takeD_good (s : State) (a1 : ServoIn) (hs : s.Good q) : (State.takeD s a1).Good q := by
  unfold State.takeD
  exact (State.setD_good _ _ _ (State.setD_good _ _ _ hs))

theorem State.bondCycle_good (s : State) (a1 : ServoIn) (a2 : Instant) (hs : s.Good q) : (State.bondCycle s a1
    a2).Good q := by
  unfold State.bondCycle
  extract_lets -underBinder +onlyGivenNames v0 v1
  have w1 : State.Good q (v1) := by
    unfold v1
    split
    · extract_lets -underBinder +onlyGivenNames v2
      extract_lets -underBinder +onlyGivenNames v3 v4
      have w4 : State.Good q (v4) := by
        unfold v4
        exact (State.setBk_good _ _ _ hs)
      clear_value v4
      extract_lets -underBinder +onlyGivenNames v24 v25
      have w25 : State.Good q (v25) := by
        unfold v25
        exact (State.setVotes_good _ (State.setBond_good _ _ w4))
      clear_value v25
      exact (State.nonHolder_good _ _ _ _ _ w25)
    · extract_lets -underBinder +onlyGivenNames v2
      have w2 : State.Good q (v2) := by
        unfold v2
        exact (State.nonHolder_good _ _ _ _ _ (State.nonHolder_good _ _ _ _ _ hs))
      clear_value v2
      extract_lets -underBinder +onlyGivenNames v22
      have w22 : ∀ b22_0 b22_1, State.Good q b22_0 → State.Good q (v22 b22_0 b22_1) := by
        intro b22_0 b22_1 hb22_0
        unfold v22
        exact (good_ite (State.handover_good _ _ _ _ hb22_0) hb22_0)
      clear_value v22
      exact (w22 _ _ (w22 _ _ w2))
  clear_value v1
  exact (State.retryRejoin_good _ _ _ (State.retryRejoin_good _ _ _ w1))

theorem State.doHandover_good (s : State) (a1 : Bool) (a2 : Option Nat) (a3 : Instant) (hs : s.Good q) :
    (State.doHandover s a1 a2 a3).Good q := by
  unfold State.doHandover
  split
  · exact (State.finishOpt_good _ _ _ _ _ hs)
  · extract_lets -underBinder +onlyGivenNames v0
    refine good_ite ?_ ?_
    · exact (State.finishOpt_good _ _ _ _ _ hs)
    · extract_lets -underBinder +onlyGivenNames v1
      extract_lets -underBinder +onlyGivenNames v2
      have w2 : State.Good q (v2).1 := by
        unfold v2
        exact (State.handover_good _ _ _ _ hs)
      clear_value v2
      exact (State.finishOpt_good _ _ _ _ _ w2)

theorem State.doDisable_good (s : State) (a1 : Tk) (a2 : Bool) (a3 : Option Nat) (a4 : Instant) (hs : s.Good q) :
    (State.doDisable s a1 a2 a3 a4).Good q := by
  unfold State.doDisable
  extract_lets -underBinder +onlyGivenNames v0
  have w0 : ∀ b0_0, State.Good q b0_0 → State.Good q (v0 b0_0) := by
    intro b0_0 hb0_0
    unfold v0
    exact (State.setFault_good _ _ _ (State.stopped_good _ _ _ hb0_0))
  clear_value v0
  refine good_ite ?_ ?_
  · exact (State.finishOpt_good _ _ _ _ _ (w0 _ hs))
  · extract_lets -underBinder +onlyGivenNames v20
    refine good_ite ?_ ?_
    · exact (State.finishOpt_good _ _ _ _ _ hs)
    · refine good_ite ?_ ?_
      · extract_lets -underBinder +onlyGivenNames v21
        have w21 : State.Good q (v21).1 := by
          unfold v21
          exact (State.handover_good _ _ _ _ hs)
        clear_value v21
        exact (State.finishOpt_good _ _ _ _ _ (w0 _ w21))
      · refine good_ite ?_ ?_
        · extract_lets -underBinder +onlyGivenNames v21
          have w21 : State.Good q (v21).1 := by
            unfold v21
            exact (State.handover_good _ _ _ _ hs)
          clear_value v21
          extract_lets -underBinder +onlyGivenNames v41
          have w41 : State.Good q (v41) := by
            unfold v41
            exact (w0 _ w21)
          clear_value v41
          exact (State.finishOpt_good _ _ _ _ _ (State.setKeeper_good _ _ _ w41))
        · exact (State.finishOpt_good _ _ _ _ _ hs)

theorem State.doEnable_good (s : State) (a1 : Tk) (a2 : Option Nat) (a3 : Instant) (hs : s.Good q) : (State.doEnable
    s a1 a2 a3).Good q := by
  unfold State.doEnable
  extract_lets -underBinder +onlyGivenNames v0
  refine good_ite ?_ ?_
  · exact (State.finishOpt_good _ _ _ _ _ hs)
  · extract_lets -underBinder +onlyGivenNames v1
    extract_lets -underBinder +onlyGivenNames v2
    have w2 : State.Good q (v2) := by
      unfold v2
      exact (State.setBk_good _ _ _ hs)
    clear_value v2
    extract_lets -underBinder +onlyGivenNames v22
    have w22 : State.Good q (v22) := by
      unfold v22
      exact (good_ite (State.startRejoin_good _ _ _ w2) w2)
    clear_value v22
    exact (State.finishOpt_good _ _ _ _ _ w22)

theorem bodyBondCfgSet_good (a0 : Ctx) (s1 : State) (hs1 : s1.Good q) : (bodyBondCfgSet a0 s1).Good q := by
  unfold bodyBondCfgSet
  exact (resGood_refuse (stageTk_good _ _ _ hs1))

theorem bodyBondCfgGet_good (a0 : Ctx) (s1 : State) (hs1 : s1.Good q) : (bodyBondCfgGet a0 s1).Good q := by
  unfold bodyBondCfgGet
  extract_lets -underBinder +onlyGivenNames v0
  exact hs1

theorem bodyBondHandover_good (a0 : Ctx) (s1 : State) (hs1 : s1.Good q) : (bodyBondHandover a0 s1).Good q := by
  unfold bodyBondHandover
  exact (resGood_refuse (stageTk_good _ _ _ hs1))

theorem bodyKeeperDisable_good (a0 : Ctx) (s1 : State) (hs1 : s1.Good q) : (bodyKeeperDisable a0 s1).Good q := by
  unfold bodyKeeperDisable
  exact (resGood_refuse (stageTk_good _ _ _ hs1))

theorem bodyKeeperEnable_good (a0 : Ctx) (s1 : State) (hs1 : s1.Good q) : (bodyKeeperEnable a0 s1).Good q := by
  unfold bodyKeeperEnable
  extract_lets -underBinder +onlyGivenNames v0
  exact (resGood_refuse (resGood_refuse (stageTk_good _ _ _ hs1)))

theorem State.noteOffsets_good (s : State) (hs : s.Good q) : (State.noteOffsets s).Good q := by
  unfold State.noteOffsets
  refine good_foldl ?_ fun z0 y0 h0 => ?_
  · exact hs
  · refine good_ite ?_ ?_
    · exact h0
    · split
      · exact (State.setCandSt_good _ _ _ h0)
      · exact h0

theorem State.clearOffsets_good (s : State) (hs : s.Good q) : (State.clearOffsets s).Good q := by
  unfold State.clearOffsets
  exact (.of hs)

theorem State.goto_good (s : State) (a1 : Tk) (a2 : RState) (a3 : Nat) (a4 : Instant) (a5 : Keeper → Keeper) (hs :
    s.Good q) : (State.goto s a1 a2 a3 a4 a5).Good q := by
  unfold State.goto
  extract_lets -underBinder +onlyGivenNames v0 v1 v2 v3 v4
  have w4 : State.Good q (v4) := by
    unfold v4
    exact (State.setKeeper_good _ _ _ hs)
  clear_value v4
  extract_lets -underBinder +onlyGivenNames v24
  have w24 : State.Good q (v24) := by
    unfold v24
    exact (good_ite (State.countK_good _ _ _ w4) (good_ite (State.countK_good _ _ _ w4) w4))
  clear_value v24
  exact (State.raise_good _ _ _ _ _ _ w24)

theorem State.offsetOf_good (s : State) (a1 : Tk) (a2 : Delivery) (hs : s.Good q) : (State.offsetOf s a1 a2).1.Good
    q := by
  unfold State.offsetOf
  split
  · dsimp only
    exact hs
  · extract_lets -underBinder +onlyGivenNames v0
    extract_lets -underBinder +onlyGivenNames v1
    have w1 : State.Good q (v1) := by
      unfold v1
      exact (State.setKeeper_good _ _ _ hs)
    clear_value v1
    dsimp only
    exact (good_ite (State.countK_good _ _ _ w1) w1)

theorem State.useOffset_good (s : State) (a1 : Tk) (a2 : Nat) (a3 : Int) (a4 : Bool) (a5 : Instant) (hs : s.Good q) :
    (State.useOffset s a1 a2 a3 a4 a5).Good q := by
  unfold State.useOffset
  extract_lets -underBinder +onlyGivenNames v0 v1 v2 v3 v4 v5
  have w5 : State.Good q (v5) := by
    unfold v5
    exact (State.setKeeper_good _ _ _ hs)
  clear_value v5
  exact (good_ite (State.tkFlag_good _ _ (State.countK_good _ _ _ w5)) w5)

theorem State.refuseOffset_good (s : State) (a1 : Tk) (a2 : Nat) (a3 : Int) (a4 : Instant) (hs : s.Good q) :
    (State.refuseOffset s a1 a2 a3 a4).Good q := by
  unfold State.refuseOffset
  extract_lets -underBinder +onlyGivenNames v0 v1
  have w1 : State.Good q (v1) := by
    unfold v1
    exact (State.tkFlag_good _ _ (State.countK_good _ _ _ (State.setKeeper_good _ _ _ hs)))
  clear_value v1
  extract_lets -underBinder +onlyGivenNames v21
  have w21 : State.Good q (v21) := by
    unfold v21
    exact (good_ite (State.raise_good _ _ _ _ _ _ w1) w1)
  clear_value v21
  exact (good_ite (State.raise_good _ _ _ _ _ _ (State.tkFlag_good _ _ w21)) w21)

theorem State.fitDone_good (s : State) (a1 : Tk) (a2 : Int) (a3 : Bool) (a4 : Instant) (hs : s.Good q) :
    (State.fitDone s a1 a2 a3 a4).Good q := by
  unfold State.fitDone
  extract_lets -underBinder +onlyGivenNames v0 v1 v2 v3 v4
  refine good_ite ?_ ?_
  · exact (State.setKeeper_good _ _ _ hs)
  · refine good_ite ?_ ?_
    · exact (State.setKeeper_good _ _ _ hs)
    · refine good_ite ?_ ?_
      · exact (State.setKeeper_good _ _ _ hs)
      · extract_lets -underBinder +onlyGivenNames v5
        exact (State.raise_good _ _ _ _ _ _ (State.tkFlag_good _ _ (State.setKeeper_good _ _ _ hs)))

theorem State.acquire_good (s : State) (a1 : Tk) (a2 : Nat) (a3 : Int) (a4 : Bool) (a5 : Instant) (hs : s.Good q) :
    (State.acquire s a1 a2 a3 a4 a5).Good q := by
  unfold State.acquire
  extract_lets -underBinder +onlyGivenNames v0
  split
  · exact (State.useOffset_good _ _ _ _ _ _ hs)
  · exact hs
  · extract_lets -underBinder +onlyGivenNames v1
    extract_lets -underBinder +onlyGivenNames v2
    have w2 : State.Good q (v2) := by
      unfold v2
      exact (State.setKeeper_good _ _ _ hs)
    clear_value v2
    exact (good_ite w2 (State.fitDone_good _ _ _ _ _ w2))
  · extract_lets -underBinder +onlyGivenNames v1
    exact (State.setKeeper_good _ _ _ hs)

theorem State.lockedCycle_good (s : State) (k : Tk) (rs : Option Nat) (changed : Bool) (t : Instant) (h : s.Good q)
    :
    (State.lockedCycle s k rs changed t).Good q := by
  unfold State.lockedCycle
  extract_lets -underBinder +onlyGivenNames c v
  split
  · exact good_ite (State.goto_good _ _ _ _ _ _ h) (State.goto_good _ _ _ _ _ _ h)
  · extract_lets -underBinder +onlyGivenNames d sw
    have w : ∀ z, State.Good q z → (sw z).Good q := fun z hz => State.goto_good _ _ _ _ _ _ (State.countK_good _ _
        _ hz)
    clear_value d sw
    refine good_ite ?_ ?_
    · rcases d with _ | x
      · exact good_ite (w _ h) h
      · exact State.useOffset_good _ _ _ _ _ _ (State.offsetOf_good _ _ _ (good_ite (w _ h) h))
    · rcases d with _ | x
      · exact h
      · exact good_ite (State.useOffset_good _ _ _ _ _ _ (State.setKeeper_good _ _ _ (good_ite (w _ h) h)))
          (State.goto_good _ _ _ _ _ _ (State.refuseOffset_good _ _ _ _ _ h))

theorem State.backToLocked_good (s : State) (a1 : Tk) (a2 : Instant) (hs : s.Good q) : (State.backToLocked s a1
    a2).Good q := by
  unfold State.backToLocked
  exact (State.goto_good _ _ _ _ _ _ hs)

theorem State.holdoverCycle_good (s : State) (a1 : Tk) (a2 : Option Nat) (a3 : Instant) (hs : s.Good q) :
    (State.holdoverCycle s a1 a2 a3).Good q := by
  unfold State.holdoverCycle
  extract_lets -underBinder +onlyGivenNames v0 v1
  refine good_ite ?_ ?_
  · exact (State.goto_good _ _ _ _ _ _ hs)
  · split
    · exact hs
    · refine good_ite ?_ ?_
      · extract_lets -underBinder +onlyGivenNames v2
        have w2 : State.Good q (v2) := by
          unfold v2
          exact (State.backToLocked_good _ _ _ hs)
        clear_value v2
        split
        · exact w2
        · extract_lets -underBinder +onlyGivenNames v22
          have w22 : State.Good q (v22).1 := by
            unfold v22
            exact (State.offsetOf_good _ _ _ w2)
          clear_value v22
          exact (State.useOffset_good _ _ _ _ _ _ w22)
      · split
        · exact hs
        · extract_lets -underBinder +onlyGivenNames v2
          exact (good_ite (State.useOffset_good _ _ _ _ _ _ (State.backToLocked_good _ _ _ hs))
              (State.refuseOffset_good _ _ _ _ _ hs))

theorem State.acquireFirst_good (s : State) (a1 : Tk) (a2 : Nat) (a3 : Instant) (hs : s.Good q) : (State.acquireFirst
    s a1 a2 a3).Good q := by
  unfold State.acquireFirst
  split
  · exact hs
  · extract_lets -underBinder +onlyGivenNames v0
    have w0 : State.Good q (v0).1 := by
      unfold v0
      exact (State.offsetOf_good _ _ _ hs)
    clear_value v0
    exact (State.acquire_good _ _ _ _ _ _ w0)

theorem State.acquiringCycle_good (s : State) (a1 : Tk) (a2 : Option Nat) (a3 : Bool) (a4 : Option Nat) (a5 : Instant)
    (hs : s.Good q) : (State.acquiringCycle s a1 a2 a3 a4 a5).Good q := by
  unfold State.acquiringCycle
  extract_lets -underBinder +onlyGivenNames v0 v1 v2
  have w2 : ∀ b2_0 b2_1, State.Good q b2_0 → State.Good q (v2 b2_0 b2_1) := by
    intro b2_0 b2_1 hb2_0
    unfold v2
    exact (State.acquireFirst_good _ _ _ _ hb2_0)
  clear_value v2
  refine good_ite ?_ ?_
  · refine good_ite ?_ ?_
    · exact (State.goto_good _ _ _ _ _ _ hs)
    · split
      · exact (State.goto_good _ _ _ _ _ _ hs)
      · exact (w2 _ _ (State.goto_good _ _ _ _ _ _ hs))
  · split
    · exact (State.goto_good _ _ _ _ _ _ hs)
    · extract_lets -underBinder +onlyGivenNames v22
      have w22 : State.Good q (v22) := by
        unfold v22
        exact (w2 _ _ hs)
      clear_value v22
      exact (good_ite (State.goto_good _ _ _ _ _ _ w22) w22)

theorem State.keeperCycle_good (t : Instant) (stepped : Bool) (s : State) (k : Tk) (h : s.Good q) :
    (State.keeperCycle t stepped s k).Good q := by
  unfold State.keeperCycle
  refine good_ite h ?_
  extract_lets -underBinder +onlyGivenNames v new changed old rs v1 code v2a v2 s1
  have h1 : s1.Good q :=
    good_ite (State.raise_good _ _ _ _ _ _ (State.tkFlag_good _ _ (State.setKeeper_good _ _ _ h)))
        (State.setKeeper_good _ _ _ h)
  clear_value s1 rs
  refine good_ite (good_ite (State.setKeeper_good _ _ _ h1) h1) ?_
  cases v.state <;> dsimp only
  · rcases rs with _ | i
    exacts [h1, State.acquireFirst_good _ _ _ _ (State.goto_good _ _ _ _ _ _ h1)]
  · exact State.acquiringCycle_good _ _ _ _ _ _ h1
  · exact State.lockedCycle_good _ _ _ _ _ h1
  · exact State.holdoverCycle_good _ _ _ _ h1
  · rcases rs with _ | i
    exacts [h1, State.acquireFirst_good _ _ _ _ (State.goto_good _ _ _ _ _ _ h1)]

theorem State.timeSetKeeper_good (s : State) (a1 : Tk) (a2 : Instant) (hs : s.Good q) : (State.timeSetKeeper s a1
    a2).Good q := by
  unfold State.timeSetKeeper
  refine good_ite ?_ ?_
  · exact hs
  · extract_lets -underBinder +onlyGivenNames v0
    extract_lets -underBinder +onlyGivenNames v1
    split
    · exact (good_ite (State.goto_good _ _ _ _ _ _ hs) (State.goto_good _ _ _ _ _ _ hs))
    · exact (State.goto_good _ _ _ _ _ _ hs)

theorem State.acceptKeeper_good (s : State) (a1 : Tk) (a2 : Instant) (hs : s.Good q) : (State.acceptKeeper s a1
    a2).Good q := by
  unfold State.acceptKeeper
  refine good_ite ?_ ?_
  · exact hs
  · split
    · exact (State.goto_good _ _ _ _ _ _ hs)
    · exact (State.goto_good _ _ _ _ _ _ hs)

theorem State.firstStepKeeper_good (s : State) (a1 : Tk) (a2 : Instant) (hs : s.Good q) : (State.firstStepKeeper s
    a1 a2).Good q := by
  unfold State.firstStepKeeper
  refine good_ite ?_ ?_
  · exact hs
  · split
    · exact (State.goto_good _ _ _ _ _ _ hs)
    · exact hs

theorem State.applyCand_good (s : State) (a1 : Nat) (a2 : Cand) (a3 : Instant) (hs : s.Good q) : (State.applyCand s
    a1 a2 a3).Good q := by
  unfold State.applyCand
  extract_lets -underBinder +onlyGivenNames v0 v1 v2
  have w2 : State.Good q (v2) := by
    unfold v2
    exact (.of hs)
  clear_value v2
  extract_lets -underBinder +onlyGivenNames v22
  exact (good_ite (State.forgetCand_good _ _ (good_ite (State.disqualify_good _ _ _ _ w2) (State.setQual_good _ _ _
      _ _ _ w2))) w2)

theorem State.applyRefCmd_good (s : State) (a1 : Nat) (a2 : Nat) (a3 : Option Nat) (a4 : Instant) (hs : s.Good q) :
    (State.applyRefCmd s a1 a2 a3 a4).Good q := by
  unfold State.applyRefCmd
  extract_lets -underBinder +onlyGivenNames v0 v1
  have w1 : State.Good q (v1) := by
    unfold v1
    exact (.of hs)
  clear_value v1
  extract_lets -underBinder +onlyGivenNames v21
  have w21 : ∀ b21_0, State.Good q b21_0 → State.Good q (v21 b21_0) := by
    intro b21_0 hb21_0
    unfold v21
    exact (State.finishOpt_good _ _ _ _ _ hb21_0)
  clear_value v21
  split
  · extract_lets -underBinder +onlyGivenNames v41
    have w41 : State.Good q (v41) := by
      unfold v41
      exact (good_ite (State.disqualify_good _ _ _ _ w1) (State.setQual_good _ _ _ _ _ _ w1))
    clear_value v41
    exact (w21 _ (State.setCandSt_good _ _ _ w41))
  · extract_lets -underBinder +onlyGivenNames v41
    exact (w21 _ (good_ite w1 (State.setCandSt_good _ _ _ w1)))
  · exact (good_ite (w21 _ (.of w1)) (State.finishOpt_good _ _ _ _ _ hs))
  · exact (w21 _ (.of w1))

theorem State.applyTrim_good (s : State) (a1 : Int) (a2 : Tk) (a3 : Instant) (hs : s.Good q) : (State.applyTrim s a1
    a2 a3).Good q := by
  unfold State.applyTrim
  extract_lets -underBinder +onlyGivenNames v0
  exact (good_ite (State.setKeeper_good _ _ _ hs) (State.setKeeper_good _ _ _ hs))

theorem State.applyTkChange_good (a0 : Instant) (s1 : State) (a2 : TkStaged) (hs1 : s1.Good q) :
    (State.applyTkChange a0 s1 a2).Good q := by
  unfold State.applyTkChange
  extract_lets -underBinder +onlyGivenNames v0
  have w0 : ∀ b0_0, State.Good q b0_0 → State.Good q (v0 b0_0) := by
    intro b0_0 hb0_0
    unfold v0
    exact (State.finishOpt_good _ _ _ _ _ hb0_0)
  clear_value v0
  split
  · exact (w0 _ (State.applyCand_good _ _ _ _ hs1))
  · exact (w0 _ (.of hs1))
  · extract_lets -underBinder +onlyGivenNames v20
    extract_lets -underBinder +onlyGivenNames v21 v22
    have w22 : State.Good q (v22) := by
      unfold v22
      exact (.of hs1)
    clear_value v22
    exact (w0 _ (good_ite w22 (State.applyTrim_good _ _ _ _ (State.applyTrim_good _ _ _ _ w22))))
  · extract_lets -underBinder +onlyGivenNames v20
    extract_lets -underBinder +onlyGivenNames v21 v22
    have w22 : State.Good q (v22) := by
      unfold v22
      exact (.of hs1)
    clear_value v22
    exact (w0 _ (good_ite w22 (State.setPtpSt_good _ _ _ w22)))
  · extract_lets -underBinder +onlyGivenNames v20
    extract_lets -underBinder +onlyGivenNames v21
    have w21 : State.Good q (v21) := by
      unfold v21
      exact (.of hs1)
    clear_value v21
    exact (w0 _ (good_ite w21 (State.setEsmc_good _ _ _ w21)))
  · exact (w0 _ (State.setRefSt_good _ _ _ (.of hs1)))
  · exact (State.applyRefCmd_good _ _ _ _ _ hs1)
  · extract_lets -underBinder +onlyGivenNames v20
    extract_lets -underBinder +onlyGivenNames v21
    have w21 : State.Good q (v21) := by
      unfold v21
      exact (State.setLink_good _ _ _ hs1)
    clear_value v21
    exact (w0 _ (good_ite w21 (State.ltOff_good _ _ _ w21)))
  · exact (w0 _ (State.setLink_good _ _ _ hs1))
  · extract_lets -underBinder +onlyGivenNames v20
    exact (w0 _ (State.raise_good _ _ _ _ _ _ (State.setLink_good _ _ _ hs1)))
  · exact (w0 _ (State.setBond_good _ _ hs1))
  · exact hs1

theorem State.applyStep_good (a0 : Instant) (s1 : State) (a2 : TkStaged) (hs1 : s1.Good q) : (State.applyStep a0 s1
    a2).1.Good q := by
  unfold State.applyStep
  extract_lets -underBinder +onlyGivenNames v0
  split
  · extract_lets -underBinder +onlyGivenNames v1
    extract_lets -underBinder +onlyGivenNames v2
    have w2 : State.Good q (v2) := by
      unfold v2
      exact (State.keeperStep_good _ _ _ hs1)
    clear_value v2
    extract_lets -underBinder +onlyGivenNames v22 v23
    have w23 : State.Good q (v23) := by
      unfold v23
      exact (State.timeSetKeeper_good _ _ _ (State.timeSetKeeper_good _ _ _ w2))
    clear_value v23
    dsimp only
    exact (State.finishOpt_good _ _ _ _ _ w23)
  · extract_lets -underBinder +onlyGivenNames v1
    extract_lets -underBinder +onlyGivenNames v2 v3
    have w3 : State.Good q (v3) := by
      unfold v3
      exact (State.keeperStep_good _ _ _ hs1)
    clear_value v3
    extract_lets -underBinder +onlyGivenNames v23 v24
    have w24 : State.Good q (v24) := by
      unfold v24
      exact (State.acceptKeeper_good _ _ _ (State.acceptKeeper_good _ _ _ w3))
    clear_value v24
    dsimp only
    exact (State.finishOpt_good _ _ _ _ _ w24)
  · dsimp only
    exact hs1

theorem State.firstSteps_good (s : State) (a1 : Instant) (hs : s.Good q) : (State.firstSteps s a1).1.Good q := by
  unfold State.firstSteps
  extract_lets -underBinder +onlyGivenNames v0 v1
  split
  · extract_lets -underBinder +onlyGivenNames v2
    extract_lets -underBinder +onlyGivenNames v3
    have w3 : State.Good q (v3) := by
      unfold v3
      exact (State.keeperStep_good _ _ _ hs)
    clear_value v3
    dsimp only
    exact (State.firstStepKeeper_good _ _ _ (State.firstStepKeeper_good _ _ _ w3))
  · dsimp only
    exact hs

theorem State.applyMove_good (a0 : Instant) (s1 : State) (a2 : TkStaged) (hs1 : s1.Good q) : (State.applyMove a0 s1
    a2).Good q := by
  unfold State.applyMove
  split
  · exact (State.doHandover_good _ _ _ _ hs1)
  · exact (State.doDisable_good _ _ _ _ _ hs1)
  · exact (State.doEnable_good _ _ _ _ hs1)
  · exact hs1

theorem State.takePhase_good (s : State) (a1 : Nat) (a2 : Option Int) (hs : s.Good q) : (State.takePhase s a1 a2).Good
    q := by
  unfold State.takePhase
  extract_lets -underBinder +onlyGivenNames v0
  exact (good_ite (State.setRefSt_good _ _ _ hs) hs)

theorem State.xoResumeKeeper_good (s : State) (a1 : Instant) (a2 : Tk) (hs : s.Good q) : (State.xoResumeKeeper s a1
    a2).Good q := by
  unfold State.xoResumeKeeper
  extract_lets -underBinder +onlyGivenNames v0
  exact (good_ite (State.setKeeper_good _ _ _ hs) hs)

theorem State.xoResume_good (s : State) (a1 : Instant) (hs : s.Good q) : (State.xoResume s a1).Good q := by
  unfold State.xoResume
  refine good_ite ?_ ?_
  · extract_lets -underBinder +onlyGivenNames v0
    have w0 : State.Good q (v0) := by
      unfold v0
      exact (State.xoResumeKeeper_good _ _ _ (State.xoResumeKeeper_good _ _ _ hs))
    clear_value v0
    exact (.of w0)
  · exact hs

theorem State.servoCycle_good (s : State) (m : ServoIn) (t : Instant) (h : s.Good q) : (State.servoCycle s m
    t).Good q := by
  unfold State.servoCycle
  extract_lets -underBinder +onlyGivenNames s1 due s2a s2 s3 steps r4 r5 stepped t1 s6 a s7 s8a s8b s8 s9 row s10
      s11
  have h1 : s1.Good q := State.issueMarks_good _ _ (State.xoResume_good _ _ h)
  clear_value s1
  have h3 : s3.Good q := good_foldl (.of h1) fun _ _ k => State.applyTkChange_good _ _ _ k
  clear_value s3 steps
  have h4 : r4.1.Good q := by
    refine goodFst_foldl (P := fun (x : State × Int) => x.1.Good q) h3 fun z y k => ?_
    exact State.applyStep_good _ z.1 y k
  clear_value r4
  have h5 : r5.1.Good q := State.firstSteps_good _ _ h4
  clear_value r5
  have h6 : s6.Good q := good_foldl (State.takePhase_good _ _ _ (State.takePhase_good _ _ _ h5)) fun _ _ k =>
    takeBeats_good _ _ k
  clear_value stepped t1 s6
  have h7 : s7.Good q := good_ite (State.clearOffsets_good _ h6)
    (State.noteOffsets_good _ (State.startRuns_good _ (State.runCompletions_good _ _
      (good_foldl (good_foldl h6 fun _ _ k => State.linkCycle_good _ _ _ k) fun _ _ k => State.vernierCycle_good _
          _ k))))
  have h8 : s8.Good q := good_ite (.of h7) h7
  have h9 : s9.Good q := good_foldl (State.takeD_good _ _ h8) fun _ _ k => State.evalCand_good _ _ _ k
  have h10 : s10.Good q := State.asymCycle_good _ _ (State.clearOffsets_good _
    (State.keeperCycle_good _ _ _ _ (State.keeperCycle_good _ _ _ _ h9)))
  exact good_foldl (good_foldl (State.bondCycle_good _ _ _ h10) fun _ _ k => State.applyMove_good _ _ _ k) fun _ _
      k =>
    State.noteLink_good _ _ k

theorem execServoCycle_good (a0 : ServoIn) (a1 : Instant) (s2 : State) (hs2 : s2.Good q) : OutGood q
    (execServoCycle a0 a1 s2) := by
  unfold execServoCycle
  extract_lets -underBinder +onlyGivenNames v0
  have w0 : State.Good q (v0) := by
    unfold v0
    exact (State.tick_good _ _ hs2)
  clear_value v0
  exact (outGood_ite (State.servoCycle_good _ _ _ w0) w0)

theorem State.xoLostKeeper_good (s : State) (a1 : Instant) (a2 : Tk) (hs : s.Good q) : (State.xoLostKeeper s a1
    a2).Good q := by
  unfold State.xoLostKeeper
  refine good_ite ?_ ?_
  · exact hs
  · extract_lets -underBinder +onlyGivenNames v0
    extract_lets -underBinder +onlyGivenNames v1
    exact (good_ite (State.goto_good _ _ _ _ _ _ hs) (good_ite (State.goto_good _ _ _ _ _ _ hs) (State.goto_good _
        _ _ _ _ _ hs)))

theorem execXoLost_good (a0 : Instant) (s1 : State) (hs1 : s1.Good q) : OutGood q (execXoLost a0 s1) := by
  unfold execXoLost
  extract_lets -underBinder +onlyGivenNames v0
  have w0 : State.Good q (v0) := by
    unfold v0
    exact (State.tick_good _ _ hs1)
  clear_value v0
  refine outGood_ite ?_ ?_
  · exact w0
  · extract_lets -underBinder +onlyGivenNames v20
    extract_lets -underBinder +onlyGivenNames v21
    have w21 : State.Good q (v21) := by
      unfold v21
      exact (.of w0)
    clear_value v21
    extract_lets -underBinder +onlyGivenNames v41 v42
    have w42 : State.Good q (v42) := by
      unfold v42
      exact (State.raise_good _ _ _ _ _ _ (State.tkFlag_good _ _ (State.setBond_good _ _ w21)))
    clear_value v42
    exact (State.xoLostKeeper_good _ _ _ (State.xoLostKeeper_good _ _ _ w42))

theorem execXoResume_good (a0 : Instant) (s1 : State) (hs1 : s1.Good q) : OutGood q (execXoResume a0 s1) := by
  unfold execXoResume
  extract_lets -underBinder +onlyGivenNames v0
  have w0 : State.Good q (v0) := by
    unfold v0
    exact (State.tick_good _ _ hs1)
  clear_value v0
  exact (outGood_ite (.of w0) w0)

theorem execAonTrim_good (a0 : Instant) (s1 : State) (hs1 : s1.Good q) : OutGood q (execAonTrim a0 s1) := by
  unfold execAonTrim
  extract_lets -underBinder +onlyGivenNames v0
  have w0 : State.Good q (v0) := by
    unfold v0
    exact (State.tick_good _ _ hs1)
  clear_value v0
  exact (outGood_ite w0 (.of w0))

theorem execPpsOutput_good (a0 : Nat) (a1 : Instant) (s2 : State) (hs2 : s2.Good q) : OutGood q (execPpsOutput a0 a1
    s2) := by
  unfold execPpsOutput
  extract_lets -underBinder +onlyGivenNames v0
  have w0 : State.Good q (v0) := by
    unfold v0
    exact (State.tick_good _ _ hs2)
  clear_value v0
  extract_lets -underBinder +onlyGivenNames v20
  split
  · exact (outGood_ite (State.emit_good _ _ (.of w0)) w0)
  · exact (outGood_ite (State.emit_good _ _ (.of w0)) w0)
  · exact (outGood_ite (State.emit_good _ _ (.of w0)) w0)
  · exact w0

theorem State.latchTime_good (s : State) (a1 : Instant) (hs : s.Good q) : (State.latchTime s a1).Good q := by
  unfold State.latchTime
  exact (.of hs)

theorem execTimeLatch_good (a0 : Instant) (s1 : State) (hs1 : s1.Good q) : OutGood q (execTimeLatch a0 s1) := by
  unfold execTimeLatch
  exact (State.latchTime_good _ _ (State.tick_good _ _ hs1))

theorem bodyTkStatusGet_good (a0 : Ctx) (s1 : State) (hs1 : s1.Good q) : (bodyTkStatusGet a0 s1).Good q := by
  unfold bodyTkStatusGet
  exact hs1

theorem bodyRefStatusGet_good (a0 : Ctx) (s1 : State) (hs1 : s1.Good q) : (bodyRefStatusGet a0 s1).Good q := by
  unfold bodyRefStatusGet
  exact (resGood_refuse hs1)

theorem State.noteStep_good (s : State) (a1 : Instant) (hs : s.Good q) : (State.noteStep s a1).Good q := by
  unfold State.noteStep
  exact (.of hs)

theorem stageStep_good (a0 : Ctx) (s1 : State) (a2 : TkChange) (hs1 : s1.Good q) : (stageStep a0 s1 a2).Good q := by
  unfold stageStep
  extract_lets -underBinder +onlyGivenNames v0
  exact (resGood_refuse (stageTk_good _ _ _ (State.noteStep_good _ _ hs1)))

theorem bodyTimeSet_good (a0 : Ctx) (s1 : State) (hs1 : s1.Good q) : (bodyTimeSet a0 s1).Good q := by
  unfold bodyTimeSet
  extract_lets -underBinder +onlyGivenNames v0 v1
  exact (resGood_refuse (resGood_refuse (stageStep_good _ _ _ hs1)))

theorem bodyTimeAcceptStep_good (a0 : Ctx) (s1 : State) (hs1 : s1.Good q) : (bodyTimeAcceptStep a0 s1).Good q := by
  unfold bodyTimeAcceptStep
  extract_lets -underBinder +onlyGivenNames v0 v1
  exact (resGood_refuse (resGood_refuse (resGood_refuse (stageStep_good _ _ _ hs1))))

theorem bodyRefCmd_good (a0 : Ctx) (s1 : State) (hs1 : s1.Good q) : (bodyRefCmd a0 s1).Good q := by
  unfold bodyRefCmd
  extract_lets -underBinder +onlyGivenNames v0 v1
  exact (resGood_refuse (resGood_refuse (stageTk_good _ _ _ hs1)))

theorem bodyRefSet_good (a0 : Ctx) (s1 : State) (hs1 : s1.Good q) : (bodyRefSet a0 s1).Good q := by
  unfold bodyRefSet
  extract_lets -underBinder +onlyGivenNames v0
  exact (resGood_refuse (resGood_refuse (stageTk_good _ _ _ hs1)))

theorem bodyRefGet_good (a0 : Ctx) (s1 : State) (hs1 : s1.Good q) : (bodyRefGet a0 s1).Good q := by
  unfold bodyRefGet
  extract_lets -underBinder +onlyGivenNames v0
  exact (resGood_refuse hs1)

theorem bodyServoSet_good (a0 : Ctx) (s1 : State) (hs1 : s1.Good q) : (bodyServoSet a0 s1).Good q := by
  unfold bodyServoSet
  exact (resGood_refuse (stageTk_good _ _ _ hs1))

theorem bodyServoGet_good (a0 : Ctx) (s1 : State) (hs1 : s1.Good q) : (bodyServoGet a0 s1).Good q := by
  unfold bodyServoGet
  extract_lets -underBinder +onlyGivenNames v0 v1
  exact (resGood_refuse hs1)

theorem bodyKeeperCfgSet_good (a0 : Ctx) (s1 : State) (hs1 : s1.Good q) : (bodyKeeperCfgSet a0 s1).Good q := by
  unfold bodyKeeperCfgSet
  exact (resGood_refuse (stageTk_good _ _ _ hs1))

theorem bodyKeeperCfgGet_good (a0 : Ctx) (s1 : State) (hs1 : s1.Good q) : (bodyKeeperCfgGet a0 s1).Good q := by
  unfold bodyKeeperCfgGet
  exact hs1

theorem bodyPtpPortSet_good (a0 : Ctx) (s1 : State) (hs1 : s1.Good q) : (bodyPtpPortSet a0 s1).Good q := by
  unfold bodyPtpPortSet
  extract_lets -underBinder +onlyGivenNames v0
  exact (resGood_refuse (resGood_refuse (stageTk_good _ _ _ hs1)))

theorem bodyPtpPortGet_good (a0 : Ctx) (s1 : State) (hs1 : s1.Good q) : (bodyPtpPortGet a0 s1).Good q := by
  unfold bodyPtpPortGet
  extract_lets -underBinder +onlyGivenNames v0
  exact (resGood_refuse hs1)

theorem bodySynceSet_good (a0 : Ctx) (s1 : State) (hs1 : s1.Good q) : (bodySynceSet a0 s1).Good q := by
  unfold bodySynceSet
  extract_lets -underBinder +onlyGivenNames v0
  exact (resGood_refuse (resGood_refuse (stageTk_good _ _ _ hs1)))

theorem bodySynceGet_good (a0 : Ctx) (s1 : State) (hs1 : s1.Good q) : (bodySynceGet a0 s1).Good q := by
  unfold bodySynceGet
  extract_lets -underBinder +onlyGivenNames v0
  exact (resGood_refuse hs1)

theorem bodyRefinSet_good (a0 : Ctx) (s1 : State) (hs1 : s1.Good q) : (bodyRefinSet a0 s1).Good q := by
  unfold bodyRefinSet
  exact (resGood_refuse (stageTk_good _ _ _ hs1))

theorem bodyRefinGet_good (a0 : Ctx) (s1 : State) (hs1 : s1.Good q) : (bodyRefinGet a0 s1).Good q := by
  unfold bodyRefinGet
  extract_lets -underBinder +onlyGivenNames v0
  exact (resGood_refuse hs1)

end Sys2Proof.Machine
end

