-- ==== Sys2Proof/Laws/KeepTables.lean ====
section
/-! SUPPORT. The queue and the memories' canonical form stay as they are in the ingress and the tables: for each
function that answers a state, if the state it takes has queue q and canonical memories, so has the one it answers
(`State.Good`). -/

namespace Sys2Proof.Machine

variable {q : Keep}

theorem bodyIngressSet_good (a0 : Ctx) (s1 : State) (hs1 : s1.Good q) : (bodyIngressSet a0 s1).Good q := by
  unfold bodyIngressSet
  exact (resGood_refuse (State.stageChange_good _ _ _ _ _ _ _ _ hs1))

theorem bodyIngressGet_good (a0 : Ctx) (s1 : State) (hs1 : s1.Good q) : (bodyIngressGet a0 s1).Good q := by
  unfold bodyIngressGet
  extract_lets -underBinder +onlyGivenNames v0
  exact (resGood_refuse hs1)

theorem bodyVlanSet_good (a0 : Ctx) (s1 : State) (hs1 : s1.Good q) : (bodyVlanSet a0 s1).Good q := by
  unfold bodyVlanSet
  exact (resGood_refuse (State.stageChange_good _ _ _ _ _ _ _ _ hs1))

theorem bodyVlanGet_good (a0 : Ctx) (s1 : State) (hs1 : s1.Good q) : (bodyVlanGet a0 s1).Good q := by
  unfold bodyVlanGet
  extract_lets -underBinder +onlyGivenNames v0
  exact (resGood_refuse hs1)

theorem bodyStreamSet_good (a0 : Ctx) (s1 : State) (hs1 : s1.Good q) : (bodyStreamSet a0 s1).Good q := by
  unfold bodyStreamSet
  extract_lets -underBinder +onlyGivenNames v0 v1 v2
  exact (resGood_refuse (resGood_refuse (resGood_refuse (State.stageChange_good _ _ _ _ _ _ _ _ hs1))))

theorem bodyStreamGet_good (a0 : Ctx) (s1 : State) (hs1 : s1.Good q) : (bodyStreamGet a0 s1).Good q := by
  unfold bodyStreamGet
  extract_lets -underBinder +onlyGivenNames v0
  exact (resGood_refuse hs1)

theorem bodyMeterSet_good (a0 : Ctx) (s1 : State) (hs1 : s1.Good q) : (bodyMeterSet a0 s1).Good q := by
  unfold bodyMeterSet
  exact (resGood_refuse (State.stageChange_good _ _ _ _ _ _ _ _ hs1))

theorem bodyMeterGet_good (a0 : Ctx) (s1 : State) (hs1 : s1.Good q) : (bodyMeterGet a0 s1).Good q := by
  unfold bodyMeterGet
  extract_lets -underBinder +onlyGivenNames v0
  exact (resGood_refuse hs1)

theorem bodyWindowSet_good (a0 : Ctx) (s1 : State) (hs1 : s1.Good q) : (bodyWindowSet a0 s1).Good q := by
  unfold bodyWindowSet
  exact (resGood_refuse (State.stageChange_good _ _ _ _ _ _ _ _ hs1))

theorem bodyRecoverySet_good (a0 : Ctx) (s1 : State) (hs1 : s1.Good q) : (bodyRecoverySet a0 s1).Good q := by
  unfold bodyRecoverySet
  extract_lets -underBinder +onlyGivenNames v0 v1
  exact (resGood_refuse (resGood_refuse (State.stageChange_good _ _ _ _ _ _ _ _ hs1)))

theorem bodyRecoveryGet_good (a0 : Ctx) (s1 : State) (hs1 : s1.Good q) : (bodyRecoveryGet a0 s1).Good q := by
  unfold bodyRecoveryGet
  extract_lets -underBinder +onlyGivenNames v0
  exact (resGood_refuse hs1)

theorem bodyRecoveryReset_good (a0 : Ctx) (s1 : State) (hs1 : s1.Good q) : (bodyRecoveryReset a0 s1).Good q := by
  unfold bodyRecoveryReset
  extract_lets -underBinder +onlyGivenNames v0
  exact (resGood_refuse (State.stageChange_good _ _ _ _ _ _ _ _ hs1))

theorem State.writeOne_good (s : State) (a1 : Instant) (a2 : Nat) (a3 : Change) (hs : s.Good q) : (State.writeOne s
    a1 a2 a3).Good q := by
  unfold State.writeOne
  exact (State.stage_good _ _ hs)

theorem State.stageMoves_good (s : State) (a : Instant) (l : List Change) (h : s.Good q) :
    (State.stageMoves s a l).Good q := by
  induction l generalizing s a with
  | nil => exact h
  | cons c l ih => exact ih _ _ (State.writeOne_good _ _ _ _ h)

theorem State.tableFull_good (s : State) (a1 : Nat) (a2 : Instant) (hs : s.Good q) : (State.tableFull s a1 a2).Good q
    := by
  unfold State.tableFull
  exact (State.raiseLimited_good _ _ _ _ _ _ (.of hs))

theorem State.putL2Ctl_good (s : State) (a1 : Nat) (a2 : Nat) (a3 : L2Ctl) (hs : s.Good q) : (State.putL2Ctl s a1 a2
    a3).Good q := by
  unfold State.putL2Ctl
  exact (.of hs)

theorem State.setHit_good (s : State) (a1 : Nat) (a2 : Nat) (a3 : BitVec 5) (hs : s.Good q) : (State.setHit s a1 a2
    a3).Good q := by
  unfold State.setHit
  exact (.of hs)

theorem State.learnNew_good (s : State) (n : LearnNotice) (a t : Instant) (h : s.Good q) :
    (State.learnNew s n a t).Good q := by
  unfold State.learnNew
  extract_lets -underBinder +onlyGivenNames e later found
  clear_value found
  split
  · exact State.tableFull_good _ _ _ (State.countD_good _ _ _ h)
  · exact State.setHit_good _ _ _ _ (State.putL2Ctl_good _ _ _ _ (State.stageMoves_good _ _ _
      (good_foldl h fun _ _ k => State.writeOne_good _ _ _ _ k)))

theorem State.learnMove_good (s : State) (a1 : LearnNotice) (a2 : Nat) (a3 : L2Entry) (a4 : Instant) (a5 : Instant)
    (hs : s.Good q) : (State.learnMove s a1 a2 a3 a4 a5).Good q := by
  unfold State.learnMove
  extract_lets -underBinder +onlyGivenNames v0 v1 v2
  refine good_ite ?_ ?_
  · extract_lets -underBinder +onlyGivenNames v3
    have w3 : State.Good q (v3) := by
      unfold v3
      exact (State.writeOne_good _ _ _ _ (State.putL2Ctl_good _ _ _ _ hs))
    clear_value v3
    exact (State.raise_good _ _ _ _ _ _ (.of w3))
  · exact (State.putL2Ctl_good _ _ _ _ (State.writeOne_good _ _ _ _ (State.countD_good _ _ _ hs)))

theorem State.learn_good (s : State) (a1 : LearnNotice) (a2 : Instant) (a3 : Instant) (hs : s.Good q) :
    (State.learn s a1 a2 a3).Good q := by
  unfold State.learn
  extract_lets -underBinder +onlyGivenNames v0
  refine good_ite ?_ ?_
  · exact (State.countD_good _ _ _ hs)
  · refine good_ite ?_ ?_
    · exact (State.countP_good _ _ _ _ hs)
    · split
      · exact (State.learnNew_good _ _ _ _ hs)
      · exact (good_ite hs (good_ite (State.countP_good _ _ _ _ hs) (good_ite (State.putL2Ctl_good _ _ _ _ hs)
          (State.learnMove_good _ _ _ _ _ _ hs))))

theorem execLearnNoticeApply_good (a0 : Instant) (a1 : Instant) (s2 : State) (hs2 : s2.Good q) : OutGood q
    (execLearnNoticeApply a0 a1 s2) := by
  unfold execLearnNoticeApply
  extract_lets -underBinder +onlyGivenNames v0
  have w0 : State.Good q (v0) := by
    unfold v0
    exact (State.tick_good _ _ hs2)
  clear_value v0
  split
  · exact w0
  · exact (outGood_ite w0 (State.learn_good _ _ _ _ (.of w0)))

theorem execFlapHoldEnd_good (a0 : Nat) (a1 : Nat) (a2 : Instant) (a3 : Instant) (s4 : State) (hs4 : s4.Good q) :
    OutGood q (execFlapHoldEnd a0 a1 a2 a3 s4) := by
  unfold execFlapHoldEnd
  extract_lets -underBinder +onlyGivenNames v0
  have w0 : State.Good q (v0) := by
    unfold v0
    exact (State.tick_good _ _ hs4)
  clear_value v0
  extract_lets -underBinder +onlyGivenNames v20
  split
  · exact (outGood_ite (State.writeOne_good _ _ _ _ (State.putL2Ctl_good _ _ _ _ w0)) w0)
  · exact w0

theorem ageEntry_good (age : Nat) (t : Instant) (acc : State × List Change) (v : L2Entry)
    (h : acc.1.Good q) : (ageEntry age t acc v).1.Good q := by
  unfold ageEntry
  dsimp only
  split
  · exact h
  · split
    · exact h
    · exact State.putL2Ctl_good _ _ _ _ (State.setHit_good _ _ _ _ h)

theorem execL2Age_good (a t : Instant) (s : State) (h : s.Good q) : OutGood q (execL2Age a t s) := by
  have h1 := State.tick_good s t h
  unfold execL2Age
  extract_lets -underBinder +onlyGivenNames s1 age x
  have h2 : x.1.Good q := goodFst_foldl (P := fun (x : State × List Change) => x.1.Good q) h1 fun _ _ k =>
      ageEntry_good _ _ _ _ k
  exact outGood_ite h1 (outGood_ite h2 (State.stage_good _ _ h2))

theorem State.flushGroup_good (s : State) (a1 : Flush) (hs : s.Good q) : (State.flushGroup s a1).Good q := by
  unfold State.flushGroup
  extract_lets -underBinder +onlyGivenNames v0 v1 v2 v3
  have w3 : State.Good q (v3) := by
    unfold v3
    exact (.of hs)
  clear_value v3
  exact (State.stage_good _ _ w3)

theorem State.flushEnd_good (s : State) (a1 : Flush) (a2 : Nat) (a3 : Instant) (hs : s.Good q) : (State.flushEnd s a1
    a2 a3).Good q := by
  unfold State.flushEnd
  extract_lets -underBinder +onlyGivenNames v0 v1
  have w1 : State.Good q (v1) := by
    unfold v1
    exact (.of hs)
  clear_value v1
  exact (good_ite w1 (State.finish_good _ _ _ _ _ w1))

theorem execL2FlushGroup_good (a0 : Nat) (a1 : Instant) (s2 : State) (hs2 : s2.Good q) : OutGood q (execL2FlushGroup
    a0 a1 s2) := by
  unfold execL2FlushGroup
  extract_lets -underBinder +onlyGivenNames v0
  have w0 : State.Good q (v0) := by
    unfold v0
    exact (State.tick_good _ _ hs2)
  clear_value v0
  extract_lets -underBinder +onlyGivenNames v20
  split
  · exact (State.flushGroup_good _ _ w0)
  · exact (good_foldl w0 fun _ _ k0 => (State.flushEnd_good _ _ _ _ k0))

theorem execTableScrub_good (a0 : Nat) (a1 : Nat) (a2 : Nat) (a3 : Bool) (a4 : Instant) (s5 : State) (hs5 : s5.Good q) :
    OutGood q (execTableScrub a0 a1 a2 a3 a4 s5) := by
  unfold execTableScrub
  extract_lets -underBinder +onlyGivenNames v0
  have w0 : State.Good q (v0) := by
    unfold v0
    exact (State.tick_good _ _ hs5)
  clear_value v0
  exact (outGood_ite w0 (outGood_ite (eccWord_good _ _ _ _ _ w0) (State.countD_good _ _ _ w0)))

theorem State.liveDown_good (s : State) (a1 : Nat) (a2 : Instant) (hs : s.Good q) : (State.liveDown s a1 a2).Good q
    := by
  unfold State.liveDown
  extract_lets -underBinder +onlyGivenNames v0 v1 v2 v3 v4
  have w4 : State.Good q (v4) := by
    unfold v4
    exact (.of hs)
  clear_value v4
  exact (State.stage_good _ _ w4)

theorem State.liveUp_good (s : State) (a1 : Nat) (a2 : Instant) (hs : s.Good q) : (State.liveUp s a1 a2).Good q := by
  unfold State.liveUp
  extract_lets -underBinder +onlyGivenNames v0 v1 v2 v3
  have w3 : State.Good q (v3) := by
    unfold v3
    exact (.of hs)
  clear_value v3
  exact (State.stage_good _ _ w3)

theorem State.clearQueues_good (s : State) (a1 : Nat) (a2 : Nat) (a3 : Copy → Nat → Bool) (a4 : Instant) (hs : s.Good q)
    : (State.clearQueues s a1 a2 a3 a4).Good q := by
  unfold State.clearQueues
  exact (good_foldl hs fun _ _ k0 => (good_foldl k0 fun _ _ k1 => (State.countQ_good _ _ _ _ _
      (State.removeCopy_good _ _ _ _ _ k1))))

theorem State.portDown_good (s : State) (a1 : Nat) (a2 : Instant) (hs : s.Good q) : (State.portDown s a1 a2).Good q
    := by
  unfold State.portDown
  extract_lets -underBinder +onlyGivenNames v0
  refine good_ite ?_ ?_
  · exact hs
  · extract_lets -underBinder +onlyGivenNames v1
    have w1 : State.Good q (v1) := by
      unfold v1
      exact (State.touchCredit_good _ _ _ (State.sendPhys_good _ _ (State.runPort_good _ _ _ hs)))
    clear_value v1
    extract_lets -underBinder +onlyGivenNames v21 v22
    have w22 : State.Good q (v22) := by
      unfold v22
      exact (State.setModel_good _ _ _ w1)
    clear_value v22
    extract_lets -underBinder +onlyGivenNames v42
    have w42 : State.Good q (v42) := by
      unfold v42
      exact (State.liveDown_good _ _ _ (State.clearQueues_good _ _ _ _ _ w22))
    clear_value v42
    refine good_ite ?_ ?_
    · extract_lets -underBinder +onlyGivenNames v62
      extract_lets -underBinder +onlyGivenNames v63
      refine good_ite ?_ ?_
      · exact w42
      · extract_lets -underBinder +onlyGivenNames v64
        exact (State.flushGroup_good _ _ (.of w42))
    · exact w42

theorem execFfLivenessDown_good (a0 : Nat) (a1 : Instant) (s2 : State) (hs2 : s2.Good q) : OutGood q
    (execFfLivenessDown a0 a1 s2) := by
  unfold execFfLivenessDown
  extract_lets -underBinder +onlyGivenNames v0
  have w0 : State.Good q (v0) := by
    unfold v0
    exact (State.tick_good _ _ hs2)
  clear_value v0
  split
  · exact (outGood_ite (State.applyDue_good _ _ _ (.of w0)) w0)
  · exact w0

theorem execFfLivenessUp_good (a0 : Nat) (a1 : Instant) (s2 : State) (hs2 : s2.Good q) : OutGood q (execFfLivenessUp
    a0 a1 s2) := by
  unfold execFfLivenessUp
  extract_lets -underBinder +onlyGivenNames v0
  have w0 : State.Good q (v0) := by
    unfold v0
    exact (State.tick_good _ _ hs2)
  clear_value v0
  split
  · exact (outGood_ite (State.applyDue_good _ _ _ (.of w0)) w0)
  · exact w0

theorem execFenceComplete_good (a0 : Nat) (a1 : Instant) (s2 : State) (hs2 : s2.Good q) : OutGood q
    (execFenceComplete a0 a1 s2) := by
  unfold execFenceComplete
  extract_lets -underBinder +onlyGivenNames v0
  have w0 : State.Good q (v0) := by
    unfold v0
    exact (State.tick_good _ _ hs2)
  clear_value v0
  split
  · exact w0
  · extract_lets -underBinder +onlyGivenNames v20
    refine outGood_ite ?_ ?_
    · extract_lets -underBinder +onlyGivenNames v21
      extract_lets -underBinder +onlyGivenNames v22
      have w22 : State.Good q (v22) := by
        unfold v22
        exact (.of w0)
      clear_value v22
      exact (State.finish_good _ _ _ _ _ w22)
    · exact (.of w0)

theorem execFenceTimeout_good (a0 : Nat) (a1 : Instant) (s2 : State) (hs2 : s2.Good q) : OutGood q (execFenceTimeout
    a0 a1 s2) := by
  unfold execFenceTimeout
  extract_lets -underBinder +onlyGivenNames v0
  have w0 : State.Good q (v0) := by
    unfold v0
    exact (State.tick_good _ _ hs2)
  clear_value v0
  split
  · exact w0
  · refine outGood_ite ?_ ?_
    · exact w0
    · extract_lets -underBinder +onlyGivenNames v20
      extract_lets -underBinder +onlyGivenNames v21 v22
      have w22 : State.Good q (v22) := by
        unfold v22
        exact (.of w0)
      clear_value v22
      exact (State.finish_good _ _ _ _ _ w22)

theorem bodyFence_good (a0 : Ctx) (s1 : State) (hs1 : s1.Good q) : (bodyFence a0 s1).Good q := by
  unfold bodyFence
  exact (resGood_refuse (resGood_refuse (.of hs1)))

theorem State.clearHolds_good (s : State) (a1 : List (Nat × Nat)) (hs : s.Good q) : (State.clearHolds s a1).Good q := by
  unfold State.clearHolds
  exact (good_foldl hs fun _ _ k0 => (State.putL2Ctl_good _ _ _ _ k0))

theorem stagePlan_good (c : Ctx) (s : State) (a : Instant) (words : Nat) (moves puts : List Change) (f : State →
    State)
    (h : s.Good q) (hf : ∀ z : State, z.Good q → (f z).Good q) : (stagePlan c s a words moves puts f).Good q := by
  unfold stagePlan
  have h1 := State.stageChange_good s { c with a := some a } (ms 5) true copies5 words puts [] h
  split
  · rename_i e
    rw [e] at h1
    exact hf _ (State.stageMoves_good _ _ _ h1)
  · exact h1

theorem State.afterL2Set_good (s : State) (a1 : List L2Entry) (a2 : Instant) (hs : s.Good q) : (State.afterL2Set s
    a1 a2).Good q := by
  unfold State.afterL2Set
  exact (good_foldl (State.clearHolds_good _ _ hs) fun _ _ k0 => (State.setHit_good _ _ _ _ (State.putL2Ctl_good _
      _ _ _ k0)))

theorem bodyL2Set_good (a0 : Ctx) (s1 : State) (hs1 : s1.Good q) : (bodyL2Set a0 s1).Good q := by
  unfold bodyL2Set
  extract_lets -underBinder +onlyGivenNames v0 v1
  refine resGood_refuse ?_
  split
  · exact (resFail fun _ k0 => (State.tableFull_good _ _ _ k0))
  · exact (stagePlan_good _ _ _ _ _ _ _ hs1 (fun _ k0 => (State.afterL2Set_good _ _ _ k0)))

theorem bodyL2Del_good (a0 : Ctx) (s1 : State) (hs1 : s1.Good q) : (bodyL2Del a0 s1).Good q := by
  unfold bodyL2Del
  extract_lets -underBinder +onlyGivenNames v0
  exact (resGood_refuse (State.stageChange_good _ _ _ _ _ _ _ _ hs1))

theorem bodyL2Get_good (a0 : Ctx) (s1 : State) (hs1 : s1.Good q) : (bodyL2Get a0 s1).Good q := by
  unfold bodyL2Get
  extract_lets -underBinder +onlyGivenNames v0
  refine resGood_refuse ?_
  split
  · extract_lets -underBinder +onlyGivenNames v1
    exact hs1
  · exact hs1

theorem bodyL2Flush_good (c : Ctx) (s : State) (h : s.Good q) : (bodyL2Flush c s).Good q := by
  unfold bodyL2Flush
  extract_lets -underBinder +onlyGivenNames sel a ws later
  have h1 := State.stageChange_good s { c with a := some a } (ms 5) true copies5 (ws.headD 0) [.l2Flush sel] [] h
  refine resGood_refuse (resGood_refuse (resGood_refuse ?_))
  split
  · rename_i e
    rw [e] at h1
    exact .of h1
  · exact h1

theorem bodyL2Unlock_good (c : Ctx) (s : State) (h : s.Good q) : (bodyL2Unlock c s).Good q := by
  unfold bodyL2Unlock
  extract_lets -underBinder +onlyGivenNames r k
  refine resGood_refuse ?_
  split
  · have h1 := State.stageChange_good s c (ms 5) true copies5 1 [.l2Lock k.1 k.2 false] [] h
    split
    · rename_i e1
      rw [e1] at h1
      exact State.clearHolds_good _ _ h1
    · exact h1
  · exact State.stageChange_good _ _ _ _ _ _ _ _ h

theorem bodyTableCfgSet_good (a0 : Ctx) (s1 : State) (hs1 : s1.Good q) : (bodyTableCfgSet a0 s1).Good q := by
  unfold bodyTableCfgSet
  exact (resGood_refuse (State.stageChange_good _ _ _ _ _ _ _ _ hs1))

theorem bodyTableCfgGet_good (a0 : Ctx) (s1 : State) (hs1 : s1.Good q) : (bodyTableCfgGet a0 s1).Good q := by
  unfold bodyTableCfgGet
  extract_lets -underBinder +onlyGivenNames v0
  exact hs1

theorem bodyL2PortSet_good (a0 : Ctx) (s1 : State) (hs1 : s1.Good q) : (bodyL2PortSet a0 s1).Good q := by
  unfold bodyL2PortSet
  exact (resGood_refuse (State.stageChange_good _ _ _ _ _ _ _ _ hs1))

theorem bodyL2PortGet_good (a0 : Ctx) (s1 : State) (hs1 : s1.Good q) : (bodyL2PortGet a0 s1).Good q := by
  unfold bodyL2PortGet
  extract_lets -underBinder +onlyGivenNames v0
  exact (resGood_refuse hs1)

theorem bodyRifSet_good (a0 : Ctx) (s1 : State) (hs1 : s1.Good q) : (bodyRifSet a0 s1).Good q := by
  unfold bodyRifSet
  extract_lets -underBinder +onlyGivenNames v0 v1
  exact (resGood_refuse (resGood_refuse (State.stageChange_good _ _ _ _ _ _ _ _ hs1)))

theorem bodyRifGet_good (a0 : Ctx) (s1 : State) (hs1 : s1.Good q) : (bodyRifGet a0 s1).Good q := by
  unfold bodyRifGet
  extract_lets -underBinder +onlyGivenNames v0
  exact (resGood_refuse hs1)

theorem bodyNhSet_good (a0 : Ctx) (s1 : State) (hs1 : s1.Good q) : (bodyNhSet a0 s1).Good q := by
  unfold bodyNhSet
  extract_lets -underBinder +onlyGivenNames v0 v1
  exact (resGood_refuse (resGood_refuse (State.stageChange_good _ _ _ _ _ _ _ _ hs1)))

theorem bodyNhGet_good (a0 : Ctx) (s1 : State) (hs1 : s1.Good q) : (bodyNhGet a0 s1).Good q := by
  unfold bodyNhGet
  extract_lets -underBinder +onlyGivenNames v0
  exact (resGood_refuse hs1)

theorem bodyRouteSet_good (c : Ctx) (s : State) (h : s.Good q) : (bodyRouteSet c s).Good q := by
  unfold bodyRouteSet
  extract_lets -underBinder +onlyGivenNames rs a
  refine resGood_refuse (resGood_refuse ?_)
  split
  · intro z hz
    exact State.tableFull_good _ _ _ hz
  · split
    · exact resGood_fail
    · exact stagePlan_good _ _ _ _ _ _ _ h fun _ k => k

theorem bodyRouteDel_good (c : Ctx) (s : State) (h : s.Good q) : (bodyRouteDel c s).Good q := by
  unfold bodyRouteDel
  extract_lets -underBinder +onlyGivenNames a rs hosts
  refine resGood_refuse ?_
  split
  · exact resGood_fail
  · exact stagePlan_good _ _ _ _ _ _ _ h fun _ k => k

theorem bodyRouteGet_good (a0 : Ctx) (s1 : State) (hs1 : s1.Good q) : (bodyRouteGet a0 s1).Good q := by
  unfold bodyRouteGet
  extract_lets -underBinder +onlyGivenNames v0
  refine resGood_refuse ?_
  split
  · exact hs1
  · exact hs1

theorem bodyMcgSet_good (a0 : Ctx) (s1 : State) (hs1 : s1.Good q) : (bodyMcgSet a0 s1).Good q := by
  unfold bodyMcgSet
  extract_lets -underBinder +onlyGivenNames v0
  exact (resGood_refuse (State.stageChange_good _ _ _ _ _ _ _ _ hs1))

theorem bodyMcgGet_good (a0 : Ctx) (s1 : State) (hs1 : s1.Good q) : (bodyMcgGet a0 s1).Good q := by
  unfold bodyMcgGet
  exact (resGood_refuse hs1)

theorem bodyFfgSet_good (a0 : Ctx) (s1 : State) (hs1 : s1.Good q) : (bodyFfgSet a0 s1).Good q := by
  unfold bodyFfgSet
  extract_lets -underBinder +onlyGivenNames v0
  exact (resGood_refuse (State.stageChange_good _ _ _ _ _ _ _ _ hs1))

theorem bodyFfgGet_good (a0 : Ctx) (s1 : State) (hs1 : s1.Good q) : (bodyFfgGet a0 s1).Good q := by
  unfold bodyFfgGet
  extract_lets -underBinder +onlyGivenNames v0
  exact (resGood_refuse hs1)

end Sys2Proof.Machine
end

