-- ==== Sys2Proof/Laws/KeepLanes.lean ====
section
/-! SUPPORT. The queue and the memories' canonical form stay as they are in lanes, modules and timed I/O: for each
function that answers a state, if the state it takes has queue q and canonical memories, so has the one it answers
(`State.Good`). -/

namespace Sys2Proof.Machine

variable {q : Keep}

theorem State.setHb_good (s : State) (a1 : Nat) (a2 : HbPll) (hs : s.Good q) : (State.setHb s a1 a2).Good q := by
  unfold State.setHb
  exact (good_ite (.of hs) (.of hs))

theorem State.setBand_good (s : State) (a1 : Nat) (a2 : Bool) (hs : s.Good q) : (State.setBand s a1 a2).Good q := by
  unfold State.setBand
  extract_lets -underBinder +onlyGivenNames v0
  exact (.of hs)

theorem State.startSearch_good (s : State) (a1 : Nat) (a2 : Nat) (a3 : Bool) (hs : s.Good q) : (State.startSearch s a1
    a2 a3).Good q := by
  unfold State.startSearch
  exact (State.count_good _ _ _ (State.setBand_good _ _ _ (State.setHb_good _ _ _ hs)))

theorem State.hop_good (s : State) (a1 : Nat) (a2 : Nat) (hs : s.Good q) : (State.hop s a1 a2).Good q := by
  unfold State.hop
  exact (State.count_good _ _ _ (State.setBand_good _ _ _ (State.setHb_good _ _ _ hs)))

theorem State.takePll_good (s : State) (a1 : Nat) (a2 : Nat) (hs : s.Good q) : (State.takePll s a1 a2).Good q := by
  unfold State.takePll
  refine good_ite ?_ ?_
  · exact (State.setLane_good _ _ _ hs)
  · refine good_ite ?_ ?_
    · exact hs
    · extract_lets -underBinder +onlyGivenNames v0
      extract_lets -underBinder +onlyGivenNames v1
      have w1 : State.Good q (v1) := by
        unfold v1
        exact (State.setLane_good _ _ _ hs)
      clear_value v1
      extract_lets -underBinder +onlyGivenNames v21
      have w21 : ∀ b21_0 b21_1, State.Good q b21_0 → State.Good q (v21 b21_0 b21_1) := by
        intro b21_0 b21_1 hb21_0
        unfold v21
        dsimp only
        exact (State.setLane_good _ _ _ hb21_0)
      clear_value v21
      exact (good_ite (w21 _ _ w1) (good_ite (w21 _ _ w1) (good_ite (w21 _ _ (State.hop_good _ _ _ w1)) (good_ite
          (w21 _ _ (State.hop_good _ _ _ w1)) w1))))

theorem State.goLane_good (s : State) (a1 : Nat) (a2 : LState) (a3 : Nat) (a4 : Instant) (hs : s.Good q) :
    (State.goLane s a1 a2 a3 a4).Good q := by
  unfold State.goLane
  extract_lets -underBinder +onlyGivenNames v0
  exact (State.raise_good _ _ _ _ _ _ (State.setLane_good _ _ _ hs))

theorem State.endPark_good (s : State) (a1 : Nat) (a2 : Nat) (a3 : Instant) (hs : s.Good q) : (State.endPark s a1 a2
    a3).Good q := by
  unfold State.endPark
  extract_lets -underBinder +onlyGivenNames v0 v1
  have w1 : State.Good q (v1) := by
    unfold v1
    exact (State.finishOpt_good _ _ _ _ _ (State.finishOpt_good _ _ _ _ _ hs))
  clear_value v1
  exact (State.setLane_good _ _ _ w1)

theorem State.toDetect_good (s : State) (a1 : Nat) (a2 : Nat) (a3 : Instant) (hs : s.Good q) : (State.toDetect s a1 a2
    a3).Good q := by
  unfold State.toDetect
  extract_lets -underBinder +onlyGivenNames v0 v1
  have w1 : State.Good q (v1) := by
    unfold v1
    exact (State.ltOff_good _ _ _ (State.endPark_good _ _ _ _ hs))
  clear_value v1
  extract_lets -underBinder +onlyGivenNames v21
  have w21 : State.Good q (v21) := by
    unfold v21
    exact (good_ite (State.countP_good _ _ _ _ w1) w1)
  clear_value v21
  extract_lets -underBinder +onlyGivenNames v41 v42
  have w42 : State.Good q (v42) := by
    unfold v42
    exact (good_ite (State.setLane_good _ _ _ w21) (State.goLane_good _ _ _ _ _ w21))
  clear_value v42
  extract_lets -underBinder +onlyGivenNames v62 v63
  have w63 : State.Good q (v63) := by
    unfold v63
    exact (State.setLane_good _ _ _ w42)
  clear_value v63
  exact (State.portDown_good _ _ _ w63)

theorem State.includeAgain_good (s : State) (a1 : Nat) (a2 : Instant) (hs : s.Good q) : (State.includeAgain s a1
    a2).Good q := by
  unfold State.includeAgain
  extract_lets -underBinder +onlyGivenNames v0
  refine good_ite ?_ ?_
  · exact hs
  · extract_lets -underBinder +onlyGivenNames v1
    have w1 : State.Good q (v1) := by
      unfold v1
      exact (State.setLane_good _ _ _ hs)
    clear_value v1
    exact (State.applyDue_good _ _ _ (State.stage_good _ _ w1))

theorem State.enterActive_good (s : State) (a1 : Nat) (a2 : Nat) (a3 : Bool) (a4 : Nat) (a5 : Instant) (hs : s.Good q) :
    (State.enterActive s a1 a2 a3 a4 a5).Good q := by
  unfold State.enterActive
  extract_lets -underBinder +onlyGivenNames v0
  have w0 : State.Good q (v0) := by
    unfold v0
    exact (State.countP_good _ _ _ _ (State.goLane_good _ _ _ _ _ hs))
  clear_value v0
  extract_lets -underBinder +onlyGivenNames v20 v21
  have w21 : State.Good q (v21) := by
    unfold v21
    exact (State.setLane_good _ _ _ w0)
  clear_value v21
  extract_lets -underBinder +onlyGivenNames v41 v42 v43
  have w43 : State.Good q (v43) := by
    unfold v43
    exact (State.setModel_good _ _ _ w21)
  clear_value v43
  extract_lets -underBinder +onlyGivenNames v63
  have w63 : State.Good q (v63) := by
    unfold v63
    exact (good_ite w43 (State.liveUp_good _ _ _ w43))
  clear_value v63
  exact (State.includeAgain_good _ _ _ (State.ltActive_good _ _ _ (State.setMisfit_good _ _ _ w63)))

theorem State.toFallback_good (s : State) (a1 : Nat) (a2 : Nat) (a3 : Nat) (a4 : Instant) (hs : s.Good q) :
    (State.toFallback s a1 a2 a3 a4).Good q := by
  unfold State.toFallback
  extract_lets -underBinder +onlyGivenNames v0
  have w0 : State.Good q (v0) := by
    unfold v0
    exact (State.countP_good _ _ _ _ (State.goLane_good _ _ _ _ _ hs))
  clear_value v0
  extract_lets -underBinder +onlyGivenNames v20 v21
  exact (State.raise_good _ _ _ _ _ _ (State.setLane_good _ _ _ w0))

theorem State.lockLoss_good (s : State) (a1 : Nat) (a2 : Nat) (a3 : Nat) (a4 : Instant) (hs : s.Good q) : (State.lockLoss
    s a1 a2 a3 a4).Good q := by
  unfold State.lockLoss
  extract_lets -underBinder +onlyGivenNames v0
  have w0 : State.Good q (v0) := by
    unfold v0
    exact (State.abortRx_good _ _ _ _ _ _ hs)
  clear_value v0
  extract_lets -underBinder +onlyGivenNames v20 v21
  have w21 : State.Good q (v21) := by
    unfold v21
    exact (good_ite (State.setLane_good _ _ _ w0) w0)
  clear_value v21
  exact (State.toDetect_good _ _ _ _ w21)

theorem execDetectHoldExpiry_good (a0 : Nat) (a1 : Instant) (s2 : State) (hs2 : s2.Good q) : OutGood q
    (execDetectHoldExpiry a0 a1 s2) := by
  unfold execDetectHoldExpiry
  extract_lets -underBinder +onlyGivenNames v0
  have w0 : State.Good q (v0) := by
    unfold v0
    exact (State.tick_good _ _ hs2)
  clear_value v0
  refine outGood_ite ?_ ?_
  · exact w0
  · extract_lets -underBinder +onlyGivenNames v20
    extract_lets -underBinder +onlyGivenNames v21
    have w21 : State.Good q (v21) := by
      unfold v21
      exact (State.setLane_good _ _ _ w0)
    clear_value v21
    extract_lets -underBinder +onlyGivenNames v41
    refine outGood_ite ?_ ?_
    · exact w21
    · extract_lets -underBinder +onlyGivenNames v42
      have w42 : State.Good q (v42) := by
        unfold v42
        exact (good_ite (State.takePll_good _ _ _ w21) w21)
      clear_value v42
      refine outGood_ite ?_ ?_
      · exact w42
      · refine outGood_ite ?_ ?_
        · extract_lets -underBinder +onlyGivenNames v62
          exact (State.goLane_good _ _ _ _ _ (State.setLane_good _ _ _ w42))
        · exact (State.goLane_good _ _ _ _ _ w42)

theorem execEnergyLost_good (a0 : Nat) (a1 : Instant) (s2 : State) (hs2 : s2.Good q) : OutGood q (execEnergyLost a0
    a1 s2) := by
  unfold execEnergyLost
  extract_lets -underBinder +onlyGivenNames v0
  have w0 : State.Good q (v0) := by
    unfold v0
    exact (State.tick_good _ _ hs2)
  clear_value v0
  refine outGood_ite ?_ ?_
  · exact w0
  · extract_lets -underBinder +onlyGivenNames v20
    extract_lets -underBinder +onlyGivenNames v21
    have w21 : State.Good q (v21) := by
      unfold v21
      exact (State.setLane_good _ _ _ w0)
    clear_value v21
    extract_lets -underBinder +onlyGivenNames v41
    exact (outGood_ite w21 (outGood_ite (State.setLane_good _ _ _ w21) (State.lockLoss_good _ _ _ _ _ w21)))

theorem execLossOfSymbolLock_good (a0 : Nat) (a1 : Nat) (a2 : Instant) (s3 : State) (hs3 : s3.Good q) : OutGood q
    (execLossOfSymbolLock a0 a1 a2 s3) := by
  unfold execLossOfSymbolLock
  extract_lets -underBinder +onlyGivenNames v0
  have w0 : State.Good q (v0) := by
    unfold v0
    exact (State.tick_good _ _ hs3)
  clear_value v0
  exact (outGood_ite (State.lockLoss_good _ _ _ _ _ w0) w0)

theorem State.toStep_good (s : State) (a1 : Nat) (a2 : Bool) (a3 : Nat) (a4 : Instant) (hs : s.Good q) : (State.toStep
    s a1 a2 a3 a4).Good q := by
  unfold State.toStep
  extract_lets -underBinder +onlyGivenNames v0 v1 v2
  refine good_ite ?_ ?_
  · exact hs
  · extract_lets -underBinder +onlyGivenNames v3
    extract_lets -underBinder +onlyGivenNames v4 v5
    have w5 : State.Good q (v5) := by
      unfold v5
      exact (State.setLane_good _ _ _ hs)
    clear_value v5
    exact (State.emit_good _ _ (State.goLane_good _ _ _ _ _ (State.takePll_good _ _ _ w5)))

theorem State.lockTaken_good (s : State) (a1 : Nat) (a2 : Instant) (hs : s.Good q) : (State.lockTaken s a1 a2).Good q
    := by
  unfold State.lockTaken
  extract_lets -underBinder +onlyGivenNames v0
  exact (good_ite hs (good_ite (State.enterActive_good _ _ _ _ _ _ hs) (State.goLane_good _ _ _ _ _
      (State.setLane_good _ _ _ hs))))

theorem execLinkStateProgress_good (a0 : Nat) (a1 : LinkProgress) (a2 : Instant) (s3 : State) (hs3 : s3.Good q) :
    OutGood q (execLinkStateProgress a0 a1 a2 s3) := by
  unfold execLinkStateProgress
  extract_lets -underBinder +onlyGivenNames v0
  have w0 : State.Good q (v0) := by
    unfold v0
    exact (State.tick_good _ _ hs3)
  clear_value v0
  extract_lets -underBinder +onlyGivenNames v20
  refine outGood_ite ?_ ?_
  · exact w0
  · split
    · exact (State.toStep_good _ _ _ _ _ w0)
    · extract_lets -underBinder +onlyGivenNames v21
      have w21 : State.Good q (v21) := by
        unfold v21
        exact (State.setLane_good _ _ _ w0)
      clear_value v21
      exact (State.toFallback_good _ _ _ _ _ w21)
    · exact (State.goLane_good _ _ _ _ _ w0)
    · exact (outGood_ite (State.goLane_good _ _ _ _ _ w0) w0)
    · exact (State.lockTaken_good _ _ _ w0)
    · exact (outGood_ite (State.enterActive_good _ _ _ _ _ _ (State.emit_good _ _ w0)) w0)
    · exact (State.enterActive_good _ _ _ _ _ _ w0)
    · exact w0

theorem execLinkStateTimeout_good (a0 : Nat) (a1 : Instant) (s2 : State) (hs2 : s2.Good q) : OutGood q
    (execLinkStateTimeout a0 a1 s2) := by
  unfold execLinkStateTimeout
  extract_lets -underBinder +onlyGivenNames v0
  have w0 : State.Good q (v0) := by
    unfold v0
    exact (State.tick_good _ _ hs2)
  clear_value v0
  extract_lets -underBinder +onlyGivenNames v20
  split
  · exact w0
  · exact (outGood_ite w0 (outGood_ite (State.toDetect_good _ _ _ _ w0) (outGood_ite (State.toDetect_good _ _ _ _
      w0) (State.toFallback_good _ _ _ _ _ (State.ltOff_good _ _ _ w0)))))

theorem execTrainSetRx_good (a0 : Nat) (a1 : Nat) (a2 : Nat) (a3 : Nat) (a4 : Bool) (a5 : Instant) (s6 : State) (hs6 :
    s6.Good q) : OutGood q (execTrainSetRx a0 a1 a2 a3 a4 a5 s6) := by
  unfold execTrainSetRx
  extract_lets -underBinder +onlyGivenNames v0
  have w0 : State.Good q (v0) := by
    unfold v0
    exact (State.tick_good _ _ hs6)
  clear_value v0
  extract_lets -underBinder +onlyGivenNames v20
  refine outGood_ite ?_ ?_
  · exact w0
  · refine outGood_ite ?_ ?_
    · exact (State.countP_good _ _ _ _ w0)
    · refine outGood_ite ?_ ?_
      · extract_lets -underBinder +onlyGivenNames v21
        exact (State.setLane_good _ _ _ w0)
      · exact w0

theorem State.toPark_good (s : State) (a1 : Nat) (a2 : Instant) (hs : s.Good q) : (State.toPark s a1 a2).Good q := by
  unfold State.toPark
  extract_lets -underBinder +onlyGivenNames v0
  have w0 : State.Good q (v0) := by
    unfold v0
    exact (State.countP_good _ _ _ _ (State.goLane_good _ _ _ _ _ hs))
  clear_value v0
  extract_lets -underBinder +onlyGivenNames v20 v21
  have w21 : State.Good q (v21) := by
    unfold v21
    exact (State.finishOpt_good _ _ _ _ _ w0)
  clear_value v21
  extract_lets -underBinder +onlyGivenNames v41 v42
  have w42 : State.Good q (v42) := by
    unfold v42
    exact (State.setLane_good _ _ _ w21)
  clear_value v42
  extract_lets -underBinder +onlyGivenNames v62 v63
  have w63 : State.Good q (v63) := by
    unfold v63
    exact (State.setModel_good _ _ _ w42)
  clear_value v63
  extract_lets -underBinder +onlyGivenNames v83 v84
  have w84 : State.Good q (v84) := by
    unfold v84
    exact (State.setLink_good _ _ _ w63)
  clear_value v84
  exact (good_ite (State.setLt_good _ _ _ _ w84) w84)

theorem State.requestPark_good (s : State) (a1 : Nat) (a2 : Option Nat) (a3 : Instant) (hs : s.Good q) :
    (State.requestPark s a1 a2 a3).Good q := by
  unfold State.requestPark
  exact (good_ite (State.setLane_good _ _ _ hs) (State.emit_good _ _ (State.setLane_good _ _ _ hs)))

theorem State.parkStep_good (s : State) (a1 : Nat) (a2 : Instant) (hs : s.Good q) : (State.parkStep s a1 a2).Good q
    := by
  unfold State.parkStep
  extract_lets -underBinder +onlyGivenNames v0
  exact (good_ite (State.emit_good _ _ (State.setLane_good _ _ _ hs)) hs)

theorem State.burst_good (s : State) (a1 : Nat) (a2 : Instant) (hs : s.Good q) : (State.burst s a1 a2).Good q := by
  unfold State.burst
  exact (State.emit_good _ _ (State.setLane_good _ _ _ hs))

theorem execCapxRx_good (a0 : Nat) (a1 : Nat) (a2 : Nat) (a3 : Nat) (a4 : Bool) (a5 : Instant) (s6 : State) (hs6 : s6.Good
    q) : OutGood q (execCapxRx a0 a1 a2 a3 a4 a5 s6) := by
  unfold execCapxRx
  extract_lets -underBinder +onlyGivenNames v0
  have w0 : State.Good q (v0) := by
    unfold v0
    exact (State.tick_good _ _ hs6)
  clear_value v0
  extract_lets -underBinder +onlyGivenNames v20
  refine outGood_ite ?_ ?_
  · exact w0
  · refine outGood_ite ?_ ?_
    · exact (State.countP_good _ _ _ _ w0)
    · split
      · exact (State.setLane_good _ _ _ w0)
      · exact (outGood_ite w0 (outGood_ite (State.emit_good _ _ w0) (outGood_ite (State.toPark_good _ _ _ w0)
          (State.toPark_good _ _ _ (State.emit_good _ _ w0)))))
      · exact (outGood_ite w0 (outGood_ite (State.endPark_good _ _ _ _ w0) (State.toPark_good _ _ _ w0)))
      · exact (outGood_ite (State.endPark_good _ _ _ _ w0) w0)
      · exact w0

theorem execSymbolLock_good (a0 : Nat) (a1 : Instant) (s2 : State) (hs2 : s2.Good q) : OutGood q (execSymbolLock a0
    a1 s2) := by
  unfold execSymbolLock
  extract_lets -underBinder +onlyGivenNames v0
  have w0 : State.Good q (v0) := by
    unfold v0
    exact (State.tick_good _ _ hs2)
  clear_value v0
  extract_lets -underBinder +onlyGivenNames v20
  refine outGood_ite ?_ ?_
  · exact w0
  · refine outGood_ite ?_ ?_
    · exact (State.lockTaken_good _ _ _ w0)
    · refine outGood_ite ?_ ?_
      · split
        · refine outGood_ite ?_ ?_
          · exact w0
          · extract_lets -underBinder +onlyGivenNames v21
            have w21 : State.Good q (v21) := by
              unfold v21
              exact (State.enterActive_good _ _ _ _ _ _ (State.finishOpt_good _ _ _ _ _ (State.countP_good _ _ _ _
                  w0)))
            clear_value v21
            exact (State.setLane_good _ _ _ w21)
        · exact w0
      · exact w0

theorem execCalxLoopbackDone_good (a0 : Nat) (a1 : Nat) (a2 : Nat) (a3 : Instant) (s4 : State) (hs4 : s4.Good q) :
    OutGood q (execCalxLoopbackDone a0 a1 a2 a3 s4) := by
  unfold execCalxLoopbackDone
  extract_lets -underBinder +onlyGivenNames v0
  have w0 : State.Good q (v0) := by
    unfold v0
    exact (State.tick_good _ _ hs4)
  clear_value v0
  refine outGood_ite ?_ ?_
  · exact w0
  · extract_lets -underBinder +onlyGivenNames v20
    extract_lets -underBinder +onlyGivenNames v21
    have w21 : State.Good q (v21) := by
      unfold v21
      exact (State.setLink_good _ _ _ w0)
    clear_value v21
    exact (State.emit_good _ _ (State.countP_good _ _ _ _ w21))

theorem execParkAuto_good (a0 : Nat) (a1 : Instant) (s2 : State) (hs2 : s2.Good q) : OutGood q (execParkAuto a0 a1
    s2) := by
  unfold execParkAuto
  extract_lets -underBinder +onlyGivenNames v0
  have w0 : State.Good q (v0) := by
    unfold v0
    exact (State.tick_good _ _ hs2)
  clear_value v0
  extract_lets -underBinder +onlyGivenNames v20
  exact (outGood_ite (State.requestPark_good _ _ _ _ w0) w0)

theorem execParkReqLapse_good (a0 : Nat) (a1 : Instant) (s2 : State) (hs2 : s2.Good q) : OutGood q (execParkReqLapse
    a0 a1 s2) := by
  unfold execParkReqLapse
  extract_lets -underBinder +onlyGivenNames v0
  have w0 : State.Good q (v0) := by
    unfold v0
    exact (State.tick_good _ _ hs2)
  clear_value v0
  split
  · exact (outGood_ite w0 (State.endPark_good _ _ _ _ w0))
  · exact w0

theorem execParkExit_good (a0 : Nat) (a1 : Instant) (s2 : State) (hs2 : s2.Good q) : OutGood q (execParkExit a0 a1
    s2) := by
  unfold execParkExit
  extract_lets -underBinder +onlyGivenNames v0
  have w0 : State.Good q (v0) := by
    unfold v0
    exact (State.tick_good _ _ hs2)
  clear_value v0
  extract_lets -underBinder +onlyGivenNames v20
  exact (outGood_ite (State.burst_good _ _ _ w0) w0)

theorem execParkExitFail_good (a0 : Nat) (a1 : Instant) (s2 : State) (hs2 : s2.Good q) : OutGood q (execParkExitFail
    a0 a1 s2) := by
  unfold execParkExitFail
  extract_lets -underBinder +onlyGivenNames v0
  have w0 : State.Good q (v0) := by
    unfold v0
    exact (State.tick_good _ _ hs2)
  clear_value v0
  extract_lets -underBinder +onlyGivenNames v20
  split
  · exact (outGood_ite (State.toDetect_good _ _ _ _ (State.countP_good _ _ _ _ w0)) w0)
  · exact w0

theorem execPllUnlock_good (a0 : Nat) (a1 : Nat) (a2 : Instant) (s3 : State) (hs3 : s3.Good q) : OutGood q
    (execPllUnlock a0 a1 a2 s3) := by
  unfold execPllUnlock
  extract_lets -underBinder +onlyGivenNames v0
  have w0 : State.Good q (v0) := by
    unfold v0
    exact (State.tick_good _ _ hs3)
  clear_value v0
  refine outGood_ite ?_ ?_
  · exact w0
  · extract_lets -underBinder +onlyGivenNames v20
    extract_lets -underBinder +onlyGivenNames v21 v22
    have w22 : State.Good q (v22) := by
      unfold v22
      exact (good_ite (State.setQuad_good _ _ _ w0) (State.setHb_good _ _ _ w0))
    clear_value v22
    extract_lets -underBinder +onlyGivenNames v42
    have w42 : State.Good q (v42) := by
      unfold v42
      exact (State.raise_good _ _ _ _ _ _ (State.count_good _ _ _ w22))
    clear_value v42
    exact (good_foldl w42 fun _ _ k0 => (State.lockLoss_good _ _ _ _ _ k0))

theorem execPllRelock_good (a0 : Nat) (a1 : Nat) (a2 : Instant) (s3 : State) (hs3 : s3.Good q) : OutGood q
    (execPllRelock a0 a1 a2 s3) := by
  unfold execPllRelock
  extract_lets -underBinder +onlyGivenNames v0
  have w0 : State.Good q (v0) := by
    unfold v0
    exact (State.tick_good _ _ hs3)
  clear_value v0
  refine outGood_ite ?_ ?_
  · exact w0
  · refine outGood_ite ?_ ?_
    · exact (State.setQuad_good _ _ _ w0)
    · extract_lets -underBinder +onlyGivenNames v20
      exact (outGood_ite w0 (State.setHb_good _ _ _ w0))

theorem State.pllFail_good (a0 : Instant) (s1 : State) (a2 : Nat) (hs1 : s1.Good q) : (State.pllFail a0 s1 a2).Good q
    := by
  unfold State.pllFail
  exact (good_ite (State.toDetect_good _ _ _ _ hs1) (State.toFallback_good _ _ _ _ _ hs1))

theorem execPllHopTimeout_good (a0 : Nat) (a1 : Instant) (s2 : State) (hs2 : s2.Good q) : OutGood q
    (execPllHopTimeout a0 a1 s2) := by
  unfold execPllHopTimeout
  extract_lets -underBinder +onlyGivenNames v0
  have w0 : State.Good q (v0) := by
    unfold v0
    exact (State.tick_good _ _ hs2)
  clear_value v0
  refine outGood_ite ?_ ?_
  · exact w0
  · extract_lets -underBinder +onlyGivenNames v20
    refine outGood_ite ?_ ?_
    · exact w0
    · extract_lets -underBinder +onlyGivenNames v21
      have w21 : State.Good q (v21) := by
        unfold v21
        exact (State.startSearch_good _ _ _ _ (State.setHb_good _ _ _ w0))
      clear_value v21
      exact (good_foldl w21 fun _ _ k0 => (State.pllFail_good _ _ _ k0))

theorem execHbBandSearchDone_good (a0 : Nat) (a1 : Bool) (a2 : Instant) (s3 : State) (hs3 : s3.Good q) : OutGood q
    (execHbBandSearchDone a0 a1 a2 s3) := by
  unfold execHbBandSearchDone
  extract_lets -underBinder +onlyGivenNames v0
  have w0 : State.Good q (v0) := by
    unfold v0
    exact (State.tick_good _ _ hs3)
  clear_value v0
  refine outGood_ite ?_ ?_
  · exact w0
  · extract_lets -underBinder +onlyGivenNames v20
    split
    · exact w0
    · extract_lets -underBinder +onlyGivenNames v21
      extract_lets -underBinder +onlyGivenNames v22
      have w22 : State.Good q (v22) := by
        unfold v22
        exact (State.setBand_good _ _ _ (State.setHb_good _ _ _ w0))
      clear_value v22
      exact (outGood_ite (State.startSearch_good _ _ _ _ w22) w22)

theorem State.stagePortOff_good (s : State) (a1 : Instant) (a2 : Instant) (a3 : List Nat) (a4 : Bool) (hs : s.Good q)
    : (State.stagePortOff s a1 a2 a3 a4).Good q := by
  unfold State.stagePortOff
  extract_lets -underBinder +onlyGivenNames v0 v1
  have w1 : State.Good q (v1) := by
    unfold v1
    exact (good_ite hs (State.stage_good _ _ hs))
  clear_value v1
  extract_lets -underBinder +onlyGivenNames v21
  have w21 : State.Good q (v21) := by
    unfold v21
    exact (State.stage_good _ _ w1)
  clear_value v21
  exact (good_ite (State.applyDue_good _ _ _ w21) w21)

theorem State.quadOffDone_good (s : State) (a1 : Nat) (a2 : Instant) (hs : s.Good q) : (State.quadOffDone s a1
    a2).Good q := by
  unfold State.quadOffDone
  extract_lets -underBinder +onlyGivenNames v0 v1
  refine good_ite ?_ ?_
  · exact hs
  · extract_lets -underBinder +onlyGivenNames v2
    have w2 : State.Good q (v2) := by
      unfold v2
      exact (State.setQuad_good _ _ _ hs)
    clear_value v2
    extract_lets -underBinder +onlyGivenNames v22
    have w22 : State.Good q (v22) := by
      unfold v22
      exact (State.finishOpt_good _ _ _ _ _ w2)
    clear_value v22
    exact (good_ite (.of w22) w22)

theorem State.drainStep_good (s : State) (a1 : Nat) (a2 : Instant) (hs : s.Good q) : (State.drainStep s a1 a2).Good q
    := by
  unfold State.drainStep
  extract_lets -underBinder +onlyGivenNames v0
  split
  · exact hs
  · refine good_ite ?_ ?_
    · exact hs
    · extract_lets -underBinder +onlyGivenNames v1
      extract_lets -underBinder +onlyGivenNames v2 v3
      have w3 : State.Good q (v3) := by
        unfold v3
        exact (State.clearQueues_good _ _ _ _ _ hs)
      clear_value v3
      extract_lets -underBinder +onlyGivenNames v23 v24
      have w24 : State.Good q (v24) := by
        unfold v24
        exact (State.setModel_good _ _ _ w3)
      clear_value v24
      refine good_ite ?_ ?_
      · exact w24
      · extract_lets -underBinder +onlyGivenNames v44
        extract_lets -underBinder +onlyGivenNames v45 v46 v47
        have w47 : State.Good q (v47) := by
          unfold v47
          exact (State.setModel_good _ _ _ w24)
        clear_value v47
        extract_lets -underBinder +onlyGivenNames v67
        have w67 : State.Good q (v67) := by
          unfold v67
          exact (State.toDetect_good _ _ _ _ w47)
        clear_value v67
        extract_lets -underBinder +onlyGivenNames v87
        have w87 : State.Good q (v87) := by
          unfold v87
          exact (State.finishOpt_good _ _ _ _ _ w67)
        clear_value v87
        extract_lets -underBinder +onlyGivenNames v107 v108
        have w108 : State.Good q (v108) := by
          unfold v108
          exact (good_ite (State.setQuad_good _ _ _ w87) w87)
        clear_value v108
        exact (State.quadOffDone_good _ _ _ w108)

theorem State.markDrain_good (s : State) (a1 : Nat) (a2 : Nat) (a3 : Option Nat) (a4 : Instant) (hs : s.Good q) :
    (State.markDrain s a1 a2 a3 a4).Good q := by
  unfold State.markDrain
  extract_lets -underBinder +onlyGivenNames v0
  exact (good_ite hs (State.setModel_good _ _ _ hs))

theorem State.beginDrain_good (s : State) (a1 : Nat) (a2 : Nat) (a3 : Option Nat) (a4 : Instant) (a5 : Instant) (hs :
    s.Good q) : (State.beginDrain s a1 a2 a3 a4 a5).Good q := by
  unfold State.beginDrain
  exact (State.drainStep_good _ _ _ (State.markDrain_good _ _ _ _ _ hs))

theorem State.settlePll_good (s : State) (a1 : Nat) (hs : s.Good q) : (State.settlePll s a1).Good q := by
  unfold State.settlePll
  extract_lets -underBinder +onlyGivenNames v0 v1
  exact (good_ite (State.takePll_good _ _ _ hs) hs)

theorem State.applyPort_good (s : State) (a1 : Nat) (a2 : PortCfg) (a3 : Option Nat) (a4 : Instant) (a5 : Instant) (hs
    : s.Good q) : (State.applyPort s a1 a2 a3 a4 a5).Good q := by
  unfold State.applyPort
  extract_lets -underBinder +onlyGivenNames v0 v1 v2
  have w2 : State.Good q (v2) := by
    unfold v2
    exact (State.setLane_good _ _ _ hs)
  clear_value v2
  refine good_ite ?_ ?_
  · exact (State.beginDrain_good _ _ _ _ _ _ w2)
  · extract_lets -underBinder +onlyGivenNames v22
    have w22 : State.Good q (v22) := by
      unfold v22
      exact (State.finishOpt_good _ _ _ _ _ w2)
    clear_value v22
    refine good_ite ?_ ?_
    · exact (State.settlePll_good _ _ (State.toDetect_good _ _ _ _ w22))
    · refine good_ite ?_ ?_
      · extract_lets -underBinder +onlyGivenNames v42
        have w42 : State.Good q (v42) := by
          unfold v42
          exact (State.toDetect_good _ _ _ _ w22)
        clear_value v42
        exact (State.settlePll_good _ _ (State.setLane_good _ _ _ w42))
      · exact w22

theorem State.powerQuad_good (s : State) (a1 : Nat) (a2 : Option Nat) (hs : s.Good q) : (State.powerQuad s a1 a2).Good
    q := by
  unfold State.powerQuad
  extract_lets -underBinder +onlyGivenNames v0 v1
  have w1 : State.Good q (v1) := by
    unfold v1
    exact (State.setQuad_good _ _ _ hs)
  clear_value v1
  exact (good_ite (State.startSearch_good _ _ _ _ (State.startSearch_good _ _ _ _ w1)) w1)

theorem State.applyLane_good (a0 : Instant) (s1 : State) (a2 : LaneStaged) (hs1 : s1.Good q) : (State.applyLane a0
    s1 a2).Good q := by
  unfold State.applyLane
  split
  · exact (State.applyPort_good _ _ _ _ _ _ hs1)
  · extract_lets -underBinder +onlyGivenNames v0
    extract_lets -underBinder +onlyGivenNames v1
    have w1 : State.Good q (v1) := by
      unfold v1
      exact (State.toDetect_good _ _ _ _ (State.setLane_good _ _ _ hs1))
    clear_value v1
    exact (State.finishOpt_good _ _ _ _ _ w1)
  · extract_lets -underBinder +onlyGivenNames v0
    extract_lets -underBinder +onlyGivenNames v1
    have w1 : State.Good q (v1) := by
      unfold v1
      exact (State.setQuad_good _ _ _ hs1)
    clear_value v1
    extract_lets -underBinder +onlyGivenNames v21
    have w21 : State.Good q (v21) := by
      unfold v21
      exact (good_foldl w1 fun _ _ k0 => (State.markDrain_good _ _ _ _ _ k0))
    clear_value v21
    exact (State.quadOffDone_good _ _ _ (good_foldl w21 fun _ _ k0 => (State.drainStep_good _ _ _ k0)))
  · extract_lets -underBinder +onlyGivenNames v0
    extract_lets -underBinder +onlyGivenNames v1
    have w1 : State.Good q (v1) := by
      unfold v1
      exact (State.setQuad_good _ _ _ hs1)
    clear_value v1
    exact (good_ite (State.finishOpt_good _ _ _ _ _ w1) (State.powerQuad_good _ _ _ w1))

theorem State.lanesDue_good (s : State) (a1 : Instant) (hs : s.Good q) : (State.lanesDue s a1).Good q := by
  unfold State.lanesDue
  extract_lets -underBinder +onlyGivenNames v0
  exact (good_foldl (.of hs) fun _ _ k0 => (State.applyLane_good _ _ _ k0))

theorem State.startPort_good (a0 : Instant) (s1 : State) (a2 : Nat) (hs1 : s1.Good q) : (State.startPort a0 s1
    a2).Good q := by
  unfold State.startPort
  exact (good_ite hs1 (State.settlePll_good _ _ (State.setLane_good _ _ _ hs1)))

theorem execQuadPowerUpDone_good (a0 : Nat) (a1 : Instant) (s2 : State) (hs2 : s2.Good q) : OutGood q
    (execQuadPowerUpDone a0 a1 s2) := by
  unfold execQuadPowerUpDone
  extract_lets -underBinder +onlyGivenNames v0
  have w0 : State.Good q (v0) := by
    unfold v0
    exact (State.tick_good _ _ hs2)
  clear_value v0
  extract_lets -underBinder +onlyGivenNames v20
  refine outGood_ite ?_ ?_
  · exact w0
  · extract_lets -underBinder +onlyGivenNames v21
    extract_lets -underBinder +onlyGivenNames v22
    have w22 : State.Good q (v22) := by
      unfold v22
      exact (State.setQuad_good _ _ _ w0)
    clear_value v22
    extract_lets -underBinder +onlyGivenNames v42
    have w42 : State.Good q (v42) := by
      unfold v42
      exact (good_foldl (good_foldl w22 fun _ _ k0 => (State.startSource_good _ _ _ _ k0)) fun _ _ k0 =>
          (State.startPort_good _ _ _ k0))
    clear_value v42
    extract_lets -underBinder +onlyGivenNames v62
    exact (State.finishOpt_good _ _ _ _ _ (State.stagePortOff_good _ _ _ _ _ w42))

theorem State.putLane_good (s : State) (a1 : Option Instant) (a2 : Instant) (a3 : Nat) (a4 : LaneChange) (a5 : List
    Nat) (a6 : List Nat) (hs : s.Good q) : (State.putLane s a1 a2 a3 a4 a5 a6).Good q := by
  unfold State.putLane
  extract_lets -underBinder +onlyGivenNames v0 v1
  have w1 : State.Good q (v1) := by
    unfold v1
    exact (good_ite hs (State.stagePortOff_good _ _ _ _ _ hs))
  clear_value v1
  extract_lets -underBinder +onlyGivenNames v21
  have w21 : State.Good q (v21) := by
    unfold v21
    exact (good_ite w1 (State.stagePortOff_good _ _ _ _ _ w1))
  clear_value v21
  extract_lets -underBinder +onlyGivenNames v41 v42
  have w42 : State.Good q (v42) := by
    unfold v42
    exact (.of w21)
  clear_value v42
  exact (good_ite w42 (State.lanesDue_good _ _ w42))

theorem State.stageLane_good (s : State) (a1 : Ctx) (a2 : LaneChange) (a3 : List Nat) (a4 : List Nat) (hs : s.Good q) :
    (State.stageLane s a1 a2 a3 a4).Good q := by
  unfold State.stageLane
  exact (resGood_ite resGood_fail (State.putLane_good _ _ _ _ _ _ _ hs))

theorem bodyPortSet_good (a0 : Ctx) (s1 : State) (hs1 : s1.Good q) : (bodyPortSet a0 s1).Good q := by
  unfold bodyPortSet
  extract_lets -underBinder +onlyGivenNames v0 v1 v2 v3
  exact (resGood_refuse (resGood_refuse (State.stageLane_good _ _ _ _ _ hs1)))

theorem bodyPortGet_good (a0 : Ctx) (s1 : State) (hs1 : s1.Good q) : (bodyPortGet a0 s1).Good q := by
  unfold bodyPortGet
  extract_lets -underBinder +onlyGivenNames v0
  exact (resGood_refuse hs1)

theorem bodyLaneStatusGet_good (a0 : Ctx) (s1 : State) (hs1 : s1.Good q) : (bodyLaneStatusGet a0 s1).Good q := by
  unfold bodyLaneStatusGet
  exact (resGood_refuse hs1)

theorem bodyLinkRetrain_good (a0 : Ctx) (s1 : State) (hs1 : s1.Good q) : (bodyLinkRetrain a0 s1).Good q := by
  unfold bodyLinkRetrain
  extract_lets -underBinder +onlyGivenNames v0
  exact (resGood_refuse (resGood_refuse (State.stageLane_good _ _ _ _ _ hs1)))

theorem bodyLinkPark_good (a0 : Ctx) (s1 : State) (hs1 : s1.Good q) : (bodyLinkPark a0 s1).Good q := by
  unfold bodyLinkPark
  extract_lets -underBinder +onlyGivenNames v0 v1
  refine resGood_refuse ?_
  refine resGood_refuse ?_
  refine resGood_ite ?_ ?_
  · exact (resGood_ite hs1 (resGood_refuse (resGood_refuse (State.requestPark_good _ _ _ _ hs1))))
  · refine resGood_ite ?_ ?_
    · extract_lets -underBinder +onlyGivenNames v2
      have w2 : State.Good q (v2) := by
        unfold v2
        exact (good_ite hs1 (State.burst_good _ _ _ hs1))
      clear_value v2
      exact (resGood_refuse (State.setLane_good _ _ _ w2))
    · exact hs1

theorem bodyQuadSet_good (a0 : Ctx) (s1 : State) (hs1 : s1.Good q) : (bodyQuadSet a0 s1).Good q := by
  unfold bodyQuadSet
  extract_lets -underBinder +onlyGivenNames v0 v1 v2 v3
  exact (resGood_refuse (resGood_refuse (resGood_ite (State.stageLane_good _ _ _ _ _ hs1) (State.stageLane_good _ _
      _ _ _ hs1))))

theorem bodyQuadGet_good (a0 : Ctx) (s1 : State) (hs1 : s1.Good q) : (bodyQuadGet a0 s1).Good q := by
  unfold bodyQuadGet
  extract_lets -underBinder +onlyGivenNames v0
  exact (resGood_refuse hs1)

theorem bodyEqSet_good (a0 : Ctx) (s1 : State) (hs1 : s1.Good q) : (bodyEqSet a0 s1).Good q := by
  unfold bodyEqSet
  extract_lets -underBinder +onlyGivenNames v0
  exact (resGood_refuse (State.setLane_good _ _ _ hs1))

theorem bodyEqGet_good (a0 : Ctx) (s1 : State) (hs1 : s1.Good q) : (bodyEqGet a0 s1).Good q := by
  unfold bodyEqGet
  extract_lets -underBinder +onlyGivenNames v0
  exact (resGood_refuse hs1)

theorem bodySchedSet_good (a0 : Ctx) (s1 : State) (hs1 : s1.Good q) : (bodySchedSet a0 s1).Good q := by
  unfold bodySchedSet
  exact (schedSet_good _ _ _ hs1)

theorem State.moduleEvent_good (s : State) (a1 : Nat) (a2 : Nat) (a3 : Nat) (a4 : Instant) (a5 : Bool) (hs : s.Good q) :
    (State.moduleEvent s a1 a2 a3 a4 a5).Good q := by
  unfold State.moduleEvent
  exact (State.raise_good _ _ _ _ _ _ hs)

theorem State.scanPort_good (s : State) (a1 : Nat × Nat) (hs : s.Good q) : (State.scanPort s a1).Good q := by
  unfold State.scanPort
  extract_lets -underBinder +onlyGivenNames v0 v1
  refine good_ite ?_ ?_
  · exact hs
  · extract_lets -underBinder +onlyGivenNames v2
    extract_lets -underBinder +onlyGivenNames v3 v4
    have w4 : State.Good q (v4) := by
      unfold v4
      exact (State.setLane_good _ _ _ hs)
    clear_value v4
    exact (good_ite (State.wakeSource_good _ _ (.of w4)) (good_ite (State.wakeSource_good _ _ w4) w4))

theorem execSidebandScan_good (a0 : List (Nat × Nat)) (a1 : Instant) (s2 : State) (hs2 : s2.Good q) : OutGood q
    (execSidebandScan a0 a1 s2) := by
  unfold execSidebandScan
  extract_lets -underBinder +onlyGivenNames v0
  have w0 : State.Good q (v0) := by
    unfold v0
    exact (State.tick_good _ _ hs2)
  clear_value v0
  exact (outGood_ite w0 (good_foldl (State.emit_good _ _ w0) fun _ _ k0 => (State.scanPort_good _ _ k0)))

theorem State.moduleGone_good (s : State) (a1 : Nat) (a2 : Instant) (hs : s.Good q) : (State.moduleGone s a1 a2).Good
    q := by
  unfold State.moduleGone
  extract_lets -underBinder +onlyGivenNames v0
  have w0 : State.Good q (v0) := by
    unfold v0
    exact (good_foldl hs fun _ _ k0 => (State.toDetect_good _ _ _ _ k0))
  clear_value v0
  extract_lets -underBinder +onlyGivenNames v20
  exact (State.moduleEvent_good _ _ _ _ _ _ (State.setLane_good _ _ _ w0))

theorem State.moduleIn_good (s : State) (a1 : Nat) (a2 : Instant) (hs : s.Good q) : (State.moduleIn s a1 a2).Good q
    := by
  unfold State.moduleIn
  extract_lets -underBinder +onlyGivenNames v0
  have w0 : State.Good q (v0) := by
    unfold v0
    exact (good_ite hs (State.toDetect_good _ _ _ _ hs))
  clear_value v0
  extract_lets -underBinder +onlyGivenNames v20
  exact (State.moduleEvent_good _ _ _ _ _ _ (State.setLane_good _ _ _ w0))

theorem execModulePresenceChange_good (a0 : Nat) (a1 : Bool) (a2 : Instant) (s3 : State) (hs3 : s3.Good q) : OutGood
    q (execModulePresenceChange a0 a1 a2 s3) := by
  unfold execModulePresenceChange
  extract_lets -underBinder +onlyGivenNames v0
  have w0 : State.Good q (v0) := by
    unfold v0
    exact (State.tick_good _ _ hs3)
  clear_value v0
  extract_lets -underBinder +onlyGivenNames v20
  exact (outGood_ite w0 (good_ite (State.moduleGone_good _ _ _ w0) (State.moduleIn_good _ _ _ w0)))

theorem execModuleReady_good (a0 : Nat) (a1 : Nat) (a2 : Nat) (a3 : Instant) (s4 : State) (hs4 : s4.Good q) : OutGood q
    (execModuleReady a0 a1 a2 a3 s4) := by
  unfold execModuleReady
  extract_lets -underBinder +onlyGivenNames v0
  have w0 : State.Good q (v0) := by
    unfold v0
    exact (State.tick_good _ _ hs4)
  clear_value v0
  extract_lets -underBinder +onlyGivenNames v20
  refine outGood_ite ?_ ?_
  · exact w0
  · extract_lets -underBinder +onlyGivenNames v21
    exact (outGood_ite (State.moduleEvent_good _ _ _ _ _ _ (State.setLane_good _ _ _ w0)) (State.setLane_good _ _ _
        w0))

theorem State.enqueueI2c_good (s : State) (a1 : Nat) (a2 : I2cReq) (hs : s.Good q) : (State.enqueueI2c s a1 a2).Good
    q := by
  unfold State.enqueueI2c
  exact (State.setBus_good _ _ _ hs)

theorem State.abortBus_good (s : State) (a1 : Nat) (a2 : Instant) (hs : s.Good q) : (State.abortBus s a1 a2).Good q
    := by
  unfold State.abortBus
  extract_lets -underBinder +onlyGivenNames v0 v1
  have w1 : State.Good q (v1) := by
    unfold v1
    refine good_foldl ?_ fun z2 y2 h2 => ?_
    · exact hs
    · split
      · exact (State.finish_good _ _ _ _ _ h2)
      · exact h2
  clear_value v1
  exact (State.setBus_good _ _ _ w1)

theorem State.alarmByte_good (a0 : Instant) (a1 : Nat) (s2 : State) (a3 : Nat × Nat) (hs2 : s2.Good q) : (State.alarmByte
    a0 a1 s2 a3).Good q := by
  unfold State.alarmByte
  extract_lets -underBinder +onlyGivenNames v0 v1 v2
  have w2 : State.Good q (v2) := by
    unfold v2
    exact (State.setLane_good _ _ _ hs2)
  clear_value v2
  exact (good_foldl w2 fun _ _ k0 => (State.raise_good _ _ _ _ _ _ (State.countP_good _ _ _ _ k0)))

theorem State.readShadow_good (s : State) (x : I2cReq) (bs : List Byte) (t : Instant) (h : s.Good q) :
    (State.readShadow s x bs t).1.Good q := by
  unfold State.readShadow
  refine goodFst_foldl (P := fun (x : State × List Byte) => x.1.Good q) h fun z y hz => ?_
  dsimp only
  split
  · exact State.setLane_good _ _ _ (alarmByte_good _ _ _ _ hz)
  · exact hz

theorem State.pollModule_good (a0 : Nat) (s1 : State) (a2 : Nat) (hs1 : s1.Good q) : (State.pollModule a0 s1 a2).Good q
    := by
  unfold State.pollModule
  extract_lets -underBinder +onlyGivenNames v0
  exact (State.enqueueI2c_good _ _ _ hs1)

theorem execModuleAlarmPoll_good (a0 : Nat) (a1 : Instant) (s2 : State) (hs2 : s2.Good q) : OutGood q
    (execModuleAlarmPoll a0 a1 s2) := by
  unfold execModuleAlarmPoll
  extract_lets -underBinder +onlyGivenNames v0
  have w0 : State.Good q (v0) := by
    unfold v0
    exact (State.tick_good _ _ hs2)
  clear_value v0
  exact (outGood_ite w0 (good_foldl w0 fun _ _ k0 => (State.pollModule_good _ _ _ k0)))

theorem State.i2cOk_good (s : State) (a1 : Nat) (a2 : I2cReq) (a3 : List Byte) (a4 : Instant) (hs : s.Good q) :
    (State.i2cOk s a1 a2 a3 a4).Good q := by
  unfold State.i2cOk
  split
  · exact (State.finish_good _ _ _ _ _ (State.emit_good _ _ hs))
  · exact (State.emit_good _ _ hs)
  · extract_lets -underBinder +onlyGivenNames v0
    extract_lets -underBinder +onlyGivenNames v1
    have w1 : State.Good q (v1).1 := by
      unfold v1
      exact (State.readShadow_good _ _ _ _ hs)
    clear_value v1
    extract_lets -underBinder +onlyGivenNames v21
    exact (State.finish_good _ _ _ _ _ w1)
  · extract_lets -underBinder +onlyGivenNames v0
    exact (good_foldl hs fun _ _ k0 => (State.alarmByte_good _ _ _ _ k0))

theorem execI2cTransactionDone_good (a0 : Nat) (a1 : I2cResult) (a2 : Instant) (s3 : State) (hs3 : s3.Good q) :
    OutGood q (execI2cTransactionDone a0 a1 a2 s3) := by
  unfold execI2cTransactionDone
  extract_lets -underBinder +onlyGivenNames v0
  have w0 : State.Good q (v0) := by
    unfold v0
    exact (State.tick_good _ _ hs3)
  clear_value v0
  extract_lets -underBinder +onlyGivenNames v20
  split
  · exact w0
  · refine outGood_ite ?_ ?_
    · exact w0
    · split
      · exact (State.raise_good _ _ _ _ _ _ (State.count_good _ _ _ (State.abortBus_good _ _ _ w0)))
      · extract_lets -underBinder +onlyGivenNames v21
        have w21 : State.Good q (v21) := by
          unfold v21
          exact (State.count_good _ _ _ (State.setBus_good _ _ _ w0))
        clear_value v21
        split
        · exact (State.finish_good _ _ _ _ _ w21)
        · exact w21
      · exact (State.i2cOk_good _ _ _ _ _ (State.setBus_good _ _ _ w0))

theorem execI2cRetry_good (a0 : Nat) (a1 : Bool) (a2 : Instant) (s3 : State) (hs3 : s3.Good q) : OutGood q
    (execI2cRetry a0 a1 a2 s3) := by
  unfold execI2cRetry
  extract_lets -underBinder +onlyGivenNames v0
  have w0 : State.Good q (v0) := by
    unfold v0
    exact (State.tick_good _ _ hs3)
  clear_value v0
  exact (outGood_ite (State.setBus_good _ _ _ w0) w0)

theorem execIo33Low_good (a0 : Instant) (s1 : State) (hs1 : s1.Good q) : OutGood q (execIo33Low a0 s1) := by
  unfold execIo33Low
  extract_lets -underBinder +onlyGivenNames v0
  have w0 : State.Good q (v0) := by
    unfold v0
    exact (State.tick_good _ _ hs1)
  clear_value v0
  refine outGood_ite ?_ ?_
  · exact w0
  · extract_lets -underBinder +onlyGivenNames v20
    have w20 : State.Good q (v20) := by
      unfold v20
      exact (good_foldl w0 fun _ _ k0 => (State.abortBus_good _ _ _ k0))
    clear_value v20
    exact (State.raise_good _ _ _ _ _ _ (.of w20))

theorem execIo33Restore_good (a0 : Instant) (s1 : State) (hs1 : s1.Good q) : OutGood q (execIo33Restore a0 s1) := by
  unfold execIo33Restore
  extract_lets -underBinder +onlyGivenNames v0
  have w0 : State.Good q (v0) := by
    unfold v0
    exact (State.tick_good _ _ hs1)
  clear_value v0
  refine outGood_ite ?_ ?_
  · exact w0
  · extract_lets -underBinder +onlyGivenNames v20
    have w20 : State.Good q (v20) := by
      unfold v20
      exact (good_foldl w0 fun _ _ k0 => (State.setBus_good _ _ _ k0))
    clear_value v20
    exact (.of w20)

theorem execEyeMonitorUpdate_good (a0 : Nat) (a1 : Nat) (a2 : Nat) (a3 : Nat) (a4 : List Int) (a5 : Instant) (s6 : State)
    (hs6 : s6.Good q) : OutGood q (execEyeMonitorUpdate a0 a1 a2 a3 a4 a5 s6) := by
  unfold execEyeMonitorUpdate
  extract_lets -underBinder +onlyGivenNames v0
  have w0 : State.Good q (v0) := by
    unfold v0
    exact (State.tick_good _ _ hs6)
  clear_value v0
  extract_lets -underBinder +onlyGivenNames v20
  refine outGood_ite ?_ ?_
  · exact w0
  · extract_lets -underBinder +onlyGivenNames v21
    extract_lets -underBinder +onlyGivenNames v22 v23
    have w23 : State.Good q (v23) := by
      unfold v23
      exact (State.setLane_good _ _ _ w0)
    clear_value v23
    exact (outGood_ite (State.raiseLimited_good _ _ _ _ _ _ w23) w23)

theorem State.triggerRuns_good (s : State) (a1 : Nat) (hs : s.Good q) : (State.triggerRuns s a1).Good q := by
  unfold State.triggerRuns
  extract_lets -underBinder +onlyGivenNames v0 v1 v2 v3 v4 v5
  have w5 : State.Good q (v5) := by
    unfold v5
    exact (good_ite (good_ite (.of hs) (State.setVernier_good _ _ _ hs)) hs)
  clear_value v5
  extract_lets -underBinder +onlyGivenNames v25
  have w25 : ∀ b25_0 b25_1, State.Good q b25_0 → State.Good q (v25 b25_0 b25_1) := by
    intro b25_0 b25_1 hb25_0
    unfold v25
    dsimp only
    exact (good_ite (State.setLane_good _ _ _ hb25_0) hb25_0)
  clear_value v25
  extract_lets -underBinder +onlyGivenNames v45
  have w45 : ∀ b45_0 b45_1, State.Good q b45_0 → State.Good q (v45 b45_0 b45_1) := by
    intro b45_0 b45_1 hb45_0
    unfold v45
    dsimp only
    exact (good_ite (State.setLane_good _ _ _ hb45_0) hb45_0)
  clear_value v45
  extract_lets -underBinder +onlyGivenNames v65
  have w65 : State.Good q (v65) := by
    unfold v65
    exact (good_ite (good_foldl w5 fun _ _ k0 => (w25 _ _ k0)) w5)
  clear_value v65
  extract_lets -underBinder +onlyGivenNames v85
  have w85 : State.Good q (v85) := by
    unfold v85
    exact (good_ite (good_foldl w65 fun _ _ k0 => (w45 _ _ k0)) w65)
  clear_value v85
  extract_lets -underBinder +onlyGivenNames v105
  have w105 : ∀ b105_0 b105_1, State.Good q b105_0 → State.Good q (v105 b105_0 b105_1) := by
    intro b105_0 b105_1 hb105_0
    unfold v105
    exact (good_ite hb105_0 (State.startSearch_good _ _ _ _ hb105_0))
  clear_value v105
  extract_lets -underBinder +onlyGivenNames v125
  have w125 : State.Good q (v125) := by
    unfold v125
    exact (good_ite (w105 _ _ (w105 _ _ w85)) w85)
  clear_value v125
  extract_lets -underBinder +onlyGivenNames v145 v146
  have w146 : State.Good q (v146) := by
    unfold v146
    exact (good_ite (.of w125) w125)
  clear_value v146
  exact (good_ite w146 (State.startRuns_good _ (State.setSensor_good _ _ _ w146)))

theorem State.thermalWarn_good (s : State) (a1 : Nat) (a2 : Int) (a3 : Instant) (hs : s.Good q) : (State.thermalWarn s
    a1 a2 a3).Good q := by
  unfold State.thermalWarn
  extract_lets -underBinder +onlyGivenNames v0 v1 v2 v3
  have w3 : ∀ b3_0 b3_1, State.Good q b3_0 → State.Good q (v3 b3_0 b3_1) := by
    intro b3_0 b3_1 hb3_0
    unfold v3
    exact (State.raise_good _ _ _ _ _ _ hb3_0)
  clear_value v3
  exact (good_ite (w3 _ _ (.ofPwr hs)) (good_ite (w3 _ _ (.ofPwr hs)) hs))

theorem State.takeTemp_good (s : State) (a1 : Nat) (a2 : Int) (a3 : Instant) (hs : s.Good q) : (State.takeTemp s a1 a2
    a3).Good q := by
  unfold State.takeTemp
  extract_lets -underBinder +onlyGivenNames v0 v1
  have w1 : State.Good q (v1) := by
    unfold v1
    exact (State.setSensor_good _ _ _ hs)
  clear_value v1
  extract_lets -underBinder +onlyGivenNames v21 v22
  have w22 : State.Good q (v22) := by
    unfold v22
    exact (State.thermalWarn_good _ _ _ _ (good_ite (.of w1) w1))
  clear_value v22
  exact (good_ite (.ofPwr w22) w22)

theorem execDieSensorRead_good (a0 : Nat) (a1 : Int) (a2 : Instant) (s3 : State) (hs3 : s3.Good q) : OutGood q
    (execDieSensorRead a0 a1 a2 s3) := by
  unfold execDieSensorRead
  extract_lets -underBinder +onlyGivenNames v0
  have w0 : State.Good q (v0) := by
    unfold v0
    exact (State.tick_good _ _ hs3)
  clear_value v0
  refine outGood_ite ?_ ?_
  · exact w0
  · extract_lets -underBinder +onlyGivenNames v20
    extract_lets -underBinder +onlyGivenNames v21
    have w21 : State.Good q (v21) := by
      unfold v21
      exact (State.takeTemp_good _ _ _ _ w0)
    clear_value v21
    exact (outGood_ite (State.triggerRuns_good _ _ w21) w21)

theorem execEqRunDone_good (a0 : Nat) (a1 : Nat) (a2 : Instant) (s3 : State) (hs3 : s3.Good q) : OutGood q
    (execEqRunDone a0 a1 a2 s3) := by
  unfold execEqRunDone
  extract_lets -underBinder +onlyGivenNames v0
  have w0 : State.Good q (v0) := by
    unfold v0
    exact (State.tick_good _ _ hs3)
  clear_value v0
  extract_lets -underBinder +onlyGivenNames v20
  exact (outGood_ite w0 (State.startRuns_good _ (State.countP_good _ _ _ _ (State.setLane_good _ _ _ w0))))

theorem moduleAccess_good (a0 : Bool) (a1 : Ctx) (s2 : State) (hs2 : s2.Good q) : (moduleAccess a0 a1 s2).Good q :=
    by
  unfold moduleAccess
  extract_lets -underBinder +onlyGivenNames v0 v1 v2
  exact (resGood_refuse (resGood_refuse (resGood_ite resGood_fail (State.enqueueI2c_good _ _ _ hs2))))

theorem bodyModuleRead_good (a0 : Ctx) (s1 : State) (hs1 : s1.Good q) : (bodyModuleRead a0 s1).Good q := by
  unfold bodyModuleRead
  exact (moduleAccess_good _ _ _ hs1)

theorem bodyModuleWrite_good (a0 : Ctx) (s1 : State) (hs1 : s1.Good q) : (bodyModuleWrite a0 s1).Good q := by
  unfold bodyModuleWrite
  exact (moduleAccess_good _ _ _ hs1)

theorem bodyModuleCfgSet_good (a0 : Ctx) (s1 : State) (hs1 : s1.Good q) : (bodyModuleCfgSet a0 s1).Good q := by
  unfold bodyModuleCfgSet
  extract_lets -underBinder +onlyGivenNames v0 v1
  exact (resGood_refuse (State.setBus_good _ _ _ hs1))

theorem bodyModuleCfgGet_good (a0 : Ctx) (s1 : State) (hs1 : s1.Good q) : (bodyModuleCfgGet a0 s1).Good q := by
  unfold bodyModuleCfgGet
  extract_lets -underBinder +onlyGivenNames v0
  exact (resGood_refuse hs1)

theorem bodyCalCfgSet_good (a0 : Ctx) (s1 : State) (hs1 : s1.Good q) : (bodyCalCfgSet a0 s1).Good q := by
  unfold bodyCalCfgSet
  extract_lets -underBinder +onlyGivenNames v0
  exact (resGood_refuse (.of hs1))

theorem bodyCalCfgGet_good (a0 : Ctx) (s1 : State) (hs1 : s1.Good q) : (bodyCalCfgGet a0 s1).Good q := by
  unfold bodyCalCfgGet
  exact hs1

theorem State.setTio_good (s : State) (a1 : TimedIo) (hs : s.Good q) : (State.setTio s a1).Good q := by
  unfold State.setTio
  exact (.of hs)

theorem State.finishInternal_good (s : State) (a1 : Option Nat) (a2 : Instant) (hs : s.Good q) :
    (State.finishInternal s a1 a2).Good q := by
  unfold State.finishInternal
  split
  · exact hs
  · split
    · exact hs
    · exact (State.raise_good _ _ _ _ _ _ (State.finish_good _ _ _ _ _ hs))

theorem State.stampRec_good (s : State) (a1 : Nat) (a2 : Instant) (a3 : Bool) (a4 : Bool) (a5 : Bool) (a6 : Instant)
    (hs : s.Good q) : (State.stampRec s a1 a2 a3 a4 a5 a6).Good q := by
  unfold State.stampRec
  extract_lets -underBinder +onlyGivenNames v0 v1 v2 v3 v4
  have w4 : State.Good q (v4) := by
    unfold v4
    exact (State.setPin_good _ _ _ hs)
  clear_value v4
  exact (good_ite (State.countE_good _ _ _ _ w4) (State.raise_good _ _ _ _ _ _ (State.countE_good _ _ _ _ w4)))

theorem State.wakePins_good (s : State) (a1 : Instant) (hs : s.Good q) : (State.wakePins s a1).Good q := by
  unfold State.wakePins
  refine good_foldl ?_ fun z0 y0 h0 => ?_
  · exact hs
  · split
    · exact h0
    · exact (State.stampRec_good _ _ _ _ _ _ _ (State.setPin_good _ _ _ h0))

theorem State.filterDone_good (s : State) (a1 : Nat) (a2 : Instant) (hs : s.Good q) : (State.filterDone s a1 a2).Good
    q := by
  unfold State.filterDone
  extract_lets -underBinder +onlyGivenNames v0
  split
  · exact hs
  · refine good_ite ?_ ?_
    · exact hs
    · extract_lets -underBinder +onlyGivenNames v1
      have w1 : State.Good q (v1) := by
        unfold v1
        exact (State.setPin_good _ _ _ hs)
      clear_value v1
      exact (good_ite (State.stampRec_good _ _ _ _ _ _ _ w1) w1)

theorem execEvtInputEdge_good (a0 : Nat) (a1 : Bool) (a2 : Instant) (s3 : State) (hs3 : s3.Good q) : OutGood q
    (execEvtInputEdge a0 a1 a2 s3) := by
  unfold execEvtInputEdge
  extract_lets -underBinder +onlyGivenNames v0
  have w0 : State.Good q (v0) := by
    unfold v0
    exact (State.filterDone_good _ _ _ (State.tick_good _ _ hs3))
  clear_value v0
  extract_lets -underBinder +onlyGivenNames v20
  refine outGood_ite ?_ ?_
  · exact w0
  · refine outGood_ite ?_ ?_
    · exact (State.setPin_good _ _ _ w0)
    · extract_lets -underBinder +onlyGivenNames v21
      extract_lets -underBinder +onlyGivenNames v22 v23
      have w23 : State.Good q (v23) := by
        unfold v23
        exact (good_ite (State.wakeSource_good _ _ w0) w0)
      clear_value v23
      extract_lets -underBinder +onlyGivenNames v43
      have w43 : State.Good q (v43) := by
        unfold v43
        exact (State.setPin_good _ _ _ w23)
      clear_value v43
      extract_lets -underBinder +onlyGivenNames v63
      have w63 : State.Good q (v63) := by
        unfold v63
        exact (good_ite (State.countE_good _ _ _ _ w43) w43)
      clear_value v63
      refine outGood_ite ?_ ?_
      · split
        · exact (State.countE_good _ _ _ _ w63)
        · exact (good_ite w63 (State.setPin_good _ _ _ w63))
      · exact (outGood_ite w63 (State.stampRec_good _ _ _ _ _ _ _ w63))

theorem execEvtFilterDone_good (a0 : Nat) (a1 : Instant) (s2 : State) (hs2 : s2.Good q) : OutGood q
    (execEvtFilterDone a0 a1 s2) := by
  unfold execEvtFilterDone
  extract_lets -underBinder +onlyGivenNames v0
  have w0 : State.Good q (v0) := by
    unfold v0
    exact (State.tick_good _ _ hs2)
  clear_value v0
  exact (outGood_ite w0 (State.filterDone_good _ _ _ w0))

theorem execEvtAonLatch_good (a0 : Nat) (a1 : Bool) (a2 : Instant) (s3 : State) (hs3 : s3.Good q) : OutGood q
    (execEvtAonLatch a0 a1 a2 s3) := by
  unfold execEvtAonLatch
  extract_lets -underBinder +onlyGivenNames v0
  have w0 : State.Good q (v0) := by
    unfold v0
    exact (State.tick_good _ _ hs3)
  clear_value v0
  extract_lets -underBinder +onlyGivenNames v20
  refine outGood_ite ?_ ?_
  · exact w0
  · extract_lets -underBinder +onlyGivenNames v21
    have w21 : State.Good q (v21) := by
      unfold v21
      exact (good_ite w0 (State.setPin_good _ _ _ w0))
    clear_value v21
    exact (State.wakeSource_good _ _ w21)

theorem State.cfgDone_good (s : State) (a1 : Nat) (a2 : Instant) (hs : s.Good q) : (State.cfgDone s a1 a2).Good q :=
    by
  unfold State.cfgDone
  extract_lets -underBinder +onlyGivenNames v0
  refine good_ite ?_ ?_
  · exact hs
  · extract_lets -underBinder +onlyGivenNames v1
    extract_lets -underBinder +onlyGivenNames v2
    have w2 : State.Good q (v2) := by
      unfold v2
      exact (State.setPin_good _ _ _ hs)
    clear_value v2
    exact (good_foldl w2 fun _ _ k0 => (State.finishOpt_good _ _ _ _ _ k0))

theorem State.moveRoute_good (s : State) (a1 : Nat) (a2 : Nat) (hs : s.Good q) : (State.moveRoute s a1 a2).Good q := by
  unfold State.moveRoute
  extract_lets -underBinder +onlyGivenNames v0 v1 v2 v3
  have w3 : State.Good q (v3) := by
    unfold v3
    exact (.ofCores hs)
  clear_value v3
  exact (State.recheck_good _ _ _ hs w3)

theorem State.applyPin_good (s : State) (a1 : Nat) (a2 : Instant) (a3 : EvtCfg) (hs : s.Good q) : (State.applyPin s
    a1 a2 a3).1.Good q := by
  unfold State.applyPin
  extract_lets -underBinder +onlyGivenNames v0 v1 v2 v3 v4
  have w4 : State.Good q (v4) := by
    unfold v4
    exact (State.setPin_good _ _ _ hs)
  clear_value v4
  dsimp only
  exact (good_ite w4 (State.moveRoute_good _ _ _ w4))

theorem execEvtCfgApply_good (a0 : Nat) (a1 : Instant) (s2 : State) (hs2 : s2.Good q) : OutGood q (execEvtCfgApply a0
    a1 s2) := by
  unfold execEvtCfgApply
  extract_lets -underBinder +onlyGivenNames v0
  have w0 : State.Good q (v0) := by
    unfold v0
    exact (State.tick_good _ _ hs2)
  clear_value v0
  split
  · exact (State.cfgDone_good _ _ _ w0)
  · refine outGood_ite ?_ ?_
    · exact (State.cfgDone_good _ _ _ w0)
    · extract_lets -underBinder +onlyGivenNames v20
      have w20 : State.Good q (v20).1 := by
        unfold v20
        exact (State.applyPin_good _ _ _ _ w0)
      clear_value v20
      extract_lets -underBinder +onlyGivenNames v40 v41
      have w41 : State.Good q (v41) := by
        unfold v41
        exact (State.setPin_good _ _ _ w20)
      clear_value v41
      exact (State.cfgDone_good _ _ _ w41)

theorem State.drivePin_good (s : State) (a1 : Nat) (a2 : Bool) (a3 : Instant) (hs : s.Good q) : (State.drivePin s a1
    a2 a3).Good q := by
  unfold State.drivePin
  extract_lets -underBinder +onlyGivenNames v0
  exact (good_ite hs (State.emit_good _ _ (State.countE_good _ _ _ _ (State.setPin_good _ _ _ hs))))

theorem State.latePin_good (s : State) (a1 : Nat) (a2 : Instant) (hs : s.Good q) : (State.latePin s a1 a2).Good q :=
    by
  unfold State.latePin
  exact (State.raise_good _ _ _ _ _ _ (State.countE_good _ _ _ _ (State.setPin_good _ _ _ hs)))

theorem State.pulseFalls_good (s : State) (a1 : Nat) (a2 : Bool) (a3 : Instant) (hs : s.Good q) : (State.pulseFalls s
    a1 a2 a3).Good q := by
  unfold State.pulseFalls
  extract_lets -underBinder +onlyGivenNames v0 v1
  have w1 : State.Good q (v1) := by
    unfold v1
    exact (State.setPin_good _ _ _ hs)
  clear_value v1
  exact (State.cfgDone_good _ _ _ (good_ite (State.drivePin_good _ _ _ _ w1) (State.latePin_good _ _ _ w1)))

theorem State.queuedEdge_good (s : State) (a1 : Nat) (a2 : Bool) (a3 : List (Instant × Bool)) (a4 : Bool) (a5 :
    Instant) (hs : s.Good q) : (State.queuedEdge s a1 a2 a3 a4 a5).Good q := by
  unfold State.queuedEdge
  extract_lets -underBinder +onlyGivenNames v0 v1
  have w1 : State.Good q (v1) := by
    unfold v1
    exact (State.setPin_good _ _ _ hs)
  clear_value v1
  exact (good_ite (State.drivePin_good _ _ _ _ w1) (State.latePin_good _ _ _ w1))

theorem State.pulseStarts_good (s : State) (a1 : Nat) (a2 : Bool) (a3 : Instant) (hs : s.Good q) : (State.pulseStarts
    s a1 a2 a3).Good q := by
  unfold State.pulseStarts
  extract_lets -underBinder +onlyGivenNames v0 v1
  have w1 : State.Good q (v1) := by
    unfold v1
    exact (State.setPin_good _ _ _ hs)
  clear_value v1
  exact (good_ite (State.drivePin_good _ _ _ _ (State.setPin_good _ _ _ w1)) (State.latePin_good _ _ _ w1))

theorem execEvtOutputEdge_good (a0 : Nat) (a1 : Bool) (a2 : Instant) (s3 : State) (hs3 : s3.Good q) : OutGood q
    (execEvtOutputEdge a0 a1 a2 s3) := by
  unfold execEvtOutputEdge
  extract_lets -underBinder +onlyGivenNames v0
  have w0 : State.Good q (v0) := by
    unfold v0
    exact (State.tick_good _ _ hs3)
  clear_value v0
  extract_lets -underBinder +onlyGivenNames v20 v21
  refine outGood_ite ?_ ?_
  · exact w0
  · split
    · exact (outGood_ite (State.pulseFalls_good _ _ _ _ w0) w0)
    · split
      · exact (outGood_ite (State.queuedEdge_good _ _ _ _ _ _ w0) w0)
      · exact (outGood_ite (State.pulseStarts_good _ _ _ _ w0) w0)

theorem State.takeCalTables_good (s : State) (a1 : Instant) (hs : s.Good q) : (State.takeCalTables s a1).Good q :=
    by
  unfold State.takeCalTables
  extract_lets -underBinder +onlyGivenNames v0
  have w0 : State.Good q (v0) := by
    unfold v0
    refine good_foldl ?_ fun z1 y1 h1 => ?_
    · exact hs
    · extract_lets -underBinder +onlyGivenNames v2
      exact (State.setPin_good _ _ _ h1)
  clear_value v0
  refine good_foldl ?_ fun z20 y20 h20 => ?_
  · exact w0
  · extract_lets -underBinder +onlyGivenNames v21
    exact (State.setChan_good _ _ _ h20)

theorem State.calRunEnds_good (s : State) (a1 : Nat) (a2 : Instant) (hs : s.Good q) : (State.calRunEnds s a1 a2).Good
    q := by
  unfold State.calRunEnds
  extract_lets -underBinder +onlyGivenNames v0 v1
  have w1 : State.Good q (v1) := by
    unfold v1
    exact (State.setTio_good _ _ hs)
  clear_value v1
  extract_lets -underBinder +onlyGivenNames v21 v22
  have w22 : State.Good q (v22) := by
    unfold v22
    exact (good_ite (.ofPwr w1) w1)
  clear_value v22
  exact (State.raise_good _ _ _ _ _ _ (State.finishOpt_good _ _ _ _ _ w22))

theorem execTimeioCalDone_good (a0 : Nat) (a1 : Instant) (s2 : State) (hs2 : s2.Good q) : OutGood q
    (execTimeioCalDone a0 a1 s2) := by
  unfold execTimeioCalDone
  extract_lets -underBinder +onlyGivenNames v0
  have w0 : State.Good q (v0) := by
    unfold v0
    exact (State.tick_good _ _ hs2)
  clear_value v0
  refine outGood_ite ?_ ?_
  · exact w0
  · extract_lets -underBinder +onlyGivenNames v20
    have w20 : State.Good q (v20) := by
      unfold v20
      exact (State.takeCalTables_good _ _ w0)
    clear_value v20
    exact (outGood_ite (State.setTio_good _ _ w20) (State.calRunEnds_good _ _ _ w20))

theorem State.publish_good (s : State) (a1 : Nat) (a2 : Nat) (a3 : Instant) (hs : s.Good q) : (State.publish s a1 a2
    a3).Good q := by
  unfold State.publish
  extract_lets -underBinder +onlyGivenNames v0 v1 v2 v3
  have w3 : State.Good q (v3) := by
    unfold v3
    exact (State.setChan_good _ _ _ hs)
  clear_value v3
  exact (State.raise_good _ _ _ _ _ _ w3)

theorem State.closeMeas_good (s : State) (a1 : Nat) (a2 : Nat) (a3 : Nat) (a4 : Instant) (hs : s.Good q) :
    (State.closeMeas s a1 a2 a3 a4).Good q := by
  unfold State.closeMeas
  extract_lets -underBinder +onlyGivenNames v0
  split
  · exact hs
  · extract_lets -underBinder +onlyGivenNames v1
    extract_lets -underBinder +onlyGivenNames v2 v3 v4 v5 v6 v7
    have w7 : State.Good q (v7) := by
      unfold v7
      exact (State.countT_good _ _ _ (State.setChan_good _ _ _ hs))
    clear_value v7
    extract_lets -underBinder +onlyGivenNames v27
    have w27 : State.Good q (v27) := by
      unfold v27
      exact (good_ite (State.countT_good _ _ _ w7) w7)
    clear_value v27
    exact (good_ite (State.publish_good _ _ _ _ w27) w27)

theorem State.dropWindow_good (s : State) (a1 : Nat) (hs : s.Good q) : (State.dropWindow s a1).Good q := by
  unfold State.dropWindow
  exact (State.setChan_good _ _ _ hs)

theorem State.abortChan_good (s : State) (a1 : Nat) (a2 : Instant) (hs : s.Good q) : (State.abortChan s a1 a2).Good q
    := by
  unfold State.abortChan
  extract_lets -underBinder +onlyGivenNames v0
  have w0 : State.Good q (v0) := by
    unfold v0
    exact (State.closeMeas_good _ _ _ _ _ hs)
  clear_value v0
  exact (good_ite (State.publish_good _ _ _ _ w0) (State.dropWindow_good _ _ w0))

theorem execTimStartEdge_good (a0 : Nat) (a1 : Bool) (a2 : Nat) (a3 : Instant) (s4 : State) (hs4 : s4.Good q) : OutGood
    q (execTimStartEdge a0 a1 a2 a3 s4) := by
  unfold execTimStartEdge
  extract_lets -underBinder +onlyGivenNames v0
  have w0 : State.Good q (v0) := by
    unfold v0
    exact (State.tick_good _ _ hs4)
  clear_value v0
  extract_lets -underBinder +onlyGivenNames v20
  refine outGood_ite ?_ ?_
  · exact w0
  · refine outGood_ite ?_ ?_
    · exact (State.countT_good _ _ _ w0)
    · extract_lets -underBinder +onlyGivenNames v21
      have w21 : State.Good q (v21) := by
        unfold v21
        split
        · exact (good_ite (State.closeMeas_good _ _ _ _ _ w0) (State.closeMeas_good _ _ _ _ _ w0))
        · exact w0
      clear_value v21
      extract_lets -underBinder +onlyGivenNames v41
      exact (outGood_ite (State.setChan_good _ _ _ w21) (State.setChan_good _ _ _ w21))

theorem execTimStopEdge_good (a0 : Nat) (a1 : Bool) (a2 : Nat) (a3 : Instant) (s4 : State) (hs4 : s4.Good q) : OutGood
    q (execTimStopEdge a0 a1 a2 a3 s4) := by
  unfold execTimStopEdge
  extract_lets -underBinder +onlyGivenNames v0
  have w0 : State.Good q (v0) := by
    unfold v0
    exact (State.tick_good _ _ hs4)
  clear_value v0
  extract_lets -underBinder +onlyGivenNames v20
  refine outGood_ite ?_ ?_
  · exact w0
  · split
    · exact (State.countT_good _ _ _ w0)
    · exact (outGood_ite (State.countT_good _ _ _ w0) (outGood_ite (State.countT_good _ _ _ (State.closeMeas_good _
        _ _ _ _ w0)) (State.closeMeas_good _ _ _ _ _ w0)))

theorem execTimGateEdge_good (a0 : Nat) (a1 : Bool) (a2 : Nat) (a3 : Instant) (s4 : State) (hs4 : s4.Good q) : OutGood
    q (execTimGateEdge a0 a1 a2 a3 s4) := by
  unfold execTimGateEdge
  extract_lets -underBinder +onlyGivenNames v0
  have w0 : State.Good q (v0) := by
    unfold v0
    exact (State.tick_good _ _ hs4)
  clear_value v0
  extract_lets -underBinder +onlyGivenNames v20 v21
  refine outGood_ite ?_ ?_
  · exact w0
  · refine outGood_ite ?_ ?_
    · exact (State.setChan_good _ _ _ w0)
    · refine outGood_ite ?_ ?_
      · exact (State.setChan_good _ _ _ w0)
      · extract_lets -underBinder +onlyGivenNames v22
        have w22 : State.Good q (v22) := by
          unfold v22
          exact (State.setChan_good _ _ _ w0)
        clear_value v22
        exact (good_ite (State.closeMeas_good _ _ _ _ _ w22) w22)

theorem execTimOverrange_good (a0 : Nat) (a1 : Instant) (s2 : State) (hs2 : s2.Good q) : OutGood q (execTimOverrange
    a0 a1 s2) := by
  unfold execTimOverrange
  extract_lets -underBinder +onlyGivenNames v0
  have w0 : State.Good q (v0) := by
    unfold v0
    exact (State.tick_good _ _ hs2)
  clear_value v0
  split
  · exact w0
  · exact (outGood_ite w0 (State.closeMeas_good _ _ _ _ _ w0))

theorem execMrefLost_good (a0 : Instant) (s1 : State) (hs1 : s1.Good q) : OutGood q (execMrefLost a0 s1) := by
  unfold execMrefLost
  extract_lets -underBinder +onlyGivenNames v0
  have w0 : State.Good q (v0) := by
    unfold v0
    exact (State.tick_good _ _ hs1)
  clear_value v0
  refine outGood_ite ?_ ?_
  · exact w0
  · extract_lets -underBinder +onlyGivenNames v20
    extract_lets -underBinder +onlyGivenNames v21
    have w21 : State.Good q (v21) := by
      unfold v21
      exact (State.setTio_good _ _ w0)
    clear_value v21
    extract_lets -underBinder +onlyGivenNames v41
    have w41 : State.Good q (v41) := by
      unfold v41
      exact (good_foldl w21 fun _ _ k0 => (State.dropWindow_good _ _ (State.closeMeas_good _ _ _ _ _ k0)))
    clear_value v41
    exact (State.raise_good _ _ _ _ _ _ w41)

theorem execMrefLock_good (a0 : Int) (a1 : Instant) (s2 : State) (hs2 : s2.Good q) : OutGood q (execMrefLock a0 a1
    s2) := by
  unfold execMrefLock
  extract_lets -underBinder +onlyGivenNames v0
  have w0 : State.Good q (v0) := by
    unfold v0
    exact (State.tick_good _ _ hs2)
  clear_value v0
  refine outGood_ite ?_ ?_
  · exact w0
  · extract_lets -underBinder +onlyGivenNames v20
    extract_lets -underBinder +onlyGivenNames v21
    have w21 : State.Good q (v21) := by
      unfold v21
      exact (State.setTio_good _ _ w0)
    clear_value v21
    extract_lets -underBinder +onlyGivenNames v41
    have w41 : State.Good q (v41) := by
      unfold v41
      exact (good_foldl w21 fun _ _ k0 => (State.setChan_good _ _ _ k0))
    clear_value v41
    exact (State.raise_good _ _ _ _ _ _ w41)

theorem State.toBypass_good (s : State) (a1 : Nat) (a2 : Nat) (a3 : Bool) (a4 : Instant) (hs : s.Good q) :
    (State.toBypass s a1 a2 a3 a4).Good q := by
  unfold State.toBypass
  extract_lets -underBinder +onlyGivenNames v0
  exact (State.raise_good _ _ _ _ _ _ (State.countO_good _ _ _ (State.setCko_good _ _ _ hs)))

theorem State.fromBypass_good (s : State) (a1 : Nat) (a2 : Instant) (hs : s.Good q) : (State.fromBypass s a1 a2).Good
    q := by
  unfold State.fromBypass
  exact (State.raise_good _ _ _ _ _ _ (State.countO_good _ _ _ (State.setCko_good _ _ _ hs)))

theorem State.withdrawProfile_good (s : State) (a1 : Nat) (a2 : Instant) (hs : s.Good q) : (State.withdrawProfile s
    a1 a2).Good q := by
  unfold State.withdrawProfile
  extract_lets -underBinder +onlyGivenNames v0
  split
  · exact hs
  · exact (State.finishOpt_good _ _ _ _ _ (State.setCko_good _ _ _ hs))

theorem State.dropWait_good (s : State) (a1 : Nat) (a2 : CkoWait × Instant × Option Nat) (hs : s.Good q) :
    (State.dropWait s a1 a2).Good q := by
  unfold State.dropWait
  exact (State.setCko_good _ _ _ hs)

theorem execCkoBandSearchDone_good (a0 : Nat) (a1 : Nat) (a2 : Bool) (a3 : Instant) (s4 : State) (hs4 : s4.Good q) :
    OutGood q (execCkoBandSearchDone a0 a1 a2 a3 s4) := by
  unfold execCkoBandSearchDone
  extract_lets -underBinder +onlyGivenNames v0
  have w0 : State.Good q (v0) := by
    unfold v0
    exact (State.tick_good _ _ hs4)
  clear_value v0
  extract_lets -underBinder +onlyGivenNames v20
  split
  · exact w0
  · split
    · refine outGood_ite ?_ ?_
      · exact w0
      · refine outGood_ite ?_ ?_
        · extract_lets -underBinder +onlyGivenNames v21
          exact (State.setCko_good _ _ _ w0)
        · exact (State.finishInternal_good _ _ _ (State.setCko_good _ _ _ w0))
    · exact w0

theorem execCkoAlignStart_good (a0 : Nat) (a1 : Instant) (s2 : State) (hs2 : s2.Good q) : OutGood q
    (execCkoAlignStart a0 a1 s2) := by
  unfold execCkoAlignStart
  extract_lets -underBinder +onlyGivenNames v0
  have w0 : State.Good q (v0) := by
    unfold v0
    exact (State.tick_good _ _ hs2)
  clear_value v0
  extract_lets -underBinder +onlyGivenNames v20
  split
  · exact w0
  · split
    · refine outGood_ite ?_ ?_
      · exact w0
      · extract_lets -underBinder +onlyGivenNames v21
        have w21 : State.Good q (v21) := by
          unfold v21
          exact (State.dropWait_good _ _ _ (State.withdrawProfile_good _ _ _ w0))
        clear_value v21
        extract_lets -underBinder +onlyGivenNames v41
        exact (State.finishOpt_good _ _ _ _ _ (State.setCko_good _ _ _ w21))
    · exact w0

theorem execCkoBypass_good (a0 : Nat) (a1 : Nat) (a2 : Instant) (s3 : State) (hs3 : s3.Good q) : OutGood q
    (execCkoBypass a0 a1 a2 s3) := by
  unfold execCkoBypass
  extract_lets -underBinder +onlyGivenNames v0
  have w0 : State.Good q (v0) := by
    unfold v0
    exact (State.tick_good _ _ hs3)
  clear_value v0
  extract_lets -underBinder +onlyGivenNames v20
  refine outGood_ite ?_ ?_
  · exact w0
  · refine outGood_ite ?_ ?_
    · split
      · exact w0
      · extract_lets -underBinder +onlyGivenNames v21
        have w21 : State.Good q (v21) := by
          unfold v21
          exact (State.dropWait_good _ _ _ w0)
        clear_value v21
        split
        · exact (State.finishOpt_good _ _ _ _ _ (State.toBypass_good _ _ _ _ _ w21))
        · exact (State.finishOpt_good _ _ _ _ _ (State.setCko_good _ _ _ w21))
        · exact (State.finishOpt_good _ _ _ _ _ w21)
        · exact (State.finishOpt_good _ _ _ _ _ w21)
        · exact (State.finishOpt_good _ _ _ _ _ w21)
    · exact (outGood_ite w0 (State.toBypass_good _ _ _ _ _ w0))

theorem execCkoReturn_good (a0 : Nat) (a1 : Instant) (s2 : State) (hs2 : s2.Good q) : OutGood q (execCkoReturn a0 a1
    s2) := by
  unfold execCkoReturn
  extract_lets -underBinder +onlyGivenNames v0
  have w0 : State.Good q (v0) := by
    unfold v0
    exact (State.tick_good _ _ hs2)
  clear_value v0
  extract_lets -underBinder +onlyGivenNames v20
  refine outGood_ite ?_ ?_
  · exact w0
  · split
    · extract_lets -underBinder +onlyGivenNames v21
      have w21 : State.Good q (v21) := by
        unfold v21
        exact (State.dropWait_good _ _ _ w0)
      clear_value v21
      exact (outGood_ite (State.finishOpt_good _ _ _ _ _ (State.fromBypass_good _ _ _ w21)) (State.finishOpt_good _
          _ _ _ _ w21))
    · exact (outGood_ite (State.fromBypass_good _ _ _ w0) w0)

theorem execCkoProfileApply_good (a0 : Nat) (a1 : Instant) (s2 : State) (hs2 : s2.Good q) : OutGood q
    (execCkoProfileApply a0 a1 s2) := by
  unfold execCkoProfileApply
  extract_lets -underBinder +onlyGivenNames v0
  have w0 : State.Good q (v0) := by
    unfold v0
    exact (State.tick_good _ _ hs2)
  clear_value v0
  extract_lets -underBinder +onlyGivenNames v20
  split
  · exact w0
  · refine outGood_ite ?_ ?_
    · exact w0
    · extract_lets -underBinder +onlyGivenNames v21
      exact (State.finishOpt_good _ _ _ _ _ (State.setCko_good _ _ _ w0))

theorem execCkoSegmentEnd_good (a0 : Nat) (a1 : Instant) (s2 : State) (hs2 : s2.Good q) : OutGood q
    (execCkoSegmentEnd a0 a1 s2) := by
  unfold execCkoSegmentEnd
  extract_lets -underBinder +onlyGivenNames v0
  have w0 : State.Good q (v0) := by
    unfold v0
    exact (State.tick_good _ _ hs2)
  clear_value v0
  extract_lets -underBinder +onlyGivenNames v20
  split
  · exact w0
  · refine outGood_ite ?_ ?_
    · exact w0
    · extract_lets -underBinder +onlyGivenNames v21
      have w21 : State.Good q (v21) := by
        unfold v21
        exact (State.setCko_good _ _ _ w0)
      clear_value v21
      exact (outGood_ite (State.raise_good _ _ _ _ _ _ w21) w21)

theorem execCkoRelock_good (a0 : Nat) (a1 : Instant) (s2 : State) (hs2 : s2.Good q) : OutGood q (execCkoRelock a0 a1
    s2) := by
  unfold execCkoRelock
  extract_lets -underBinder +onlyGivenNames v0
  have w0 : State.Good q (v0) := by
    unfold v0
    exact (State.tick_good _ _ hs2)
  clear_value v0
  extract_lets -underBinder +onlyGivenNames v20
  refine outGood_ite ?_ ?_
  · exact w0
  · refine outGood_ite ?_ ?_
    · exact (good_ite w0 (State.setCko_good _ _ _ w0))
    · split
      · exact w0
      · exact (outGood_ite w0 (State.setCko_good _ _ _ w0))

theorem execCkoDisableApply_good (a0 : Nat) (a1 : Instant) (s2 : State) (hs2 : s2.Good q) : OutGood q
    (execCkoDisableApply a0 a1 s2) := by
  unfold execCkoDisableApply
  extract_lets -underBinder +onlyGivenNames v0
  have w0 : State.Good q (v0) := by
    unfold v0
    exact (State.tick_good _ _ hs2)
  clear_value v0
  extract_lets -underBinder +onlyGivenNames v20
  split
  · exact w0
  · split
    · refine outGood_ite ?_ ?_
      · exact w0
      · extract_lets -underBinder +onlyGivenNames v21
        have w21 : State.Good q (v21) := by
          unfold v21
          exact (State.dropWait_good _ _ _ (State.withdrawProfile_good _ _ _ w0))
        clear_value v21
        extract_lets -underBinder +onlyGivenNames v41
        exact (State.finishOpt_good _ _ _ _ _ (State.setCko_good _ _ _ w21))
    · exact w0

theorem State.tioFooting_good (s : State) (a1 : Instant) (hs : s.Good q) : (State.tioFooting s a1).Good q := by
  unfold State.tioFooting
  extract_lets -underBinder +onlyGivenNames v0
  have w0 : State.Good q (v0) := by
    unfold v0
    refine good_foldl ?_ fun z1 y1 h1 => ?_
    · exact hs
    · extract_lets -underBinder +onlyGivenNames v2
      extract_lets -underBinder +onlyGivenNames v3
      have w3 : State.Good q (v3) := by
        unfold v3
        exact (State.setChan_good _ _ _ h1)
      clear_value v3
      exact (State.abortChan_good _ _ _ w3)
  clear_value v0
  extract_lets -underBinder +onlyGivenNames v20
  have w20 : State.Good q (v20) := by
    unfold v20
    exact (good_foldl w0 fun _ _ k0 => (State.setCko_good _ _ _ k0))
  clear_value v20
  exact (State.setTio_good _ _ w20)

theorem State.tioResume_good (s : State) (a1 : Instant) (hs : s.Good q) : (State.tioResume s a1).Good q := by
  unfold State.tioResume
  extract_lets -underBinder +onlyGivenNames v0
  have w0 : State.Good q (v0) := by
    unfold v0
    refine good_foldl ?_ fun z1 y1 h1 => ?_
    · exact hs
    · extract_lets -underBinder +onlyGivenNames v2
      exact (State.setCko_good _ _ _ h1)
  clear_value v0
  exact (State.setTio_good _ _ w0)

theorem bodyCourseCommit_good (a0 : Ctx) (s1 : State) (hs1 : s1.Good q) : (bodyCourseCommit a0 s1).Good q := by
  unfold bodyCourseCommit
  exact (courseCommit_good _ _ _ _ _ hs1)

theorem bodyEvtCfgSet_good (a0 : Ctx) (s1 : State) (hs1 : s1.Good q) : (bodyEvtCfgSet a0 s1).Good q := by
  unfold bodyEvtCfgSet
  extract_lets -underBinder +onlyGivenNames v0 v1 v2
  refine resGood_refuse ?_
  refine resGood_refuse ?_
  split
  · exact (resGood_ite resGood_fail (State.setPin_good _ _ _ hs1))
  · extract_lets -underBinder +onlyGivenNames v3
    have w3 : State.Good q (v3).1 := by
      unfold v3
      exact (State.applyPin_good _ _ _ _ hs1)
    clear_value v3
    extract_lets -underBinder +onlyGivenNames v23
    exact (resGood_ite w3 (State.setPin_good _ _ _ w3))

theorem bodyEvtCfgGet_good (a0 : Ctx) (s1 : State) (hs1 : s1.Good q) : (bodyEvtCfgGet a0 s1).Good q := by
  unfold bodyEvtCfgGet
  extract_lets -underBinder +onlyGivenNames v0
  exact (resGood_refuse hs1)

theorem ownerCheck_good (c : Ctx) (s : State) (p : Nat) (k : Res) (h : k.Good q) : (ownerCheck c s p k).Good q :=
  resGood_refuse (resGood_refuse (resGood_refuse h))

theorem bodyEvtEdge_good (c : Ctx) (s : State) (h : s.Good q) : (bodyEvtEdge c s).Good q :=
  ownerCheck_good _ _ _ _ (resGood_refuse (resGood_refuse (resGood_refuse (resGood_refuse (resGood_refuse
    (State.setPin_good s _ _ h))))))

theorem bodyEvtCancel_good (c : Ctx) (s : State) (h : s.Good q) : (bodyEvtCancel c s).Good q :=
  ownerCheck_good _ _ _ _ (resGood_refuse (State.setPin_good s _ _ h))

theorem bodyEvtStampGet_good (a0 : Ctx) (s1 : State) (hs1 : s1.Good q) : (bodyEvtStampGet a0 s1).Good q := by
  unfold bodyEvtStampGet
  extract_lets -underBinder +onlyGivenNames v0 v1 v2 v3
  exact (resGood_refuse (resGood_refuse (State.setPin_good _ _ _ hs1)))

theorem State.timConfigure_good (s : State) (a1 : Nat) (a2 : TimCfg) (a3 : Instant) (hs : s.Good q) :
    (State.timConfigure s a1 a2 a3).Good q := by
  unfold State.timConfigure
  extract_lets -underBinder +onlyGivenNames v0 v1 v2
  have w2 : State.Good q (v2) := by
    unfold v2
    exact (good_ite (State.abortChan_good _ _ _ (State.setChan_good _ _ _ hs)) (good_ite (State.dropWindow_good _ _
        (State.closeMeas_good _ _ _ _ _ hs)) hs))
  clear_value v2
  extract_lets -underBinder +onlyGivenNames v22 v23 v24 v25
  exact (State.setChan_good _ _ _ w2)

theorem bodyTimCfgSet_good (a0 : Ctx) (s1 : State) (hs1 : s1.Good q) : (bodyTimCfgSet a0 s1).Good q := by
  unfold bodyTimCfgSet
  exact (resGood_refuse (State.timConfigure_good _ _ _ _ hs1))

theorem bodyTimCfgGet_good (a0 : Ctx) (s1 : State) (hs1 : s1.Good q) : (bodyTimCfgGet a0 s1).Good q := by
  unfold bodyTimCfgGet
  extract_lets -underBinder +onlyGivenNames v0
  exact (resGood_refuse hs1)

theorem bodyTimArm_good (a0 : Ctx) (s1 : State) (hs1 : s1.Good q) : (bodyTimArm a0 s1).Good q := by
  unfold bodyTimArm
  extract_lets -underBinder +onlyGivenNames v0 v1
  refine resGood_refuse ?_
  refine resGood_refuse ?_
  refine resGood_ite ?_ ?_
  · exact (State.setChan_good _ _ _ hs1)
  · extract_lets -underBinder +onlyGivenNames v2
    have w2 : State.Good q (v2) := by
      unfold v2
      exact (State.setChan_good _ _ _ hs1)
    clear_value v2
    exact (good_ite (State.closeMeas_good _ _ _ _ _ w2) w2)

theorem bodyTimRawGet_good (a0 : Ctx) (s1 : State) (hs1 : s1.Good q) : (bodyTimRawGet a0 s1).Good q := by
  unfold bodyTimRawGet
  extract_lets -underBinder +onlyGivenNames v0 v1 v2 v3
  exact (resGood_refuse (State.setChan_good _ _ _ hs1))

theorem bodyTimStatsGet_good (a0 : Ctx) (s1 : State) (hs1 : s1.Good q) : (bodyTimStatsGet a0 s1).Good q := by
  unfold bodyTimStatsGet
  exact (resGood_refuse hs1)

theorem mrefTo_good (s : State) (a1 : Bool) (a2 : Instant) (hs : s.Good q) : (mrefTo s a1 a2).Good q := by
  unfold mrefTo
  extract_lets -underBinder +onlyGivenNames v0
  have w0 : State.Good q (v0) := by
    unfold v0
    exact (good_foldl hs fun _ _ k0 => (State.abortChan_good _ _ _ k0))
  clear_value v0
  extract_lets -underBinder +onlyGivenNames v20
  exact (State.setTio_good _ _ w0)

theorem bodyMrefSet_good (a0 : Ctx) (s1 : State) (hs1 : s1.Good q) : (bodyMrefSet a0 s1).Good q := by
  unfold bodyMrefSet
  exact (resGood_refuse (mrefTo_good _ _ _ hs1))

theorem bodyMrefGet_good (a0 : Ctx) (s1 : State) (hs1 : s1.Good q) : (bodyMrefGet a0 s1).Good q := by
  unfold bodyMrefGet
  exact hs1

theorem bodyCalTimeioRun_good (a0 : Ctx) (s1 : State) (hs1 : s1.Good q) : (bodyCalTimeioRun a0 s1).Good q := by
  unfold bodyCalTimeioRun
  exact (resGood_refuse (State.setTio_good _ _ hs1))

theorem bodyCkoSet_good (a0 : Ctx) (s1 : State) (hs1 : s1.Good q) : (bodyCkoSet a0 s1).Good q := by
  unfold bodyCkoSet
  extract_lets -underBinder +onlyGivenNames v0 v1 v2
  split
  · exact resGood_fail
  · refine resGood_refuse ?_
    refine resGood_refuse ?_
    refine resGood_refuse ?_
    refine resGood_refuse ?_
    refine resGood_ite ?_ ?_
    · extract_lets -underBinder +onlyGivenNames v3
      exact (State.setCko_good _ _ _ hs1)
    · exact (State.setCko_good _ _ _ hs1)

theorem bodyCkoGet_good (a0 : Ctx) (s1 : State) (hs1 : s1.Good q) : (bodyCkoGet a0 s1).Good q := by
  unfold bodyCkoGet
  extract_lets -underBinder +onlyGivenNames v0
  exact (resGood_refuse hs1)

theorem bodyCkoProfileSet_good (a0 : Ctx) (s1 : State) (hs1 : s1.Good q) : (bodyCkoProfileSet a0 s1).Good q := by
  unfold bodyCkoProfileSet
  extract_lets -underBinder +onlyGivenNames v0 v1
  exact (resGood_refuse (resGood_refuse (State.setCko_good _ _ _ hs1)))

theorem bodyCkoProfileStart_good (a0 : Ctx) (s1 : State) (hs1 : s1.Good q) : (bodyCkoProfileStart a0 s1).Good q :=
    by
  unfold bodyCkoProfileStart
  extract_lets -underBinder +onlyGivenNames v0 v1 v2 v3
  split
  · exact resGood_fail
  · exact (resGood_refuse (resGood_refuse (resGood_refuse (resGood_refuse (resGood_refuse (State.setCko_good _ _ _
      hs1))))))

theorem bodyCkoPhaseGet_good (a0 : Ctx) (s1 : State) (hs1 : s1.Good q) : (bodyCkoPhaseGet a0 s1).Good q := by
  unfold bodyCkoPhaseGet
  exact (resGood_refuse hs1)

theorem bodyCkoCmd_good (a0 : Ctx) (s1 : State) (hs1 : s1.Good q) : (bodyCkoCmd a0 s1).Good q := by
  unfold bodyCkoCmd
  extract_lets -underBinder +onlyGivenNames v0 v1 v2 v3
  refine resGood_refuse ?_
  refine resGood_refuse ?_
  split
  · exact (resGood_ite resGood_fail (State.setCko_good _ _ _ hs1))
  · exact (resGood_ite (State.fromBypass_good _ _ _ hs1) (resGood_ite (State.toBypass_good _ _ _ _ _ hs1)
      (State.setCko_good _ _ _ hs1)))

end Sys2Proof.Machine
end

