-- ==== Sys2Proof/Laws/KeepHost.lean ====
section
/-! SUPPORT. The queue and the memories' canonical form stay as they are in cores, faults, power, the host ports and
the registers: for each function that answers a state, if the state it takes has queue q and canonical memories, so
has the one it answers (`State.Good`). -/

namespace Sys2Proof.Machine

variable {q : Keep}

theorem State.stopCore_good (s : State) (c : AppCore) (st : AcStatus) (t : Instant) (h : s.Good q) :
    (State.stopCore s c st t).1.Good q := by
  unfold State.stopCore
  extract_lets -underBinder +onlyGivenNames a n lost s0 keep s1 s2 f s3 op s4 s5 v s6 gone
  have h0 : s0.Good q := by
    unfold s0
    split
    · exact State.finish_good _ _ _ _ _ h
    · exact h
  have h1 : s1.Good q := by
    refine State.setTcm_good _ _ _ h0 ?_
    show q.mem (if keep then a.tcm else [])
    split
    · exact h.tcm _
    · exact q.nil
  have h2 : s2.Good q := good_ite h1 (State.countA_good _ _ _ _ h1)
  have h4 : s4.Good q := good_foldl (State.setFn_good _ _ _ h2) fun _ _ k => State.closeJrec_good _ _ k
  exact .ofCores (State.setTarget_good _ _ _ (.ofHost (s := s4) h4))

theorem State.coreFault_good (s : State) (c : AppCore) (cause : Nat) (pc mc : Word) (t : Instant) (h : s.Good q) :
    (State.coreFault s c cause pc mc t).Good q := by
  have h1 := State.stopCore_good s c .faulted t h
  exact State.raise_good _ _ _ _ _ _ (State.countA_good _ _ _ _ (State.setTcm_good _ _ _ h1 (h1.tcm c)))

theorem execAcWatchdogExpiry_good (a0 : AppCore) (a1 : Word) (a2 : Word) (a3 : Instant) (s4 : State) (hs4 : s4.Good
    q) : OutGood q (execAcWatchdogExpiry a0 a1 a2 a3 s4) := by
  unfold execAcWatchdogExpiry
  extract_lets -underBinder +onlyGivenNames v0
  have w0 : State.Good q (v0) := by
    unfold v0
    exact (State.tick_good _ _ hs4)
  clear_value v0
  extract_lets -underBinder +onlyGivenNames v20
  exact (outGood_ite (State.coreFault_good _ _ _ _ _ _ w0) w0)

theorem execAcFault_good (a0 : AppCore) (a1 : Nat) (a2 : Word) (a3 : Word) (a4 : Instant) (s5 : State) (hs5 : s5.Good
    q) : OutGood q (execAcFault a0 a1 a2 a3 a4 s5) := by
  unfold execAcFault
  extract_lets -underBinder +onlyGivenNames v0
  have w0 : State.Good q (v0) := by
    unfold v0
    exact (State.tick_good _ _ hs5)
  clear_value v0
  exact (outGood_ite (State.coreFault_good _ _ _ _ _ _ w0) w0)

theorem execWdogKick_good (c : AppCore) (t : Instant) (s : State) (h : s.Good q) : OutGood q (execWdogKick c t s)
    := by
  have h1 := State.tick_good s t h
  exact outGood_ite (State.setTcm_good _ _ _ h1 (h1.tcm c)) h1

theorem execTkNowRead_good (a0 : Target) (a1 : Instant) (s2 : State) (hs2 : s2.Good q) : OutGood q (execTkNowRead
    a0 a1 s2) := by
  unfold execTkNowRead
  extract_lets -underBinder +onlyGivenNames v0
  have w0 : State.Good q (v0) := by
    unfold v0
    exact (State.tick_good _ _ hs2)
  clear_value v0
  exact (State.setTarget_good _ _ _ w0)

theorem execEvcTimerExpiry_good (a0 : Target) (a1 : Nat) (a2 : Instant) (s3 : State) (hs3 : s3.Good q) : OutGood q
    (execEvcTimerExpiry a0 a1 a2 s3) := by
  unfold execEvcTimerExpiry
  extract_lets -underBinder +onlyGivenNames v0
  have w0 : State.Good q (v0) := by
    unfold v0
    exact (State.tick_good _ _ hs3)
  clear_value v0
  extract_lets -underBinder +onlyGivenNames v20
  refine outGood_ite ?_ ?_
  · exact w0
  · refine outGood_ite ?_ ?_
    · split
      · exact w0
      · exact (State.raisePrivate_good _ _ _ (State.setTarget_good _ _ _ w0))
    · split
      · exact w0
      · exact (State.raisePrivate_good _ _ _ (State.setTarget_good _ _ _ w0))

theorem execTimerEnable_good (a0 : Target) (a1 : Nat) (a2 : Instant) (s3 : State) (hs3 : s3.Good q) : OutGood q
    (execTimerEnable a0 a1 a2 s3) := by
  unfold execTimerEnable
  extract_lets -underBinder +onlyGivenNames v0
  have w0 : State.Good q (v0) := by
    unfold v0
    exact (State.tick_good _ _ hs3)
  clear_value v0
  extract_lets -underBinder +onlyGivenNames v20 v21 v22 v23
  have w23 : State.Good q (v23) := by
    unfold v23
    exact (State.setTarget_good _ _ _ w0)
  clear_value v23
  extract_lets -underBinder +onlyGivenNames v43
  have w43 : State.Good q (v43) := by
    unfold v43
    exact (good_ite (State.raisePrivate_good _ _ _ w23) w23)
  clear_value v43
  exact (good_ite (State.raisePrivate_good _ _ _ w43) w43)

theorem State.sendToHost_good (s : State) (c : AppCore) (x : HostPort) (h : s.Good q) :
    (State.sendToHost s c x).Good q := by
  unfold State.sendToHost
  extract_lets -underBinder +onlyGivenNames a l l1 s1
  have h1 : s1.Good q := State.setTcm_good _ _ _ h (by cases x <;> exact h.tcm c)
  exact good_ite (State.countA_good _ _ _ _ h) (State.ringDbBoth_good _ _ _ (State.countA_good _ _ _ _ h1))

theorem State.sendToCore_good (s : State) (x : HostPort) (c : AppCore) (h : s.Good q) :
    (State.sendToCore s x c).Good q := by
  unfold State.sendToCore
  extract_lets -underBinder +onlyGivenNames a l l1 s1
  have h1 : s1.Good q := State.setTcm_good _ _ _ h (by cases x <;> exact h.tcm c)
  exact good_ite (State.countA_good _ _ _ _ h) (State.raisePrivate_good _ _ _ (State.countA_good _ _ _ _ h1))

theorem execAcMsgSend_good (a0 : AppCore) (a1 : Bool) (a2 : Bool) (a3 : Instant) (s4 : State) (hs4 : s4.Good q) :
    OutGood q (execAcMsgSend a0 a1 a2 a3 s4) := by
  unfold execAcMsgSend
  extract_lets -underBinder +onlyGivenNames v0
  have w0 : State.Good q (v0) := by
    unfold v0
    exact (State.tick_good _ _ hs4)
  clear_value v0
  refine outGood_ite ?_ ?_
  · exact w0
  · extract_lets -underBinder +onlyGivenNames v20
    have w20 : State.Good q (v20) := by
      unfold v20
      exact (good_ite (State.sendToHost_good _ _ _ w0) w0)
    clear_value v20
    exact (good_ite (State.sendToHost_good _ _ _ w20) w20)

theorem execAcMsgPop_good (c : AppCore) (x y : Bool) (t : Instant) (s : State) (h : s.Good q) :
    OutGood q (execAcMsgPop c x y t s) := by
  have h1 := State.tick_good s t h
  exact outGood_ite h1 (State.setTcm_good _ _ _ h1 (h1.tcm c))

theorem execHostMsgSend_good (a0 : HostPort) (a1 : Bool) (a2 : Bool) (a3 : Instant) (s4 : State) (hs4 : s4.Good q)
    : OutGood q (execHostMsgSend a0 a1 a2 a3 s4) := by
  unfold execHostMsgSend
  extract_lets -underBinder +onlyGivenNames v0
  have w0 : State.Good q (v0) := by
    unfold v0
    exact (State.tick_good _ _ hs4)
  clear_value v0
  refine outGood_ite ?_ ?_
  · exact w0
  · extract_lets -underBinder +onlyGivenNames v20
    have w20 : State.Good q (v20) := by
      unfold v20
      exact (good_ite (State.sendToCore_good _ _ _ w0) w0)
    clear_value v20
    exact (good_ite (State.sendToCore_good _ _ _ w20) w20)

theorem State.popFromCore_good (s : State) (x : HostPort) (c : AppCore) (h : s.Good q) :
    (State.popFromCore s x c).Good q := State.setTcm_good _ _ _ h (by cases x <;> exact h.tcm c)

theorem execHostMsgPop_good (a0 : HostPort) (a1 : Bool) (a2 : Bool) (a3 : Instant) (s4 : State) (hs4 : s4.Good q) :
    OutGood q (execHostMsgPop a0 a1 a2 a3 s4) := by
  unfold execHostMsgPop
  extract_lets -underBinder +onlyGivenNames v0
  have w0 : State.Good q (v0) := by
    unfold v0
    exact (State.tick_good _ _ hs4)
  clear_value v0
  extract_lets -underBinder +onlyGivenNames v20
  have w20 : State.Good q (v20) := by
    unfold v20
    exact (good_ite (State.popFromCore_good _ _ _ w0) w0)
  clear_value v20
  exact (good_ite (State.popFromCore_good _ _ _ w20) w20)

theorem execEvcEvent_good (a0 : Nat) (a1 : Nat) (a2 : List Byte) (a3 : Bool) (a4 : Instant) (s5 : State) (hs5 : s5.Good
    q) : OutGood q (execEvcEvent a0 a1 a2 a3 a4 s5) := by
  unfold execEvcEvent
  extract_lets -underBinder +onlyGivenNames v0
  have w0 : State.Good q (v0) := by
    unfold v0
    exact (State.tick_good _ _ hs5)
  clear_value v0
  exact (outGood_ite w0 (State.raise_good _ _ _ _ _ _ w0))

theorem State.claimSource_good (s : State) (a1 : Target) (a2 : Nat) (hs : s.Good q) : (State.claimSource s a1
    a2).Good q := by
  unfold State.claimSource
  extract_lets -underBinder +onlyGivenNames v0 v1
  have w1 : State.Good q (v1) := by
    unfold v1
    exact (good_ite (.ofCores hs) hs)
  clear_value v1
  extract_lets -underBinder +onlyGivenNames v21
  exact (State.setTarget_good _ _ _ w1)

theorem execEvcClaim_good (a0 : Target) (a1 : Instant) (s2 : State) (hs2 : s2.Good q) : OutGood q (execEvcClaim a0
    a1 s2) := by
  unfold execEvcClaim
  extract_lets -underBinder +onlyGivenNames v0
  have w0 : State.Good q (v0) := by
    unfold v0
    exact (State.tick_good _ _ hs2)
  clear_value v0
  split
  · extract_lets -underBinder +onlyGivenNames v20
    have w20 : State.Good q (v20) := by
      unfold v20
      exact (State.claimSource_good _ _ _ w0)
    clear_value v20
    exact (.ofHost w20)
  · extract_lets -underBinder +onlyGivenNames v20
    have w20 : State.Good q (v20) := by
      unfold v20
      exact (State.count_good _ _ _ w0)
    clear_value v20
    exact (.ofHost w20)

theorem execEvcComplete_good (a0 : Target) (a1 : Nat) (a2 : Instant) (s3 : State) (hs3 : s3.Good q) : OutGood q
    (execEvcComplete a0 a1 a2 s3) := by
  unfold execEvcComplete
  extract_lets -underBinder +onlyGivenNames v0
  have w0 : State.Good q (v0) := by
    unfold v0
    exact (State.tick_good _ _ hs3)
  clear_value v0
  extract_lets -underBinder +onlyGivenNames v20
  refine outGood_ite ?_ ?_
  · exact w0
  · extract_lets -underBinder +onlyGivenNames v21
    have w21 : State.Good q (v21) := by
      unfold v21
      exact (State.setTarget_good _ _ _ w0)
    clear_value v21
    extract_lets -underBinder +onlyGivenNames v41
    have w41 : State.Good q (v41) := by
      unfold v41
      split
      · exact (good_ite (State.ringDbBoth_good _ _ _ w21) w21)
      · exact w21
    clear_value v41
    exact (good_ite (State.recheck_good _ _ _ w0 w41) w41)

theorem execEvlogPop_good (a0 : Target) (a1 : Instant) (s2 : State) (hs2 : s2.Good q) : OutGood q (execEvlogPop a0
    a1 s2) := by
  unfold execEvlogPop
  extract_lets -underBinder +onlyGivenNames v0
  have w0 : State.Good q (v0) := by
    unfold v0
    exact (State.tick_good _ _ hs2)
  clear_value v0
  extract_lets -underBinder +onlyGivenNames v20
  exact (State.setTarget_good _ _ _ w0)

theorem execEvcSoftSet_good (a0 : Target) (a1 : Nat) (a2 : Instant) (s3 : State) (hs3 : s3.Good q) : OutGood q
    (execEvcSoftSet a0 a1 a2 s3) := by
  unfold execEvcSoftSet
  exact (State.raise_good _ _ _ _ _ _ (State.tick_good _ _ hs3))

theorem State.enterVector_good (s : State) (c : AppCore) (n : Nat) (h : s.Good q) : (State.enterVector s c n).Good
    q := by
  have h1 := State.claimSource_good s c.target n h
  exact State.setTcm_good _ _ _ h1 (h1.tcm c)

theorem State.tcmStore_mem (m : Memory) (a : Nat) (ws : List Word) (h : q.mem m) : q.mem (State.tcmStore m a ws) :=
    by
  induction ws generalizing m a with
  | nil => exact h
  | cons w r ih =>
    refine ih _ _ ?_
    split
    · exact q.writeWord h _ _
    · exact h

theorem State.coreDelivers_good (s : State) (c : AppCore) (pc : Word) (n : Nat) (h : s.Good q) :
    (State.coreDelivers s c pc n).Good q := by
  unfold State.coreDelivers
  extract_lets -underBinder +onlyGivenNames a sp ws s2
  clear_value sp ws
  refine State.enterVector_good _ _ _ (State.setTcm_good _ _ _ h ?_)
  exact State.tcmStore_mem _ _ _ (h.tcm c)

theorem State.coreReturns_good (s : State) (c : AppCore) (h : s.Good q) : (State.coreReturns s c).Good q :=
  State.setTcm_good _ _ _ h (h.tcm c)

theorem execEvcDelivery_good (a0 : AppCore) (a1 : Word) (a2 : Instant) (s3 : State) (hs3 : s3.Good q) : OutGood q
    (execEvcDelivery a0 a1 a2 s3) := by
  unfold execEvcDelivery
  extract_lets -underBinder +onlyGivenNames v0
  have w0 : State.Good q (v0) := by
    unfold v0
    exact (State.tick_good _ _ hs3)
  clear_value v0
  extract_lets -underBinder +onlyGivenNames v20
  refine outGood_ite ?_ ?_
  · exact w0
  · split
    · exact w0
    · exact (State.coreDelivers_good _ _ _ _ w0)

theorem execEvcExit_good (a0 : AppCore) (a1 : Instant) (s2 : State) (hs2 : s2.Good q) : OutGood q (execEvcExit a0
    a1 s2) := by
  unfold execEvcExit
  extract_lets -underBinder +onlyGivenNames v0
  have w0 : State.Good q (v0) := by
    unfold v0
    exact (State.tick_good _ _ hs2)
  clear_value v0
  extract_lets -underBinder +onlyGivenNames v20
  refine outGood_ite ?_ ?_
  · exact w0
  · split
    · exact (State.enterVector_good _ _ _ w0)
    · exact (State.coreReturns_good _ _ w0)

theorem State.setSnaps_good (s : State) (a1 : List Snapshot) (hs : s.Good q) : (State.setSnaps s a1).Good q := by
  unfold State.setSnaps
  exact (.ofCores hs)

theorem State.refuseSnap_good (a0 : Instant) (s1 : State) (a2 : Snapshot) (hs1 : s1.Good q) : (State.refuseSnap a0
    s1 a2).Good q := by
  unfold State.refuseSnap
  extract_lets -underBinder +onlyGivenNames v0
  have w0 : State.Good q (v0) := by
    unfold v0
    exact (State.setSnaps_good _ _ hs1)
  clear_value v0
  extract_lets -underBinder +onlyGivenNames v20 v21
  have w21 : State.Good q (v21) := by
    unfold v21
    exact (good_ite (.ofCores w0) w0)
  clear_value v21
  exact (State.finishOpt_good _ _ _ _ _ w21)

theorem State.counted_good (s : State) (a1 : Instant) (hs : s.Good q) : (State.counted s a1).Good q := by
  unfold State.counted
  exact (State.pausedTime_good _ _ (State.footTime_good _ _ hs))

theorem State.beginSnap_good (s : State) (a1 : Snapshot) (hs : s.Good q) : (State.beginSnap s a1).Good q := by
  unfold State.beginSnap
  extract_lets -underBinder +onlyGivenNames v0
  have w0 : State.Good q (v0) := by
    unfold v0
    exact (State.counted_good _ _ hs)
  clear_value v0
  extract_lets -underBinder +onlyGivenNames v20 v21 v22
  have w22 : State.Good q (v22) := by
    unfold v22
    exact (State.setPallet_good _ _ _ w0)
  clear_value v22
  exact (State.setSnaps_good _ _ w22)

theorem execPalletTrigger_good (a0 : Nat) (a1 : Instant) (s2 : State) (hs2 : s2.Good q) : OutGood q
    (execPalletTrigger a0 a1 s2) := by
  unfold execPalletTrigger
  extract_lets -underBinder +onlyGivenNames v0
  have w0 : State.Good q (v0) := by
    unfold v0
    exact (State.tick_good _ _ hs2)
  clear_value v0
  exact (outGood_ite w0 (outGood_ite (.ofCores w0) (State.setSnaps_good _ _ w0)))

theorem State.periodicDue_good (s : State) (a1 : Instant) (hs : s.Good q) : (State.periodicDue s a1).Good q := by
  unfold State.periodicDue
  split
  · exact (good_ite (.ofCores hs) hs)
  · exact hs

theorem State.startSnap_good (a0 : Instant) (s1 : State) (a2 : Snapshot) (hs1 : s1.Good q) : (State.startSnap a0 s1
    a2).Good q := by
  unfold State.startSnap
  exact (good_ite (State.refuseSnap_good _ _ _ hs1) (State.beginSnap_good _ _ hs1))

theorem State.snapDone_good (s : State) (a1 : Snapshot) (a2 : Instant) (hs : s.Good q) : (State.snapDone s a1
    a2).Good q := by
  unfold State.snapDone
  extract_lets -underBinder +onlyGivenNames v0 v1
  have w1 : State.Good q (v1) := by
    unfold v1
    exact (State.setSnaps_good _ _ (State.setPallet_good _ _ _ hs))
  clear_value v1
  extract_lets -underBinder +onlyGivenNames v21 v22
  have w22 : State.Good q (v22) := by
    unfold v22
    exact (.ofCores w1)
  clear_value v22
  exact (State.finishOpt_good _ _ _ _ _ (State.raise_good _ _ _ _ _ _ (State.countD_good _ _ _ w22)))

theorem State.coreRuns_good (s : State) (c : AppCore) (r : Req) (x : List Byte) (t : Instant) (h : s.Good q) :
    (State.coreRuns s c r x t).Good q := State.setTcm_good _ _ _ h (h.tcm c)

theorem execPalletSnapshotStart_good (a0 : Instant) (s1 : State) (hs1 : s1.Good q) : OutGood q
    (execPalletSnapshotStart a0 s1) := by
  unfold execPalletSnapshotStart
  extract_lets -underBinder +onlyGivenNames v0
  have w0 : State.Good q (v0) := by
    unfold v0
    exact (State.tick_good _ _ hs1)
  clear_value v0
  extract_lets -underBinder +onlyGivenNames v20
  have w20 : State.Good q (v20) := by
    unfold v20
    exact (State.periodicDue_good _ _ w0)
  clear_value v20
  exact (good_foldl w20 fun _ _ k0 => (State.startSnap_good _ _ _ k0))

theorem execPalletDone_good (a0 : Instant) (s1 : State) (hs1 : s1.Good q) : OutGood q (execPalletDone a0 s1) := by
  unfold execPalletDone
  extract_lets -underBinder +onlyGivenNames v0
  have w0 : State.Good q (v0) := by
    unfold v0
    exact (State.tick_good _ _ hs1)
  clear_value v0
  split
  · exact w0
  · exact (State.snapDone_good _ _ _ w0)

theorem bodyAcLoad_good (c : Ctx) (s : State) (h : s.Good q) : (bodyAcLoad c s).Good q := by
  refine resGood_refuse (resGood_refuse (State.setTcm_good _ _ _ h (q.writeWords ?_ _ _)))
  split
  · exact q.nil
  · exact h.tcm _

theorem bodyAcStart_good (c : Ctx) (s : State) (h : s.Good q) : (bodyAcStart c s).Good q :=
  resGood_refuse (resGood_refuse (resGood_refuse (resGood_ite resGood_fail
    (State.setTcm_good _ _ _ h (h.tcm _)))))

theorem execAcImageVerified_good (c : AppCore) (t : Instant) (s : State) (h : s.Good q) :
    OutGood q (execAcImageVerified c t s) := by
  have h1 := State.tick_good s t h
  unfold execAcImageVerified
  extract_lets -underBinder +onlyGivenNames s1 a
  split
  · exact h1
  · extract_lets -underBinder +onlyGivenNames s2
    have h2 : s2.Good q := State.setTcm_good _ _ _ h1 (h1.tcm c)
    split
    · exact State.finish_good _ _ _ _ _ h2
    · exact outGood_ite (State.finish_good _ _ _ _ _ h2) (State.finish_good _ _ _ _ _ (State.coreRuns_good _ _ _ _
        _ h2))

theorem bodyAcStop_good (c : Ctx) (s : State) (h : s.Good q) : (bodyAcStop c s).Good q := by
  have h1 := State.stopCore_good s (coreOf c.r) .stopped c.t h
  exact resGood_refuse (resGood_refuse (State.setTcm_good _ _ _ h1 (h1.tcm _)))

theorem bodyAcStatusGet_good (a0 : Ctx) (s1 : State) (hs1 : s1.Good q) : (bodyAcStatusGet a0 s1).Good q := by
  unfold bodyAcStatusGet
  exact (resGood_refuse hs1)

theorem bodyAcPermitSet_good (c : Ctx) (s : State) (h : s.Good q) : (bodyAcPermitSet c s).Good q :=
  resGood_refuse (State.setTcm_good _ _ _ h (h.tcm _))

theorem bodyAcPermitGet_good (a0 : Ctx) (s1 : State) (hs1 : s1.Good q) : (bodyAcPermitGet a0 s1).Good q := by
  unfold bodyAcPermitGet
  extract_lets -underBinder +onlyGivenNames v0
  exact (resGood_refuse hs1)

theorem State.recheckHosts_good (s : State) (s1 : State) (hs : s.Good q) (hs1 : s1.Good q) : (State.recheckHosts s
    s1).Good q := by
  unfold State.recheckHosts
  exact (State.recheck_good _ _ _ hs (State.recheck_good _ _ _ hs hs1))

theorem bodyEvcRouteSet_good (a0 : Ctx) (s1 : State) (hs1 : s1.Good q) : (bodyEvcRouteSet a0 s1).Good q := by
  unfold bodyEvcRouteSet
  exact (resGood_refuse (resGood_refuse (State.recheckHosts_good _ _ hs1 (.ofCores hs1))))

theorem bodyEvcRouteGet_good (a0 : Ctx) (s1 : State) (hs1 : s1.Good q) : (bodyEvcRouteGet a0 s1).Good q := by
  unfold bodyEvcRouteGet
  exact (resGood_refuse hs1)

theorem bodyEvcTargetSet_good (a0 : Ctx) (s1 : State) (hs1 : s1.Good q) : (bodyEvcTargetSet a0 s1).Good q := by
  unfold bodyEvcTargetSet
  split
  · exact resGood_fail
  · exact (resGood_refuse (State.recheckHosts_good _ _ hs1 (State.setTarget_good _ _ _ hs1)))

theorem bodyEvcTargetGet_good (a0 : Ctx) (s1 : State) (hs1 : s1.Good q) : (bodyEvcTargetGet a0 s1).Good q := by
  unfold bodyEvcTargetGet
  split
  · exact resGood_fail
  · exact (resGood_refuse hs1)

theorem bodyCounterGet_good (a0 : Ctx) (s1 : State) (hs1 : s1.Good q) : (bodyCounterGet a0 s1).Good q := by
  unfold bodyCounterGet
  refine resGood_refuse ?_
  refine resGood_refuse ?_
  extract_lets -underBinder +onlyGivenNames v0
  exact hs1

theorem bodyPalletGet_good (a0 : Ctx) (s1 : State) (hs1 : s1.Good q) : (bodyPalletGet a0 s1).Good q := by
  unfold bodyPalletGet
  extract_lets -underBinder +onlyGivenNames v0
  refine resGood_refuse ?_
  refine resGood_refuse ?_
  refine resGood_refuse ?_
  extract_lets -underBinder +onlyGivenNames v1
  exact hs1

theorem bodyPalletSnapshot_good (a0 : Ctx) (s1 : State) (hs1 : s1.Good q) : (bodyPalletSnapshot a0 s1).Good q := by
  unfold bodyPalletSnapshot
  extract_lets -underBinder +onlyGivenNames v0 v1 v2 v3 v4
  refine resGood_refuse ?_
  refine resGood_ite ?_ ?_
  · exact (State.finishOpt_good _ _ _ _ _ (.ofCores hs1))
  · refine resGood_ite ?_ ?_
    · exact resGood_fail
    · refine resGood_ite ?_ ?_
      · exact resGood_fail
      · refine resGood_ite ?_ ?_
        · extract_lets -underBinder +onlyGivenNames v5
          have w5 : State.Good q (v5) := by
            unfold v5
            exact (State.finishOpt_good _ _ _ _ _ hs1)
          clear_value v5
          exact (.ofCores w5)
        · exact (State.setSnaps_good _ _ hs1)

theorem bodyCounterCatalogGet_good (a0 : Ctx) (s1 : State) (hs1 : s1.Good q) : (bodyCounterCatalogGet a0 s1).Good q
    := by
  unfold bodyCounterCatalogGet
  exact (resGood_refuse (resGood_refuse hs1))

theorem State.setCoreRole_good (s : State) (a1 : Nat) (a2 : CoreRole) (hs : s.Good q) : (State.setCoreRole s a1
    a2).Good q := by
  unfold State.setCoreRole
  exact (good_ite (.of hs) (.of hs))

theorem State.restartCore_good (s : State) (a1 : Nat) (a2 : Instant) (hs : s.Good q) : (State.restartCore s a1
    a2).Good q := by
  unfold State.restartCore
  refine good_ite ?_ ?_
  · exact (State.setCoreRole_good _ _ _ hs)
  · extract_lets -underBinder +onlyGivenNames v0
    have w0 : State.Good q (v0) := by
      unfold v0
      exact (State.setCoreRole_good _ _ _ hs)
    clear_value v0
    exact (good_ite (.of w0) (.of w0))

theorem State.replayJournal_good (s : State) (a1 : Instant) (hs : s.Good q) : (State.replayJournal s a1).Good q :=
    by
  unfold State.replayJournal
  extract_lets -underBinder +onlyGivenNames v0 v1
  have w1 : State.Good q (v1) := by
    unfold v1
    exact (good_foldl hs fun _ _ k0 => (State.replyTo_good _ _ _ _ _ _ _ k0))
  clear_value v1
  exact (.ofHost w1)

theorem State.dropService_good (s : State) (a1 : Nat) (hs : s.Good q) : (State.dropService s a1).Good q := by
  unfold State.dropService
  extract_lets -underBinder +onlyGivenNames v0
  exact (State.setTarget_good _ _ _ hs)

theorem State.setFooting_good (s : State) (a1 : Instant) (a2 : Instant) (a3 : Bool) (a4 : List Nat) (hs : s.Good q) :
    (State.setFooting s a1 a2 a3 a4).Good q := by
  unfold State.setFooting
  extract_lets -underBinder +onlyGivenNames v0
  have w0 : State.Good q (v0) := by
    unfold v0
    exact (State.stage_good _ _ hs)
  clear_value v0
  exact (good_ite (State.applyDue_good _ _ _ w0) w0)

theorem State.withdrawExit_good (s : State) (a1 : Instant) (hs : s.Good q) : (State.withdrawExit s a1).Good q := by
  unfold State.withdrawExit
  extract_lets -underBinder +onlyGivenNames v0 v1 v2
  have w2 : State.Good q (v2) := by
    unfold v2
    exact (.of hs)
  clear_value v2
  exact (State.finishOpt_good _ _ _ _ _ w2)

theorem State.abortSleep_good (s : State) (a1 : Instant) (hs : s.Good q) : (State.abortSleep s a1).Good q := by
  unfold State.abortSleep
  extract_lets -underBinder +onlyGivenNames v0 v1 v2
  have w2 : State.Good q (v2) := by
    unfold v2
    exact (good_foldl (.ofPwr hs) fun _ _ k0 => (State.finish_good _ _ _ _ _ k0))
  clear_value v2
  extract_lets -underBinder +onlyGivenNames v22 v23 v24
  have w24 : State.Good q (v24) := by
    unfold v24
    exact (.of w2)
  clear_value v24
  split
  · exact w24
  · extract_lets -underBinder +onlyGivenNames v44
    extract_lets -underBinder +onlyGivenNames v45
    have w45 : State.Good q (v45) := by
      unfold v45
      exact (State.finish_good _ _ _ _ _ (.ofPwr w24))
    clear_value v45
    extract_lets -underBinder +onlyGivenNames v65
    have w65 : State.Good q (v65) := by
      unfold v65
      exact (good_foldl w45 fun _ _ k0 => (State.setModel_good _ _ _ k0))
    clear_value v65
    exact (State.stagePortOff_good _ _ _ _ _ w65)

theorem State.detectCause_good (s : State) (a1 : Nat) (a2 : Instant) (hs : s.Good q) : (State.detectCause s a1
    a2).Good q := by
  unfold State.detectCause
  extract_lets -underBinder +onlyGivenNames v0 v1
  have w1 : State.Good q (v1) := by
    unfold v1
    exact (State.abortSleep_good _ _ hs)
  clear_value v1
  extract_lets -underBinder +onlyGivenNames v21
  have w21 : State.Good q (v21) := by
    unfold v21
    exact (.of w1)
  clear_value v21
  extract_lets -underBinder +onlyGivenNames v41
  exact (good_ite (State.setFooting_good _ _ _ _ _ (.of w21)) (good_ite (State.withdrawExit_good _ _ (.of w21))
      w21))

theorem State.withdrawFlushes_good (s : State) (a1 : Instant) (hs : s.Good q) : (State.withdrawFlushes s a1).Good q
    := by
  unfold State.withdrawFlushes
  exact (good_foldl hs fun _ _ k0 => (good_ite k0 (State.flushEnd_good _ _ _ _ k0)))

theorem State.interpFault_good (s : State) (a1 : Nat) (a2 : Instant) (hs : s.Good q) : (State.interpFault s a1
    a2).Good q := by
  unfold State.interpFault
  split
  · exact hs
  · extract_lets -underBinder +onlyGivenNames v0
    have w0 : State.Good q (v0) := by
      unfold v0
      exact (State.raise_good _ _ _ _ _ _ hs)
    clear_value v0
    extract_lets -underBinder +onlyGivenNames v20
    have w20 : State.Good q (v20) := by
      unfold v20
      exact (State.dropService_good _ _ (State.restartCore_good _ _ _ (good_ite (State.withdrawFlushes_good _ _ w0)
          w0)))
    clear_value v20
    extract_lets -underBinder +onlyGivenNames v40
    split
    · extract_lets -underBinder +onlyGivenNames v41
      have w41 : State.Good q (v41) := by
        unfold v41
        exact (State.setCoreRole_good _ _ _ w20)
      clear_value v41
      exact (.ofHost w41)
    · exact (State.detectCause_good _ _ _ (.ofHost w20))

theorem State.footRemove_good (s : State) (a1 : Instant) (hs : s.Good q) : (State.footRemove s a1).Good q := by
  unfold State.footRemove
  refine good_foldl ?_ fun z0 y0 h0 => ?_
  · exact hs
  · extract_lets -underBinder +onlyGivenNames v1
    extract_lets -underBinder +onlyGivenNames v2 v3
    refine good_foldl ?_ fun z4 y4 h4 => ?_
    · exact h0
    · extract_lets -underBinder +onlyGivenNames v5
      have w5 : State.Good q (v5) := by
        unfold v5
        exact (State.countQ_good _ _ _ _ _ (State.removeCopy_good _ _ _ _ _ h4))
      clear_value v5
      extract_lets -underBinder +onlyGivenNames v25
      split
      · exact (good_ite (State.setModel_good _ _ _ w5) w5)
      · exact w5

theorem State.footLearn_good (s : State) (hs : s.Good q) : (State.footLearn s).Good q := by
  unfold State.footLearn
  extract_lets -underBinder +onlyGivenNames v0 v1 v2
  have w2 : State.Good q (v2) := by
    unfold v2
    exact (.of hs)
  clear_value v2
  exact (good_ite w2 (State.countD_good _ _ _ w2))

theorem State.footQuad_good (a0 : Instant) (a1 : Instant) (s2 : State) (a3 : Nat) (hs2 : s2.Good q) : (State.footQuad
    a0 a1 s2 a3).Good q := by
  unfold State.footQuad
  extract_lets -underBinder +onlyGivenNames v0
  refine good_ite ?_ ?_
  · exact hs2
  · extract_lets -underBinder +onlyGivenNames v1
    extract_lets -underBinder +onlyGivenNames v2
    have w2 : State.Good q (v2) := by
      unfold v2
      refine good_foldl ?_ fun z3 y3 h3 => ?_
      · exact hs2
      · extract_lets -underBinder +onlyGivenNames v4
        have w4 : State.Good q (v4) := by
          unfold v4
          exact (State.toDetect_good _ _ _ _ h3)
        clear_value v4
        exact (State.setLane_good _ _ _ w4)
    clear_value v2
    extract_lets -underBinder +onlyGivenNames v22
    have w22 : State.Good q (v22) := by
      unfold v22
      exact (State.stage_good _ _ w2)
    clear_value v22
    extract_lets -underBinder +onlyGivenNames v42
    have w42 : State.Good q (v42) := by
      unfold v42
      exact (good_ite (State.applyDue_good _ _ _ w22) w22)
    clear_value v42
    extract_lets -underBinder +onlyGivenNames v62 v63
    have w63 : State.Good q (v63) := by
      unfold v63
      exact (State.setQuad_good _ _ _ w42)
    clear_value v63
    extract_lets -underBinder +onlyGivenNames v83
    have w83 : State.Good q (v83) := by
      unfold v83
      exact (State.finishOpt_good _ _ _ _ _ w63)
    clear_value v83
    exact (good_ite (.of w83) w83)

theorem State.holdCore_good (a0 : Instant) (s1 : State) (a2 : AppCore) (hs1 : s1.Good q) : (State.holdCore a0 s1
    a2).Good q := by
  unfold State.holdCore
  exact (State.stopCore_good _ _ _ _ hs1)

theorem State.footEnter_good (s : State) (a1 : Instant) (a2 : Instant) (hs : s.Good q) : (State.footEnter s a1
    a2).Good q := by
  unfold State.footEnter
  extract_lets -underBinder +onlyGivenNames v0
  have w0 : State.Good q (v0) := by
    unfold v0
    exact (State.egressDue_good _ _ _ (State.abortSleep_good _ _ (good_ite (State.withdrawExit_good _ _ hs) hs)))
  clear_value v0
  extract_lets -underBinder +onlyGivenNames v20 v21
  have w21 : State.Good q (v21) := by
    unfold v21
    exact (.of w0)
  clear_value v21
  extract_lets -underBinder +onlyGivenNames v41
  have w41 : State.Good q (v41) := by
    unfold v41
    exact (State.tioFooting_good _ _ (State.footLearn_good _ (State.footRemove_good _ _ w21)))
  clear_value v41
  extract_lets -underBinder +onlyGivenNames v61
  have w61 : State.Good q (v61) := by
    unfold v61
    exact (State.holdCore_good _ _ _ (State.holdCore_good _ _ _ w41))
  clear_value v61
  extract_lets -underBinder +onlyGivenNames v81
  have w81 : State.Good q (v81) := by
    unfold v81
    exact (good_foldl w61 fun _ _ k0 => (State.footQuad_good _ _ _ _ k0))
  clear_value v81
  exact (State.raise_good _ _ _ _ _ _ (State.countD_good _ _ _ w81))

theorem State.footLeave_good (s : State) (a1 : Instant) (a2 : Option Nat) (a3 : Instant) (hs : s.Good q) :
    (State.footLeave s a1 a2 a3).Good q := by
  unfold State.footLeave
  extract_lets -underBinder +onlyGivenNames v0 v1
  have w1 : State.Good q (v1) := by
    unfold v1
    exact (good_foldl hs fun _ _ k0 => (good_ite (State.powerQuad_good _ _ _ k0) k0))
  clear_value v1
  extract_lets -underBinder +onlyGivenNames v21 v22
  have w22 : State.Good q (v22) := by
    unfold v22
    exact (.of w1)
  clear_value v22
  exact (State.setFooting_good _ _ _ _ _ w22)

theorem State.footAuto_good (s : State) (a1 : Instant) (hs : s.Good q) : (State.footAuto s a1).Good q := by
  unfold State.footAuto
  exact (good_ite (State.footLeave_good _ _ _ _ hs) hs)

theorem State.footCfgDue_good (s : State) (a1 : Instant) (hs : s.Good q) : (State.footCfgDue s a1).Good q := by
  unfold State.footCfgDue
  extract_lets -underBinder +onlyGivenNames v0
  exact (good_foldl hs fun _ _ k0 => (State.finish_good _ _ _ _ _ (.of k0)))

theorem execHeartbeatTimeout_good (a0 : Instant) (s1 : State) (hs1 : s1.Good q) : OutGood q (execHeartbeatTimeout
    a0 s1) := by
  unfold execHeartbeatTimeout
  exact (State.firmwareFailure_good _ (State.interpFault_good _ _ _ (State.tick_good _ _ hs1)))

theorem execInterpreterFault_good (a0 : Nat) (a1 : Instant) (s2 : State) (hs2 : s2.Good q) : OutGood q
    (execInterpreterFault a0 a1 s2) := by
  unfold execInterpreterFault
  extract_lets -underBinder +onlyGivenNames v0
  have w0 : State.Good q (v0) := by
    unfold v0
    exact (State.tick_good _ _ hs2)
  clear_value v0
  exact (outGood_ite w0 (State.firmwareFailure_good _ (State.interpFault_good _ _ _ w0)))

theorem execStandbyFault_good (a0 : Nat) (a1 : Instant) (s2 : State) (hs2 : s2.Good q) : OutGood q (execStandbyFault
    a0 a1 s2) := by
  unfold execStandbyFault
  extract_lets -underBinder +onlyGivenNames v0
  have w0 : State.Good q (v0) := by
    unfold v0
    exact (State.tick_good _ _ hs2)
  clear_value v0
  split
  · exact w0
  · refine outGood_ite ?_ ?_
    · exact w0
    · extract_lets -underBinder +onlyGivenNames v20
      have w20 : State.Good q (v20) := by
        unfold v20
        exact (State.restartCore_good _ _ _ (State.raise_good _ _ _ _ _ _ w0))
      clear_value v20
      exact (State.firmwareFailure_good _ (good_ite (State.withdrawFlushes_good _ _ w20) w20))

theorem execCoreTakeover_good (a0 : Instant) (s1 : State) (hs1 : s1.Good q) : OutGood q (execCoreTakeover a0 s1) :=
    by
  unfold execCoreTakeover
  extract_lets -underBinder +onlyGivenNames v0
  have w0 : State.Good q (v0) := by
    unfold v0
    exact (State.tick_good _ _ hs1)
  clear_value v0
  split
  · exact w0
  · extract_lets -underBinder +onlyGivenNames v20
    have w20 : State.Good q (v20) := by
      unfold v20
      exact (State.replayJournal_good _ _ w0)
    clear_value v20
    extract_lets -underBinder +onlyGivenNames v40 v41 v42
    have w42 : State.Good q (v42) := by
      unfold v42
      exact (.ofHost w20)
    clear_value v42
    exact (State.raise_good _ _ _ _ _ _ (State.countD_good _ _ _ w42))

theorem execCoreRestartDone_good (a0 : Nat) (a1 : Bool) (a2 : Instant) (s3 : State) (hs3 : s3.Good q) : OutGood q
    (execCoreRestartDone a0 a1 a2 s3) := by
  unfold execCoreRestartDone
  extract_lets -underBinder +onlyGivenNames v0
  have w0 : State.Good q (v0) := by
    unfold v0
    exact (State.tick_good _ _ hs3)
  clear_value v0
  refine outGood_ite ?_ ?_
  · exact w0
  · refine outGood_ite ?_ ?_
    · exact (State.firmwareFailure_good _ (State.restartCore_good _ _ _ w0))
    · split
      · exact (State.setCoreRole_good _ _ _ w0)
      · extract_lets -underBinder +onlyGivenNames v20
        have w20 : State.Good q (v20) := by
          unfold v20
          exact (State.replayJournal_good _ _ (State.setCoreRole_good _ _ _ w0))
        clear_value v20
        exact (.ofHost w20)

theorem execFootingCauseDetect_good (a0 : Nat) (a1 : Instant) (s2 : State) (hs2 : s2.Good q) : OutGood q
    (execFootingCauseDetect a0 a1 s2) := by
  unfold execFootingCauseDetect
  extract_lets -underBinder +onlyGivenNames v0
  have w0 : State.Good q (v0) := by
    unfold v0
    exact (State.tick_good _ _ hs2)
  clear_value v0
  exact (outGood_ite (State.detectCause_good _ _ _ w0) w0)

theorem execFootingEntry_good (a0 : Instant) (s1 : State) (hs1 : s1.Good q) : OutGood q (execFootingEntry a0 s1) :=
    by
  unfold execFootingEntry
  extract_lets -underBinder +onlyGivenNames v0
  have w0 : State.Good q (v0) := by
    unfold v0
    exact (State.tick_good _ _ hs1)
  clear_value v0
  extract_lets -underBinder +onlyGivenNames v20 v21 v22
  have w22 : State.Good q (v22) := by
    unfold v22
    exact (good_ite w0 (.of w0))
  clear_value v22
  extract_lets -underBinder +onlyGivenNames v42 v43
  exact (outGood_ite w22 (State.footEnter_good _ _ _ w22))

theorem execBufPowerDown_good (a0 : Instant) (s1 : State) (hs1 : s1.Good q) : OutGood q (execBufPowerDown a0 s1) :=
    by
  unfold execBufPowerDown
  extract_lets -underBinder +onlyGivenNames v0
  have w0 : State.Good q (v0) := by
    unfold v0
    exact (State.tick_good _ _ hs1)
  clear_value v0
  exact (outGood_ite (.of w0) w0)

theorem execFootingCauseClear_good (a0 : Nat) (a1 : Instant) (s2 : State) (hs2 : s2.Good q) : OutGood q
    (execFootingCauseClear a0 a1 s2) := by
  unfold execFootingCauseClear
  extract_lets -underBinder +onlyGivenNames v0
  have w0 : State.Good q (v0) := by
    unfold v0
    exact (State.footCfgDue_good _ _ (State.tick_good _ _ hs2))
  clear_value v0
  exact (outGood_ite (State.footAuto_good _ _ (.of w0)) w0)

theorem State.footExit_good (s : State) (x t : Instant) (h : s.Good q) : (State.footExit s x t).Good q := by
  unfold State.footExit
  extract_lets -underBinder +onlyGivenNames s2 hit free s3
  have h2 : s2.Good q := State.footTime_good _ _ (State.tioResume_good _ _ (State.egressDue_good _ _ _ h))
  clear_value s2
  have hf : ∀ z c, State.Good q z → (free z c).Good q := fun z c hz => good_ite (State.setTcm_good _ _ _ hz (hz.tcm
      c)) hz
  have h3 : s3.Good q := hf _ _ (hf _ _ h2)
  clear_value s3
  exact State.finishOpt_good _ _ _ _ _ (State.raise_good _ _ _ _ _ _ (.of h3))

theorem execFootingExitApply_good (a0 : Instant) (s1 : State) (hs1 : s1.Good q) : OutGood q (execFootingExitApply
    a0 s1) := by
  unfold execFootingExitApply
  extract_lets -underBinder +onlyGivenNames v0
  have w0 : State.Good q (v0) := by
    unfold v0
    exact (State.tick_good _ _ hs1)
  clear_value v0
  split
  · exact w0
  · exact (outGood_ite w0 (State.footExit_good _ _ _ w0))

theorem bodyBondStatusGet_good (a0 : Ctx) (s1 : State) (hs1 : s1.Good q) : (bodyBondStatusGet a0 s1).Good q := by
  unfold bodyBondStatusGet
  exact hs1

theorem footNow_good (s : State) (a1 : Instant) (hs : s.Good q) : (footNow s a1).Good q := by
  unfold footNow
  extract_lets -underBinder +onlyGivenNames v0 v1
  have w1 : State.Good q (v1) := by
    unfold v1
    exact (.of hs)
  clear_value v1
  exact (State.footEnter_good _ _ _ (State.setFooting_good _ _ _ _ _ w1))

theorem bodyFootingEnter_good (a0 : Ctx) (s1 : State) (hs1 : s1.Good q) : (bodyFootingEnter a0 s1).Good q := by
  unfold bodyFootingEnter
  refine resGood_refuse ?_
  split
  · exact (resGood_ite resGood_fail (State.setFooting_good _ _ _ _ _ (.of hs1)))
  · exact (footNow_good _ _ hs1)

theorem bodyFootingExit_good (a0 : Ctx) (s1 : State) (hs1 : s1.Good q) : (bodyFootingExit a0 s1).Good q := by
  unfold bodyFootingExit
  extract_lets -underBinder +onlyGivenNames v0
  have w0 : State.Good q (v0) := by
    unfold v0
    exact (State.footCfgDue_good _ _ hs1)
  clear_value v0
  refine resGood_refuse ?_
  split
  · exact (resGood_ite resGood_fail (State.footLeave_good _ _ _ _ w0))
  · exact (State.footLeave_good _ _ _ _ w0)

theorem bodyFootingCfgSet_good (a0 : Ctx) (s1 : State) (hs1 : s1.Good q) : (bodyFootingCfgSet a0 s1).Good q := by
  unfold bodyFootingCfgSet
  extract_lets -underBinder +onlyGivenNames v0 v1
  refine resGood_refuse ?_
  split
  · exact (resGood_ite resGood_fail (.of hs1))
  · exact (.of hs1)

theorem bodyFootingCfgGet_good (a0 : Ctx) (s1 : State) (hs1 : s1.Good q) : (bodyFootingCfgGet a0 s1).Good q := by
  unfold bodyFootingCfgGet
  extract_lets -underBinder +onlyGivenNames v0
  exact hs1

theorem State.writeDirectory_good (s : State) (a b : Bool) (h : s.Good q) : (State.writeDirectory s a b).Good q :=
    by
  obtain ⟨p, r, c0, c1, fa, fb, d0, d1⟩ := h
  unfold State.writeDirectory
  extract_lets -underBinder +onlyGivenNames f d bs f1
  cases hz : s.dirCopy == some 0
  · exact ⟨p, r, c0, c1, by simpa [f1, hz] using fa, by simpa [f1, hz] using fb,
      by simpa [f1, hz] using q.writeN d0 0 bs, by simpa [f1, hz] using d1⟩
  · exact ⟨p, r, c0, c1, by simpa [f1, hz] using fa, by simpa [f1, hz] using fb,
      by simpa [f1, hz] using d0, by simpa [f1, hz] using q.writeN d1 0 bs⟩

theorem State.bootQuads_good (s : State) (a1 : Nat) (hs : s.Good q) : (State.bootQuads s a1).Good q := by
  unfold State.bootQuads
  extract_lets -underBinder +onlyGivenNames v0
  have w0 : ∀ b0_0 b0_1, State.Good q b0_0 → State.Good q (v0 b0_0 b0_1) := by
    intro b0_0 b0_1 hb0_0
    unfold v0
    dsimp only
    exact (good_foldl (good_ite (good_ite hb0_0 (State.powerQuad_good _ _ _ hb0_0)) (State.setQuad_good _ _ _
        hb0_0)) fun _ _ k0 => (.of k0))
  clear_value v0
  exact (good_foldl hs fun _ _ k0 => (w0 _ _ k0))

theorem State.runImage_good (s : State) (a1 : State.ImgRead) (a2 : Nat) (a3 : Bool) (hs : s.Good q) : (State.runImage
    s a1 a2 a3).Good q := by
  unfold State.runImage
  extract_lets -underBinder +onlyGivenNames v0 v1
  exact (State.bootQuads_good _ _ (.ofPwr hs))

theorem execColdReset_good (a0 : Nat) (a1 : Nat) (a2 : Bool) (a3 : Instant) (s4 : State) (hs4 : s4.Good q) : OutGood q
    (execColdReset a0 a1 a2 a3 s4) := by
  unfold execColdReset
  extract_lets -underBinder +onlyGivenNames v0
  have w0 : State.Good q (v0) := by
    unfold v0
    exact (State.tick_good _ _ hs4)
  clear_value v0
  refine outGood_ite ?_ ?_
  · exact (State.coldReset_good _ _ _ _ w0)
  · refine outGood_ite ?_ ?_
    · split
      · exact (State.coldReset_good _ _ _ _ (State.endCommand_good _ _ _ _ _ w0))
      · exact w0
    · exact w0

theorem execWarmReset_good (a0 : Nat) (a1 : Instant) (s2 : State) (hs2 : s2.Good q) : OutGood q (execWarmReset a0 a1
    s2) := by
  unfold execWarmReset
  extract_lets -underBinder +onlyGivenNames v0
  have w0 : State.Good q (v0) := by
    unfold v0
    exact (State.tick_good _ _ hs2)
  clear_value v0
  refine outGood_ite ?_ ?_
  · exact (State.warmReset_good _ _ w0)
  · refine outGood_ite ?_ ?_
    · split
      · exact (State.warmReset_good _ _ (State.endCommand_good _ _ _ _ _ w0))
      · exact w0
    · exact (outGood_ite (State.firmwareFailure_good _ w0) w0)

theorem State.released_good (s : State) (hs : s.Good q) : (State.released s).Good q := by
  unfold State.released
  extract_lets -underBinder +onlyGivenNames v0 v1
  have w1 : State.Good q (v1) := by
    unfold v1
    exact (.ofPwr hs)
  refine good_ite ?_ ?_
  · exact (.ofPwr w1)
  · refine good_ite ?_ ?_
    · exact (.ofPwr w1)
    · split
      · extract_lets -underBinder +onlyGivenNames v21
        exact (good_ite (State.bootQuads_good _ _ w1) w1)
      · exact w1

theorem State.forwards_good (s : State) (a1 : Instant) (a2 : Instant) (hs : s.Good q) : (State.forwards s a1
    a2).Good q := by
  unfold State.forwards
  extract_lets -underBinder +onlyGivenNames v0
  have w0 : ∀ b0_0 b0_1, State.Good q b0_0 → State.Good q (v0 b0_0 b0_1) := by
    intro b0_0 b0_1 hb0_0
    unfold v0
    exact (good_foldl hb0_0 fun _ _ k0 => (State.startSource_good _ _ _ _ k0))
  clear_value v0
  extract_lets -underBinder +onlyGivenNames v20
  have w20 : State.Good q (v20) := by
    unfold v20
    exact (good_foldl (State.applyDue_good _ _ _ hs) fun _ _ k0 => (w0 _ _ k0))
  clear_value v20
  extract_lets -underBinder +onlyGivenNames v40 v41
  have w41 : State.Good q (v41) := by
    unfold v41
    exact (.of w20)
  clear_value v41
  refine good_ite ?_ ?_
  · exact w41
  · extract_lets -underBinder +onlyGivenNames v61
    exact (.ofPwr w41)

theorem State.slotReason_good (s : State) (a1 : Bool) (a2 : Nat) (hs : s.Good q) : (State.slotReason s a1 a2).Good q
    := by
  unfold State.slotReason
  exact (good_ite (.ofPwr hs) (.ofPwr hs))

theorem State.awaitHost_good (s : State) (hs : s.Good q) : (State.awaitHost s).Good q := by
  unfold State.awaitHost
  exact (.ofPwr hs)

theorem execResetRelease_good (a0 : Instant) (s1 : State) (hs1 : s1.Good q) : OutGood q (execResetRelease a0 s1) :=
    by
  unfold execResetRelease
  exact (outGood_ite hs1 (State.released_good _ hs1))

theorem execBootImageVerify_good (a0 : ImageSource) (a1 : Bool) (a2 : Instant) (s3 : State) (hs3 : s3.Good q) :
    OutGood q (execBootImageVerify a0 a1 a2 s3) := by
  unfold execBootImageVerify
  extract_lets -underBinder +onlyGivenNames v0
  have w0 : State.Good q (v0) := by
    unfold v0
    exact (State.tick_good _ _ hs3)
  clear_value v0
  split
  · exact w0
  · refine outGood_ite ?_ ?_
    · exact w0
    · extract_lets -underBinder +onlyGivenNames v20
      extract_lets -underBinder +onlyGivenNames v21 v22
      have w22 : State.Good q (v22) := by
        unfold v22
        exact (State.slotReason_good _ _ _ w0)
      clear_value v22
      exact (outGood_ite (State.runImage_good _ _ _ _ w22) (outGood_ite w22 (State.awaitHost_good _ w22)))

theorem execRecoveryLoad_good (a0 : HostPort) (a1 : List Byte) (a2 : Instant) (s3 : State) (hs3 : s3.Good q) :
    OutGood q (execRecoveryLoad a0 a1 a2 s3) := by
  unfold execRecoveryLoad
  extract_lets -underBinder +onlyGivenNames v0
  have w0 : State.Good q (v0) := by
    unfold v0
    exact (State.tick_good _ _ hs3)
  clear_value v0
  refine outGood_ite ?_ ?_
  · exact w0
  · extract_lets -underBinder +onlyGivenNames v20
    extract_lets -underBinder +onlyGivenNames v21 v22
    have w22 : State.Good q (v22) := by
      unfold v22
      exact (.ofPwr w0)
    clear_value v22
    exact (outGood_ite (State.runImage_good _ _ _ _ w22) (.ofPwr w22))

theorem execForwardingStart_good (a0 : Instant) (s1 : State) (hs1 : s1.Good q) : OutGood q (execForwardingStart a0
    s1) := by
  unfold execForwardingStart
  extract_lets -underBinder +onlyGivenNames v0
  have w0 : State.Good q (v0) := by
    unfold v0
    exact (State.tick_good _ _ hs1)
  clear_value v0
  split
  · exact w0
  · exact (outGood_ite w0 (State.forwards_good _ _ _ w0))

theorem State.sleepCko_good (a0 : Instant) (s1 : State) (a2 : Nat) (hs1 : s1.Good q) : (State.sleepCko a0 s1 a2).Good
    q := by
  unfold State.sleepCko
  extract_lets -underBinder +onlyGivenNames v0
  have w0 : State.Good q (v0) := by
    unfold v0
    exact (State.withdrawProfile_good _ _ _ hs1)
  clear_value v0
  extract_lets -underBinder +onlyGivenNames v20
  have w20 : State.Good q (v20) := by
    unfold v20
    exact (good_foldl w0 fun _ _ k0 => (State.finishOpt_good _ _ _ _ _ k0))
  clear_value v20
  extract_lets -underBinder +onlyGivenNames v40
  exact (State.setCko_good _ _ _ w20)

theorem State.keepersOff_good (s : State) (hs : s.Good q) : (State.keepersOff s).Good q := by
  unfold State.keepersOff
  extract_lets -underBinder +onlyGivenNames v0 v1
  exact (.of hs)

theorem State.domainsToSleep_good (s : State) (a1 : Bool) (a2 : Instant) (hs : s.Good q) : (State.domainsToSleep s
    a1 a2).Good q := by
  unfold State.domainsToSleep
  extract_lets -underBinder +onlyGivenNames v0 v1
  have w1 : State.Good q (v1) := by
    unfold v1
    split
    · exact (State.finishOpt_good _ _ _ _ _ hs)
    · exact hs
  clear_value v1
  extract_lets -underBinder +onlyGivenNames v21
  have w21 : State.Good q (v21) := by
    unfold v21
    exact (good_foldl w1 fun _ _ k0 => (State.setQuad_good _ _ _ k0))
  clear_value v21
  extract_lets -underBinder +onlyGivenNames v41 v42 v43 v44 v45 v46 v47
  have w47 : State.Good q (v47) := by
    unfold v47
    exact (.ofAll w21)
  clear_value v47
  exact (good_ite w47 (State.keepersOff_good _ w47))

theorem State.sleepStep_good (s : State) (a1 : Instant) (hs : s.Good q) : (State.sleepStep s a1).Good q := by
  unfold State.sleepStep
  split
  · exact hs
  · refine good_ite ?_ ?_
    · exact hs
    · extract_lets -underBinder +onlyGivenNames v0
      have w0 : State.Good q (v0) := by
        unfold v0
        exact (good_foldl hs fun _ _ k0 => (State.abortChan_good _ _ _ k0))
      clear_value v0
      extract_lets -underBinder +onlyGivenNames v20
      have w20 : State.Good q (v20) := by
        unfold v20
        exact (good_foldl w0 fun _ _ k0 => (State.sleepCko_good _ _ _ k0))
      clear_value v20
      extract_lets -underBinder +onlyGivenNames v40
      have w40 : State.Good q (v40) := by
        unfold v40
        exact (good_foldl w20 fun _ _ k0 => (State.setPin_good _ _ _ k0))
      clear_value v40
      exact (State.domainsToSleep_good _ _ _ (State.endCommand_good _ _ _ _ _ w40))

theorem State.powerDue_good (s : State) (t : Instant) (h : s.Good q) : (State.powerDue s t).Good q := by
  unfold State.powerDue
  extract_lets -underBinder +onlyGivenNames due
  clear_value due
  rcases due with _ | w
  · exact State.sleepStep_good _ _ h
  · dsimp only
    split
    · exact h
    · exact State.sleepStep_good _ _ (good_foldl (.ofPwr h) fun _ _ k => State.beginDrain_good _ _ _ _ _ _ k)

theorem execStagedChangeApply_good (a0 : Nat) (a1 : Instant) (a2 : Instant) (s3 : State) (hs3 : s3.Good q) : OutGood
    q (execStagedChangeApply a0 a1 a2 s3) := by
  unfold execStagedChangeApply
  extract_lets -underBinder +onlyGivenNames v0
  have w0 : State.Good q (v0) := by
    unfold v0
    exact (State.tick_good _ _ hs3)
  clear_value v0
  extract_lets -underBinder +onlyGivenNames v20 v21
  have w21 : State.Good q (v21) := by
    unfold v21
    exact (good_ite (State.egressTo_good _ _ _ w0) (State.applyUnit_good _ _ _ _ w0))
  clear_value v21
  exact (State.powerDue_good _ _ (State.footCfgDue_good _ _ (State.lanesDue_good _ _ w21)))

theorem execDisableDrainEnd_good (a0 : Nat) (a1 : Instant) (s2 : State) (hs2 : s2.Good q) : OutGood q
    (execDisableDrainEnd a0 a1 s2) := by
  unfold execDisableDrainEnd
  exact (State.powerDue_good _ _ (State.drainStep_good _ _ _ (State.lanesDue_good _ _ (State.tick_good _ _ hs2))))

theorem execModelEnd_good (a0 : Nat) (a1 : Instant) (s2 : State) (hs2 : s2.Good q) : OutGood q (execModelEnd a0 a1
    s2) := by
  unfold execModelEnd
  extract_lets -underBinder +onlyGivenNames v0
  have w0 : State.Good q (v0) := by
    unfold v0
    exact (State.tick_good _ _ hs2)
  clear_value v0
  exact (outGood_ite w0 (State.powerDue_good _ _ (State.sendPhys_good _ _ (State.parkStep_good _ _ _
      (State.drainStep_good _ _ _ (State.egressPort_good _ _ _ w0))))))

theorem execWakeTimerExpiry_good (a0 : Instant) (s1 : State) (hs1 : s1.Good q) : OutGood q (execWakeTimerExpiry a0
    s1) := by
  unfold execWakeTimerExpiry
  extract_lets -underBinder +onlyGivenNames v0
  have w0 : State.Good q (v0) := by
    unfold v0
    exact (State.tick_good _ _ hs1)
  clear_value v0
  split
  · exact (good_ite (State.wakeSource_good _ _ w0) w0)
  · exact w0

theorem execPwrWake_good (a0 : Sender) (a1 : Instant) (s2 : State) (hs2 : s2.Good q) : OutGood q (execPwrWake a0 a1
    s2) := by
  unfold execPwrWake
  exact (State.wakeSource_good _ _ (State.tick_good _ _ hs2))

theorem State.wakeUp_good (s : State) (a1 : Instant) (hs : s.Good q) : (State.wakeUp s a1).Good q := by
  unfold State.wakeUp
  extract_lets -underBinder +onlyGivenNames v0 v1 v2 v3 v4 v5
  have w5 : State.Good q (v5) := by
    unfold v5
    exact (.ofAll hs)
  clear_value v5
  extract_lets -underBinder +onlyGivenNames v25
  have w25 : State.Good q (v25) := by
    unfold v25
    exact (State.wakePins_good _ _ (State.raise_good _ _ _ _ _ _ w5))
  clear_value v25
  extract_lets -underBinder +onlyGivenNames v45
  have w45 : State.Good q (v45) := by
    unfold v45
    exact (good_foldl w25 fun _ _ k0 => (State.moduleEvent_good _ _ _ _ _ _ k0))
  clear_value v45
  extract_lets -underBinder +onlyGivenNames v65
  have w65 : State.Good q (v65) := by
    unfold v65
    exact (good_foldl w45 fun _ _ k0 => (State.raise_good _ _ _ _ _ _ k0))
  clear_value v65
  extract_lets -underBinder +onlyGivenNames v85 v86
  have w86 : State.Good q (v86) := by
    unfold v86
    exact (good_foldl w65 fun _ _ k0 => (State.setLane_good _ _ _ k0))
  clear_value v86
  extract_lets -underBinder +onlyGivenNames v106
  have w106 : State.Good q (v106) := by
    unfold v106
    exact (State.applyDue_good _ _ _ (State.stage_good _ _ w86))
  clear_value v106
  exact (good_foldl w106 fun _ _ k0 => (good_ite (State.powerQuad_good _ _ _ k0) k0))

theorem execWake_good (a0 : Bool) (a1 : Instant) (s2 : State) (hs2 : s2.Good q) : OutGood q (execWake a0 a1 s2) :=
    by
  unfold execWake
  extract_lets -underBinder +onlyGivenNames v0
  have w0 : State.Good q (v0) := by
    unfold v0
    exact (State.tick_good _ _ hs2)
  clear_value v0
  extract_lets -underBinder +onlyGivenNames v20
  have w20 : State.Good q (v20) := by
    unfold v20
    exact (good_ite (State.wakeSource_good _ _ w0) w0)
  clear_value v20
  exact (outGood_ite w20 (State.wakeUp_good _ _ w20))

theorem State.keyEvent_good (s : State) (a1 : Nat) (a2 : Nat) (a3 : Instant) (hs : s.Good q) : (State.keyEvent s a1 a2
    a3).Good q := by
  unfold State.keyEvent
  exact (State.raise_good _ _ _ _ _ _ hs)

theorem execOtpWriteDone_good (a0 : Instant) (s1 : State) (hs1 : s1.Good q) : OutGood q (execOtpWriteDone a0 s1) :=
    by
  unfold execOtpWriteDone
  extract_lets -underBinder +onlyGivenNames v0
  have w0 : State.Good q (v0) := by
    unfold v0
    exact (State.tick_good _ _ hs1)
  clear_value v0
  split
  · exact w0
  · extract_lets -underBinder +onlyGivenNames v20
    extract_lets -underBinder +onlyGivenNames v21 v22
    have w22 : State.Good q (v22) := by
      unfold v22
      exact (.ofPwr w0)
    clear_value v22
    split
    · exact (State.finish_good _ _ _ _ _ (State.keyEvent_good _ _ _ _ w22))
    · exact (State.finish_good _ _ _ _ _ (State.keyEvent_good _ _ _ _ w22))
    · exact (State.finish_good _ _ _ _ _ w22)
    · exact (State.finish_good _ _ _ _ _ w22)

theorem State.updateEvent_good (s : State) (a1 : Nat) (a2 : Nat) (a3 : Instant) (hs : s.Good q) : (State.updateEvent s
    a1 a2 a3).Good q := by
  unfold State.updateEvent
  exact (State.raise_good _ _ _ _ _ _ hs)

theorem State.setSlot_good (s : State) (b : Bool) (m : Memory) (h : s.Good q) (hm : q.mem m) :
    (State.setSlot s b m).Good q := by
  obtain ⟨p, c, d, e, f, g⟩ := h
  cases b
  exacts [⟨p, c, d, e, hm, g⟩, ⟨p, c, d, e, f, hm, g.2⟩]

theorem execFlashEraseDone_good (t : Instant) (s : State) (h : s.Good q) : OutGood q (execFlashEraseDone t s) := by
  have h1 := State.tick_good s t h
  unfold execFlashEraseDone
  extract_lets -underBinder +onlyGivenNames s1
  split
  · exact h1
  · split
    · exact h1
    · exact State.finish_good _ _ _ _ _ (.ofPwr (State.setSlot_good _ _ _ h1 q.nil))

theorem execFwUpdateTimeout_good (t : Instant) (s : State) (h : s.Good q) : OutGood q (execFwUpdateTimeout t s) :=
    by
  have h1 := State.tick_good s t h
  unfold execFwUpdateTimeout
  extract_lets -underBinder +onlyGivenNames s1
  split
  · exact h1
  · exact outGood_ite h1 (State.updateEvent_good _ _ _ _ (.ofPwr (State.setSlot_good _ _ _ h1 q.nil)))

theorem bodyPolicyGet_good (a0 : Ctx) (s1 : State) (hs1 : s1.Good q) : (bodyPolicyGet a0 s1).Good q := by
  unfold bodyPolicyGet
  exact hs1

theorem bodyPolicySet_good (a0 : Ctx) (s1 : State) (hs1 : s1.Good q) : (bodyPolicySet a0 s1).Good q := by
  unfold bodyPolicySet
  extract_lets -underBinder +onlyGivenNames v0 v1
  exact (resGood_refuse (resGood_refuse (State.raise_good _ _ _ _ _ _ (.ofPwr hs1))))

theorem bodyConfigLock_good (a0 : Ctx) (s1 : State) (hs1 : s1.Good q) : (bodyConfigLock a0 s1).Good q := by
  unfold bodyConfigLock
  extract_lets -underBinder +onlyGivenNames v0 v1 v2 v3
  refine resGood_refuse ?_
  refine resGood_refuse ?_
  extract_lets -underBinder +onlyGivenNames v4 v5
  have w5 : State.Good q (v5) := by
    unfold v5
    exact (.ofPwr hs1)
  clear_value v5
  exact (resGood_ite (.ofPwr w5) w5)

theorem bodyKeyEnrol_good (a0 : Ctx) (s1 : State) (hs1 : s1.Good q) : (bodyKeyEnrol a0 s1).Good q := by
  unfold bodyKeyEnrol
  extract_lets -underBinder +onlyGivenNames v0 v1 v2 v3
  exact (resGood_refuse (resGood_ite resGood_fail (resGood_refuse (resGood_refuse (resGood_refuse (resGood_refuse
      (.ofPwr hs1)))))))

theorem bodyKeyStatusGet_good (a0 : Ctx) (s1 : State) (hs1 : s1.Good q) : (bodyKeyStatusGet a0 s1).Good q := by
  unfold bodyKeyStatusGet
  exact hs1

theorem bodyFwUpdateBegin_good (a0 : Ctx) (s1 : State) (hs1 : s1.Good q) : (bodyFwUpdateBegin a0 s1).Good q := by
  unfold bodyFwUpdateBegin
  extract_lets -underBinder +onlyGivenNames v0 v1
  exact (resGood_refuse (resGood_refuse (resGood_refuse (State.updateEvent_good _ _ _ _ (.ofPwr hs1)))))

theorem State.fwWrite_good (s : State) (u : FwUpdate) (bs : List Byte) (n : Nat) (t : Instant) (h : s.Good q) :
    (State.fwWrite s u bs n t).Good q := by
  refine .ofPwr (State.setSlot_good s u.slotB _ h (q.writeN ?_ _ _))
  split
  exacts [h.2.2.2.2.2.1, h.2.2.2.2.1]

theorem bodyFwUpdateData_good (a0 : Ctx) (s1 : State) (hs1 : s1.Good q) : (bodyFwUpdateData a0 s1).Good q := by
  unfold bodyFwUpdateData
  extract_lets -underBinder +onlyGivenNames v0 v1 v2
  split
  · exact resGood_fail
  · exact (resGood_refuse (resGood_refuse (resGood_refuse (State.fwWrite_good _ _ _ _ _ hs1))))

theorem State.touchUpdate_good (s : State) (a1 : Instant) (hs : s.Good q) : (State.touchUpdate s a1).Good q := by
  unfold State.touchUpdate
  exact (.ofPwr hs)

theorem State.fwActivate_good (s : State) (a1 : Bool) (a2 : Instant) (hs : s.Good q) : (State.fwActivate s a1
    a2).Good q := by
  unfold State.fwActivate
  extract_lets -underBinder +onlyGivenNames v0
  have w0 : State.Good q (v0) := by
    unfold v0
    exact (State.writeDirectory_good _ _ _ (State.touchUpdate_good _ _ hs))
  clear_value v0
  extract_lets -underBinder +onlyGivenNames v20 v21 v22
  have w22 : State.Good q (v22) := by
    unfold v22
    exact (good_ite (.ofPwr w0) w0)
  clear_value v22
  exact (State.updateEvent_good _ _ _ _ w22)

theorem State.fwConfirm_good (s : State) (a1 : Instant) (hs : s.Good q) : (State.fwConfirm s a1).Good q := by
  unfold State.fwConfirm
  refine good_ite ?_ ?_
  · extract_lets -underBinder +onlyGivenNames v0
    have w0 : State.Good q (v0) := by
      unfold v0
      exact (State.writeDirectory_good _ _ _ (State.touchUpdate_good _ _ hs))
    clear_value v0
    exact (.ofPwr w0)
  · exact (State.touchUpdate_good _ _ hs)

theorem bodyFwUpdateCommit_good (a0 : Ctx) (s1 : State) (hs1 : s1.Good q) : (bodyFwUpdateCommit a0 s1).Good q := by
  unfold bodyFwUpdateCommit
  extract_lets -underBinder +onlyGivenNames v0 v1 v2 v3
  refine resGood_refuse ?_
  refine resGood_refuse ?_
  refine resGood_ite ?_ ?_
  · exact (resFail fun _ k0 => (State.touchUpdate_good _ _ k0))
  · refine resGood_ite ?_ ?_
    · exact (State.touchUpdate_good _ _ hs1)
    · refine resGood_ite ?_ ?_
      · exact (State.fwActivate_good _ _ _ hs1)
      · refine resGood_ite ?_ ?_
        · exact (State.fwConfirm_good _ _ hs1)
        · refine resGood_ite ?_ ?_
          · exact resGood_fail
          · extract_lets -underBinder +onlyGivenNames v4
            have w4 : State.Good q (v4) := by
              unfold v4
              exact (State.touchUpdate_good _ _ hs1)
            clear_value v4
            exact (.ofPwr w4)

theorem bodyPowerStatusGet_good (a0 : Ctx) (s1 : State) (hs1 : s1.Good q) : (bodyPowerStatusGet a0 s1).Good q := by
  unfold bodyPowerStatusGet
  exact hs1

theorem bodyWakeCfgSet_good (a0 : Ctx) (s1 : State) (hs1 : s1.Good q) : (bodyWakeCfgSet a0 s1).Good q := by
  unfold bodyWakeCfgSet
  extract_lets -underBinder +onlyGivenNames v0
  exact (resGood_refuse (.ofPwr hs1))

theorem bodyWakeCfgGet_good (a0 : Ctx) (s1 : State) (hs1 : s1.Good q) : (bodyWakeCfgGet a0 s1).Good q := by
  unfold bodyWakeCfgGet
  exact hs1

theorem State.sleepAt_good (s : State) (a1 : Bool) (a2 : Nat) (a3 : Instant) (a4 : Nat) (a5 : Instant) (hs : s.Good q)
    : (State.sleepAt s a1 a2 a3 a4 a5).Good q := by
  unfold State.sleepAt
  extract_lets -underBinder +onlyGivenNames v0 v1
  have w1 : State.Good q (v1) := by
    unfold v1
    exact (.ofPwr hs)
  clear_value v1
  exact (State.powerDue_good _ _ (State.stagePortOff_good _ _ _ _ _ w1))

theorem bodySleepEnter_good (a0 : Ctx) (s1 : State) (hs1 : s1.Good q) : (bodySleepEnter a0 s1).Good q := by
  unfold bodySleepEnter
  extract_lets -underBinder +onlyGivenNames v0 v1
  exact (resGood_refuse (resGood_refuse (resGood_ite resGood_fail (State.sleepAt_good _ _ _ _ _ _ hs1))))

theorem bodyDeviceReset_good (a0 : Ctx) (s1 : State) (hs1 : s1.Good q) : (bodyDeviceReset a0 s1).Good q := by
  unfold bodyDeviceReset
  extract_lets -underBinder +onlyGivenNames v0 v1
  exact (resGood_refuse (resGood_ite resGood_fail (.ofPwr hs1)))

theorem State.semFlag_good (s : State) (a1 : HostPort) (a2 : BitVec 5) (hs : s.Good q) : (State.semFlag s a1
    a2).Good q := by
  unfold State.semFlag
  extract_lets -underBinder +onlyGivenNames v0
  exact (State.ringDbBoth_good _ _ _ (State.setHostRegs_good _ _ _ hs))

theorem State.semRestart_good (s : State) (a1 : Instant) (hs : s.Good q) : (State.semRestart s a1).Good q := by
  unfold State.semRestart
  exact (.ofHost hs)

theorem State.semFree_good (s : State) (a1 : BitVec 5) (a2 : Instant) (hs : s.Good q) : (State.semFree s a1
    a2).Good q := by
  unfold State.semFree
  split
  · exact hs
  · extract_lets -underBinder +onlyGivenNames v0
    extract_lets -underBinder +onlyGivenNames v1 v2
    have w2 : State.Good q (v2) := by
      unfold v2
      exact (.ofHost hs)
    clear_value v2
    extract_lets -underBinder +onlyGivenNames v22
    have w22 : State.Good q (v22) := by
      unfold v22
      exact (State.semFlag_good _ _ _ (State.semFlag_good _ _ _ w2))
    clear_value v22
    exact (State.abortBatch_good _ _ _ (State.abortBatch_good _ _ _ w22))

theorem State.semExpire_good (s : State) (a1 : Instant) (hs : s.Good q) : (State.semExpire s a1).Good q := by
  unfold State.semExpire
  exact (good_ite (State.semFree_good _ _ _ hs) hs)

theorem State.semLapse_good (s : State) (a1 : Instant) (hs : s.Good q) : (State.semLapse s a1).Good q := by
  unfold State.semLapse
  exact (good_ite (State.semExpire_good _ _ hs) hs)

theorem State.semRenew_good (s : State) (a1 : HostPort) (a2 : Instant) (hs : s.Good q) : (State.semRenew s a1
    a2).Good q := by
  unfold State.semRenew
  extract_lets -underBinder +onlyGivenNames v0
  have w0 : State.Good q (v0) := by
    unfold v0
    exact (State.semLapse_good _ _ hs)
  clear_value v0
  exact (good_ite (State.semRestart_good _ _ w0) w0)

theorem State.semAcquire_good (s0 : State) (h : HostPort) (t : Instant) (hs : s0.Good q) :
    (State.semAcquire s0 h t).Good q := by
  unfold State.semAcquire
  extract_lets -underBinder +onlyGivenNames s
  have h0 : s.Good q := State.semLapse_good _ _ hs
  clear_value s
  refine good_ite (State.semRestart_good _ _ h0) ?_
  extract_lets -underBinder +onlyGivenNames s1
  have h1 : s1.Good q := State.semExpire_good _ _ h0
  clear_value s1
  cases s1.semHolder
  · exact State.semFlag_good _ _ _ (State.semRestart_good _ _ (.ofHost h1))
  · exact State.countF_good _ _ _ _ (State.semFlag_good _ _ _ h1)

theorem State.semRelease_good (s : State) (a1 : HostPort) (a2 : BitVec 5) (a3 : Instant) (hs : s.Good q) :
    (State.semRelease s a1 a2 a3).Good q := by
  unfold State.semRelease
  extract_lets -underBinder +onlyGivenNames v0
  have w0 : State.Good q (v0) := by
    unfold v0
    exact (State.semExpire_good _ _ hs)
  clear_value v0
  exact (good_ite (State.semFree_good _ _ _ w0) w0)

theorem State.semLeaseSet_good (s : State) (a1 : HostPort) (a2 : Nat) (hs : s.Good q) : (State.semLeaseSet s a1
    a2).Good q := by
  unfold State.semLeaseSet
  exact (good_ite (.ofHost hs) hs)

theorem State.mbTimeoutSet_good (s : State) (a1 : HostPort) (a2 : Nat) (hs : s.Good q) : (State.mbTimeoutSet s a1
    a2).Good q := by
  unfold State.mbTimeoutSet
  exact (good_ite (.ofHost hs) hs)

theorem State.setMbox_good (s : State) (a1 : Sender) (a2 : Nat) (a3 : MboxRegs) (hs : s.Good q) : (State.setMbox s a1
    a2 a3).Good q := by
  unfold State.setMbox
  exact (good_ite (State.setFn_good _ _ _ hs) (State.setFn_good _ _ _ hs))

theorem State.setSlotOf_good (s : State) (a1 : Nat) (a2 : Option Notice) (hs : s.Good q) : (State.setSlotOf s a1
    a2).Good q := by
  unfold State.setSlotOf
  exact (.ofHost hs)

theorem State.ringIf_good (s : State) (a1 : Sender) (a2 : Nat) (hs : s.Good q) : (State.ringIf s a1 a2).Good q := by
  unfold State.ringIf
  exact (good_ite (State.ringDb_good _ _ _ hs) hs)

theorem State.sendNotice_good (s : State) (a1 : Sender) (a2 : Nat) (a3 : Nat) (a4 : Instant) (hs : s.Good q) :
    (State.sendNotice s a1 a2 a3 a4).Good q := by
  unfold State.sendNotice
  extract_lets -underBinder +onlyGivenNames v0
  have w0 : State.Good q (v0) := by
    unfold v0
    split
    · exact (State.semRenew_good _ _ _ (State.wakeSource_good _ _ hs))
    · exact hs
  clear_value v0
  extract_lets -underBinder +onlyGivenNames v20 v21
  refine good_ite ?_ ?_
  · exact (State.ringIf_good _ _ _ (State.setMbox_good _ _ _ _ w0))
  · refine good_ite ?_ ?_
    · exact (State.ringIf_good _ _ _ (State.setMbox_good _ _ _ _ w0))
    · extract_lets -underBinder +onlyGivenNames v22
      extract_lets -underBinder +onlyGivenNames v23
      have w23 : State.Good q (v23) := by
        unfold v23
        split
        · exact w0
        · extract_lets -underBinder +onlyGivenNames v24
          extract_lets -underBinder +onlyGivenNames v25 v26
          have w26 : State.Good q (v26) := by
            unfold v26
            exact (State.setMbox_good _ _ _ _ w0)
          clear_value v26
          exact (State.ringIf_good _ _ _ (State.countF_good _ _ _ _ w26))
      clear_value v23
      exact (State.setSlotOf_good _ _ _ w23)

theorem State.timeoutNotice_good (s : State) (a1 : Nat) (a2 : Notice) (hs : s.Good q) : (State.timeoutNotice s a1
    a2).Good q := by
  unfold State.timeoutNotice
  extract_lets -underBinder +onlyGivenNames v0 v1
  have w1 : State.Good q (v1) := by
    unfold v1
    exact (State.setSlotOf_good _ _ _ hs)
  clear_value v1
  extract_lets -underBinder +onlyGivenNames v21 v22
  have w22 : State.Good q (v22) := by
    unfold v22
    exact (State.setMbox_good _ _ _ _ w1)
  clear_value v22
  exact (State.ringIf_good _ _ _ (State.countF_good _ _ _ _ w22))

theorem State.ringEnable_good (s : State) (a1 : Sender) (a2 : Nat) (hs : s.Good q) : (State.ringEnable s a1 a2).Good
    q := by
  unfold State.ringEnable
  extract_lets -underBinder +onlyGivenNames v0 v1
  exact (good_ite hs (State.setFn_good _ _ _ hs))

theorem State.ringDisable_good (s : State) (a1 : Sender) (hs : s.Good q) : (State.ringDisable s a1).Good q := by
  unfold State.ringDisable
  extract_lets -underBinder +onlyGivenNames v0
  exact (good_ite hs (good_ite (State.setFn_good _ _ _ hs) (State.setFn_good _ _ _ hs)))

theorem State.ringRead_good (s : State) (a1 : Sender) (a2 : Nat) (hs : s.Good q) : (State.ringRead s a1 a2).Good q :=
    by
  unfold State.ringRead
  extract_lets -underBinder +onlyGivenNames v0
  exact (State.drainWaiting_good _ _ _ (State.setFn_good _ _ _ hs))

theorem State.dbRing_good (s : State) (a1 : Sender) (a2 : Word) (hs : s.Good q) : (State.dbRing s a1 a2).Good q :=
    by
  unfold State.dbRing
  exact (good_foldl hs fun _ _ k0 => (good_ite (State.ringDb_good _ _ _ k0) k0))

theorem State.dbMaskSet_good (s : State) (a1 : Sender) (a2 : Word) (hs : s.Good q) : (State.dbMaskSet s a1 a2).Good
    q := by
  unfold State.dbMaskSet
  extract_lets -underBinder +onlyGivenNames v0 v1
  exact (good_foldl (State.setFn_good _ _ _ hs) fun _ _ k0 => (good_ite (State.msixSend_good _ _ _ k0) k0))

theorem State.dropUncommitted_good (s : State) (a1 : Sender) (hs : s.Good q) : (State.dropUncommitted s a1).Good q
    := by
  unfold State.dropUncommitted
  extract_lets -underBinder +onlyGivenNames v0
  have w0 : State.Good q (v0) := by
    unfold v0
    exact (State.setBatch_good _ _ _ hs)
  clear_value v0
  extract_lets -underBinder +onlyGivenNames v20
  exact (good_foldl w0 fun _ _ k0 => (State.closeJrec_good _ _ k0))

theorem State.fnReset_good (s : State) (a1 : Sender) (hs : s.Good q) : (State.fnReset s a1).Good q := by
  unfold State.fnReset
  extract_lets -underBinder +onlyGivenNames v0 v1
  have w1 : State.Good q (v1) := by
    unfold v1
    exact (good_foldl hs fun _ _ k0 => (State.setSlotOf_good _ _ _ k0))
  clear_value v1
  extract_lets -underBinder +onlyGivenNames v21 v22
  have w22 : State.Good q (v22) := by
    unfold v22
    exact (good_ite w1 (State.countF_good _ _ _ _ w1))
  clear_value v22
  exact (State.dropUncommitted_good _ _ (State.setFn_good _ _ _ w22))

theorem State.perstEvent_good (s : State) (a1 : HostPort) (a2 : Bool) (a3 : Instant) (hs : s.Good q) :
    (State.perstEvent s a1 a2 a3).Good q := by
  unfold State.perstEvent
  extract_lets -underBinder +onlyGivenNames v0 v1
  have w1 : State.Good q (v1) := by
    unfold v1
    exact (State.wakeSource_good _ _ hs)
  clear_value v1
  exact (good_ite (.ofPwr w1) (State.raise_good _ _ _ _ _ _ w1))

theorem execSemAcquire_good (a0 : HostPort) (a1 : Instant) (s2 : State) (hs2 : s2.Good q) : OutGood q
    (execSemAcquire a0 a1 s2) := by
  unfold execSemAcquire
  extract_lets -underBinder +onlyGivenNames v0
  have w0 : State.Good q (v0) := by
    unfold v0
    exact (State.tick_good _ _ hs2)
  clear_value v0
  exact (outGood_ite w0 (State.semAcquire_good _ _ _ w0))

theorem execSemRenew_good (a0 : HostPort) (a1 : Instant) (s2 : State) (hs2 : s2.Good q) : OutGood q (execSemRenew
    a0 a1 s2) := by
  unfold execSemRenew
  exact (State.semRenew_good _ _ _ (State.tick_good _ _ hs2))

theorem execSemRelease_good (a0 : HostPort) (a1 : Instant) (s2 : State) (hs2 : s2.Good q) : OutGood q
    (execSemRelease a0 a1 s2) := by
  unfold execSemRelease
  exact (State.semRelease_good _ _ _ _ (State.tick_good _ _ hs2))

theorem execSemLeaseExpiry_good (a0 : Instant) (s1 : State) (hs1 : s1.Good q) : OutGood q (execSemLeaseExpiry a0
    s1) := by
  unfold execSemLeaseExpiry
  exact (State.semExpire_good _ _ (State.tick_good _ _ hs1))

theorem execSemLinkLost_good (a0 : HostPort) (a1 : Instant) (s2 : State) (hs2 : s2.Good q) : OutGood q
    (execSemLinkLost a0 a1 s2) := by
  unfold execSemLinkLost
  exact (State.semRelease_good _ _ _ _ (State.tick_good _ _ hs2))

theorem execSemLeaseWrite_good (a0 : HostPort) (a1 : Nat) (a2 : Instant) (s3 : State) (hs3 : s3.Good q) : OutGood q
    (execSemLeaseWrite a0 a1 a2 s3) := by
  unfold execSemLeaseWrite
  exact (State.semLeaseSet_good _ _ _ (State.tick_good _ _ hs3))

theorem execMbTimeoutWrite_good (a0 : HostPort) (a1 : Nat) (a2 : Instant) (s3 : State) (hs3 : s3.Good q) : OutGood q
    (execMbTimeoutWrite a0 a1 a2 s3) := by
  unfold execMbTimeoutWrite
  exact (State.mbTimeoutSet_good _ _ _ (State.tick_good _ _ hs3))

theorem execCmbGo_good (a0 : Sender) (a1 : Nat) (a2 : Instant) (s3 : State) (hs3 : s3.Good q) : OutGood q (execCmbGo
    a0 a1 a2 s3) := by
  unfold execCmbGo
  extract_lets -underBinder +onlyGivenNames v0
  have w0 : State.Good q (v0) := by
    unfold v0
    exact (State.tick_good _ _ hs3)
  clear_value v0
  exact (outGood_ite w0 (State.sendNotice_good _ _ _ _ _ w0))

theorem execPmbGo_good (a0 : Sender) (a1 : Nat) (a2 : Instant) (s3 : State) (hs3 : s3.Good q) : OutGood q (execPmbGo
    a0 a1 a2 s3) := by
  unfold execPmbGo
  extract_lets -underBinder +onlyGivenNames v0
  have w0 : State.Good q (v0) := by
    unfold v0
    exact (State.tick_good _ _ hs3)
  clear_value v0
  exact (outGood_ite w0 (State.sendNotice_good _ _ _ _ _ w0))

theorem execAcMailboxGo_good (a0 : AppCore) (a1 : Nat) (a2 : Instant) (s3 : State) (hs3 : s3.Good q) : OutGood q
    (execAcMailboxGo a0 a1 a2 s3) := by
  unfold execAcMailboxGo
  extract_lets -underBinder +onlyGivenNames v0
  have w0 : State.Good q (v0) := by
    unfold v0
    exact (State.tick_good _ _ hs3)
  clear_value v0
  exact (outGood_ite (State.sendNotice_good _ _ _ _ _ w0) w0)

theorem execMailboxTimeout_good (a0 : Nat) (a1 : Instant) (s2 : State) (hs2 : s2.Good q) : OutGood q
    (execMailboxTimeout a0 a1 s2) := by
  unfold execMailboxTimeout
  extract_lets -underBinder +onlyGivenNames v0
  have w0 : State.Good q (v0) := by
    unfold v0
    exact (State.tick_good _ _ hs2)
  clear_value v0
  split
  · exact w0
  · exact (outGood_ite (State.timeoutNotice_good _ _ _ w0) w0)

theorem execBatchTimeout_good (a0 : Sender) (a1 : Instant) (s2 : State) (hs2 : s2.Good q) : OutGood q
    (execBatchTimeout a0 a1 s2) := by
  unfold execBatchTimeout
  extract_lets -underBinder +onlyGivenNames v0
  have w0 : State.Good q (v0) := by
    unfold v0
    exact (State.tick_good _ _ hs2)
  clear_value v0
  split
  · exact w0
  · exact (outGood_ite (State.abortBatch_good _ _ _ w0) w0)

theorem execCommandComplete_good (a0 : Instant) (s1 : State) (hs1 : s1.Good q) : OutGood q (execCommandComplete a0
    s1) := by
  unfold execCommandComplete
  extract_lets -underBinder +onlyGivenNames v0
  have w0 : State.Good q (v0) := by
    unfold v0
    exact (State.tick_good _ _ hs1)
  clear_value v0
  split
  · exact w0
  · exact (State.endCommand_good _ _ _ _ _ w0)

theorem execRrRdWrite_good (a0 : Sender) (a1 : Nat) (a2 : Instant) (s3 : State) (hs3 : s3.Good q) : OutGood q
    (execRrRdWrite a0 a1 a2 s3) := by
  unfold execRrRdWrite
  extract_lets -underBinder +onlyGivenNames v0
  have w0 : State.Good q (v0) := by
    unfold v0
    exact (State.tick_good _ _ hs3)
  clear_value v0
  exact (outGood_ite w0 (State.ringRead_good _ _ _ w0))

theorem execRingEnable_good (a0 : Sender) (a1 : Nat) (a2 : Instant) (s3 : State) (hs3 : s3.Good q) : OutGood q
    (execRingEnable a0 a1 a2 s3) := by
  unfold execRingEnable
  extract_lets -underBinder +onlyGivenNames v0
  have w0 : State.Good q (v0) := by
    unfold v0
    exact (State.tick_good _ _ hs3)
  clear_value v0
  exact (outGood_ite w0 (State.ringEnable_good _ _ _ w0))

theorem execRingDisable_good (a0 : Sender) (a1 : Instant) (s2 : State) (hs2 : s2.Good q) : OutGood q
    (execRingDisable a0 a1 s2) := by
  unfold execRingDisable
  exact (State.ringDisable_good _ _ (State.tick_good _ _ hs2))

theorem execDbRing_good (a0 : Sender) (a1 : Word) (a2 : Instant) (s3 : State) (hs3 : s3.Good q) : OutGood q
    (execDbRing a0 a1 a2 s3) := by
  unfold execDbRing
  extract_lets -underBinder +onlyGivenNames v0
  have w0 : State.Good q (v0) := by
    unfold v0
    exact (State.tick_good _ _ hs3)
  clear_value v0
  exact (outGood_ite w0 (State.dbRing_good _ _ _ w0))

theorem execDbMaskWrite_good (a0 : Sender) (a1 : Word) (a2 : Instant) (s3 : State) (hs3 : s3.Good q) : OutGood q
    (execDbMaskWrite a0 a1 a2 s3) := by
  unfold execDbMaskWrite
  extract_lets -underBinder +onlyGivenNames v0
  have w0 : State.Good q (v0) := by
    unfold v0
    exact (State.tick_good _ _ hs3)
  clear_value v0
  exact (outGood_ite w0 (State.dbMaskSet_good _ _ _ w0))

theorem execFunctionLevelReset_good (a0 : Sender) (a1 : Instant) (s2 : State) (hs2 : s2.Good q) : OutGood q
    (execFunctionLevelReset a0 a1 s2) := by
  unfold execFunctionLevelReset
  extract_lets -underBinder +onlyGivenNames v0
  have w0 : State.Good q (v0) := by
    unfold v0
    exact (State.tick_good _ _ hs2)
  clear_value v0
  exact (outGood_ite w0 (State.fnReset_good _ _ w0))

theorem execHostReset_good (a0 : HostPort) (a1 : Instant) (s2 : State) (hs2 : s2.Good q) : OutGood q (execHostReset
    a0 a1 s2) := by
  unfold execHostReset
  extract_lets -underBinder +onlyGivenNames v0
  have w0 : State.Good q (v0) := by
    unfold v0
    exact (State.tick_good _ _ hs2)
  clear_value v0
  extract_lets -underBinder +onlyGivenNames v20
  refine outGood_ite ?_ ?_
  · exact w0
  · extract_lets -underBinder +onlyGivenNames v21
    have w21 : State.Good q (v21) := by
      unfold v21
      exact (State.dropUncommitted_good _ _ (State.dropUncommitted_good _ _ w0))
    clear_value v21
    extract_lets -underBinder +onlyGivenNames v41
    have w41 : State.Good q (v41) := by
      unfold v41
      exact (State.fnReset_good _ _ (State.fnReset_good _ _ (State.semRelease_good _ _ _ _ w21)))
    clear_value v41
    exact (State.perstEvent_good _ _ _ _ (State.setHostRegs_good _ _ _ w41))

theorem execHostResetRelease_good (a0 : HostPort) (a1 : Instant) (s2 : State) (hs2 : s2.Good q) : OutGood q
    (execHostResetRelease a0 a1 s2) := by
  unfold execHostResetRelease
  extract_lets -underBinder +onlyGivenNames v0
  have w0 : State.Good q (v0) := by
    unfold v0
    exact (State.tick_good _ _ hs2)
  clear_value v0
  extract_lets -underBinder +onlyGivenNames v20
  exact (outGood_ite w0 (State.perstEvent_good _ _ _ _ (State.setHostRegs_good _ _ _ w0)))

theorem bodyNop_good (a0 : Ctx) (s1 : State) (hs1 : s1.Good q) : (bodyNop a0 s1).Good q := by
  unfold bodyNop
  exact hs1

theorem bodySysInfoGet_good (a0 : Ctx) (s1 : State) (hs1 : s1.Good q) : (bodySysInfoGet a0 s1).Good q := by
  unfold bodySysInfoGet
  exact hs1

theorem bodyJournalGet_good (a0 : Ctx) (s1 : State) (hs1 : s1.Good q) : (bodyJournalGet a0 s1).Good q := by
  unfold bodyJournalGet
  extract_lets -underBinder +onlyGivenNames v0 v1
  refine resGood_refuse ?_
  extract_lets -underBinder +onlyGivenNames v2
  exact hs1

theorem State.stateOf_good (o : Host.Outcome State Fault Refusal) (s : State) (k : OutGood q o) (h : s.Good q) :
    (State.stateOf o s).Good q := by
  cases o
  exacts [k, h, h]

theorem State.regReadEffect_good (s : State) (a1 : Sender) (a2 : Nat) (a3 : Instant) (hs : s.Good q) :
    (State.regReadEffect s a1 a2 a3).Good q := by
  unfold State.regReadEffect
  extract_lets -underBinder +onlyGivenNames v0
  split
  · exact (.of hs)
  · exact (.of hs)
  · exact (.of hs)
  · exact (State.stateOf_good _ _ (execEvcClaim_good _ _ _ hs) hs)
  · exact (State.setTarget_good _ _ _ hs)
  · exact hs

theorem State.readDword_good (s : State) (a1 : Sender) (a2 : Nat) (a3 : Nat) (a4 : Instant) (hs : s.Good q) :
    (State.readDword s a1 a2 a3 a4).2.Good q := by
  unfold State.readDword
  extract_lets -underBinder +onlyGivenNames v0
  have w0 : State.Good q (v0) := by
    unfold v0
    exact (good_ite (State.regReadEffect_good _ _ _ _ hs) hs)
  clear_value v0
  extract_lets -underBinder +onlyGivenNames v20
  split
  · dsimp only
    exact w0
  · dsimp only
    exact (good_ite w0 (State.regReadEffect_good _ _ _ _ w0))

theorem State.readDwords_good (x : Sender) (t : Instant) (n off len : Nat) (s : State) (h : s.Good q) :
    (State.readDwords x t n off len s).2.Good q := by
  induction n generalizing off len s with
  | zero => exact h
  | succ n ih => exact ih _ _ _ (State.readDword_good _ _ _ _ _ h)

theorem State.mboxWrite_good (s : State) (a1 : Sender) (a2 : Nat) (a3 : Nat) (a4 : State.WVal) (a5 : Instant) (hs :
    s.Good q) : (State.mboxWrite s a1 a2 a3 a4 a5).Good q := by
  unfold State.mboxWrite
  extract_lets -underBinder +onlyGivenNames v0 v1
  have w1 : ∀ b1_0, State.Good q (v1 b1_0) := by
    intro b1_0
    unfold v1
    exact (State.setMbox_good _ _ _ _ hs)
  clear_value v1
  split
  · exact (w1 _)
  · exact (good_ite (w1 _) hs)
  · exact (w1 _)
  · exact (State.sendNotice_good _ _ _ _ _ hs)
  · exact (w1 _)
  · exact hs

theorem State.ringWrite_good (s : State) (a1 : Sender) (a2 : Nat) (a3 : State.WVal) (hs : s.Good q) :
    (State.ringWrite s a1 a2 a3).Good q := by
  unfold State.ringWrite
  extract_lets -underBinder +onlyGivenNames v0
  split
  · exact (good_ite hs (State.setFn_good _ _ _ hs))
  · exact (good_ite hs (State.setFn_good _ _ _ hs))
  · extract_lets -underBinder +onlyGivenNames v1
    extract_lets -underBinder +onlyGivenNames v2
    refine good_ite ?_ ?_
    · exact (good_ite hs (State.ringDisable_good _ _ hs))
    · extract_lets -underBinder +onlyGivenNames v3
      exact (good_ite hs (good_ite (State.ringEnable_good _ _ _ hs) (State.setFn_good _ _ _ hs)))
  · exact (State.ringRead_good _ _ _ hs)
  · exact (State.setFn_good _ _ _ hs)
  · exact hs

theorem State.hostWrite_good (s : State) (a1 : Sender) (a2 : HostPort) (a3 : Nat) (a4 : State.WVal) (a5 : Instant)
    (hs : s.Good q) : (State.hostWrite s a1 a2 a3 a4 a5).Good q := by
  unfold State.hostWrite
  extract_lets -underBinder +onlyGivenNames v0
  refine good_ite ?_ ?_
  · exact (State.mboxWrite_good _ _ _ _ _ _ hs)
  · refine good_ite ?_ ?_
    · exact (State.mboxWrite_good _ _ _ _ _ _ hs)
    · refine good_ite ?_ ?_
      · exact (State.ringWrite_good _ _ _ _ hs)
      · refine good_ite ?_ ?_
        · extract_lets -underBinder +onlyGivenNames v1
          extract_lets -underBinder +onlyGivenNames v2
          exact (State.setFn_good _ _ _ hs)
        · split
          · split
            · exact (State.semAcquire_good _ _ _ hs)
            · exact (State.semRenew_good _ _ _ hs)
            · exact (State.semRelease_good _ _ _ _ hs)
            · exact hs
          · exact (State.semLeaseSet_good _ _ _ hs)
          · extract_lets -underBinder +onlyGivenNames v1
            exact (State.setHostRegs_good _ _ _ hs)
          · exact (State.mbTimeoutSet_good _ _ _ hs)
          · exact (State.setFn_good _ _ _ hs)
          · exact (State.dbMaskSet_good _ _ _ hs)
          · exact (State.dbRing_good _ _ _ hs)
          · exact hs

theorem State.msixWrite_good (s : State) (a1 : Sender) (a2 : Nat) (a3 : State.WVal) (hs : s.Good q) :
    (State.msixWrite s a1 a2 a3).Good q := by
  unfold State.msixWrite
  extract_lets -underBinder +onlyGivenNames v0 v1 v2 v3
  have w3 : State.Good q (v3) := by
    unfold v3
    exact (State.setFn_good _ _ _ hs)
  clear_value v3
  extract_lets -underBinder +onlyGivenNames v23
  exact (good_ite (State.emit_good _ _ (State.setFn_good _ _ _ w3)) w3)

theorem State.evcWrite_good (s : State) (a1 : Target) (a2 : Nat) (a3 : State.WVal) (a4 : Instant) (hs : s.Good q) :
    (State.evcWrite s a1 a2 a3 a4).Good q := by
  unfold State.evcWrite
  extract_lets -underBinder +onlyGivenNames v0 v1 v2 v3
  refine good_ite ?_ ?_
  · exact (State.setTarget_good _ _ _ hs)
  · refine good_ite ?_ ?_
    · exact (State.setTarget_good _ _ _ hs)
    · split
      · exact (State.stateOf_good _ _ (execEvcComplete_good _ _ _ _ hs) hs)
      · exact (State.recheck_good _ _ _ hs (State.setTarget_good _ _ _ hs))
      · exact (State.setTarget_good _ _ _ hs)
      · exact (State.stateOf_good _ _ (execEvlogPop_good _ _ _ hs) hs)
      · exact (State.stateOf_good _ _ (execEvcSoftSet_good _ _ _ _ hs) hs)
      · exact (good_ite hs (State.setTarget_good _ _ _ hs))
      · exact (State.setTarget_good _ _ _ hs)
      · exact (State.stateOf_good _ _ (execTimerEnable_good _ _ _ _ hs) hs)
      · exact (State.setTarget_good _ _ _ hs)
      · exact hs

theorem State.laneWrite_good (s : State) (a1 : Nat) (a2 : State.WVal) (hs : s.Good q) : (State.laneWrite s a1
    a2).Good q := by
  unfold State.laneWrite
  refine good_ite ?_ ?_
  · extract_lets -underBinder +onlyGivenNames v0
    extract_lets -underBinder +onlyGivenNames v1
    exact (State.setLane_good _ _ _ hs)
  · refine good_ite ?_ ?_
    · extract_lets -underBinder +onlyGivenNames v0
      exact (good_foldl hs fun _ _ k0 => (good_ite (State.setLane_good _ _ _ k0) k0))
    · exact (good_ite (good_foldl hs fun _ _ k0 => (good_ite (State.setBus_good _ _ _ k0) k0)) hs)

theorem State.tioWrite_good (s : State) (a1 : Nat) (a2 : State.WVal) (hs : s.Good q) : (State.tioWrite s a1 a2).Good
    q := by
  unfold State.tioWrite
  refine good_ite ?_ ?_
  · extract_lets -underBinder +onlyGivenNames v0
    extract_lets -underBinder +onlyGivenNames v1
    exact (State.setCko_good _ _ _ hs)
  · split
    · refine good_foldl ?_ fun z0 y0 h0 => ?_
      · exact hs
      · extract_lets -underBinder +onlyGivenNames v1
        exact (State.setPin_good _ _ _ h0)
    · exact (State.setTio_good _ _ hs)
    · refine good_foldl ?_ fun z0 y0 h0 => ?_
      · exact hs
      · extract_lets -underBinder +onlyGivenNames v1
        exact (State.setChan_good _ _ _ h0)
    · exact hs

theorem State.coreWrite_good (s : State) (a1 : Sender) (a2 : HostPort) (a3 : Nat) (a4 : State.WVal) (a5 : Instant)
    (hs : s.Good q) : (State.coreWrite s a1 a2 a3 a4 a5).Good q := by
  unfold State.coreWrite
  refine good_ite ?_ ?_
  · extract_lets -underBinder +onlyGivenNames v0
    extract_lets -underBinder +onlyGivenNames v1
    exact (State.setHostRegs_good _ _ _ hs)
  · split
    · extract_lets -underBinder +onlyGivenNames v0
      have w0 : State.Good q (v0) := by
        unfold v0
        exact (State.stateOf_good _ _ (execHostMsgPop_good _ _ _ _ _ hs) hs)
      clear_value v0
      exact (State.stateOf_good _ _ (execHostMsgSend_good _ _ _ _ _ w0) w0)
    · exact (good_ite (State.stateOf_good _ _ (execPalletTrigger_good _ _ _ hs) hs) hs)
    · exact (.ofCores hs)
    · exact (State.setFn_good _ _ _ hs)
    · exact hs

theorem State.powerWrite_good (s : State) (a1 : Nat) (a2 : Bool) (a3 : State.WVal) (hs : s.Good q) :
    (State.powerWrite s a1 a2 a3).Good q := by
  unfold State.powerWrite
  extract_lets -underBinder +onlyGivenNames v0
  refine good_ite ?_ ?_
  · exact hs
  · split
    · exact (.ofPwr hs)
    · exact (.ofPwr hs)
    · exact (.ofPwr hs)
    · exact (good_ite (State.wakeSource_good _ _ hs) hs)
    · exact (good_ite (.ofPwr hs) hs)
    · exact (good_ite (.ofPwr hs) hs)
    · exact (good_ite (.ofPwr hs) hs)
    · exact (good_ite (.ofPwr hs) hs)
    · exact hs

theorem State.flagWrite_good (s : State) (a1 : Nat) (a2 : State.WVal) (a3 : Instant) (hs : s.Good q) :
    (State.flagWrite s a1 a2 a3).Good q := by
  unfold State.flagWrite
  refine good_ite ?_ ?_
  · extract_lets -underBinder +onlyGivenNames v0
    extract_lets -underBinder +onlyGivenNames v1
    exact (State.setCourse_good _ _ _ hs)
  · refine good_ite ?_ ?_
    · extract_lets -underBinder +onlyGivenNames v0
      extract_lets -underBinder +onlyGivenNames v1
      exact (State.setLink_good _ _ _ hs)
    · split
      · exact (.of hs)
      · exact (.of hs)
      · exact (.of hs)
      · exact (.of hs)
      · exact (.of hs)
      · exact (.of hs)
      · exact (good_ite (State.latchTime_good _ _ hs) hs)
      · exact (State.setBond_good _ _ hs)
      · exact (State.setBond_good _ _ hs)
      · exact hs

theorem State.regWrite_good (s : State) (a1 : Sender) (a2 : Nat) (a3 : State.WVal) (a4 : Instant) (hs : s.Good q) :
    (State.regWrite s a1 a2 a3 a4).Good q := by
  unfold State.regWrite
  split
  · exact hs
  · extract_lets -underBinder +onlyGivenNames v0
    exact (good_ite (State.hostWrite_good _ _ _ _ _ _ hs) (good_ite (State.msixWrite_good _ _ _ _ hs) (good_ite
        (State.flagWrite_good _ _ _ _ hs) (good_ite (State.laneWrite_good _ _ _ hs) (good_ite (State.tioWrite_good
        _ _ _ hs) (good_ite (State.evcWrite_good _ _ _ _ _ hs) (good_ite (State.coreWrite_good _ _ _ _ _ _ hs)
        (good_ite (State.powerWrite_good _ _ _ _ hs) hs))))))))

theorem State.mapWrite_good (s : State) (c : AppCore) (addr : Nat) (v : Word) (t : Instant) (h : s.Good q) :
    (State.mapWrite s c addr v t).Good q := by
  unfold State.mapWrite
  extract_lets -underBinder +onlyGivenNames a w o s1
  clear_value o
  refine good_ite (State.setTcm_good _ _ _ h (q.writeWord (h.tcm _) _ _))
    (good_ite (State.evcWrite_good _ _ _ _ _ h) (good_ite ?_ (good_ite ?_ (good_ite (State.setTcm_good _ _ _ h
        (h.tcm c)) h))))
  · split <;> first | exact State.setTcm_good _ _ _ h (h.tcm c) | exact h
  · refine good_ite (State.mboxWrite_good _ _ _ _ _ _ h) (good_ite (State.ringWrite_good _ _ _ _ h)
      (good_ite (State.setTcm_good _ _ _ h (h.tcm c)) (good_ite ?_ h)))
    have h1 := State.stateOf_good _ _ (execAcMsgPop_good c (w.b 0) (w.b 1) t s h) h
    exact State.stateOf_good _ _ (execAcMsgSend_good _ _ _ _ _ h1) h1

theorem execRegisterWrite_good (fn : Sender) (w : BarWrite) (t : Instant) (s : State) (h : s.Good q) :
    OutGood q (execRegisterWrite fn w t s) := by
  have h1 := State.tick_good s t h
  unfold execRegisterWrite
  extract_lets -underBinder +onlyGivenNames s1
  split
  · exact outGood_ite h1 (State.regWrite_good _ _ _ _ _ h1)
  · exact outGood_ite h1 (State.countF_good _ _ _ _ h1)
  · exact outGood_ite h1 (h1.sram rfl (q.writeN h1.2.1 _ _) rfl rfl)
  · split
    · exact h1
    · exact outGood_ite (State.mapWrite_good _ _ _ _ _ h1) h1

theorem execRcFieldRead_good (fn : Sender) (off len : Nat) (t : Instant) (s : State) (h : s.Good q) :
    OutGood q (execRcFieldRead fn off len t s) := by
  have h1 := State.tick_good s t h
  exact outGood_ite h1 (State.Good.ofHost (State.readDwords_good _ _ _ _ _ _ h1))

end Sys2Proof.Machine
end

