-- ==== Sys2Proof/Laws/KeepCommands.lean ====
section
/-! SUPPORT. The queue and the memories' canonical form stay as they are in the table of packet commands, the notices
and the configuration's packets: for each function that answers a state, if the state it takes has queue q and
canonical memories, so has the one it answers (`State.Good`). -/

namespace Sys2Proof.Machine

variable {q : Keep}

theorem good_nil : ∀ x ∈ ([] : List OpSpec), x.Good := fun _ h => nomatch h

theorem good_cons {op : OpSpec} {l : List OpSpec} (h : op.Good) (k : ∀ x ∈ l, x.Good) : ∀ x ∈ op :: l, x.Good :=
  List.forall_mem_cons.2 ⟨h, k⟩

theorem good_append {l m : List OpSpec} (h : ∀ x ∈ l, x.Good) (k : ∀ x ∈ m, x.Good) : ∀ x ∈ l ++ m, x.Good :=
  fun x hx => (List.mem_append.1 hx).elim (h x) (k x)

theorem opNop_good : opNop.Good := fun _ c _ h => bodyNop_good c _ h

theorem opSysInfoGet_good : opSysInfoGet.Good := fun _ c _ h => bodySysInfoGet_good c _ h

theorem opJournalGet_good : opJournalGet.Good := fun _ c _ h => bodyJournalGet_good c _ h

theorem opMortarSet_good : opMortarSet.Good := fun _ c _ h => bodyMortarSet_good c _ h

theorem opMortarGet_good : opMortarGet.Good := fun _ c _ h => bodyMortarGet_good c _ h

theorem opDigestRun_good : opDigestRun.Good := fun _ c _ h => bodyDigestRun_good c _ h

theorem opPortSet_good : opPortSet.Good := fun _ c _ h => bodyPortSet_good c _ h

theorem opPortGet_good : opPortGet.Good := fun _ c _ h => bodyPortGet_good c _ h

theorem opLaneStatusGet_good : opLaneStatusGet.Good := fun _ c _ h => bodyLaneStatusGet_good c _ h

theorem opLinkRetrain_good : opLinkRetrain.Good := fun _ c _ h => bodyLinkRetrain_good c _ h

theorem opLinkPark_good : opLinkPark.Good := fun _ c _ h => bodyLinkPark_good c _ h

theorem opQuadSet_good : opQuadSet.Good := fun _ c _ h => bodyQuadSet_good c _ h

theorem opQuadGet_good : opQuadGet.Good := fun _ c _ h => bodyQuadGet_good c _ h

theorem opEqSet_good : opEqSet.Good := fun _ c _ h => bodyEqSet_good c _ h

theorem opEqGet_good : opEqGet.Good := fun _ c _ h => bodyEqGet_good c _ h

theorem opModuleRead_good : opModuleRead.Good := fun _ c _ h => bodyModuleRead_good c _ h

theorem opModuleWrite_good : opModuleWrite.Good := fun _ c _ h => bodyModuleWrite_good c _ h

theorem opModuleCfgSet_good : opModuleCfgSet.Good := fun _ c _ h => bodyModuleCfgSet_good c _ h

theorem opModuleCfgGet_good : opModuleCfgGet.Good := fun _ c _ h => bodyModuleCfgGet_good c _ h

theorem opIngressSet_good : opIngressSet.Good := fun _ c _ h => bodyIngressSet_good c _ h

theorem opIngressGet_good : opIngressGet.Good := fun _ c _ h => bodyIngressGet_good c _ h

theorem opPoolSet_good : opPoolSet.Good := fun _ c _ h => bodyPoolSet_good c _ h

theorem opPoolGet_good : opPoolGet.Good := fun _ c _ h => bodyPoolGet_good c _ h

theorem opQueueSet_good : opQueueSet.Good := fun _ c _ h => bodyQueueSet_good c _ h

theorem opQueueGet_good : opQueueGet.Good := fun _ c _ h => bodyQueueGet_good c _ h

theorem opSchedSet_good : opSchedSet.Good := fun _ c _ h => bodySchedSet_good c _ h

theorem opSchedGet_good : opSchedGet.Good := fun _ c _ h => bodySchedGet_good c _ h

theorem opPauseSet_good : opPauseSet.Good := fun _ c _ h => bodyPauseSet_good c _ h

theorem opPauseGet_good : opPauseGet.Good := fun _ c _ h => bodyPauseGet_good c _ h

theorem opMirrorSet_good : opMirrorSet.Good := fun _ c _ h => bodyMirrorSet_good c _ h

theorem opMirrorGet_good : opMirrorGet.Good := fun _ c _ h => bodyMirrorGet_good c _ h

theorem opL2Set_good : opL2Set.Good := fun _ c _ h => bodyL2Set_good c _ h

theorem opL2Del_good : opL2Del.Good := fun _ c _ h => bodyL2Del_good c _ h

theorem opL2Get_good : opL2Get.Good := fun _ c _ h => bodyL2Get_good c _ h

theorem opL2Flush_good : opL2Flush.Good := fun _ c _ h => bodyL2Flush_good c _ h

theorem opTableCfgSet_good : opTableCfgSet.Good := fun _ c _ h => bodyTableCfgSet_good c _ h

theorem opTableCfgGet_good : opTableCfgGet.Good := fun _ c _ h => bodyTableCfgGet_good c _ h

theorem opL2PortSet_good : opL2PortSet.Good := fun _ c _ h => bodyL2PortSet_good c _ h

theorem opL2PortGet_good : opL2PortGet.Good := fun _ c _ h => bodyL2PortGet_good c _ h

theorem opL2Unlock_good : opL2Unlock.Good := fun _ c _ h => bodyL2Unlock_good c _ h

theorem opVlanSet_good : opVlanSet.Good := fun _ c _ h => bodyVlanSet_good c _ h

theorem opVlanGet_good : opVlanGet.Good := fun _ c _ h => bodyVlanGet_good c _ h

theorem opRifSet_good : opRifSet.Good := fun _ c _ h => bodyRifSet_good c _ h

theorem opRifGet_good : opRifGet.Good := fun _ c _ h => bodyRifGet_good c _ h

theorem opNhSet_good : opNhSet.Good := fun _ c _ h => bodyNhSet_good c _ h

theorem opNhGet_good : opNhGet.Good := fun _ c _ h => bodyNhGet_good c _ h

theorem opRouteSet_good : opRouteSet.Good := fun _ c _ h => bodyRouteSet_good c _ h

theorem opRouteDel_good : opRouteDel.Good := fun _ c _ h => bodyRouteDel_good c _ h

theorem opRouteGet_good : opRouteGet.Good := fun _ c _ h => bodyRouteGet_good c _ h

theorem opMcgSet_good : opMcgSet.Good := fun _ c _ h => bodyMcgSet_good c _ h

theorem opMcgGet_good : opMcgGet.Good := fun _ c _ h => bodyMcgGet_good c _ h

theorem opFfgSet_good : opFfgSet.Good := fun _ c _ h => bodyFfgSet_good c _ h

theorem opFfgGet_good : opFfgGet.Good := fun _ c _ h => bodyFfgGet_good c _ h

theorem opFence_good : opFence.Good := fun _ c _ h => bodyFence_good c _ h

theorem opStreamSet_good : opStreamSet.Good := fun _ c _ h => bodyStreamSet_good c _ h

theorem opStreamGet_good : opStreamGet.Good := fun _ c _ h => bodyStreamGet_good c _ h

theorem opMeterSet_good : opMeterSet.Good := fun _ c _ h => bodyMeterSet_good c _ h

theorem opMeterGet_good : opMeterGet.Good := fun _ c _ h => bodyMeterGet_good c _ h

theorem opWindowSet_good : opWindowSet.Good := fun _ c _ h => bodyWindowSet_good c _ h

theorem opRecoverySet_good : opRecoverySet.Good := fun _ c _ h => bodyRecoverySet_good c _ h

theorem opRecoveryGet_good : opRecoveryGet.Good := fun _ c _ h => bodyRecoveryGet_good c _ h

theorem opRecoveryReset_good : opRecoveryReset.Good := fun _ c _ h => bodyRecoveryReset_good c _ h

theorem opCourseSet_good : opCourseSet.Good := fun _ c _ h => bodyCourseSet_good c _ h

theorem opCourseEntrySet_good : opCourseEntrySet.Good := fun _ c _ h => bodyCourseEntrySet_good c _ h

theorem opCourseCommit_good : opCourseCommit.Good := fun _ c _ h => bodyCourseCommit_good c _ h

theorem opCourseGet_good : opCourseGet.Good := fun _ c _ h => bodyCourseGet_good c _ h

theorem opCourseEntryGet_good : opCourseEntryGet.Good := fun _ c _ h => bodyCourseEntryGet_good c _ h

theorem opCourseReportGet_good : opCourseReportGet.Good := fun _ c _ h => bodyCourseReportGet_good c _ h

theorem opCourseClear_good : opCourseClear.Good := fun _ c _ h => bodyCourseClear_good c _ h

theorem opTkStatusGet_good : opTkStatusGet.Good := fun _ c _ h => bodyTkStatusGet_good c _ h

theorem opRefStatusGet_good : opRefStatusGet.Good := fun _ c _ h => bodyRefStatusGet_good c _ h

theorem opTimeSet_good : opTimeSet.Good := fun _ c _ h => bodyTimeSet_good c _ h

theorem opRefCmd_good : opRefCmd.Good := fun _ c _ h => bodyRefCmd_good c _ h

theorem opTimeAcceptStep_good : opTimeAcceptStep.Good := fun _ c _ h => bodyTimeAcceptStep_good c _ h

theorem opRefSet_good : opRefSet.Good := fun _ c _ h => bodyRefSet_good c _ h

theorem opRefGet_good : opRefGet.Good := fun _ c _ h => bodyRefGet_good c _ h

theorem opServoSet_good : opServoSet.Good := fun _ c _ h => bodyServoSet_good c _ h

theorem opServoGet_good : opServoGet.Good := fun _ c _ h => bodyServoGet_good c _ h

theorem opKeeperCfgSet_good : opKeeperCfgSet.Good := fun _ c _ h => bodyKeeperCfgSet_good c _ h

theorem opKeeperCfgGet_good : opKeeperCfgGet.Good := fun _ c _ h => bodyKeeperCfgGet_good c _ h

theorem opPtpPortSet_good : opPtpPortSet.Good := fun _ c _ h => bodyPtpPortSet_good c _ h

theorem opPtpPortGet_good : opPtpPortGet.Good := fun _ c _ h => bodyPtpPortGet_good c _ h

theorem opSynceSet_good : opSynceSet.Good := fun _ c _ h => bodySynceSet_good c _ h

theorem opSynceGet_good : opSynceGet.Good := fun _ c _ h => bodySynceGet_good c _ h

theorem opRefinSet_good : opRefinSet.Good := fun _ c _ h => bodyRefinSet_good c _ h

theorem opRefinGet_good : opRefinGet.Good := fun _ c _ h => bodyRefinGet_good c _ h

theorem opLinkTimingSet_good : opLinkTimingSet.Good := fun _ c _ h => bodyLinkTimingSet_good c _ h

theorem opLinkTimingGet_good : opLinkTimingGet.Good := fun _ c _ h => bodyLinkTimingGet_good c _ h

theorem opAsymSet_good : opAsymSet.Good := fun _ c _ h => bodyAsymSet_good c _ h

theorem opAsymGet_good : opAsymGet.Good := fun _ c _ h => bodyAsymGet_good c _ h

theorem opLinkStatusGet_good : opLinkStatusGet.Good := fun _ c _ h => bodyLinkStatusGet_good c _ h

theorem opAsymMeasure_good : opAsymMeasure.Good := fun _ c _ h => bodyAsymMeasure_good c _ h

theorem opEvtCfgSet_good : opEvtCfgSet.Good := fun _ c _ h => bodyEvtCfgSet_good c _ h

theorem opEvtCfgGet_good : opEvtCfgGet.Good := fun _ c _ h => bodyEvtCfgGet_good c _ h

theorem opEvtEdge_good : opEvtEdge.Good := fun _ c _ h => bodyEvtEdge_good c _ h

theorem opEvtStampGet_good : opEvtStampGet.Good := fun _ c _ h => bodyEvtStampGet_good c _ h

theorem opEvtCancel_good : opEvtCancel.Good := fun _ c _ h => bodyEvtCancel_good c _ h

theorem opTimCfgSet_good : opTimCfgSet.Good := fun _ c _ h => bodyTimCfgSet_good c _ h

theorem opTimCfgGet_good : opTimCfgGet.Good := fun _ c _ h => bodyTimCfgGet_good c _ h

theorem opTimArm_good : opTimArm.Good := fun _ c _ h => bodyTimArm_good c _ h

theorem opTimRawGet_good : opTimRawGet.Good := fun _ c _ h => bodyTimRawGet_good c _ h

theorem opTimStatsGet_good : opTimStatsGet.Good := fun _ c _ h => bodyTimStatsGet_good c _ h

theorem opMrefSet_good : opMrefSet.Good := fun _ c _ h => bodyMrefSet_good c _ h

theorem opMrefGet_good : opMrefGet.Good := fun _ c _ h => bodyMrefGet_good c _ h

theorem opCkoSet_good : opCkoSet.Good := fun _ c _ h => bodyCkoSet_good c _ h

theorem opCkoGet_good : opCkoGet.Good := fun _ c _ h => bodyCkoGet_good c _ h

theorem opCkoProfileSet_good : opCkoProfileSet.Good := fun _ c _ h => bodyCkoProfileSet_good c _ h

theorem opCkoProfileStart_good : opCkoProfileStart.Good := fun _ c _ h => bodyCkoProfileStart_good c _ h

theorem opCkoPhaseGet_good : opCkoPhaseGet.Good := fun _ c _ h => bodyCkoPhaseGet_good c _ h

theorem opCkoCmd_good : opCkoCmd.Good := fun _ c _ h => bodyCkoCmd_good c _ h

theorem opCounterGet_good : opCounterGet.Good := fun _ c _ h => bodyCounterGet_good c _ h

theorem opPalletSnapshot_good : opPalletSnapshot.Good := fun _ c _ h => bodyPalletSnapshot_good c _ h

theorem opPalletGet_good : opPalletGet.Good := fun _ c _ h => bodyPalletGet_good c _ h

theorem opCounterCatalogGet_good : opCounterCatalogGet.Good := fun _ c _ h => bodyCounterCatalogGet_good c _ h

theorem opBondStatusGet_good : opBondStatusGet.Good := fun _ c _ h => bodyBondStatusGet_good c _ h

theorem opBondCfgSet_good : opBondCfgSet.Good := fun _ c _ h => bodyBondCfgSet_good c _ h

theorem opBondCfgGet_good : opBondCfgGet.Good := fun _ c _ h => bodyBondCfgGet_good c _ h

theorem opBondHandover_good : opBondHandover.Good := fun _ c _ h => bodyBondHandover_good c _ h

theorem opKeeperDisable_good : opKeeperDisable.Good := fun _ c _ h => bodyKeeperDisable_good c _ h

theorem opKeeperEnable_good : opKeeperEnable.Good := fun _ c _ h => bodyKeeperEnable_good c _ h

theorem opFootingEnter_good : opFootingEnter.Good := fun _ c _ h => bodyFootingEnter_good c _ h

theorem opFootingExit_good : opFootingExit.Good := fun _ c _ h => bodyFootingExit_good c _ h

theorem opFootingCfgSet_good : opFootingCfgSet.Good := fun _ c _ h => bodyFootingCfgSet_good c _ h

theorem opFootingCfgGet_good : opFootingCfgGet.Good := fun _ c _ h => bodyFootingCfgGet_good c _ h

theorem opCalDelayRun_good : opCalDelayRun.Good := fun _ c _ h => bodyCalDelayRun_good c _ h

theorem opCalVernierRun_good : opCalVernierRun.Good := fun _ c _ h => bodyCalVernierRun_good c _ h

theorem opCalCfgSet_good : opCalCfgSet.Good := fun _ c _ h => bodyCalCfgSet_good c _ h

theorem opCalCfgGet_good : opCalCfgGet.Good := fun _ c _ h => bodyCalCfgGet_good c _ h

theorem opCalTimeioRun_good : opCalTimeioRun.Good := fun _ c _ h => bodyCalTimeioRun_good c _ h

theorem opPolicyGet_good : opPolicyGet.Good := fun _ c _ h => bodyPolicyGet_good c _ h

theorem opPolicySet_good : opPolicySet.Good := fun _ c _ h => bodyPolicySet_good c _ h

theorem opKeyEnrol_good : opKeyEnrol.Good := fun _ c _ h => bodyKeyEnrol_good c _ h

theorem opKeyStatusGet_good : opKeyStatusGet.Good := fun _ c _ h => bodyKeyStatusGet_good c _ h

theorem opFwUpdateBegin_good : opFwUpdateBegin.Good := fun _ c _ h => bodyFwUpdateBegin_good c _ h

theorem opFwUpdateData_good : opFwUpdateData.Good := fun _ c _ h => bodyFwUpdateData_good c _ h

theorem opFwUpdateCommit_good : opFwUpdateCommit.Good := fun _ c _ h => bodyFwUpdateCommit_good c _ h

theorem opConfigLock_good : opConfigLock.Good := fun _ c _ h => bodyConfigLock_good c _ h

theorem opPowerStatusGet_good : opPowerStatusGet.Good := fun _ c _ h => bodyPowerStatusGet_good c _ h

theorem opSleepEnter_good : opSleepEnter.Good := fun _ c _ h => bodySleepEnter_good c _ h

theorem opWakeCfgSet_good : opWakeCfgSet.Good := fun _ c _ h => bodyWakeCfgSet_good c _ h

theorem opWakeCfgGet_good : opWakeCfgGet.Good := fun _ c _ h => bodyWakeCfgGet_good c _ h

theorem opDeviceReset_good : opDeviceReset.Good := fun _ c _ h => bodyDeviceReset_good c _ h

theorem opEvcRouteSet_good : opEvcRouteSet.Good := fun _ c _ h => bodyEvcRouteSet_good c _ h

theorem opEvcRouteGet_good : opEvcRouteGet.Good := fun _ c _ h => bodyEvcRouteGet_good c _ h

theorem opEvcTargetSet_good : opEvcTargetSet.Good := fun _ c _ h => bodyEvcTargetSet_good c _ h

theorem opEvcTargetGet_good : opEvcTargetGet.Good := fun _ c _ h => bodyEvcTargetGet_good c _ h

theorem opAcLoad_good : opAcLoad.Good := fun _ c _ h => bodyAcLoad_good c _ h

theorem opAcStart_good : opAcStart.Good := fun _ c _ h => bodyAcStart_good c _ h

theorem opAcStop_good : opAcStop.Good := fun _ c _ h => bodyAcStop_good c _ h

theorem opAcStatusGet_good : opAcStatusGet.Good := fun _ c _ h => bodyAcStatusGet_good c _ h

theorem opAcPermitSet_good : opAcPermitSet.Good := fun _ c _ h => bodyAcPermitSet_good c _ h

theorem opAcPermitGet_good : opAcPermitGet.Good := fun _ c _ h => bodyAcPermitGet_good c _ h

theorem opsSys_good : ∀ x ∈ opsSys, x.Good :=
  good_cons opNop_good <| good_cons opSysInfoGet_good <| good_cons opJournalGet_good <| good_cons opMortarSet_good
      <| good_cons opMortarGet_good <| good_cons opDigestRun_good <| good_nil

theorem opsLane_good : ∀ x ∈ opsLane, x.Good :=
  good_cons opPortSet_good <| good_cons opPortGet_good <| good_cons opLaneStatusGet_good <| good_cons
      opLinkRetrain_good <| good_cons opLinkPark_good <| good_cons opQuadSet_good <| good_cons opQuadGet_good <|
      good_cons opEqSet_good <| good_cons opEqGet_good <| good_cons opModuleRead_good <| good_cons
      opModuleWrite_good <| good_cons opModuleCfgSet_good <| good_cons opModuleCfgGet_good <| good_cons
      opIngressSet_good <| good_cons opIngressGet_good <| good_cons opPoolSet_good <| good_cons opPoolGet_good <|
      good_cons opQueueSet_good <| good_cons opQueueGet_good <| good_cons opSchedSet_good <| good_cons
      opSchedGet_good <| good_cons opPauseSet_good <| good_cons opPauseGet_good <| good_cons opMirrorSet_good <|
      good_cons opMirrorGet_good <| good_nil

theorem opsTable_good : ∀ x ∈ opsTable, x.Good :=
  good_cons opL2Set_good <| good_cons opL2Del_good <| good_cons opL2Get_good <| good_cons opL2Flush_good <|
      good_cons opTableCfgSet_good <| good_cons opTableCfgGet_good <| good_cons opL2PortSet_good <| good_cons
      opL2PortGet_good <| good_cons opL2Unlock_good <| good_cons opVlanSet_good <| good_cons opVlanGet_good <|
      good_cons opRifSet_good <| good_cons opRifGet_good <| good_cons opNhSet_good <| good_cons opNhGet_good <|
      good_cons opRouteSet_good <| good_cons opRouteDel_good <| good_cons opRouteGet_good <| good_cons
      opMcgSet_good <| good_cons opMcgGet_good <| good_cons opFfgSet_good <| good_cons opFfgGet_good <| good_cons
      opFence_good <| good_nil

theorem opsStream_good : ∀ x ∈ opsStream, x.Good :=
  good_cons opStreamSet_good <| good_cons opStreamGet_good <| good_cons opMeterSet_good <| good_cons
      opMeterGet_good <| good_cons opWindowSet_good <| good_cons opRecoverySet_good <| good_cons opRecoveryGet_good
      <| good_cons opRecoveryReset_good <| good_cons opCourseSet_good <| good_cons opCourseEntrySet_good <|
      good_cons opCourseCommit_good <| good_cons opCourseGet_good <| good_cons opCourseEntryGet_good <| good_cons
      opCourseReportGet_good <| good_cons opCourseClear_good <| good_nil

theorem opsTiming_good : ∀ x ∈ opsTiming, x.Good :=
  good_cons opTkStatusGet_good <| good_cons opRefStatusGet_good <| good_cons opTimeSet_good <| good_cons
      opRefCmd_good <| good_cons opTimeAcceptStep_good <| good_cons opRefSet_good <| good_cons opRefGet_good <|
      good_cons opServoSet_good <| good_cons opServoGet_good <| good_cons opKeeperCfgSet_good <| good_cons
      opKeeperCfgGet_good <| good_cons opPtpPortSet_good <| good_cons opPtpPortGet_good <| good_cons
      opSynceSet_good <| good_cons opSynceGet_good <| good_cons opRefinSet_good <| good_cons opRefinGet_good <|
      good_cons opLinkTimingSet_good <| good_cons opLinkTimingGet_good <| good_cons opAsymSet_good <| good_cons
      opAsymGet_good <| good_cons opLinkStatusGet_good <| good_cons opAsymMeasure_good <| good_nil

theorem opsEvent_good : ∀ x ∈ opsEvent, x.Good :=
  good_cons opEvtCfgSet_good <| good_cons opEvtCfgGet_good <| good_cons opEvtEdge_good <| good_cons
      opEvtStampGet_good <| good_cons opEvtCancel_good <| good_cons opTimCfgSet_good <| good_cons opTimCfgGet_good
      <| good_cons opTimArm_good <| good_cons opTimRawGet_good <| good_cons opTimStatsGet_good <| good_cons
      opMrefSet_good <| good_cons opMrefGet_good <| good_nil

theorem opsClock_good : ∀ x ∈ opsClock, x.Good :=
  good_cons opCkoSet_good <| good_cons opCkoGet_good <| good_cons opCkoProfileSet_good <| good_cons
      opCkoProfileStart_good <| good_cons opCkoPhaseGet_good <| good_cons opCkoCmd_good <| good_nil

theorem opsCount_good : ∀ x ∈ opsCount, x.Good :=
  good_cons opCounterGet_good <| good_cons opPalletSnapshot_good <| good_cons opPalletGet_good <| good_cons
      opCounterCatalogGet_good <| good_nil

theorem opsBond_good : ∀ x ∈ opsBond, x.Good :=
  good_cons opBondStatusGet_good <| good_cons opBondCfgSet_good <| good_cons opBondCfgGet_good <| good_cons
      opBondHandover_good <| good_cons opKeeperDisable_good <| good_cons opKeeperEnable_good <| good_cons
      opFootingEnter_good <| good_cons opFootingExit_good <| good_cons opFootingCfgSet_good <| good_cons
      opFootingCfgGet_good <| good_nil

theorem opsCal_good : ∀ x ∈ opsCal, x.Good :=
  good_cons opCalDelayRun_good <| good_cons opCalVernierRun_good <| good_cons opCalCfgSet_good <| good_cons
      opCalCfgGet_good <| good_cons opCalTimeioRun_good <| good_nil

theorem opsSecure_good : ∀ x ∈ opsSecure, x.Good :=
  good_cons opPolicyGet_good <| good_cons opPolicySet_good <| good_cons opKeyEnrol_good <| good_cons
      opKeyStatusGet_good <| good_cons opFwUpdateBegin_good <| good_cons opFwUpdateData_good <| good_cons
      opFwUpdateCommit_good <| good_cons opConfigLock_good <| good_nil

theorem opsPower_good : ∀ x ∈ opsPower, x.Good :=
  good_cons opPowerStatusGet_good <| good_cons opSleepEnter_good <| good_cons opWakeCfgSet_good <| good_cons
      opWakeCfgGet_good <| good_cons opDeviceReset_good <| good_nil

theorem opsEvc_good : ∀ x ∈ opsEvc, x.Good :=
  good_cons opEvcRouteSet_good <| good_cons opEvcRouteGet_good <| good_cons opEvcTargetSet_good <| good_cons
      opEvcTargetGet_good <| good_nil

theorem opsAc_good : ∀ x ∈ opsAc, x.Good :=
  good_cons opAcLoad_good <| good_cons opAcStart_good <| good_cons opAcStop_good <| good_cons opAcStatusGet_good <|
      good_cons opAcPermitSet_good <| good_cons opAcPermitGet_good <| good_nil

theorem opList_good : ∀ x ∈ opList, x.Good :=
  (good_append (good_append (good_append (good_append (good_append (good_append (good_append (good_append
      (good_append (good_append (good_append (good_append (good_append opsSys_good opsLane_good) opsTable_good)
      opsStream_good) opsTiming_good) opsEvent_good) opsClock_good) opsCount_good) opsBond_good) opsCal_good)
      opsSecure_good) opsPower_good) opsEvc_good) opsAc_good)

theorem opTable_good : TblGood opTable := fun _ _ e => opList_good _ (List.mem_of_find?_eq_some e)

theorem execNop_good (r : Req) (s : State) (h : s.Good q) : OutGood q (execNop r s) :=
  runCommand_good _ _ _ _ h opTable_good opNop_good

theorem execSysInfoGet_good (r : Req) (s : State) (h : s.Good q) : OutGood q (execSysInfoGet r s) :=
  runCommand_good _ _ _ _ h opTable_good opSysInfoGet_good

theorem execJournalGet_good (r : Req) (s : State) (h : s.Good q) : OutGood q (execJournalGet r s) :=
  runCommand_good _ _ _ _ h opTable_good opJournalGet_good

theorem execMortarSet_good (r : Req) (s : State) (h : s.Good q) : OutGood q (execMortarSet r s) :=
  runCommand_good _ _ _ _ h opTable_good opMortarSet_good

theorem execMortarGet_good (r : Req) (s : State) (h : s.Good q) : OutGood q (execMortarGet r s) :=
  runCommand_good _ _ _ _ h opTable_good opMortarGet_good

theorem execDigestRun_good (r : Req) (s : State) (h : s.Good q) : OutGood q (execDigestRun r s) :=
  runCommand_good _ _ _ _ h opTable_good opDigestRun_good

theorem execPortSet_good (r : Req) (s : State) (h : s.Good q) : OutGood q (execPortSet r s) :=
  runCommand_good _ _ _ _ h opTable_good opPortSet_good

theorem execPortGet_good (r : Req) (s : State) (h : s.Good q) : OutGood q (execPortGet r s) :=
  runCommand_good _ _ _ _ h opTable_good opPortGet_good

theorem execLaneStatusGet_good (r : Req) (s : State) (h : s.Good q) : OutGood q (execLaneStatusGet r s) :=
  runCommand_good _ _ _ _ h opTable_good opLaneStatusGet_good

theorem execLinkRetrain_good (r : Req) (s : State) (h : s.Good q) : OutGood q (execLinkRetrain r s) :=
  runCommand_good _ _ _ _ h opTable_good opLinkRetrain_good

theorem execLinkPark_good (r : Req) (s : State) (h : s.Good q) : OutGood q (execLinkPark r s) :=
  runCommand_good _ _ _ _ h opTable_good opLinkPark_good

theorem execQuadSet_good (r : Req) (s : State) (h : s.Good q) : OutGood q (execQuadSet r s) :=
  runCommand_good _ _ _ _ h opTable_good opQuadSet_good

theorem execQuadGet_good (r : Req) (s : State) (h : s.Good q) : OutGood q (execQuadGet r s) :=
  runCommand_good _ _ _ _ h opTable_good opQuadGet_good

theorem execEqSet_good (r : Req) (s : State) (h : s.Good q) : OutGood q (execEqSet r s) :=
  runCommand_good _ _ _ _ h opTable_good opEqSet_good

theorem execEqGet_good (r : Req) (s : State) (h : s.Good q) : OutGood q (execEqGet r s) :=
  runCommand_good _ _ _ _ h opTable_good opEqGet_good

theorem execModuleRead_good (r : Req) (s : State) (h : s.Good q) : OutGood q (execModuleRead r s) :=
  runCommand_good _ _ _ _ h opTable_good opModuleRead_good

theorem execModuleWrite_good (r : Req) (s : State) (h : s.Good q) : OutGood q (execModuleWrite r s) :=
  runCommand_good _ _ _ _ h opTable_good opModuleWrite_good

theorem execModuleCfgSet_good (r : Req) (s : State) (h : s.Good q) : OutGood q (execModuleCfgSet r s) :=
  runCommand_good _ _ _ _ h opTable_good opModuleCfgSet_good

theorem execModuleCfgGet_good (r : Req) (s : State) (h : s.Good q) : OutGood q (execModuleCfgGet r s) :=
  runCommand_good _ _ _ _ h opTable_good opModuleCfgGet_good

theorem execIngressSet_good (r : Req) (s : State) (h : s.Good q) : OutGood q (execIngressSet r s) :=
  runCommand_good _ _ _ _ h opTable_good opIngressSet_good

theorem execIngressGet_good (r : Req) (s : State) (h : s.Good q) : OutGood q (execIngressGet r s) :=
  runCommand_good _ _ _ _ h opTable_good opIngressGet_good

theorem execPoolSet_good (r : Req) (s : State) (h : s.Good q) : OutGood q (execPoolSet r s) :=
  runCommand_good _ _ _ _ h opTable_good opPoolSet_good

theorem execPoolGet_good (r : Req) (s : State) (h : s.Good q) : OutGood q (execPoolGet r s) :=
  runCommand_good _ _ _ _ h opTable_good opPoolGet_good

theorem execQueueSet_good (r : Req) (s : State) (h : s.Good q) : OutGood q (execQueueSet r s) :=
  runCommand_good _ _ _ _ h opTable_good opQueueSet_good

theorem execQueueGet_good (r : Req) (s : State) (h : s.Good q) : OutGood q (execQueueGet r s) :=
  runCommand_good _ _ _ _ h opTable_good opQueueGet_good

theorem execSchedSet_good (r : Req) (s : State) (h : s.Good q) : OutGood q (execSchedSet r s) :=
  runCommand_good _ _ _ _ h opTable_good opSchedSet_good

theorem execSchedGet_good (r : Req) (s : State) (h : s.Good q) : OutGood q (execSchedGet r s) :=
  runCommand_good _ _ _ _ h opTable_good opSchedGet_good

theorem execPauseSet_good (r : Req) (s : State) (h : s.Good q) : OutGood q (execPauseSet r s) :=
  runCommand_good _ _ _ _ h opTable_good opPauseSet_good

theorem execPauseGet_good (r : Req) (s : State) (h : s.Good q) : OutGood q (execPauseGet r s) :=
  runCommand_good _ _ _ _ h opTable_good opPauseGet_good

theorem execMirrorSet_good (r : Req) (s : State) (h : s.Good q) : OutGood q (execMirrorSet r s) :=
  runCommand_good _ _ _ _ h opTable_good opMirrorSet_good

theorem execMirrorGet_good (r : Req) (s : State) (h : s.Good q) : OutGood q (execMirrorGet r s) :=
  runCommand_good _ _ _ _ h opTable_good opMirrorGet_good

theorem execL2Set_good (r : Req) (s : State) (h : s.Good q) : OutGood q (execL2Set r s) :=
  runCommand_good _ _ _ _ h opTable_good opL2Set_good

theorem execL2Del_good (r : Req) (s : State) (h : s.Good q) : OutGood q (execL2Del r s) :=
  runCommand_good _ _ _ _ h opTable_good opL2Del_good

theorem execL2Get_good (r : Req) (s : State) (h : s.Good q) : OutGood q (execL2Get r s) :=
  runCommand_good _ _ _ _ h opTable_good opL2Get_good

theorem execL2Flush_good (r : Req) (s : State) (h : s.Good q) : OutGood q (execL2Flush r s) :=
  runCommand_good _ _ _ _ h opTable_good opL2Flush_good

theorem execTableCfgSet_good (r : Req) (s : State) (h : s.Good q) : OutGood q (execTableCfgSet r s) :=
  runCommand_good _ _ _ _ h opTable_good opTableCfgSet_good

theorem execTableCfgGet_good (r : Req) (s : State) (h : s.Good q) : OutGood q (execTableCfgGet r s) :=
  runCommand_good _ _ _ _ h opTable_good opTableCfgGet_good

theorem execL2PortSet_good (r : Req) (s : State) (h : s.Good q) : OutGood q (execL2PortSet r s) :=
  runCommand_good _ _ _ _ h opTable_good opL2PortSet_good

theorem execL2PortGet_good (r : Req) (s : State) (h : s.Good q) : OutGood q (execL2PortGet r s) :=
  runCommand_good _ _ _ _ h opTable_good opL2PortGet_good

theorem execL2Unlock_good (r : Req) (s : State) (h : s.Good q) : OutGood q (execL2Unlock r s) :=
  runCommand_good _ _ _ _ h opTable_good opL2Unlock_good

theorem execVlanSet_good (r : Req) (s : State) (h : s.Good q) : OutGood q (execVlanSet r s) :=
  runCommand_good _ _ _ _ h opTable_good opVlanSet_good

theorem execVlanGet_good (r : Req) (s : State) (h : s.Good q) : OutGood q (execVlanGet r s) :=
  runCommand_good _ _ _ _ h opTable_good opVlanGet_good

theorem execRifSet_good (r : Req) (s : State) (h : s.Good q) : OutGood q (execRifSet r s) :=
  runCommand_good _ _ _ _ h opTable_good opRifSet_good

theorem execRifGet_good (r : Req) (s : State) (h : s.Good q) : OutGood q (execRifGet r s) :=
  runCommand_good _ _ _ _ h opTable_good opRifGet_good

theorem execNhSet_good (r : Req) (s : State) (h : s.Good q) : OutGood q (execNhSet r s) :=
  runCommand_good _ _ _ _ h opTable_good opNhSet_good

theorem execNhGet_good (r : Req) (s : State) (h : s.Good q) : OutGood q (execNhGet r s) :=
  runCommand_good _ _ _ _ h opTable_good opNhGet_good

theorem execRouteSet_good (r : Req) (s : State) (h : s.Good q) : OutGood q (execRouteSet r s) :=
  runCommand_good _ _ _ _ h opTable_good opRouteSet_good

theorem execRouteDel_good (r : Req) (s : State) (h : s.Good q) : OutGood q (execRouteDel r s) :=
  runCommand_good _ _ _ _ h opTable_good opRouteDel_good

theorem execRouteGet_good (r : Req) (s : State) (h : s.Good q) : OutGood q (execRouteGet r s) :=
  runCommand_good _ _ _ _ h opTable_good opRouteGet_good

theorem execMcgSet_good (r : Req) (s : State) (h : s.Good q) : OutGood q (execMcgSet r s) :=
  runCommand_good _ _ _ _ h opTable_good opMcgSet_good

theorem execMcgGet_good (r : Req) (s : State) (h : s.Good q) : OutGood q (execMcgGet r s) :=
  runCommand_good _ _ _ _ h opTable_good opMcgGet_good

theorem execFfgSet_good (r : Req) (s : State) (h : s.Good q) : OutGood q (execFfgSet r s) :=
  runCommand_good _ _ _ _ h opTable_good opFfgSet_good

theorem execFfgGet_good (r : Req) (s : State) (h : s.Good q) : OutGood q (execFfgGet r s) :=
  runCommand_good _ _ _ _ h opTable_good opFfgGet_good

theorem execFence_good (r : Req) (s : State) (h : s.Good q) : OutGood q (execFence r s) :=
  runCommand_good _ _ _ _ h opTable_good opFence_good

theorem execStreamSet_good (r : Req) (s : State) (h : s.Good q) : OutGood q (execStreamSet r s) :=
  runCommand_good _ _ _ _ h opTable_good opStreamSet_good

theorem execStreamGet_good (r : Req) (s : State) (h : s.Good q) : OutGood q (execStreamGet r s) :=
  runCommand_good _ _ _ _ h opTable_good opStreamGet_good

theorem execMeterSet_good (r : Req) (s : State) (h : s.Good q) : OutGood q (execMeterSet r s) :=
  runCommand_good _ _ _ _ h opTable_good opMeterSet_good

theorem execMeterGet_good (r : Req) (s : State) (h : s.Good q) : OutGood q (execMeterGet r s) :=
  runCommand_good _ _ _ _ h opTable_good opMeterGet_good

theorem execWindowSet_good (r : Req) (s : State) (h : s.Good q) : OutGood q (execWindowSet r s) :=
  runCommand_good _ _ _ _ h opTable_good opWindowSet_good

theorem execRecoverySet_good (r : Req) (s : State) (h : s.Good q) : OutGood q (execRecoverySet r s) :=
  runCommand_good _ _ _ _ h opTable_good opRecoverySet_good

theorem execRecoveryGet_good (r : Req) (s : State) (h : s.Good q) : OutGood q (execRecoveryGet r s) :=
  runCommand_good _ _ _ _ h opTable_good opRecoveryGet_good

theorem execRecoveryReset_good (r : Req) (s : State) (h : s.Good q) : OutGood q (execRecoveryReset r s) :=
  runCommand_good _ _ _ _ h opTable_good opRecoveryReset_good

theorem execCourseSet_good (r : Req) (s : State) (h : s.Good q) : OutGood q (execCourseSet r s) :=
  runCommand_good _ _ _ _ h opTable_good opCourseSet_good

theorem execCourseEntrySet_good (r : Req) (s : State) (h : s.Good q) : OutGood q (execCourseEntrySet r s) :=
  runCommand_good _ _ _ _ h opTable_good opCourseEntrySet_good

theorem execCourseCommit_good (r : Req) (s : State) (h : s.Good q) : OutGood q (execCourseCommit r s) :=
  runCommand_good _ _ _ _ h opTable_good opCourseCommit_good

theorem execCourseGet_good (r : Req) (s : State) (h : s.Good q) : OutGood q (execCourseGet r s) :=
  runCommand_good _ _ _ _ h opTable_good opCourseGet_good

theorem execCourseEntryGet_good (r : Req) (s : State) (h : s.Good q) : OutGood q (execCourseEntryGet r s) :=
  runCommand_good _ _ _ _ h opTable_good opCourseEntryGet_good

theorem execCourseReportGet_good (r : Req) (s : State) (h : s.Good q) : OutGood q (execCourseReportGet r s) :=
  runCommand_good _ _ _ _ h opTable_good opCourseReportGet_good

theorem execCourseClear_good (r : Req) (s : State) (h : s.Good q) : OutGood q (execCourseClear r s) :=
  runCommand_good _ _ _ _ h opTable_good opCourseClear_good

theorem execTkStatusGet_good (r : Req) (s : State) (h : s.Good q) : OutGood q (execTkStatusGet r s) :=
  runCommand_good _ _ _ _ h opTable_good opTkStatusGet_good

theorem execRefStatusGet_good (r : Req) (s : State) (h : s.Good q) : OutGood q (execRefStatusGet r s) :=
  runCommand_good _ _ _ _ h opTable_good opRefStatusGet_good

theorem execTimeSet_good (r : Req) (s : State) (h : s.Good q) : OutGood q (execTimeSet r s) :=
  runCommand_good _ _ _ _ h opTable_good opTimeSet_good

theorem execRefCmd_good (r : Req) (s : State) (h : s.Good q) : OutGood q (execRefCmd r s) :=
  runCommand_good _ _ _ _ h opTable_good opRefCmd_good

theorem execTimeAcceptStep_good (r : Req) (s : State) (h : s.Good q) : OutGood q (execTimeAcceptStep r s) :=
  runCommand_good _ _ _ _ h opTable_good opTimeAcceptStep_good

theorem execRefSet_good (r : Req) (s : State) (h : s.Good q) : OutGood q (execRefSet r s) :=
  runCommand_good _ _ _ _ h opTable_good opRefSet_good

theorem execRefGet_good (r : Req) (s : State) (h : s.Good q) : OutGood q (execRefGet r s) :=
  runCommand_good _ _ _ _ h opTable_good opRefGet_good

theorem execServoSet_good (r : Req) (s : State) (h : s.Good q) : OutGood q (execServoSet r s) :=
  runCommand_good _ _ _ _ h opTable_good opServoSet_good

theorem execServoGet_good (r : Req) (s : State) (h : s.Good q) : OutGood q (execServoGet r s) :=
  runCommand_good _ _ _ _ h opTable_good opServoGet_good

theorem execKeeperCfgSet_good (r : Req) (s : State) (h : s.Good q) : OutGood q (execKeeperCfgSet r s) :=
  runCommand_good _ _ _ _ h opTable_good opKeeperCfgSet_good

theorem execKeeperCfgGet_good (r : Req) (s : State) (h : s.Good q) : OutGood q (execKeeperCfgGet r s) :=
  runCommand_good _ _ _ _ h opTable_good opKeeperCfgGet_good

theorem execPtpPortSet_good (r : Req) (s : State) (h : s.Good q) : OutGood q (execPtpPortSet r s) :=
  runCommand_good _ _ _ _ h opTable_good opPtpPortSet_good

theorem execPtpPortGet_good (r : Req) (s : State) (h : s.Good q) : OutGood q (execPtpPortGet r s) :=
  runCommand_good _ _ _ _ h opTable_good opPtpPortGet_good

theorem execSynceSet_good (r : Req) (s : State) (h : s.Good q) : OutGood q (execSynceSet r s) :=
  runCommand_good _ _ _ _ h opTable_good opSynceSet_good

theorem execSynceGet_good (r : Req) (s : State) (h : s.Good q) : OutGood q (execSynceGet r s) :=
  runCommand_good _ _ _ _ h opTable_good opSynceGet_good

theorem execRefinSet_good (r : Req) (s : State) (h : s.Good q) : OutGood q (execRefinSet r s) :=
  runCommand_good _ _ _ _ h opTable_good opRefinSet_good

theorem execRefinGet_good (r : Req) (s : State) (h : s.Good q) : OutGood q (execRefinGet r s) :=
  runCommand_good _ _ _ _ h opTable_good opRefinGet_good

theorem execLinkTimingSet_good (r : Req) (s : State) (h : s.Good q) : OutGood q (execLinkTimingSet r s) :=
  runCommand_good _ _ _ _ h opTable_good opLinkTimingSet_good

theorem execLinkTimingGet_good (r : Req) (s : State) (h : s.Good q) : OutGood q (execLinkTimingGet r s) :=
  runCommand_good _ _ _ _ h opTable_good opLinkTimingGet_good

theorem execAsymSet_good (r : Req) (s : State) (h : s.Good q) : OutGood q (execAsymSet r s) :=
  runCommand_good _ _ _ _ h opTable_good opAsymSet_good

theorem execAsymGet_good (r : Req) (s : State) (h : s.Good q) : OutGood q (execAsymGet r s) :=
  runCommand_good _ _ _ _ h opTable_good opAsymGet_good

theorem execLinkStatusGet_good (r : Req) (s : State) (h : s.Good q) : OutGood q (execLinkStatusGet r s) :=
  runCommand_good _ _ _ _ h opTable_good opLinkStatusGet_good

theorem execAsymMeasure_good (r : Req) (s : State) (h : s.Good q) : OutGood q (execAsymMeasure r s) :=
  runCommand_good _ _ _ _ h opTable_good opAsymMeasure_good

theorem execEvtCfgSet_good (r : Req) (s : State) (h : s.Good q) : OutGood q (execEvtCfgSet r s) :=
  runCommand_good _ _ _ _ h opTable_good opEvtCfgSet_good

theorem execEvtCfgGet_good (r : Req) (s : State) (h : s.Good q) : OutGood q (execEvtCfgGet r s) :=
  runCommand_good _ _ _ _ h opTable_good opEvtCfgGet_good

theorem execEvtEdge_good (r : Req) (s : State) (h : s.Good q) : OutGood q (execEvtEdge r s) :=
  runCommand_good _ _ _ _ h opTable_good opEvtEdge_good

theorem execEvtStampGet_good (r : Req) (s : State) (h : s.Good q) : OutGood q (execEvtStampGet r s) :=
  runCommand_good _ _ _ _ h opTable_good opEvtStampGet_good

theorem execEvtCancel_good (r : Req) (s : State) (h : s.Good q) : OutGood q (execEvtCancel r s) :=
  runCommand_good _ _ _ _ h opTable_good opEvtCancel_good

theorem execTimCfgSet_good (r : Req) (s : State) (h : s.Good q) : OutGood q (execTimCfgSet r s) :=
  runCommand_good _ _ _ _ h opTable_good opTimCfgSet_good

theorem execTimCfgGet_good (r : Req) (s : State) (h : s.Good q) : OutGood q (execTimCfgGet r s) :=
  runCommand_good _ _ _ _ h opTable_good opTimCfgGet_good

theorem execTimArm_good (r : Req) (s : State) (h : s.Good q) : OutGood q (execTimArm r s) :=
  runCommand_good _ _ _ _ h opTable_good opTimArm_good

theorem execTimRawGet_good (r : Req) (s : State) (h : s.Good q) : OutGood q (execTimRawGet r s) :=
  runCommand_good _ _ _ _ h opTable_good opTimRawGet_good

theorem execTimStatsGet_good (r : Req) (s : State) (h : s.Good q) : OutGood q (execTimStatsGet r s) :=
  runCommand_good _ _ _ _ h opTable_good opTimStatsGet_good

theorem execMrefSet_good (r : Req) (s : State) (h : s.Good q) : OutGood q (execMrefSet r s) :=
  runCommand_good _ _ _ _ h opTable_good opMrefSet_good

theorem execMrefGet_good (r : Req) (s : State) (h : s.Good q) : OutGood q (execMrefGet r s) :=
  runCommand_good _ _ _ _ h opTable_good opMrefGet_good

theorem execCkoSet_good (r : Req) (s : State) (h : s.Good q) : OutGood q (execCkoSet r s) :=
  runCommand_good _ _ _ _ h opTable_good opCkoSet_good

theorem execCkoGet_good (r : Req) (s : State) (h : s.Good q) : OutGood q (execCkoGet r s) :=
  runCommand_good _ _ _ _ h opTable_good opCkoGet_good

theorem execCkoProfileSet_good (r : Req) (s : State) (h : s.Good q) : OutGood q (execCkoProfileSet r s) :=
  runCommand_good _ _ _ _ h opTable_good opCkoProfileSet_good

theorem execCkoProfileStart_good (r : Req) (s : State) (h : s.Good q) : OutGood q (execCkoProfileStart r s) :=
  runCommand_good _ _ _ _ h opTable_good opCkoProfileStart_good

theorem execCkoPhaseGet_good (r : Req) (s : State) (h : s.Good q) : OutGood q (execCkoPhaseGet r s) :=
  runCommand_good _ _ _ _ h opTable_good opCkoPhaseGet_good

theorem execCkoCmd_good (r : Req) (s : State) (h : s.Good q) : OutGood q (execCkoCmd r s) :=
  runCommand_good _ _ _ _ h opTable_good opCkoCmd_good

theorem execCounterGet_good (r : Req) (s : State) (h : s.Good q) : OutGood q (execCounterGet r s) :=
  runCommand_good _ _ _ _ h opTable_good opCounterGet_good

theorem execPalletSnapshot_good (r : Req) (s : State) (h : s.Good q) : OutGood q (execPalletSnapshot r s) :=
  runCommand_good _ _ _ _ h opTable_good opPalletSnapshot_good

theorem execPalletGet_good (r : Req) (s : State) (h : s.Good q) : OutGood q (execPalletGet r s) :=
  runCommand_good _ _ _ _ h opTable_good opPalletGet_good

theorem execCounterCatalogGet_good (r : Req) (s : State) (h : s.Good q) : OutGood q (execCounterCatalogGet r s) :=
  runCommand_good _ _ _ _ h opTable_good opCounterCatalogGet_good

theorem execBondStatusGet_good (r : Req) (s : State) (h : s.Good q) : OutGood q (execBondStatusGet r s) :=
  runCommand_good _ _ _ _ h opTable_good opBondStatusGet_good

theorem execBondCfgSet_good (r : Req) (s : State) (h : s.Good q) : OutGood q (execBondCfgSet r s) :=
  runCommand_good _ _ _ _ h opTable_good opBondCfgSet_good

theorem execBondCfgGet_good (r : Req) (s : State) (h : s.Good q) : OutGood q (execBondCfgGet r s) :=
  runCommand_good _ _ _ _ h opTable_good opBondCfgGet_good

theorem execBondHandover_good (r : Req) (s : State) (h : s.Good q) : OutGood q (execBondHandover r s) :=
  runCommand_good _ _ _ _ h opTable_good opBondHandover_good

theorem execKeeperDisable_good (r : Req) (s : State) (h : s.Good q) : OutGood q (execKeeperDisable r s) :=
  runCommand_good _ _ _ _ h opTable_good opKeeperDisable_good

theorem execKeeperEnable_good (r : Req) (s : State) (h : s.Good q) : OutGood q (execKeeperEnable r s) :=
  runCommand_good _ _ _ _ h opTable_good opKeeperEnable_good

theorem execFootingEnter_good (r : Req) (s : State) (h : s.Good q) : OutGood q (execFootingEnter r s) :=
  runCommand_good _ _ _ _ h opTable_good opFootingEnter_good

theorem execFootingExit_good (r : Req) (s : State) (h : s.Good q) : OutGood q (execFootingExit r s) :=
  runCommand_good _ _ _ _ h opTable_good opFootingExit_good

theorem execFootingCfgSet_good (r : Req) (s : State) (h : s.Good q) : OutGood q (execFootingCfgSet r s) :=
  runCommand_good _ _ _ _ h opTable_good opFootingCfgSet_good

theorem execFootingCfgGet_good (r : Req) (s : State) (h : s.Good q) : OutGood q (execFootingCfgGet r s) :=
  runCommand_good _ _ _ _ h opTable_good opFootingCfgGet_good

theorem execCalDelayRun_good (r : Req) (s : State) (h : s.Good q) : OutGood q (execCalDelayRun r s) :=
  runCommand_good _ _ _ _ h opTable_good opCalDelayRun_good

theorem execCalVernierRun_good (r : Req) (s : State) (h : s.Good q) : OutGood q (execCalVernierRun r s) :=
  runCommand_good _ _ _ _ h opTable_good opCalVernierRun_good

theorem execCalCfgSet_good (r : Req) (s : State) (h : s.Good q) : OutGood q (execCalCfgSet r s) :=
  runCommand_good _ _ _ _ h opTable_good opCalCfgSet_good

theorem execCalCfgGet_good (r : Req) (s : State) (h : s.Good q) : OutGood q (execCalCfgGet r s) :=
  runCommand_good _ _ _ _ h opTable_good opCalCfgGet_good

theorem execCalTimeioRun_good (r : Req) (s : State) (h : s.Good q) : OutGood q (execCalTimeioRun r s) :=
  runCommand_good _ _ _ _ h opTable_good opCalTimeioRun_good

theorem execPolicyGet_good (r : Req) (s : State) (h : s.Good q) : OutGood q (execPolicyGet r s) :=
  runCommand_good _ _ _ _ h opTable_good opPolicyGet_good

theorem execPolicySet_good (r : Req) (s : State) (h : s.Good q) : OutGood q (execPolicySet r s) :=
  runCommand_good _ _ _ _ h opTable_good opPolicySet_good

theorem execKeyEnrol_good (r : Req) (s : State) (h : s.Good q) : OutGood q (execKeyEnrol r s) :=
  runCommand_good _ _ _ _ h opTable_good opKeyEnrol_good

theorem execKeyStatusGet_good (r : Req) (s : State) (h : s.Good q) : OutGood q (execKeyStatusGet r s) :=
  runCommand_good _ _ _ _ h opTable_good opKeyStatusGet_good

theorem execFwUpdateBegin_good (r : Req) (s : State) (h : s.Good q) : OutGood q (execFwUpdateBegin r s) :=
  runCommand_good _ _ _ _ h opTable_good opFwUpdateBegin_good

theorem execFwUpdateData_good (r : Req) (s : State) (h : s.Good q) : OutGood q (execFwUpdateData r s) :=
  runCommand_good _ _ _ _ h opTable_good opFwUpdateData_good

theorem execFwUpdateCommit_good (r : Req) (s : State) (h : s.Good q) : OutGood q (execFwUpdateCommit r s) :=
  runCommand_good _ _ _ _ h opTable_good opFwUpdateCommit_good

theorem execConfigLock_good (r : Req) (s : State) (h : s.Good q) : OutGood q (execConfigLock r s) :=
  runCommand_good _ _ _ _ h opTable_good opConfigLock_good

theorem execPowerStatusGet_good (r : Req) (s : State) (h : s.Good q) : OutGood q (execPowerStatusGet r s) :=
  runCommand_good _ _ _ _ h opTable_good opPowerStatusGet_good

theorem execSleepEnter_good (r : Req) (s : State) (h : s.Good q) : OutGood q (execSleepEnter r s) :=
  runCommand_good _ _ _ _ h opTable_good opSleepEnter_good

theorem execWakeCfgSet_good (r : Req) (s : State) (h : s.Good q) : OutGood q (execWakeCfgSet r s) :=
  runCommand_good _ _ _ _ h opTable_good opWakeCfgSet_good

theorem execWakeCfgGet_good (r : Req) (s : State) (h : s.Good q) : OutGood q (execWakeCfgGet r s) :=
  runCommand_good _ _ _ _ h opTable_good opWakeCfgGet_good

theorem execDeviceReset_good (r : Req) (s : State) (h : s.Good q) : OutGood q (execDeviceReset r s) :=
  runCommand_good _ _ _ _ h opTable_good opDeviceReset_good

theorem execEvcRouteSet_good (r : Req) (s : State) (h : s.Good q) : OutGood q (execEvcRouteSet r s) :=
  runCommand_good _ _ _ _ h opTable_good opEvcRouteSet_good

theorem execEvcRouteGet_good (r : Req) (s : State) (h : s.Good q) : OutGood q (execEvcRouteGet r s) :=
  runCommand_good _ _ _ _ h opTable_good opEvcRouteGet_good

theorem execEvcTargetSet_good (r : Req) (s : State) (h : s.Good q) : OutGood q (execEvcTargetSet r s) :=
  runCommand_good _ _ _ _ h opTable_good opEvcTargetSet_good

theorem execEvcTargetGet_good (r : Req) (s : State) (h : s.Good q) : OutGood q (execEvcTargetGet r s) :=
  runCommand_good _ _ _ _ h opTable_good opEvcTargetGet_good

theorem execAcLoad_good (r : Req) (s : State) (h : s.Good q) : OutGood q (execAcLoad r s) :=
  runCommand_good _ _ _ _ h opTable_good opAcLoad_good

theorem execAcStart_good (r : Req) (s : State) (h : s.Good q) : OutGood q (execAcStart r s) :=
  runCommand_good _ _ _ _ h opTable_good opAcStart_good

theorem execAcStop_good (r : Req) (s : State) (h : s.Good q) : OutGood q (execAcStop r s) :=
  runCommand_good _ _ _ _ h opTable_good opAcStop_good

theorem execAcStatusGet_good (r : Req) (s : State) (h : s.Good q) : OutGood q (execAcStatusGet r s) :=
  runCommand_good _ _ _ _ h opTable_good opAcStatusGet_good

theorem execAcPermitSet_good (r : Req) (s : State) (h : s.Good q) : OutGood q (execAcPermitSet r s) :=
  runCommand_good _ _ _ _ h opTable_good opAcPermitSet_good

theorem execAcPermitGet_good (r : Req) (s : State) (h : s.Good q) : OutGood q (execAcPermitGet r s) :=
  runCommand_good _ _ _ _ h opTable_good opAcPermitGet_good

theorem State.integrity_good (s : State) (a1 : Notice) (a2 : Bool) (a3 : Nat) (a4 : Instant) (hs : s.Good q) :
    (State.integrity s a1 a2 a3 a4).Good q := by
  unfold State.integrity
  extract_lets -underBinder +onlyGivenNames v0 v1
  have w1 : State.Good q (v1) := by
    unfold v1
    exact (State.countF_good _ _ _ _ hs)
  clear_value v1
  exact (State.replyTo_good _ _ _ _ _ _ _ (good_ite (State.abortBatch_good _ _ _ w1) w1))

theorem specOf_good (b : Buffer) (ws : List Word) : (specOf b ws).Good := by
  have hb : (match opTable (field (pword ws 0) 0 16) with
      | some o => o
      | none => opUnknown (field (pword ws 0) 0 16)).Good := by
    split
    · rename_i e
      exact opTable_good _ _ e
    · exact fun _ _ _ _ => resFail fun _ k => k
  unfold specOf
  extract_lets -underBinder +onlyGivenNames op base
  split
  · exact hb
  · exact hb

theorem State.takeNotice_good (s : State) (slot : Nat) (n : Notice) (dma : Option (List Word)) (t : Instant)
    (h : s.Good q) : (State.takeNotice s slot n dma t).Good q := by
  unfold State.takeNotice
  extract_lets -underBinder +onlyGivenNames x v s0 s1a s1
  have h1 : s1.Good q := State.setMbox_good _ _ _ _ (State.setSlotOf_good _ _ _ h)
  clear_value s1
  split
  · exact State.integrity_good _ _ _ _ _ h1
  · exact good_ite (runCommand_good _ _ _ _ h1 opTable_good (specOf_good _ _)) (State.integrity_good _ _ _ _ _ h1)

theorem execNoticeTake_good (a0 : Option (List Word)) (a1 : Instant) (s2 : State) (hs2 : s2.Good q) : OutGood q
    (execNoticeTake a0 a1 s2) := by
  unfold execNoticeTake
  extract_lets -underBinder +onlyGivenNames v0
  have w0 : State.Good q (v0) := by
    unfold v0
    exact (State.tick_good _ _ hs2)
  clear_value v0
  refine outGood_ite ?_ ?_
  · exact w0
  · split
    · exact w0
    · exact (outGood_ite (State.timeoutNotice_good _ _ _ w0) (State.takeNotice_good _ _ _ _ _ w0))

theorem State.cfgFail_good (s : State) (a1 : Nat) (a2 : Nat) (a3 : Instant) (hs : s.Good q) : (State.cfgFail s a1 a2
    a3).Good q := by
  unfold State.cfgFail
  extract_lets -underBinder +onlyGivenNames v0 v1
  have w1 : State.Good q (v1) := by
    unfold v1
    exact (.ofPwr hs)
  clear_value v1
  exact (State.raise_good _ _ _ _ _ _ w1)

theorem State.runPacket_good (fwd : Option Instant) (t : Instant) (s : State) (e : List Word × Nat) (h : s.Good q) :
    (State.runPacket fwd t s e).Good q := by
  unfold State.runPacket
  extract_lets -underBinder +onlyGivenNames b op r0a r0 r
  have hx := fun r => runBody_good op 0 r s h (specOf_good _ _)
  clear_value op r
  refine good_ite (State.cfgFail_good _ _ _ _ h) ?_
  split
  · exact State.cfgFail_good _ _ _ _ h
  · extract_lets -underBinder +onlyGivenNames x
    replace hx : x.Good q := hx r
    clear_value x
    split
    · exact State.cfgFail_good _ _ _ _ h
    · cases x
      · exact h
      · exact good_ite h hx
      · exact good_ite h hx

theorem State.interpReady_good (s : State) (a1 : Instant) (hs : s.Good q) : (State.interpReady s a1).Good q := by
  unfold State.interpReady
  extract_lets -underBinder +onlyGivenNames v0
  exact (.ofAll hs)

theorem State.configPart_good (s : State) (a1 : Instant) (hs : s.Good q) : (State.configPart s a1).Good q := by
  unfold State.configPart
  extract_lets -underBinder +onlyGivenNames v0 v1
  have w1 : State.Good q (v1) := by
    unfold v1
    exact (State.interpReady_good _ _ hs)
  clear_value v1
  extract_lets -underBinder +onlyGivenNames v21 v22
  have w22 : State.Good q (v22) := by
    unfold v22
    exact (.ofHost w1)
  clear_value v22
  extract_lets -underBinder +onlyGivenNames v42 v43 v44
  have w44 : State.Good q (v44) := by
    unfold v44
    exact (good_foldl w22 fun _ _ k0 => (State.runPacket_good _ _ _ _ k0))
  clear_value v44
  extract_lets -underBinder +onlyGivenNames v64 v65 v66
  have w66 : State.Good q (v66) := by
    unfold v66
    exact (.ofPwr w44)
  clear_value v66
  extract_lets -underBinder +onlyGivenNames v86
  have w86 : State.Good q (v86) := by
    unfold v86
    exact (good_foldl w66 fun _ _ k0 => (State.runPacket_good _ _ _ _ k0))
  clear_value v86
  exact (.ofAll w86)

theorem execConfigPartRun_good (a0 : Instant) (s1 : State) (hs1 : s1.Good q) : OutGood q (execConfigPartRun a0 s1)
    := by
  unfold execConfigPartRun
  extract_lets -underBinder +onlyGivenNames v0
  have w0 : State.Good q (v0) := by
    unfold v0
    exact (State.tick_good _ _ hs1)
  clear_value v0
  exact (outGood_ite w0 (State.configPart_good _ _ w0))

theorem okReply_good (a0 : OpSpec) (a1 : Req) (s2 : State) (s3 : State) (a4 : List Word) (hs2 : s2.Good q) (hs3 :
    s3.Good q) : (okReply a0 a1 s2 s3 a4).Good q := by
  unfold okReply
  exact (State.replyTo_good _ _ _ _ _ _ _ hs3)

theorem pendingReply_good (a0 : OpSpec) (a1 : Req) (s2 : State) (s3 : State) (a4 : List Word) (hs2 : s2.Good q)
    (hs3 : s3.Good q) : (pendingReply a0 a1 s2 s3 a4).Good q := by
  unfold pendingReply
  exact (State.replyTo_good _ _ _ _ _ _ _ (State.commitRec_good _ _ _ hs3))

theorem txnState_good (a0 : OpSpec) (a1 : Req) (s2 : State) (a3 : Instant) (a4 : Nat) (a5 : List Change) (hs2 :
    s2.Good q) : (txnState a0 a1 s2 a3 a4 a5).Good q := by
  unfold txnState
  exact (State.stage_good _ _ (taken_good _ _ _ hs2))

theorem stagedState_good (a0 : OpSpec) (a1 : Req) (s2 : State) (a3 : Nat) (a4 : Bool) (a5 : List Nat) (a6 : Nat) (a7 :
    List Change) (a8 : List Word) (hs2 : s2.Good q) : (stagedState a0 a1 s2 a3 a4 a5 a6 a7 a8).Good q := by
  unfold stagedState
  extract_lets -underBinder +onlyGivenNames v0 v1
  have w1 : State.Good q (v1) := by
    unfold v1
    exact (taken_good _ _ _ hs2)
  clear_value v1
  exact (good_ite (okReply_good _ _ _ _ _ hs2 (State.applyDue_good _ _ _ (State.stage_good _ _ w1)))
      (pendingReply_good _ _ _ _ _ hs2 (State.stage_good _ _ w1)))

theorem keeperState_good (a0 : OpSpec) (a1 : Req) (s2 : State) (a3 : TkChange) (hs2 : s2.Good q) : (keeperState a0
    a1 s2 a3).Good q := by
  unfold keeperState
  exact (pendingReply_good _ _ _ _ _ hs2 (State.putTk_good _ _ _ _ (taken_good _ _ _ hs2)))

end Sys2Proof.Machine
end

