-- ==== Sys2Proof/Laws/Reply.lean ====
section
/-! SUPPORT. A reply, and every other thing the interpreter does around a body, leaves the device as it is: the data
plane, the keepers, the lanes, timed I/O, power and security (`State.sameDevice`). A reply leaves the semaphore too. -/

namespace Sys2Proof.Machine

namespace State

theorem sameDevice.refl (s : State) : s.sameDevice s := ⟨rfl, rfl, rfl, rfl, rfl, rfl, rfl, rfl, rfl, rfl, rfl⟩

theorem sameDevice.trans {s t u : State} (h : s.sameDevice t) (k : t.sameDevice u) : s.sameDevice u := by
  obtain ⟨a1, a2, a3, a4, a5, a6, a7, a8, a9, a10, a11⟩ := h
  obtain ⟨b1, b2, b3, b4, b5, b6, b7, b8, b9, b10, b11⟩ := k
  exact ⟨b1.trans a1, b2.trans a2, b3.trans a3, b4.trans a4, b5.trans a5, b6.trans a6, b7.trans a7, b8.trans a8,
    b9.trans a9, b10.trans a10, b11.trans a11⟩

/-- The host ports, the concentrator with the cores, the outputs, the queue and the time may change. -/
theorem sameDevice.of (s : State) {n p h c o} : s.sameDevice (State.mk n p s.cfg s.fab s.tab s.egr s.crs s.tk s.lt s.flt s.lan
    s.tio h c s.pwr o) := ⟨rfl, rfl, rfl, rfl, rfl, rfl, rfl, rfl, rfl, rfl, rfl⟩

theorem EventOnly.sameDevice {s t : State} (h : EventOnly s t) : s.sameDevice t :=
  ⟨h.cfg, h.fab, h.tab, h.egr, h.crs, h.tk, h.lt, h.flt, h.lan, h.tio, h.pwr⟩

/-- Two states that differ at most in what replies use: the queue, the time, the outputs, the concentrator with the
cores, and the host ports but for the semaphore. -/
def Aside (s t : State) : Prop := s.sameDevice t ∧ t.host.sem = s.host.sem

theorem Aside.refl (s : State) : s.Aside s := ⟨.refl s, rfl⟩

theorem Aside.trans {s t u : State} (h : s.Aside t) (k : t.Aside u) : s.Aside u := ⟨h.1.trans k.1, k.2.trans h.2⟩

theorem Aside.of (s : State) {n p h0 h1 h2 h3 h4 h5 h6 h7 h8 h9 h10 h11 h12 h13 c o} :
    s.Aside (State.mk n p s.cfg s.fab s.tab s.egr s.crs s.tk s.lt s.flt s.lan s.tio (HostState.mk s.host.sem h0 h1 h2
    h3 h4 h5 h6 h7 h8 h9 h10 h11 h12 h13) c s.pwr o) := ⟨.of s, rfl⟩

theorem EventOnly.aside {s t : State} (h : EventOnly s t) : s.Aside t := ⟨h.sameDevice, h.sem⟩

theorem setJrec_aside (s : State) (j : Nat) (r : JRec) : s.Aside (s.setJrec j r) := .of s

theorem closeJrec_aside (s : State) (j : Nat) : s.Aside (s.closeJrec j) := by
  unfold closeJrec
  split
  · exact .refl s
  · dsimp only
    split
    · exact .of s
    · exact .of s

theorem setAc_aside (s : State) (c : AppCore) (a : AcState) : s.Aside (s.setAc c a) := by
  cases c <;> exact .of s

theorem writeMem_aside (s : State) (x : Sender) (lo hi : Word) (n : Nat) (bs : List Byte) :
    s.Aside (s.writeMem x lo hi n bs) := by
  unfold writeMem
  split
  · exact setAc_aside ..
  · split
    · exact .of s
    · exact .of s

theorem writeReply_aside (s : State) (x : Sender) (r : Reply) : s.Aside (s.writeReply x r) := by
  unfold writeReply
  extract_lets f s1 s2 f2 nxt s3 s4
  have h : s.Aside s3 := ((writeMem_aside ..).trans (writeMem_aside ..)).trans (.of s2)
  have h4 : s.Aside s4 := by
    refine h.trans ?_
    simp only [s4]
    split
    · exact (raisePrivate_eventOnly ..).aside
    · exact (ringDb_eventOnly ..).aside
  split
  · exact h4.trans (closeJrec_aside ..)
  · exact h4

/-- A reply leaves the device as it is. -/
theorem post_aside (s : State) (x : Sender) (r : Reply) : s.Aside (s.post x r) := by
  unfold post
  extract_lets -underBinder +onlyGivenNames f
  split
  · have h := (countF_eventOnly s x 4 1).aside
    extract_lets s1
    split
    · exact h.trans (closeJrec_aside ..)
    · exact h
  · split
    · extract_lets -underBinder +onlyGivenNames s0 s1
      have h0 : s.Aside s0 := .of s
      have h1 : s.Aside s1 := by
        refine h0.trans ?_
        simp only [s1]
        split
        · split
          · exact setJrec_aside ..
          · exact .refl _
        · exact .refl _
      split
      · exact h1
      · exact h1.trans (ringDb_eventOnly ..).aside
    · exact writeReply_aside ..

theorem replyTo_aside (s : State) (op jid st : Nat) (final : Bool) (ws : List Word) (r : Req) :
    s.Aside (s.replyTo op jid st final ws r) := post_aside ..

theorem commitRec_aside (s : State) (jid : Nat) (ws : List Word) : s.Aside (s.commitRec jid ws) := by
  unfold commitRec
  split
  · exact setJrec_aside ..
  · exact .refl s

theorem foldl_aside {α : Type} {f : State → α → State} (l : List α) (s : State) (h : ∀ (z : State) (y : α), z.Aside (f z y)) :
    s.Aside (l.foldl f s) := by
  induction l generalizing s with
  | nil => exact .refl s
  | cons x l ih => exact (h s x).trans (ih _)

/-- A batch that ends ABORTED leaves the device and the semaphore. -/
theorem abortBatch_aside (s : State) (x : Sender) (t : Instant) : s.Aside (s.abortBatch x t) :=
  Aside.trans (.of s) (foldl_aside _ _ fun _ _ => replyTo_aside ..)

end State

open State

theorem taken_aside (op : OpSpec) (r : Req) (s : State) : s.Aside (taken op r s) := by
  obtain ⟨u, h, e⟩ := taken_eventOnly op r s
  rw [e]
  exact State.Aside.trans (.of s) (h.aside.trans (.of u))

/-- An answer to `s` that leaves the device as it is. -/
def Res.Leaves (s : State) : Res → Prop
  | .done t _ => s.sameDevice t
  | .wait t _ => s.sameDevice t
  | .fail _ _ f => ∀ z : State, z.sameDevice (f z)

theorem Res.leaves_done (s : State) (ws : List Word) : (Res.done s ws).Leaves s := .refl s

theorem Res.leaves_fail (s : State) (n : Nat) (ws : List Word) : (Res.fail n ws).Leaves s := fun z => .refl z

theorem Res.leaves_refuseIf {s : State} {k : Res} (b : Bool) (n : Nat) (h : k.Leaves s) :
    (refuseIf b n k).Leaves s := by
  unfold refuseIf
  split
  · exact Res.leaves_fail s n []
  · exact h

/-- A body that leaves the device as it is, whatever it answers. -/
def OpSpec.ReadOnly (op : OpSpec) : Prop := ∀ (c : Ctx) (s : State), (op.body c s).Leaves s

theorem commitOne_sameDevice {op : OpSpec} (h : op.ReadOnly) (jid : Nat) (r : Req) (s : State) :
    match commitOne op jid r s with
    | .inl t => s.sameDevice t
    | .inr f => ∀ z : State, z.sameDevice (f.mark z) := by
  have hb := h ⟨r, jid, if r.applyOn ∧ op.apply ≠ .ignored then some (r.applyAt s.now) else none⟩ s
  unfold commitOne runBody
  dsimp only
  split <;> (rename_i e; split at e <;> rename_i e' <;> rw [e'] at hb) <;> cases e
  · exact State.sameDevice.trans hb (replyTo_aside ..).1
  · exact State.sameDevice.trans hb ((commitRec_aside ..).trans (replyTo_aside ..)).1
  · exact hb

/-- A packet outside any batch leaves the device as it is if it carries CHECK_ONLY or its body only reads (12 R505). -/
theorem runCommand_sameDevice (tbl : Nat → Option OpSpec) (op : OpSpec) (r : Req) (s : State)
    (h1 : singleReq r s = true) (h : r.checkOnly = true ∨ op.ReadOnly) :
    s.sameDevice (runCommand tbl op r s) := by
  have hx := (taken_aside op r s).1
  have hc : s.sameDevice ((s.tick r.t).countF r.sender 5) :=
    State.sameDevice.trans (.of s) (countF_eventOnly ..).sameDevice
  have hb : ((s.tick r.t).countF r.sender 5).batchOpen r.sender = s.batchOpen r.sender := by
    unfold batchOpen
    rw [(countF_eventOnly (s.tick r.t) r.sender 5 1).batch]
    rfl
  have hb2 : (taken op r s).batchOpen r.sender = s.batchOpen r.sender := by
    unfold batchOpen
    rw [taken_batch]
  simp only [singleReq, Bool.and_eq_true, Bool.or_eq_true, Bool.not_eq_true'] at h1
  have hn : (!r.viaPriv && s.batchOpen r.sender) = false := by
    rcases h1.2 with e | e <;> simp [e]
  unfold runCommand
  simp only [hb, hb2, hn, h1.1, Bool.false_eq_true, if_false, Bool.or_self, Bool.false_and]
  split
  · exact hc.trans (replyTo_aside ..).1
  · split
    · exact hx.trans (replyTo_aside ..).1
    · split
      · split
        · exact hx.trans (replyTo_aside ..).1
        · exact hx.trans (replyTo_aside ..).1
      · rename_i hk
        have hm := commitOne_sameDevice (h.resolve_left hk) s.host.nextJid r (taken op r s)
        split <;> rename_i e <;> rw [e] at hm
        · exact hx.trans hm
        · exact hx.trans (State.sameDevice.trans (hm _) (replyTo_aside ..).1)

end Sys2Proof.Machine
end

