-- ==== Sys2Proof/Laws/State.lean ====
section
/-! SUPPORT. What each named update of State leaves: one law for each update and field. -/

namespace Sys2Proof.Machine

@[simp] theorem State.tick_pending (s : State) (t : Instant) : (s.tick t).pending = s.pending := rfl
@[simp] theorem State.tick_cfg (s : State) (t : Instant) : (s.tick t).cfg = s.cfg := rfl
@[simp] theorem State.tick_fab (s : State) (t : Instant) : (s.tick t).fab = s.fab := rfl
@[simp] theorem State.tick_tab (s : State) (t : Instant) : (s.tick t).tab = s.tab := rfl
@[simp] theorem State.tick_egr (s : State) (t : Instant) : (s.tick t).egr = s.egr := rfl
@[simp] theorem State.tick_crs (s : State) (t : Instant) : (s.tick t).crs = s.crs := rfl
@[simp] theorem State.tick_tk (s : State) (t : Instant) : (s.tick t).tk = s.tk := rfl
@[simp] theorem State.tick_lt (s : State) (t : Instant) : (s.tick t).lt = s.lt := rfl
@[simp] theorem State.tick_flt (s : State) (t : Instant) : (s.tick t).flt = s.flt := rfl
@[simp] theorem State.tick_lan (s : State) (t : Instant) : (s.tick t).lan = s.lan := rfl
@[simp] theorem State.tick_tio (s : State) (t : Instant) : (s.tick t).tio = s.tio := rfl
@[simp] theorem State.tick_host (s : State) (t : Instant) : (s.tick t).host = s.host := rfl
@[simp] theorem State.tick_cores (s : State) (t : Instant) : (s.tick t).cores = s.cores := rfl
@[simp] theorem State.tick_pwr (s : State) (t : Instant) : (s.tick t).pwr = s.pwr := rfl
@[simp] theorem State.tick_out (s : State) (t : Instant) : (s.tick t).out = s.out := rfl
@[simp] theorem State.emit_now (s : State) (o : Out) : (s.emit o).now = s.now := rfl
@[simp] theorem State.emit_pending (s : State) (o : Out) : (s.emit o).pending = s.pending := rfl
@[simp] theorem State.emit_cfg (s : State) (o : Out) : (s.emit o).cfg = s.cfg := rfl
@[simp] theorem State.emit_fab (s : State) (o : Out) : (s.emit o).fab = s.fab := rfl
@[simp] theorem State.emit_tab (s : State) (o : Out) : (s.emit o).tab = s.tab := rfl
@[simp] theorem State.emit_egr (s : State) (o : Out) : (s.emit o).egr = s.egr := rfl
@[simp] theorem State.emit_crs (s : State) (o : Out) : (s.emit o).crs = s.crs := rfl
@[simp] theorem State.emit_tk (s : State) (o : Out) : (s.emit o).tk = s.tk := rfl
@[simp] theorem State.emit_lt (s : State) (o : Out) : (s.emit o).lt = s.lt := rfl
@[simp] theorem State.emit_flt (s : State) (o : Out) : (s.emit o).flt = s.flt := rfl
@[simp] theorem State.emit_lan (s : State) (o : Out) : (s.emit o).lan = s.lan := rfl
@[simp] theorem State.emit_tio (s : State) (o : Out) : (s.emit o).tio = s.tio := rfl
@[simp] theorem State.emit_host (s : State) (o : Out) : (s.emit o).host = s.host := rfl
@[simp] theorem State.emit_cores (s : State) (o : Out) : (s.emit o).cores = s.cores := rfl
@[simp] theorem State.emit_pwr (s : State) (o : Out) : (s.emit o).pwr = s.pwr := rfl
@[simp] theorem State.setFn_now (s : State) (x : Sender) (r : FnRegs) : (s.setFn x r).now = s.now := rfl
@[simp] theorem State.setFn_pending (s : State) (x : Sender) (r : FnRegs) : (s.setFn x r).pending = s.pending := rfl
@[simp] theorem State.setFn_cfg (s : State) (x : Sender) (r : FnRegs) : (s.setFn x r).cfg = s.cfg := rfl
@[simp] theorem State.setFn_fab (s : State) (x : Sender) (r : FnRegs) : (s.setFn x r).fab = s.fab := rfl
@[simp] theorem State.setFn_tab (s : State) (x : Sender) (r : FnRegs) : (s.setFn x r).tab = s.tab := rfl
@[simp] theorem State.setFn_egr (s : State) (x : Sender) (r : FnRegs) : (s.setFn x r).egr = s.egr := rfl
@[simp] theorem State.setFn_crs (s : State) (x : Sender) (r : FnRegs) : (s.setFn x r).crs = s.crs := rfl
@[simp] theorem State.setFn_tk (s : State) (x : Sender) (r : FnRegs) : (s.setFn x r).tk = s.tk := rfl
@[simp] theorem State.setFn_lt (s : State) (x : Sender) (r : FnRegs) : (s.setFn x r).lt = s.lt := rfl
@[simp] theorem State.setFn_flt (s : State) (x : Sender) (r : FnRegs) : (s.setFn x r).flt = s.flt := rfl
@[simp] theorem State.setFn_lan (s : State) (x : Sender) (r : FnRegs) : (s.setFn x r).lan = s.lan := rfl
@[simp] theorem State.setFn_tio (s : State) (x : Sender) (r : FnRegs) : (s.setFn x r).tio = s.tio := rfl
@[simp] theorem State.setFn_cores (s : State) (x : Sender) (r : FnRegs) : (s.setFn x r).cores = s.cores := rfl
@[simp] theorem State.setFn_pwr (s : State) (x : Sender) (r : FnRegs) : (s.setFn x r).pwr = s.pwr := rfl
@[simp] theorem State.setFn_out (s : State) (x : Sender) (r : FnRegs) : (s.setFn x r).out = s.out := rfl
@[simp] theorem State.setHostRegs_now (s : State) (h : HostPort) (r : HostRegs) : (s.setHostRegs h r).now = s.now := by
  unfold State.setHostRegs; split <;> rfl
@[simp] theorem State.setHostRegs_pending (s : State) (h : HostPort) (r : HostRegs) : (s.setHostRegs h r).pending = s.pending := by
  unfold State.setHostRegs; split <;> rfl
@[simp] theorem State.setHostRegs_cfg (s : State) (h : HostPort) (r : HostRegs) : (s.setHostRegs h r).cfg = s.cfg := by
  unfold State.setHostRegs; split <;> rfl
@[simp] theorem State.setHostRegs_fab (s : State) (h : HostPort) (r : HostRegs) : (s.setHostRegs h r).fab = s.fab := by
  unfold State.setHostRegs; split <;> rfl
@[simp] theorem State.setHostRegs_tab (s : State) (h : HostPort) (r : HostRegs) : (s.setHostRegs h r).tab = s.tab := by
  unfold State.setHostRegs; split <;> rfl
@[simp] theorem State.setHostRegs_egr (s : State) (h : HostPort) (r : HostRegs) : (s.setHostRegs h r).egr = s.egr := by
  unfold State.setHostRegs; split <;> rfl
@[simp] theorem State.setHostRegs_crs (s : State) (h : HostPort) (r : HostRegs) : (s.setHostRegs h r).crs = s.crs := by
  unfold State.setHostRegs; split <;> rfl
@[simp] theorem State.setHostRegs_tk (s : State) (h : HostPort) (r : HostRegs) : (s.setHostRegs h r).tk = s.tk := by
  unfold State.setHostRegs; split <;> rfl
@[simp] theorem State.setHostRegs_lt (s : State) (h : HostPort) (r : HostRegs) : (s.setHostRegs h r).lt = s.lt := by
  unfold State.setHostRegs; split <;> rfl
@[simp] theorem State.setHostRegs_flt (s : State) (h : HostPort) (r : HostRegs) : (s.setHostRegs h r).flt = s.flt := by
  unfold State.setHostRegs; split <;> rfl
@[simp] theorem State.setHostRegs_lan (s : State) (h : HostPort) (r : HostRegs) : (s.setHostRegs h r).lan = s.lan := by
  unfold State.setHostRegs; split <;> rfl
@[simp] theorem State.setHostRegs_tio (s : State) (h : HostPort) (r : HostRegs) : (s.setHostRegs h r).tio = s.tio := by
  unfold State.setHostRegs; split <;> rfl
@[simp] theorem State.setHostRegs_cores (s : State) (h : HostPort) (r : HostRegs) : (s.setHostRegs h r).cores = s.cores := by
  unfold State.setHostRegs; split <;> rfl
@[simp] theorem State.setHostRegs_pwr (s : State) (h : HostPort) (r : HostRegs) : (s.setHostRegs h r).pwr = s.pwr := by
  unfold State.setHostRegs; split <;> rfl
@[simp] theorem State.setHostRegs_out (s : State) (h : HostPort) (r : HostRegs) : (s.setHostRegs h r).out = s.out := by
  unfold State.setHostRegs; split <;> rfl
@[simp] theorem State.setAc_now (s : State) (c : AppCore) (a : AcState) : (s.setAc c a).now = s.now := by
  unfold State.setAc; split <;> rfl
@[simp] theorem State.setAc_pending (s : State) (c : AppCore) (a : AcState) : (s.setAc c a).pending = s.pending := by
  unfold State.setAc; split <;> rfl
@[simp] theorem State.setAc_cfg (s : State) (c : AppCore) (a : AcState) : (s.setAc c a).cfg = s.cfg := by
  unfold State.setAc; split <;> rfl
@[simp] theorem State.setAc_fab (s : State) (c : AppCore) (a : AcState) : (s.setAc c a).fab = s.fab := by
  unfold State.setAc; split <;> rfl
@[simp] theorem State.setAc_tab (s : State) (c : AppCore) (a : AcState) : (s.setAc c a).tab = s.tab := by
  unfold State.setAc; split <;> rfl
@[simp] theorem State.setAc_egr (s : State) (c : AppCore) (a : AcState) : (s.setAc c a).egr = s.egr := by
  unfold State.setAc; split <;> rfl
@[simp] theorem State.setAc_crs (s : State) (c : AppCore) (a : AcState) : (s.setAc c a).crs = s.crs := by
  unfold State.setAc; split <;> rfl
@[simp] theorem State.setAc_tk (s : State) (c : AppCore) (a : AcState) : (s.setAc c a).tk = s.tk := by
  unfold State.setAc; split <;> rfl
@[simp] theorem State.setAc_lt (s : State) (c : AppCore) (a : AcState) : (s.setAc c a).lt = s.lt := by
  unfold State.setAc; split <;> rfl
@[simp] theorem State.setAc_flt (s : State) (c : AppCore) (a : AcState) : (s.setAc c a).flt = s.flt := by
  unfold State.setAc; split <;> rfl
@[simp] theorem State.setAc_lan (s : State) (c : AppCore) (a : AcState) : (s.setAc c a).lan = s.lan := by
  unfold State.setAc; split <;> rfl
@[simp] theorem State.setAc_tio (s : State) (c : AppCore) (a : AcState) : (s.setAc c a).tio = s.tio := by
  unfold State.setAc; split <;> rfl
@[simp] theorem State.setAc_host (s : State) (c : AppCore) (a : AcState) : (s.setAc c a).host = s.host := by
  unfold State.setAc; split <;> rfl
@[simp] theorem State.setAc_pwr (s : State) (c : AppCore) (a : AcState) : (s.setAc c a).pwr = s.pwr := by
  unfold State.setAc; split <;> rfl
@[simp] theorem State.setAc_out (s : State) (c : AppCore) (a : AcState) : (s.setAc c a).out = s.out := by
  unfold State.setAc; split <;> rfl
@[simp] theorem State.setTarget_now (s : State) (t : Target) (v : EvcTarget) : (s.setTarget t v).now = s.now := rfl
@[simp] theorem State.setTarget_pending (s : State) (t : Target) (v : EvcTarget) : (s.setTarget t v).pending = s.pending := rfl
@[simp] theorem State.setTarget_cfg (s : State) (t : Target) (v : EvcTarget) : (s.setTarget t v).cfg = s.cfg := rfl
@[simp] theorem State.setTarget_fab (s : State) (t : Target) (v : EvcTarget) : (s.setTarget t v).fab = s.fab := rfl
@[simp] theorem State.setTarget_tab (s : State) (t : Target) (v : EvcTarget) : (s.setTarget t v).tab = s.tab := rfl
@[simp] theorem State.setTarget_egr (s : State) (t : Target) (v : EvcTarget) : (s.setTarget t v).egr = s.egr := rfl
@[simp] theorem State.setTarget_crs (s : State) (t : Target) (v : EvcTarget) : (s.setTarget t v).crs = s.crs := rfl
@[simp] theorem State.setTarget_tk (s : State) (t : Target) (v : EvcTarget) : (s.setTarget t v).tk = s.tk := rfl
@[simp] theorem State.setTarget_lt (s : State) (t : Target) (v : EvcTarget) : (s.setTarget t v).lt = s.lt := rfl
@[simp] theorem State.setTarget_flt (s : State) (t : Target) (v : EvcTarget) : (s.setTarget t v).flt = s.flt := rfl
@[simp] theorem State.setTarget_lan (s : State) (t : Target) (v : EvcTarget) : (s.setTarget t v).lan = s.lan := rfl
@[simp] theorem State.setTarget_tio (s : State) (t : Target) (v : EvcTarget) : (s.setTarget t v).tio = s.tio := rfl
@[simp] theorem State.setTarget_host (s : State) (t : Target) (v : EvcTarget) : (s.setTarget t v).host = s.host := rfl
@[simp] theorem State.setTarget_pwr (s : State) (t : Target) (v : EvcTarget) : (s.setTarget t v).pwr = s.pwr := rfl
@[simp] theorem State.setTarget_out (s : State) (t : Target) (v : EvcTarget) : (s.setTarget t v).out = s.out := rfl
@[simp] theorem State.setJrec_now (s : State) (j : Nat) (r : JRec) : (s.setJrec j r).now = s.now := rfl
@[simp] theorem State.setJrec_pending (s : State) (j : Nat) (r : JRec) : (s.setJrec j r).pending = s.pending := rfl
@[simp] theorem State.setJrec_cfg (s : State) (j : Nat) (r : JRec) : (s.setJrec j r).cfg = s.cfg := rfl
@[simp] theorem State.setJrec_fab (s : State) (j : Nat) (r : JRec) : (s.setJrec j r).fab = s.fab := rfl
@[simp] theorem State.setJrec_tab (s : State) (j : Nat) (r : JRec) : (s.setJrec j r).tab = s.tab := rfl
@[simp] theorem State.setJrec_egr (s : State) (j : Nat) (r : JRec) : (s.setJrec j r).egr = s.egr := rfl
@[simp] theorem State.setJrec_crs (s : State) (j : Nat) (r : JRec) : (s.setJrec j r).crs = s.crs := rfl
@[simp] theorem State.setJrec_tk (s : State) (j : Nat) (r : JRec) : (s.setJrec j r).tk = s.tk := rfl
@[simp] theorem State.setJrec_lt (s : State) (j : Nat) (r : JRec) : (s.setJrec j r).lt = s.lt := rfl
@[simp] theorem State.setJrec_flt (s : State) (j : Nat) (r : JRec) : (s.setJrec j r).flt = s.flt := rfl
@[simp] theorem State.setJrec_lan (s : State) (j : Nat) (r : JRec) : (s.setJrec j r).lan = s.lan := rfl
@[simp] theorem State.setJrec_tio (s : State) (j : Nat) (r : JRec) : (s.setJrec j r).tio = s.tio := rfl
@[simp] theorem State.setJrec_cores (s : State) (j : Nat) (r : JRec) : (s.setJrec j r).cores = s.cores := rfl
@[simp] theorem State.setJrec_pwr (s : State) (j : Nat) (r : JRec) : (s.setJrec j r).pwr = s.pwr := rfl
@[simp] theorem State.setJrec_out (s : State) (j : Nat) (r : JRec) : (s.setJrec j r).out = s.out := rfl
@[simp] theorem State.setSlotOf_now (s : State) (k : Nat) (n : Option Notice) : (s.setSlotOf k n).now = s.now := rfl
@[simp] theorem State.setSlotOf_pending (s : State) (k : Nat) (n : Option Notice) : (s.setSlotOf k n).pending = s.pending := rfl
@[simp] theorem State.setSlotOf_cfg (s : State) (k : Nat) (n : Option Notice) : (s.setSlotOf k n).cfg = s.cfg := rfl
@[simp] theorem State.setSlotOf_fab (s : State) (k : Nat) (n : Option Notice) : (s.setSlotOf k n).fab = s.fab := rfl
@[simp] theorem State.setSlotOf_tab (s : State) (k : Nat) (n : Option Notice) : (s.setSlotOf k n).tab = s.tab := rfl
@[simp] theorem State.setSlotOf_egr (s : State) (k : Nat) (n : Option Notice) : (s.setSlotOf k n).egr = s.egr := rfl
@[simp] theorem State.setSlotOf_crs (s : State) (k : Nat) (n : Option Notice) : (s.setSlotOf k n).crs = s.crs := rfl
@[simp] theorem State.setSlotOf_tk (s : State) (k : Nat) (n : Option Notice) : (s.setSlotOf k n).tk = s.tk := rfl
@[simp] theorem State.setSlotOf_lt (s : State) (k : Nat) (n : Option Notice) : (s.setSlotOf k n).lt = s.lt := rfl
@[simp] theorem State.setSlotOf_flt (s : State) (k : Nat) (n : Option Notice) : (s.setSlotOf k n).flt = s.flt := rfl
@[simp] theorem State.setSlotOf_lan (s : State) (k : Nat) (n : Option Notice) : (s.setSlotOf k n).lan = s.lan := rfl
@[simp] theorem State.setSlotOf_tio (s : State) (k : Nat) (n : Option Notice) : (s.setSlotOf k n).tio = s.tio := rfl
@[simp] theorem State.setSlotOf_cores (s : State) (k : Nat) (n : Option Notice) : (s.setSlotOf k n).cores = s.cores := rfl
@[simp] theorem State.setSlotOf_pwr (s : State) (k : Nat) (n : Option Notice) : (s.setSlotOf k n).pwr = s.pwr := rfl
@[simp] theorem State.setSlotOf_out (s : State) (k : Nat) (n : Option Notice) : (s.setSlotOf k n).out = s.out := rfl
@[simp] theorem State.setBatch_now (s : State) (x : Sender) (t : Option Instant) : (s.setBatch x t).now = s.now := rfl
@[simp] theorem State.setBatch_pending (s : State) (x : Sender) (t : Option Instant) : (s.setBatch x t).pending = s.pending := rfl
@[simp] theorem State.setBatch_cfg (s : State) (x : Sender) (t : Option Instant) : (s.setBatch x t).cfg = s.cfg := rfl
@[simp] theorem State.setBatch_fab (s : State) (x : Sender) (t : Option Instant) : (s.setBatch x t).fab = s.fab := rfl
@[simp] theorem State.setBatch_tab (s : State) (x : Sender) (t : Option Instant) : (s.setBatch x t).tab = s.tab := rfl
@[simp] theorem State.setBatch_egr (s : State) (x : Sender) (t : Option Instant) : (s.setBatch x t).egr = s.egr := rfl
@[simp] theorem State.setBatch_crs (s : State) (x : Sender) (t : Option Instant) : (s.setBatch x t).crs = s.crs := rfl
@[simp] theorem State.setBatch_tk (s : State) (x : Sender) (t : Option Instant) : (s.setBatch x t).tk = s.tk := rfl
@[simp] theorem State.setBatch_lt (s : State) (x : Sender) (t : Option Instant) : (s.setBatch x t).lt = s.lt := rfl
@[simp] theorem State.setBatch_flt (s : State) (x : Sender) (t : Option Instant) : (s.setBatch x t).flt = s.flt := rfl
@[simp] theorem State.setBatch_lan (s : State) (x : Sender) (t : Option Instant) : (s.setBatch x t).lan = s.lan := rfl
@[simp] theorem State.setBatch_tio (s : State) (x : Sender) (t : Option Instant) : (s.setBatch x t).tio = s.tio := rfl
@[simp] theorem State.setBatch_cores (s : State) (x : Sender) (t : Option Instant) : (s.setBatch x t).cores = s.cores := rfl
@[simp] theorem State.setBatch_pwr (s : State) (x : Sender) (t : Option Instant) : (s.setBatch x t).pwr = s.pwr := rfl
@[simp] theorem State.setBatch_out (s : State) (x : Sender) (t : Option Instant) : (s.setBatch x t).out = s.out := rfl
@[simp] theorem State.setModel_now (s : State) (p : Nat) (m : PortModel) : (s.setModel p m).now = s.now := rfl
@[simp] theorem State.setModel_pending (s : State) (p : Nat) (m : PortModel) : (s.setModel p m).pending = s.pending := rfl
@[simp] theorem State.setModel_cfg (s : State) (p : Nat) (m : PortModel) : (s.setModel p m).cfg = s.cfg := rfl
@[simp] theorem State.setModel_fab (s : State) (p : Nat) (m : PortModel) : (s.setModel p m).fab = s.fab := rfl
@[simp] theorem State.setModel_tab (s : State) (p : Nat) (m : PortModel) : (s.setModel p m).tab = s.tab := rfl
@[simp] theorem State.setModel_crs (s : State) (p : Nat) (m : PortModel) : (s.setModel p m).crs = s.crs := rfl
@[simp] theorem State.setModel_tk (s : State) (p : Nat) (m : PortModel) : (s.setModel p m).tk = s.tk := rfl
@[simp] theorem State.setModel_lt (s : State) (p : Nat) (m : PortModel) : (s.setModel p m).lt = s.lt := rfl
@[simp] theorem State.setModel_flt (s : State) (p : Nat) (m : PortModel) : (s.setModel p m).flt = s.flt := rfl
@[simp] theorem State.setModel_lan (s : State) (p : Nat) (m : PortModel) : (s.setModel p m).lan = s.lan := rfl
@[simp] theorem State.setModel_tio (s : State) (p : Nat) (m : PortModel) : (s.setModel p m).tio = s.tio := rfl
@[simp] theorem State.setModel_host (s : State) (p : Nat) (m : PortModel) : (s.setModel p m).host = s.host := rfl
@[simp] theorem State.setModel_cores (s : State) (p : Nat) (m : PortModel) : (s.setModel p m).cores = s.cores := rfl
@[simp] theorem State.setModel_pwr (s : State) (p : Nat) (m : PortModel) : (s.setModel p m).pwr = s.pwr := rfl
@[simp] theorem State.setModel_out (s : State) (p : Nat) (m : PortModel) : (s.setModel p m).out = s.out := rfl
@[simp] theorem State.setEqueue_now (s : State) (q : Nat) (v : EQueue) : (s.setEqueue q v).now = s.now := rfl
@[simp] theorem State.setEqueue_pending (s : State) (q : Nat) (v : EQueue) : (s.setEqueue q v).pending = s.pending := rfl
@[simp] theorem State.setEqueue_cfg (s : State) (q : Nat) (v : EQueue) : (s.setEqueue q v).cfg = s.cfg := rfl
@[simp] theorem State.setEqueue_fab (s : State) (q : Nat) (v : EQueue) : (s.setEqueue q v).fab = s.fab := rfl
@[simp] theorem State.setEqueue_tab (s : State) (q : Nat) (v : EQueue) : (s.setEqueue q v).tab = s.tab := rfl
@[simp] theorem State.setEqueue_crs (s : State) (q : Nat) (v : EQueue) : (s.setEqueue q v).crs = s.crs := rfl
@[simp] theorem State.setEqueue_tk (s : State) (q : Nat) (v : EQueue) : (s.setEqueue q v).tk = s.tk := rfl
@[simp] theorem State.setEqueue_lt (s : State) (q : Nat) (v : EQueue) : (s.setEqueue q v).lt = s.lt := rfl
@[simp] theorem State.setEqueue_flt (s : State) (q : Nat) (v : EQueue) : (s.setEqueue q v).flt = s.flt := rfl
@[simp] theorem State.setEqueue_lan (s : State) (q : Nat) (v : EQueue) : (s.setEqueue q v).lan = s.lan := rfl
@[simp] theorem State.setEqueue_tio (s : State) (q : Nat) (v : EQueue) : (s.setEqueue q v).tio = s.tio := rfl
@[simp] theorem State.setEqueue_host (s : State) (q : Nat) (v : EQueue) : (s.setEqueue q v).host = s.host := rfl
@[simp] theorem State.setEqueue_cores (s : State) (q : Nat) (v : EQueue) : (s.setEqueue q v).cores = s.cores := rfl
@[simp] theorem State.setEqueue_pwr (s : State) (q : Nat) (v : EQueue) : (s.setEqueue q v).pwr = s.pwr := rfl
@[simp] theorem State.setEqueue_out (s : State) (q : Nat) (v : EQueue) : (s.setEqueue q v).out = s.out := rfl
@[simp] theorem State.setCourse_now (s : State) (p : Nat) (c : Course) : (s.setCourse p c).now = s.now := rfl
@[simp] theorem State.setCourse_pending (s : State) (p : Nat) (c : Course) : (s.setCourse p c).pending = s.pending := rfl
@[simp] theorem State.setCourse_cfg (s : State) (p : Nat) (c : Course) : (s.setCourse p c).cfg = s.cfg := rfl
@[simp] theorem State.setCourse_fab (s : State) (p : Nat) (c : Course) : (s.setCourse p c).fab = s.fab := rfl
@[simp] theorem State.setCourse_tab (s : State) (p : Nat) (c : Course) : (s.setCourse p c).tab = s.tab := rfl
@[simp] theorem State.setCourse_egr (s : State) (p : Nat) (c : Course) : (s.setCourse p c).egr = s.egr := rfl
@[simp] theorem State.setCourse_tk (s : State) (p : Nat) (c : Course) : (s.setCourse p c).tk = s.tk := rfl
@[simp] theorem State.setCourse_lt (s : State) (p : Nat) (c : Course) : (s.setCourse p c).lt = s.lt := rfl
@[simp] theorem State.setCourse_flt (s : State) (p : Nat) (c : Course) : (s.setCourse p c).flt = s.flt := rfl
@[simp] theorem State.setCourse_lan (s : State) (p : Nat) (c : Course) : (s.setCourse p c).lan = s.lan := rfl
@[simp] theorem State.setCourse_tio (s : State) (p : Nat) (c : Course) : (s.setCourse p c).tio = s.tio := rfl
@[simp] theorem State.setCourse_host (s : State) (p : Nat) (c : Course) : (s.setCourse p c).host = s.host := rfl
@[simp] theorem State.setCourse_cores (s : State) (p : Nat) (c : Course) : (s.setCourse p c).cores = s.cores := rfl
@[simp] theorem State.setCourse_pwr (s : State) (p : Nat) (c : Course) : (s.setCourse p c).pwr = s.pwr := rfl
@[simp] theorem State.setCourse_out (s : State) (p : Nat) (c : Course) : (s.setCourse p c).out = s.out := rfl
@[simp] theorem State.setBucket_now (s : State) (pipe m : Nat) (b : Bucket) : (s.setBucket pipe m b).now = s.now := rfl
@[simp] theorem State.setBucket_pending (s : State) (pipe m : Nat) (b : Bucket) : (s.setBucket pipe m b).pending = s.pending := rfl
@[simp] theorem State.setBucket_cfg (s : State) (pipe m : Nat) (b : Bucket) : (s.setBucket pipe m b).cfg = s.cfg := rfl
@[simp] theorem State.setBucket_fab (s : State) (pipe m : Nat) (b : Bucket) : (s.setBucket pipe m b).fab = s.fab := rfl
@[simp] theorem State.setBucket_egr (s : State) (pipe m : Nat) (b : Bucket) : (s.setBucket pipe m b).egr = s.egr := rfl
@[simp] theorem State.setBucket_crs (s : State) (pipe m : Nat) (b : Bucket) : (s.setBucket pipe m b).crs = s.crs := rfl
@[simp] theorem State.setBucket_tk (s : State) (pipe m : Nat) (b : Bucket) : (s.setBucket pipe m b).tk = s.tk := rfl
@[simp] theorem State.setBucket_lt (s : State) (pipe m : Nat) (b : Bucket) : (s.setBucket pipe m b).lt = s.lt := rfl
@[simp] theorem State.setBucket_flt (s : State) (pipe m : Nat) (b : Bucket) : (s.setBucket pipe m b).flt = s.flt := rfl
@[simp] theorem State.setBucket_lan (s : State) (pipe m : Nat) (b : Bucket) : (s.setBucket pipe m b).lan = s.lan := rfl
@[simp] theorem State.setBucket_tio (s : State) (pipe m : Nat) (b : Bucket) : (s.setBucket pipe m b).tio = s.tio := rfl
@[simp] theorem State.setBucket_host (s : State) (pipe m : Nat) (b : Bucket) : (s.setBucket pipe m b).host = s.host := rfl
@[simp] theorem State.setBucket_cores (s : State) (pipe m : Nat) (b : Bucket) : (s.setBucket pipe m b).cores = s.cores := rfl
@[simp] theorem State.setBucket_pwr (s : State) (pipe m : Nat) (b : Bucket) : (s.setBucket pipe m b).pwr = s.pwr := rfl
@[simp] theorem State.setBucket_out (s : State) (pipe m : Nat) (b : Bucket) : (s.setBucket pipe m b).out = s.out := rfl
@[simp] theorem State.setRecov_now (s : State) (f : Nat) (r : RecovState) : (s.setRecov f r).now = s.now := rfl
@[simp] theorem State.setRecov_pending (s : State) (f : Nat) (r : RecovState) : (s.setRecov f r).pending = s.pending := rfl
@[simp] theorem State.setRecov_cfg (s : State) (f : Nat) (r : RecovState) : (s.setRecov f r).cfg = s.cfg := rfl
@[simp] theorem State.setRecov_fab (s : State) (f : Nat) (r : RecovState) : (s.setRecov f r).fab = s.fab := rfl
@[simp] theorem State.setRecov_egr (s : State) (f : Nat) (r : RecovState) : (s.setRecov f r).egr = s.egr := rfl
@[simp] theorem State.setRecov_crs (s : State) (f : Nat) (r : RecovState) : (s.setRecov f r).crs = s.crs := rfl
@[simp] theorem State.setRecov_tk (s : State) (f : Nat) (r : RecovState) : (s.setRecov f r).tk = s.tk := rfl
@[simp] theorem State.setRecov_lt (s : State) (f : Nat) (r : RecovState) : (s.setRecov f r).lt = s.lt := rfl
@[simp] theorem State.setRecov_flt (s : State) (f : Nat) (r : RecovState) : (s.setRecov f r).flt = s.flt := rfl
@[simp] theorem State.setRecov_lan (s : State) (f : Nat) (r : RecovState) : (s.setRecov f r).lan = s.lan := rfl
@[simp] theorem State.setRecov_tio (s : State) (f : Nat) (r : RecovState) : (s.setRecov f r).tio = s.tio := rfl
@[simp] theorem State.setRecov_host (s : State) (f : Nat) (r : RecovState) : (s.setRecov f r).host = s.host := rfl
@[simp] theorem State.setRecov_cores (s : State) (f : Nat) (r : RecovState) : (s.setRecov f r).cores = s.cores := rfl
@[simp] theorem State.setRecov_pwr (s : State) (f : Nat) (r : RecovState) : (s.setRecov f r).pwr = s.pwr := rfl
@[simp] theorem State.setRecov_out (s : State) (f : Nat) (r : RecovState) : (s.setRecov f r).out = s.out := rfl
@[simp] theorem State.setCharge_now (s : State) (i : Nat) (c : Option Charge) : (s.setCharge i c).now = s.now := rfl
@[simp] theorem State.setCharge_pending (s : State) (i : Nat) (c : Option Charge) : (s.setCharge i c).pending = s.pending := rfl
@[simp] theorem State.setCharge_cfg (s : State) (i : Nat) (c : Option Charge) : (s.setCharge i c).cfg = s.cfg := rfl
@[simp] theorem State.setCharge_fab (s : State) (i : Nat) (c : Option Charge) : (s.setCharge i c).fab = s.fab := rfl
@[simp] theorem State.setCharge_tab (s : State) (i : Nat) (c : Option Charge) : (s.setCharge i c).tab = s.tab := rfl
@[simp] theorem State.setCharge_crs (s : State) (i : Nat) (c : Option Charge) : (s.setCharge i c).crs = s.crs := rfl
@[simp] theorem State.setCharge_tk (s : State) (i : Nat) (c : Option Charge) : (s.setCharge i c).tk = s.tk := rfl
@[simp] theorem State.setCharge_lt (s : State) (i : Nat) (c : Option Charge) : (s.setCharge i c).lt = s.lt := rfl
@[simp] theorem State.setCharge_flt (s : State) (i : Nat) (c : Option Charge) : (s.setCharge i c).flt = s.flt := rfl
@[simp] theorem State.setCharge_lan (s : State) (i : Nat) (c : Option Charge) : (s.setCharge i c).lan = s.lan := rfl
@[simp] theorem State.setCharge_tio (s : State) (i : Nat) (c : Option Charge) : (s.setCharge i c).tio = s.tio := rfl
@[simp] theorem State.setCharge_host (s : State) (i : Nat) (c : Option Charge) : (s.setCharge i c).host = s.host := rfl
@[simp] theorem State.setCharge_cores (s : State) (i : Nat) (c : Option Charge) : (s.setCharge i c).cores = s.cores := rfl
@[simp] theorem State.setCharge_pwr (s : State) (i : Nat) (c : Option Charge) : (s.setCharge i c).pwr = s.pwr := rfl
@[simp] theorem State.setCharge_out (s : State) (i : Nat) (c : Option Charge) : (s.setCharge i c).out = s.out := rfl
@[simp] theorem State.setFrame_now (s : State) (i : Nat) (f : Option Frame) : (s.setFrame i f).now = s.now := rfl
@[simp] theorem State.setFrame_pending (s : State) (i : Nat) (f : Option Frame) : (s.setFrame i f).pending = s.pending := rfl
@[simp] theorem State.setFrame_cfg (s : State) (i : Nat) (f : Option Frame) : (s.setFrame i f).cfg = s.cfg := rfl
@[simp] theorem State.setFrame_tab (s : State) (i : Nat) (f : Option Frame) : (s.setFrame i f).tab = s.tab := rfl
@[simp] theorem State.setFrame_egr (s : State) (i : Nat) (f : Option Frame) : (s.setFrame i f).egr = s.egr := rfl
@[simp] theorem State.setFrame_crs (s : State) (i : Nat) (f : Option Frame) : (s.setFrame i f).crs = s.crs := rfl
@[simp] theorem State.setFrame_tk (s : State) (i : Nat) (f : Option Frame) : (s.setFrame i f).tk = s.tk := rfl
@[simp] theorem State.setFrame_lt (s : State) (i : Nat) (f : Option Frame) : (s.setFrame i f).lt = s.lt := rfl
@[simp] theorem State.setFrame_flt (s : State) (i : Nat) (f : Option Frame) : (s.setFrame i f).flt = s.flt := rfl
@[simp] theorem State.setFrame_lan (s : State) (i : Nat) (f : Option Frame) : (s.setFrame i f).lan = s.lan := rfl
@[simp] theorem State.setFrame_tio (s : State) (i : Nat) (f : Option Frame) : (s.setFrame i f).tio = s.tio := rfl
@[simp] theorem State.setFrame_host (s : State) (i : Nat) (f : Option Frame) : (s.setFrame i f).host = s.host := rfl
@[simp] theorem State.setFrame_cores (s : State) (i : Nat) (f : Option Frame) : (s.setFrame i f).cores = s.cores := rfl
@[simp] theorem State.setFrame_pwr (s : State) (i : Nat) (f : Option Frame) : (s.setFrame i f).pwr = s.pwr := rfl
@[simp] theorem State.setFrame_out (s : State) (i : Nat) (f : Option Frame) : (s.setFrame i f).out = s.out := rfl
@[simp] theorem State.setInput_now (s : State) (mp i : Nat) (m : MergeIn) : (s.setInput mp i m).now = s.now := rfl
@[simp] theorem State.setInput_pending (s : State) (mp i : Nat) (m : MergeIn) : (s.setInput mp i m).pending = s.pending := rfl
@[simp] theorem State.setInput_cfg (s : State) (mp i : Nat) (m : MergeIn) : (s.setInput mp i m).cfg = s.cfg := rfl
@[simp] theorem State.setInput_tab (s : State) (mp i : Nat) (m : MergeIn) : (s.setInput mp i m).tab = s.tab := rfl
@[simp] theorem State.setInput_egr (s : State) (mp i : Nat) (m : MergeIn) : (s.setInput mp i m).egr = s.egr := rfl
@[simp] theorem State.setInput_crs (s : State) (mp i : Nat) (m : MergeIn) : (s.setInput mp i m).crs = s.crs := rfl
@[simp] theorem State.setInput_tk (s : State) (mp i : Nat) (m : MergeIn) : (s.setInput mp i m).tk = s.tk := rfl
@[simp] theorem State.setInput_lt (s : State) (mp i : Nat) (m : MergeIn) : (s.setInput mp i m).lt = s.lt := rfl
@[simp] theorem State.setInput_flt (s : State) (mp i : Nat) (m : MergeIn) : (s.setInput mp i m).flt = s.flt := rfl
@[simp] theorem State.setInput_lan (s : State) (mp i : Nat) (m : MergeIn) : (s.setInput mp i m).lan = s.lan := rfl
@[simp] theorem State.setInput_tio (s : State) (mp i : Nat) (m : MergeIn) : (s.setInput mp i m).tio = s.tio := rfl
@[simp] theorem State.setInput_host (s : State) (mp i : Nat) (m : MergeIn) : (s.setInput mp i m).host = s.host := rfl
@[simp] theorem State.setInput_cores (s : State) (mp i : Nat) (m : MergeIn) : (s.setInput mp i m).cores = s.cores := rfl
@[simp] theorem State.setInput_pwr (s : State) (mp i : Nat) (m : MergeIn) : (s.setInput mp i m).pwr = s.pwr := rfl
@[simp] theorem State.setInput_out (s : State) (mp i : Nat) (m : MergeIn) : (s.setInput mp i m).out = s.out := rfl
@[simp] theorem State.setOutq_now (s : State) (mp : Nat) (l : List Item) : (s.setOutq mp l).now = s.now := rfl
@[simp] theorem State.setOutq_pending (s : State) (mp : Nat) (l : List Item) : (s.setOutq mp l).pending = s.pending := rfl
@[simp] theorem State.setOutq_cfg (s : State) (mp : Nat) (l : List Item) : (s.setOutq mp l).cfg = s.cfg := rfl
@[simp] theorem State.setOutq_tab (s : State) (mp : Nat) (l : List Item) : (s.setOutq mp l).tab = s.tab := rfl
@[simp] theorem State.setOutq_egr (s : State) (mp : Nat) (l : List Item) : (s.setOutq mp l).egr = s.egr := rfl
@[simp] theorem State.setOutq_crs (s : State) (mp : Nat) (l : List Item) : (s.setOutq mp l).crs = s.crs := rfl
@[simp] theorem State.setOutq_tk (s : State) (mp : Nat) (l : List Item) : (s.setOutq mp l).tk = s.tk := rfl
@[simp] theorem State.setOutq_lt (s : State) (mp : Nat) (l : List Item) : (s.setOutq mp l).lt = s.lt := rfl
@[simp] theorem State.setOutq_flt (s : State) (mp : Nat) (l : List Item) : (s.setOutq mp l).flt = s.flt := rfl
@[simp] theorem State.setOutq_lan (s : State) (mp : Nat) (l : List Item) : (s.setOutq mp l).lan = s.lan := rfl
@[simp] theorem State.setOutq_tio (s : State) (mp : Nat) (l : List Item) : (s.setOutq mp l).tio = s.tio := rfl
@[simp] theorem State.setOutq_host (s : State) (mp : Nat) (l : List Item) : (s.setOutq mp l).host = s.host := rfl
@[simp] theorem State.setOutq_cores (s : State) (mp : Nat) (l : List Item) : (s.setOutq mp l).cores = s.cores := rfl
@[simp] theorem State.setOutq_pwr (s : State) (mp : Nat) (l : List Item) : (s.setOutq mp l).pwr = s.pwr := rfl
@[simp] theorem State.setOutq_out (s : State) (mp : Nat) (l : List Item) : (s.setOutq mp l).out = s.out := rfl
@[simp] theorem State.stage_now (s : State) (e : Staged) : (s.stage e).now = s.now := rfl
@[simp] theorem State.stage_pending (s : State) (e : Staged) : (s.stage e).pending = s.pending := rfl
@[simp] theorem State.stage_cfg (s : State) (e : Staged) : (s.stage e).cfg = s.cfg := rfl
@[simp] theorem State.stage_tab (s : State) (e : Staged) : (s.stage e).tab = s.tab := rfl
@[simp] theorem State.stage_egr (s : State) (e : Staged) : (s.stage e).egr = s.egr := rfl
@[simp] theorem State.stage_crs (s : State) (e : Staged) : (s.stage e).crs = s.crs := rfl
@[simp] theorem State.stage_tk (s : State) (e : Staged) : (s.stage e).tk = s.tk := rfl
@[simp] theorem State.stage_lt (s : State) (e : Staged) : (s.stage e).lt = s.lt := rfl
@[simp] theorem State.stage_flt (s : State) (e : Staged) : (s.stage e).flt = s.flt := rfl
@[simp] theorem State.stage_lan (s : State) (e : Staged) : (s.stage e).lan = s.lan := rfl
@[simp] theorem State.stage_tio (s : State) (e : Staged) : (s.stage e).tio = s.tio := rfl
@[simp] theorem State.stage_host (s : State) (e : Staged) : (s.stage e).host = s.host := rfl
@[simp] theorem State.stage_cores (s : State) (e : Staged) : (s.stage e).cores = s.cores := rfl
@[simp] theorem State.stage_pwr (s : State) (e : Staged) : (s.stage e).pwr = s.pwr := rfl
@[simp] theorem State.stage_out (s : State) (e : Staged) : (s.stage e).out = s.out := rfl
@[simp] theorem State.setRx_now (s : State) (p : Nat) (v : Option Nat) : (s.setRx p v).now = s.now := rfl
@[simp] theorem State.setRx_pending (s : State) (p : Nat) (v : Option Nat) : (s.setRx p v).pending = s.pending := rfl
@[simp] theorem State.setRx_cfg (s : State) (p : Nat) (v : Option Nat) : (s.setRx p v).cfg = s.cfg := rfl
@[simp] theorem State.setRx_tab (s : State) (p : Nat) (v : Option Nat) : (s.setRx p v).tab = s.tab := rfl
@[simp] theorem State.setRx_egr (s : State) (p : Nat) (v : Option Nat) : (s.setRx p v).egr = s.egr := rfl
@[simp] theorem State.setRx_crs (s : State) (p : Nat) (v : Option Nat) : (s.setRx p v).crs = s.crs := rfl
@[simp] theorem State.setRx_tk (s : State) (p : Nat) (v : Option Nat) : (s.setRx p v).tk = s.tk := rfl
@[simp] theorem State.setRx_lt (s : State) (p : Nat) (v : Option Nat) : (s.setRx p v).lt = s.lt := rfl
@[simp] theorem State.setRx_flt (s : State) (p : Nat) (v : Option Nat) : (s.setRx p v).flt = s.flt := rfl
@[simp] theorem State.setRx_lan (s : State) (p : Nat) (v : Option Nat) : (s.setRx p v).lan = s.lan := rfl
@[simp] theorem State.setRx_tio (s : State) (p : Nat) (v : Option Nat) : (s.setRx p v).tio = s.tio := rfl
@[simp] theorem State.setRx_host (s : State) (p : Nat) (v : Option Nat) : (s.setRx p v).host = s.host := rfl
@[simp] theorem State.setRx_cores (s : State) (p : Nat) (v : Option Nat) : (s.setRx p v).cores = s.cores := rfl
@[simp] theorem State.setRx_pwr (s : State) (p : Nat) (v : Option Nat) : (s.setRx p v).pwr = s.pwr := rfl
@[simp] theorem State.setRx_out (s : State) (p : Nat) (v : Option Nat) : (s.setRx p v).out = s.out := rfl
@[simp] theorem State.setKeeper_now (s : State) (k : Tk) (v : Keeper) : (s.setKeeper k v).now = s.now := by
  unfold State.setKeeper; split <;> rfl
@[simp] theorem State.setKeeper_pending (s : State) (k : Tk) (v : Keeper) : (s.setKeeper k v).pending = s.pending := by
  unfold State.setKeeper; split <;> rfl
@[simp] theorem State.setKeeper_cfg (s : State) (k : Tk) (v : Keeper) : (s.setKeeper k v).cfg = s.cfg := by
  unfold State.setKeeper; split <;> rfl
@[simp] theorem State.setKeeper_fab (s : State) (k : Tk) (v : Keeper) : (s.setKeeper k v).fab = s.fab := by
  unfold State.setKeeper; split <;> rfl
@[simp] theorem State.setKeeper_tab (s : State) (k : Tk) (v : Keeper) : (s.setKeeper k v).tab = s.tab := by
  unfold State.setKeeper; split <;> rfl
@[simp] theorem State.setKeeper_egr (s : State) (k : Tk) (v : Keeper) : (s.setKeeper k v).egr = s.egr := by
  unfold State.setKeeper; split <;> rfl
@[simp] theorem State.setKeeper_crs (s : State) (k : Tk) (v : Keeper) : (s.setKeeper k v).crs = s.crs := by
  unfold State.setKeeper; split <;> rfl
@[simp] theorem State.setKeeper_lt (s : State) (k : Tk) (v : Keeper) : (s.setKeeper k v).lt = s.lt := by
  unfold State.setKeeper; split <;> rfl
@[simp] theorem State.setKeeper_flt (s : State) (k : Tk) (v : Keeper) : (s.setKeeper k v).flt = s.flt := by
  unfold State.setKeeper; split <;> rfl
@[simp] theorem State.setKeeper_lan (s : State) (k : Tk) (v : Keeper) : (s.setKeeper k v).lan = s.lan := by
  unfold State.setKeeper; split <;> rfl
@[simp] theorem State.setKeeper_tio (s : State) (k : Tk) (v : Keeper) : (s.setKeeper k v).tio = s.tio := by
  unfold State.setKeeper; split <;> rfl
@[simp] theorem State.setKeeper_host (s : State) (k : Tk) (v : Keeper) : (s.setKeeper k v).host = s.host := by
  unfold State.setKeeper; split <;> rfl
@[simp] theorem State.setKeeper_cores (s : State) (k : Tk) (v : Keeper) : (s.setKeeper k v).cores = s.cores := by
  unfold State.setKeeper; split <;> rfl
@[simp] theorem State.setKeeper_pwr (s : State) (k : Tk) (v : Keeper) : (s.setKeeper k v).pwr = s.pwr := by
  unfold State.setKeeper; split <;> rfl
@[simp] theorem State.setKeeper_out (s : State) (k : Tk) (v : Keeper) : (s.setKeeper k v).out = s.out := by
  unfold State.setKeeper; split <;> rfl
@[simp] theorem State.setBond_now (s : State) (v : Bond) : (s.setBond v).now = s.now := rfl
@[simp] theorem State.setBond_pending (s : State) (v : Bond) : (s.setBond v).pending = s.pending := rfl
@[simp] theorem State.setBond_cfg (s : State) (v : Bond) : (s.setBond v).cfg = s.cfg := rfl
@[simp] theorem State.setBond_fab (s : State) (v : Bond) : (s.setBond v).fab = s.fab := rfl
@[simp] theorem State.setBond_tab (s : State) (v : Bond) : (s.setBond v).tab = s.tab := rfl
@[simp] theorem State.setBond_egr (s : State) (v : Bond) : (s.setBond v).egr = s.egr := rfl
@[simp] theorem State.setBond_crs (s : State) (v : Bond) : (s.setBond v).crs = s.crs := rfl
@[simp] theorem State.setBond_lt (s : State) (v : Bond) : (s.setBond v).lt = s.lt := rfl
@[simp] theorem State.setBond_flt (s : State) (v : Bond) : (s.setBond v).flt = s.flt := rfl
@[simp] theorem State.setBond_lan (s : State) (v : Bond) : (s.setBond v).lan = s.lan := rfl
@[simp] theorem State.setBond_tio (s : State) (v : Bond) : (s.setBond v).tio = s.tio := rfl
@[simp] theorem State.setBond_host (s : State) (v : Bond) : (s.setBond v).host = s.host := rfl
@[simp] theorem State.setBond_cores (s : State) (v : Bond) : (s.setBond v).cores = s.cores := rfl
@[simp] theorem State.setBond_pwr (s : State) (v : Bond) : (s.setBond v).pwr = s.pwr := rfl
@[simp] theorem State.setBond_out (s : State) (v : Bond) : (s.setBond v).out = s.out := rfl
@[simp] theorem State.setBk_now (s : State) (k : Tk) (v : BondKeeper) : (s.setBk k v).now = s.now := by
  unfold State.setBk; split <;> rfl
@[simp] theorem State.setBk_pending (s : State) (k : Tk) (v : BondKeeper) : (s.setBk k v).pending = s.pending := by
  unfold State.setBk; split <;> rfl
@[simp] theorem State.setBk_cfg (s : State) (k : Tk) (v : BondKeeper) : (s.setBk k v).cfg = s.cfg := by
  unfold State.setBk; split <;> rfl
@[simp] theorem State.setBk_fab (s : State) (k : Tk) (v : BondKeeper) : (s.setBk k v).fab = s.fab := by
  unfold State.setBk; split <;> rfl
@[simp] theorem State.setBk_tab (s : State) (k : Tk) (v : BondKeeper) : (s.setBk k v).tab = s.tab := by
  unfold State.setBk; split <;> rfl
@[simp] theorem State.setBk_egr (s : State) (k : Tk) (v : BondKeeper) : (s.setBk k v).egr = s.egr := by
  unfold State.setBk; split <;> rfl
@[simp] theorem State.setBk_crs (s : State) (k : Tk) (v : BondKeeper) : (s.setBk k v).crs = s.crs := by
  unfold State.setBk; split <;> rfl
@[simp] theorem State.setBk_lt (s : State) (k : Tk) (v : BondKeeper) : (s.setBk k v).lt = s.lt := by
  unfold State.setBk; split <;> rfl
@[simp] theorem State.setBk_flt (s : State) (k : Tk) (v : BondKeeper) : (s.setBk k v).flt = s.flt := by
  unfold State.setBk; split <;> rfl
@[simp] theorem State.setBk_lan (s : State) (k : Tk) (v : BondKeeper) : (s.setBk k v).lan = s.lan := by
  unfold State.setBk; split <;> rfl
@[simp] theorem State.setBk_tio (s : State) (k : Tk) (v : BondKeeper) : (s.setBk k v).tio = s.tio := by
  unfold State.setBk; split <;> rfl
@[simp] theorem State.setBk_host (s : State) (k : Tk) (v : BondKeeper) : (s.setBk k v).host = s.host := by
  unfold State.setBk; split <;> rfl
@[simp] theorem State.setBk_cores (s : State) (k : Tk) (v : BondKeeper) : (s.setBk k v).cores = s.cores := by
  unfold State.setBk; split <;> rfl
@[simp] theorem State.setBk_pwr (s : State) (k : Tk) (v : BondKeeper) : (s.setBk k v).pwr = s.pwr := by
  unfold State.setBk; split <;> rfl
@[simp] theorem State.setBk_out (s : State) (k : Tk) (v : BondKeeper) : (s.setBk k v).out = s.out := by
  unfold State.setBk; split <;> rfl
@[simp] theorem State.setCandSt_now (s : State) (i : Nat) (v : CandState) : (s.setCandSt i v).now = s.now := rfl
@[simp] theorem State.setCandSt_pending (s : State) (i : Nat) (v : CandState) : (s.setCandSt i v).pending = s.pending := rfl
@[simp] theorem State.setCandSt_cfg (s : State) (i : Nat) (v : CandState) : (s.setCandSt i v).cfg = s.cfg := rfl
@[simp] theorem State.setCandSt_fab (s : State) (i : Nat) (v : CandState) : (s.setCandSt i v).fab = s.fab := rfl
@[simp] theorem State.setCandSt_tab (s : State) (i : Nat) (v : CandState) : (s.setCandSt i v).tab = s.tab := rfl
@[simp] theorem State.setCandSt_egr (s : State) (i : Nat) (v : CandState) : (s.setCandSt i v).egr = s.egr := rfl
@[simp] theorem State.setCandSt_crs (s : State) (i : Nat) (v : CandState) : (s.setCandSt i v).crs = s.crs := rfl
@[simp] theorem State.setCandSt_lt (s : State) (i : Nat) (v : CandState) : (s.setCandSt i v).lt = s.lt := rfl
@[simp] theorem State.setCandSt_flt (s : State) (i : Nat) (v : CandState) : (s.setCandSt i v).flt = s.flt := rfl
@[simp] theorem State.setCandSt_lan (s : State) (i : Nat) (v : CandState) : (s.setCandSt i v).lan = s.lan := rfl
@[simp] theorem State.setCandSt_tio (s : State) (i : Nat) (v : CandState) : (s.setCandSt i v).tio = s.tio := rfl
@[simp] theorem State.setCandSt_host (s : State) (i : Nat) (v : CandState) : (s.setCandSt i v).host = s.host := rfl
@[simp] theorem State.setCandSt_cores (s : State) (i : Nat) (v : CandState) : (s.setCandSt i v).cores = s.cores := rfl
@[simp] theorem State.setCandSt_pwr (s : State) (i : Nat) (v : CandState) : (s.setCandSt i v).pwr = s.pwr := rfl
@[simp] theorem State.setCandSt_out (s : State) (i : Nat) (v : CandState) : (s.setCandSt i v).out = s.out := rfl
@[simp] theorem State.setRefSt_now (s : State) (i : Nat) (v : RefState) : (s.setRefSt i v).now = s.now := rfl
@[simp] theorem State.setRefSt_pending (s : State) (i : Nat) (v : RefState) : (s.setRefSt i v).pending = s.pending := rfl
@[simp] theorem State.setRefSt_cfg (s : State) (i : Nat) (v : RefState) : (s.setRefSt i v).cfg = s.cfg := rfl
@[simp] theorem State.setRefSt_fab (s : State) (i : Nat) (v : RefState) : (s.setRefSt i v).fab = s.fab := rfl
@[simp] theorem State.setRefSt_tab (s : State) (i : Nat) (v : RefState) : (s.setRefSt i v).tab = s.tab := rfl
@[simp] theorem State.setRefSt_egr (s : State) (i : Nat) (v : RefState) : (s.setRefSt i v).egr = s.egr := rfl
@[simp] theorem State.setRefSt_crs (s : State) (i : Nat) (v : RefState) : (s.setRefSt i v).crs = s.crs := rfl
@[simp] theorem State.setRefSt_lt (s : State) (i : Nat) (v : RefState) : (s.setRefSt i v).lt = s.lt := rfl
@[simp] theorem State.setRefSt_flt (s : State) (i : Nat) (v : RefState) : (s.setRefSt i v).flt = s.flt := rfl
@[simp] theorem State.setRefSt_lan (s : State) (i : Nat) (v : RefState) : (s.setRefSt i v).lan = s.lan := rfl
@[simp] theorem State.setRefSt_tio (s : State) (i : Nat) (v : RefState) : (s.setRefSt i v).tio = s.tio := rfl
@[simp] theorem State.setRefSt_host (s : State) (i : Nat) (v : RefState) : (s.setRefSt i v).host = s.host := rfl
@[simp] theorem State.setRefSt_cores (s : State) (i : Nat) (v : RefState) : (s.setRefSt i v).cores = s.cores := rfl
@[simp] theorem State.setRefSt_pwr (s : State) (i : Nat) (v : RefState) : (s.setRefSt i v).pwr = s.pwr := rfl
@[simp] theorem State.setRefSt_out (s : State) (i : Nat) (v : RefState) : (s.setRefSt i v).out = s.out := rfl
@[simp] theorem State.setPtpSt_now (s : State) (p : Nat) (v : PtpState) : (s.setPtpSt p v).now = s.now := rfl
@[simp] theorem State.setPtpSt_pending (s : State) (p : Nat) (v : PtpState) : (s.setPtpSt p v).pending = s.pending := rfl
@[simp] theorem State.setPtpSt_cfg (s : State) (p : Nat) (v : PtpState) : (s.setPtpSt p v).cfg = s.cfg := rfl
@[simp] theorem State.setPtpSt_fab (s : State) (p : Nat) (v : PtpState) : (s.setPtpSt p v).fab = s.fab := rfl
@[simp] theorem State.setPtpSt_tab (s : State) (p : Nat) (v : PtpState) : (s.setPtpSt p v).tab = s.tab := rfl
@[simp] theorem State.setPtpSt_egr (s : State) (p : Nat) (v : PtpState) : (s.setPtpSt p v).egr = s.egr := rfl
@[simp] theorem State.setPtpSt_crs (s : State) (p : Nat) (v : PtpState) : (s.setPtpSt p v).crs = s.crs := rfl
@[simp] theorem State.setPtpSt_lt (s : State) (p : Nat) (v : PtpState) : (s.setPtpSt p v).lt = s.lt := rfl
@[simp] theorem State.setPtpSt_flt (s : State) (p : Nat) (v : PtpState) : (s.setPtpSt p v).flt = s.flt := rfl
@[simp] theorem State.setPtpSt_lan (s : State) (p : Nat) (v : PtpState) : (s.setPtpSt p v).lan = s.lan := rfl
@[simp] theorem State.setPtpSt_tio (s : State) (p : Nat) (v : PtpState) : (s.setPtpSt p v).tio = s.tio := rfl
@[simp] theorem State.setPtpSt_host (s : State) (p : Nat) (v : PtpState) : (s.setPtpSt p v).host = s.host := rfl
@[simp] theorem State.setPtpSt_cores (s : State) (p : Nat) (v : PtpState) : (s.setPtpSt p v).cores = s.cores := rfl
@[simp] theorem State.setPtpSt_pwr (s : State) (p : Nat) (v : PtpState) : (s.setPtpSt p v).pwr = s.pwr := rfl
@[simp] theorem State.setPtpSt_out (s : State) (p : Nat) (v : PtpState) : (s.setPtpSt p v).out = s.out := rfl
@[simp] theorem State.setEsmc_now (s : State) (p : Nat) (v : EsmcState) : (s.setEsmc p v).now = s.now := rfl
@[simp] theorem State.setEsmc_pending (s : State) (p : Nat) (v : EsmcState) : (s.setEsmc p v).pending = s.pending := rfl
@[simp] theorem State.setEsmc_cfg (s : State) (p : Nat) (v : EsmcState) : (s.setEsmc p v).cfg = s.cfg := rfl
@[simp] theorem State.setEsmc_fab (s : State) (p : Nat) (v : EsmcState) : (s.setEsmc p v).fab = s.fab := rfl
@[simp] theorem State.setEsmc_tab (s : State) (p : Nat) (v : EsmcState) : (s.setEsmc p v).tab = s.tab := rfl
@[simp] theorem State.setEsmc_egr (s : State) (p : Nat) (v : EsmcState) : (s.setEsmc p v).egr = s.egr := rfl
@[simp] theorem State.setEsmc_crs (s : State) (p : Nat) (v : EsmcState) : (s.setEsmc p v).crs = s.crs := rfl
@[simp] theorem State.setEsmc_lt (s : State) (p : Nat) (v : EsmcState) : (s.setEsmc p v).lt = s.lt := rfl
@[simp] theorem State.setEsmc_flt (s : State) (p : Nat) (v : EsmcState) : (s.setEsmc p v).flt = s.flt := rfl
@[simp] theorem State.setEsmc_lan (s : State) (p : Nat) (v : EsmcState) : (s.setEsmc p v).lan = s.lan := rfl
@[simp] theorem State.setEsmc_tio (s : State) (p : Nat) (v : EsmcState) : (s.setEsmc p v).tio = s.tio := rfl
@[simp] theorem State.setEsmc_host (s : State) (p : Nat) (v : EsmcState) : (s.setEsmc p v).host = s.host := rfl
@[simp] theorem State.setEsmc_cores (s : State) (p : Nat) (v : EsmcState) : (s.setEsmc p v).cores = s.cores := rfl
@[simp] theorem State.setEsmc_pwr (s : State) (p : Nat) (v : EsmcState) : (s.setEsmc p v).pwr = s.pwr := rfl
@[simp] theorem State.setEsmc_out (s : State) (p : Nat) (v : EsmcState) : (s.setEsmc p v).out = s.out := rfl
@[simp] theorem State.setLink_now (s : State) (p : Nat) (v : Link) : (s.setLink p v).now = s.now := rfl
@[simp] theorem State.setLink_pending (s : State) (p : Nat) (v : Link) : (s.setLink p v).pending = s.pending := rfl
@[simp] theorem State.setLink_cfg (s : State) (p : Nat) (v : Link) : (s.setLink p v).cfg = s.cfg := rfl
@[simp] theorem State.setLink_fab (s : State) (p : Nat) (v : Link) : (s.setLink p v).fab = s.fab := rfl
@[simp] theorem State.setLink_tab (s : State) (p : Nat) (v : Link) : (s.setLink p v).tab = s.tab := rfl
@[simp] theorem State.setLink_egr (s : State) (p : Nat) (v : Link) : (s.setLink p v).egr = s.egr := rfl
@[simp] theorem State.setLink_crs (s : State) (p : Nat) (v : Link) : (s.setLink p v).crs = s.crs := rfl
@[simp] theorem State.setLink_tk (s : State) (p : Nat) (v : Link) : (s.setLink p v).tk = s.tk := rfl
@[simp] theorem State.setLink_flt (s : State) (p : Nat) (v : Link) : (s.setLink p v).flt = s.flt := rfl
@[simp] theorem State.setLink_lan (s : State) (p : Nat) (v : Link) : (s.setLink p v).lan = s.lan := rfl
@[simp] theorem State.setLink_tio (s : State) (p : Nat) (v : Link) : (s.setLink p v).tio = s.tio := rfl
@[simp] theorem State.setLink_host (s : State) (p : Nat) (v : Link) : (s.setLink p v).host = s.host := rfl
@[simp] theorem State.setLink_cores (s : State) (p : Nat) (v : Link) : (s.setLink p v).cores = s.cores := rfl
@[simp] theorem State.setLink_pwr (s : State) (p : Nat) (v : Link) : (s.setLink p v).pwr = s.pwr := rfl
@[simp] theorem State.setLink_out (s : State) (p : Nat) (v : Link) : (s.setLink p v).out = s.out := rfl
@[simp] theorem State.setVernier_now (s : State) (q : Nat) (v : Vernier) : (s.setVernier q v).now = s.now := rfl
@[simp] theorem State.setVernier_pending (s : State) (q : Nat) (v : Vernier) : (s.setVernier q v).pending = s.pending := rfl
@[simp] theorem State.setVernier_cfg (s : State) (q : Nat) (v : Vernier) : (s.setVernier q v).cfg = s.cfg := rfl
@[simp] theorem State.setVernier_fab (s : State) (q : Nat) (v : Vernier) : (s.setVernier q v).fab = s.fab := rfl
@[simp] theorem State.setVernier_tab (s : State) (q : Nat) (v : Vernier) : (s.setVernier q v).tab = s.tab := rfl
@[simp] theorem State.setVernier_egr (s : State) (q : Nat) (v : Vernier) : (s.setVernier q v).egr = s.egr := rfl
@[simp] theorem State.setVernier_crs (s : State) (q : Nat) (v : Vernier) : (s.setVernier q v).crs = s.crs := rfl
@[simp] theorem State.setVernier_tk (s : State) (q : Nat) (v : Vernier) : (s.setVernier q v).tk = s.tk := rfl
@[simp] theorem State.setVernier_flt (s : State) (q : Nat) (v : Vernier) : (s.setVernier q v).flt = s.flt := rfl
@[simp] theorem State.setVernier_lan (s : State) (q : Nat) (v : Vernier) : (s.setVernier q v).lan = s.lan := rfl
@[simp] theorem State.setVernier_tio (s : State) (q : Nat) (v : Vernier) : (s.setVernier q v).tio = s.tio := rfl
@[simp] theorem State.setVernier_host (s : State) (q : Nat) (v : Vernier) : (s.setVernier q v).host = s.host := rfl
@[simp] theorem State.setVernier_cores (s : State) (q : Nat) (v : Vernier) : (s.setVernier q v).cores = s.cores := rfl
@[simp] theorem State.setVernier_pwr (s : State) (q : Nat) (v : Vernier) : (s.setVernier q v).pwr = s.pwr := rfl
@[simp] theorem State.setVernier_out (s : State) (q : Nat) (v : Vernier) : (s.setVernier q v).out = s.out := rfl
@[simp] theorem State.setLane_now (s : State) (p : Nat) (v : Lane) : (s.setLane p v).now = s.now := rfl
@[simp] theorem State.setLane_pending (s : State) (p : Nat) (v : Lane) : (s.setLane p v).pending = s.pending := rfl
@[simp] theorem State.setLane_cfg (s : State) (p : Nat) (v : Lane) : (s.setLane p v).cfg = s.cfg := rfl
@[simp] theorem State.setLane_fab (s : State) (p : Nat) (v : Lane) : (s.setLane p v).fab = s.fab := rfl
@[simp] theorem State.setLane_tab (s : State) (p : Nat) (v : Lane) : (s.setLane p v).tab = s.tab := rfl
@[simp] theorem State.setLane_egr (s : State) (p : Nat) (v : Lane) : (s.setLane p v).egr = s.egr := rfl
@[simp] theorem State.setLane_crs (s : State) (p : Nat) (v : Lane) : (s.setLane p v).crs = s.crs := rfl
@[simp] theorem State.setLane_tk (s : State) (p : Nat) (v : Lane) : (s.setLane p v).tk = s.tk := rfl
@[simp] theorem State.setLane_lt (s : State) (p : Nat) (v : Lane) : (s.setLane p v).lt = s.lt := rfl
@[simp] theorem State.setLane_flt (s : State) (p : Nat) (v : Lane) : (s.setLane p v).flt = s.flt := rfl
@[simp] theorem State.setLane_tio (s : State) (p : Nat) (v : Lane) : (s.setLane p v).tio = s.tio := rfl
@[simp] theorem State.setLane_host (s : State) (p : Nat) (v : Lane) : (s.setLane p v).host = s.host := rfl
@[simp] theorem State.setLane_cores (s : State) (p : Nat) (v : Lane) : (s.setLane p v).cores = s.cores := rfl
@[simp] theorem State.setLane_pwr (s : State) (p : Nat) (v : Lane) : (s.setLane p v).pwr = s.pwr := rfl
@[simp] theorem State.setLane_out (s : State) (p : Nat) (v : Lane) : (s.setLane p v).out = s.out := rfl
@[simp] theorem State.setQuad_now (s : State) (q : Nat) (v : Quad) : (s.setQuad q v).now = s.now := rfl
@[simp] theorem State.setQuad_pending (s : State) (q : Nat) (v : Quad) : (s.setQuad q v).pending = s.pending := rfl
@[simp] theorem State.setQuad_cfg (s : State) (q : Nat) (v : Quad) : (s.setQuad q v).cfg = s.cfg := rfl
@[simp] theorem State.setQuad_fab (s : State) (q : Nat) (v : Quad) : (s.setQuad q v).fab = s.fab := rfl
@[simp] theorem State.setQuad_tab (s : State) (q : Nat) (v : Quad) : (s.setQuad q v).tab = s.tab := rfl
@[simp] theorem State.setQuad_egr (s : State) (q : Nat) (v : Quad) : (s.setQuad q v).egr = s.egr := rfl
@[simp] theorem State.setQuad_crs (s : State) (q : Nat) (v : Quad) : (s.setQuad q v).crs = s.crs := rfl
@[simp] theorem State.setQuad_tk (s : State) (q : Nat) (v : Quad) : (s.setQuad q v).tk = s.tk := rfl
@[simp] theorem State.setQuad_lt (s : State) (q : Nat) (v : Quad) : (s.setQuad q v).lt = s.lt := rfl
@[simp] theorem State.setQuad_flt (s : State) (q : Nat) (v : Quad) : (s.setQuad q v).flt = s.flt := rfl
@[simp] theorem State.setQuad_tio (s : State) (q : Nat) (v : Quad) : (s.setQuad q v).tio = s.tio := rfl
@[simp] theorem State.setQuad_host (s : State) (q : Nat) (v : Quad) : (s.setQuad q v).host = s.host := rfl
@[simp] theorem State.setQuad_cores (s : State) (q : Nat) (v : Quad) : (s.setQuad q v).cores = s.cores := rfl
@[simp] theorem State.setQuad_pwr (s : State) (q : Nat) (v : Quad) : (s.setQuad q v).pwr = s.pwr := rfl
@[simp] theorem State.setQuad_out (s : State) (q : Nat) (v : Quad) : (s.setQuad q v).out = s.out := rfl
@[simp] theorem State.setHb_now (s : State) (n : Nat) (v : HbPll) : (s.setHb n v).now = s.now := by
  unfold State.setHb; split <;> rfl
@[simp] theorem State.setHb_pending (s : State) (n : Nat) (v : HbPll) : (s.setHb n v).pending = s.pending := by
  unfold State.setHb; split <;> rfl
@[simp] theorem State.setHb_cfg (s : State) (n : Nat) (v : HbPll) : (s.setHb n v).cfg = s.cfg := by
  unfold State.setHb; split <;> rfl
@[simp] theorem State.setHb_fab (s : State) (n : Nat) (v : HbPll) : (s.setHb n v).fab = s.fab := by
  unfold State.setHb; split <;> rfl
@[simp] theorem State.setHb_tab (s : State) (n : Nat) (v : HbPll) : (s.setHb n v).tab = s.tab := by
  unfold State.setHb; split <;> rfl
@[simp] theorem State.setHb_egr (s : State) (n : Nat) (v : HbPll) : (s.setHb n v).egr = s.egr := by
  unfold State.setHb; split <;> rfl
@[simp] theorem State.setHb_crs (s : State) (n : Nat) (v : HbPll) : (s.setHb n v).crs = s.crs := by
  unfold State.setHb; split <;> rfl
@[simp] theorem State.setHb_tk (s : State) (n : Nat) (v : HbPll) : (s.setHb n v).tk = s.tk := by
  unfold State.setHb; split <;> rfl
@[simp] theorem State.setHb_lt (s : State) (n : Nat) (v : HbPll) : (s.setHb n v).lt = s.lt := by
  unfold State.setHb; split <;> rfl
@[simp] theorem State.setHb_flt (s : State) (n : Nat) (v : HbPll) : (s.setHb n v).flt = s.flt := by
  unfold State.setHb; split <;> rfl
@[simp] theorem State.setHb_tio (s : State) (n : Nat) (v : HbPll) : (s.setHb n v).tio = s.tio := by
  unfold State.setHb; split <;> rfl
@[simp] theorem State.setHb_host (s : State) (n : Nat) (v : HbPll) : (s.setHb n v).host = s.host := by
  unfold State.setHb; split <;> rfl
@[simp] theorem State.setHb_cores (s : State) (n : Nat) (v : HbPll) : (s.setHb n v).cores = s.cores := by
  unfold State.setHb; split <;> rfl
@[simp] theorem State.setHb_pwr (s : State) (n : Nat) (v : HbPll) : (s.setHb n v).pwr = s.pwr := by
  unfold State.setHb; split <;> rfl
@[simp] theorem State.setHb_out (s : State) (n : Nat) (v : HbPll) : (s.setHb n v).out = s.out := by
  unfold State.setHb; split <;> rfl
@[simp] theorem State.setBus_now (s : State) (q : Nat) (v : I2cBus) : (s.setBus q v).now = s.now := rfl
@[simp] theorem State.setBus_pending (s : State) (q : Nat) (v : I2cBus) : (s.setBus q v).pending = s.pending := rfl
@[simp] theorem State.setBus_cfg (s : State) (q : Nat) (v : I2cBus) : (s.setBus q v).cfg = s.cfg := rfl
@[simp] theorem State.setBus_fab (s : State) (q : Nat) (v : I2cBus) : (s.setBus q v).fab = s.fab := rfl
@[simp] theorem State.setBus_tab (s : State) (q : Nat) (v : I2cBus) : (s.setBus q v).tab = s.tab := rfl
@[simp] theorem State.setBus_egr (s : State) (q : Nat) (v : I2cBus) : (s.setBus q v).egr = s.egr := rfl
@[simp] theorem State.setBus_crs (s : State) (q : Nat) (v : I2cBus) : (s.setBus q v).crs = s.crs := rfl
@[simp] theorem State.setBus_tk (s : State) (q : Nat) (v : I2cBus) : (s.setBus q v).tk = s.tk := rfl
@[simp] theorem State.setBus_lt (s : State) (q : Nat) (v : I2cBus) : (s.setBus q v).lt = s.lt := rfl
@[simp] theorem State.setBus_flt (s : State) (q : Nat) (v : I2cBus) : (s.setBus q v).flt = s.flt := rfl
@[simp] theorem State.setBus_tio (s : State) (q : Nat) (v : I2cBus) : (s.setBus q v).tio = s.tio := rfl
@[simp] theorem State.setBus_host (s : State) (q : Nat) (v : I2cBus) : (s.setBus q v).host = s.host := rfl
@[simp] theorem State.setBus_cores (s : State) (q : Nat) (v : I2cBus) : (s.setBus q v).cores = s.cores := rfl
@[simp] theorem State.setBus_pwr (s : State) (q : Nat) (v : I2cBus) : (s.setBus q v).pwr = s.pwr := rfl
@[simp] theorem State.setBus_out (s : State) (q : Nat) (v : I2cBus) : (s.setBus q v).out = s.out := rfl
@[simp] theorem State.setSensor_now (s : State) (i : Nat) (v : Sensor) : (s.setSensor i v).now = s.now := rfl
@[simp] theorem State.setSensor_pending (s : State) (i : Nat) (v : Sensor) : (s.setSensor i v).pending = s.pending := rfl
@[simp] theorem State.setSensor_cfg (s : State) (i : Nat) (v : Sensor) : (s.setSensor i v).cfg = s.cfg := rfl
@[simp] theorem State.setSensor_fab (s : State) (i : Nat) (v : Sensor) : (s.setSensor i v).fab = s.fab := rfl
@[simp] theorem State.setSensor_tab (s : State) (i : Nat) (v : Sensor) : (s.setSensor i v).tab = s.tab := rfl
@[simp] theorem State.setSensor_egr (s : State) (i : Nat) (v : Sensor) : (s.setSensor i v).egr = s.egr := rfl
@[simp] theorem State.setSensor_crs (s : State) (i : Nat) (v : Sensor) : (s.setSensor i v).crs = s.crs := rfl
@[simp] theorem State.setSensor_tk (s : State) (i : Nat) (v : Sensor) : (s.setSensor i v).tk = s.tk := rfl
@[simp] theorem State.setSensor_lt (s : State) (i : Nat) (v : Sensor) : (s.setSensor i v).lt = s.lt := rfl
@[simp] theorem State.setSensor_flt (s : State) (i : Nat) (v : Sensor) : (s.setSensor i v).flt = s.flt := rfl
@[simp] theorem State.setSensor_tio (s : State) (i : Nat) (v : Sensor) : (s.setSensor i v).tio = s.tio := rfl
@[simp] theorem State.setSensor_host (s : State) (i : Nat) (v : Sensor) : (s.setSensor i v).host = s.host := rfl
@[simp] theorem State.setSensor_cores (s : State) (i : Nat) (v : Sensor) : (s.setSensor i v).cores = s.cores := rfl
@[simp] theorem State.setSensor_pwr (s : State) (i : Nat) (v : Sensor) : (s.setSensor i v).pwr = s.pwr := rfl
@[simp] theorem State.setSensor_out (s : State) (i : Nat) (v : Sensor) : (s.setSensor i v).out = s.out := rfl
@[simp] theorem State.setPin_now (s : State) (p : Nat) (v : EvtPin) : (s.setPin p v).now = s.now := rfl
@[simp] theorem State.setPin_pending (s : State) (p : Nat) (v : EvtPin) : (s.setPin p v).pending = s.pending := rfl
@[simp] theorem State.setPin_cfg (s : State) (p : Nat) (v : EvtPin) : (s.setPin p v).cfg = s.cfg := rfl
@[simp] theorem State.setPin_fab (s : State) (p : Nat) (v : EvtPin) : (s.setPin p v).fab = s.fab := rfl
@[simp] theorem State.setPin_tab (s : State) (p : Nat) (v : EvtPin) : (s.setPin p v).tab = s.tab := rfl
@[simp] theorem State.setPin_egr (s : State) (p : Nat) (v : EvtPin) : (s.setPin p v).egr = s.egr := rfl
@[simp] theorem State.setPin_crs (s : State) (p : Nat) (v : EvtPin) : (s.setPin p v).crs = s.crs := rfl
@[simp] theorem State.setPin_tk (s : State) (p : Nat) (v : EvtPin) : (s.setPin p v).tk = s.tk := rfl
@[simp] theorem State.setPin_lt (s : State) (p : Nat) (v : EvtPin) : (s.setPin p v).lt = s.lt := rfl
@[simp] theorem State.setPin_flt (s : State) (p : Nat) (v : EvtPin) : (s.setPin p v).flt = s.flt := rfl
@[simp] theorem State.setPin_lan (s : State) (p : Nat) (v : EvtPin) : (s.setPin p v).lan = s.lan := rfl
@[simp] theorem State.setPin_host (s : State) (p : Nat) (v : EvtPin) : (s.setPin p v).host = s.host := rfl
@[simp] theorem State.setPin_cores (s : State) (p : Nat) (v : EvtPin) : (s.setPin p v).cores = s.cores := rfl
@[simp] theorem State.setPin_pwr (s : State) (p : Nat) (v : EvtPin) : (s.setPin p v).pwr = s.pwr := rfl
@[simp] theorem State.setPin_out (s : State) (p : Nat) (v : EvtPin) : (s.setPin p v).out = s.out := rfl
@[simp] theorem State.setChan_now (s : State) (c : Nat) (v : TimChan) : (s.setChan c v).now = s.now := rfl
@[simp] theorem State.setChan_pending (s : State) (c : Nat) (v : TimChan) : (s.setChan c v).pending = s.pending := rfl
@[simp] theorem State.setChan_cfg (s : State) (c : Nat) (v : TimChan) : (s.setChan c v).cfg = s.cfg := rfl
@[simp] theorem State.setChan_fab (s : State) (c : Nat) (v : TimChan) : (s.setChan c v).fab = s.fab := rfl
@[simp] theorem State.setChan_tab (s : State) (c : Nat) (v : TimChan) : (s.setChan c v).tab = s.tab := rfl
@[simp] theorem State.setChan_egr (s : State) (c : Nat) (v : TimChan) : (s.setChan c v).egr = s.egr := rfl
@[simp] theorem State.setChan_crs (s : State) (c : Nat) (v : TimChan) : (s.setChan c v).crs = s.crs := rfl
@[simp] theorem State.setChan_tk (s : State) (c : Nat) (v : TimChan) : (s.setChan c v).tk = s.tk := rfl
@[simp] theorem State.setChan_lt (s : State) (c : Nat) (v : TimChan) : (s.setChan c v).lt = s.lt := rfl
@[simp] theorem State.setChan_flt (s : State) (c : Nat) (v : TimChan) : (s.setChan c v).flt = s.flt := rfl
@[simp] theorem State.setChan_lan (s : State) (c : Nat) (v : TimChan) : (s.setChan c v).lan = s.lan := rfl
@[simp] theorem State.setChan_host (s : State) (c : Nat) (v : TimChan) : (s.setChan c v).host = s.host := rfl
@[simp] theorem State.setChan_cores (s : State) (c : Nat) (v : TimChan) : (s.setChan c v).cores = s.cores := rfl
@[simp] theorem State.setChan_pwr (s : State) (c : Nat) (v : TimChan) : (s.setChan c v).pwr = s.pwr := rfl
@[simp] theorem State.setChan_out (s : State) (c : Nat) (v : TimChan) : (s.setChan c v).out = s.out := rfl
@[simp] theorem State.setCko_now (s : State) (n : Nat) (v : Cko) : (s.setCko n v).now = s.now := rfl
@[simp] theorem State.setCko_pending (s : State) (n : Nat) (v : Cko) : (s.setCko n v).pending = s.pending := rfl
@[simp] theorem State.setCko_cfg (s : State) (n : Nat) (v : Cko) : (s.setCko n v).cfg = s.cfg := rfl
@[simp] theorem State.setCko_fab (s : State) (n : Nat) (v : Cko) : (s.setCko n v).fab = s.fab := rfl
@[simp] theorem State.setCko_tab (s : State) (n : Nat) (v : Cko) : (s.setCko n v).tab = s.tab := rfl
@[simp] theorem State.setCko_egr (s : State) (n : Nat) (v : Cko) : (s.setCko n v).egr = s.egr := rfl
@[simp] theorem State.setCko_crs (s : State) (n : Nat) (v : Cko) : (s.setCko n v).crs = s.crs := rfl
@[simp] theorem State.setCko_tk (s : State) (n : Nat) (v : Cko) : (s.setCko n v).tk = s.tk := rfl
@[simp] theorem State.setCko_lt (s : State) (n : Nat) (v : Cko) : (s.setCko n v).lt = s.lt := rfl
@[simp] theorem State.setCko_flt (s : State) (n : Nat) (v : Cko) : (s.setCko n v).flt = s.flt := rfl
@[simp] theorem State.setCko_lan (s : State) (n : Nat) (v : Cko) : (s.setCko n v).lan = s.lan := rfl
@[simp] theorem State.setCko_host (s : State) (n : Nat) (v : Cko) : (s.setCko n v).host = s.host := rfl
@[simp] theorem State.setCko_cores (s : State) (n : Nat) (v : Cko) : (s.setCko n v).cores = s.cores := rfl
@[simp] theorem State.setCko_pwr (s : State) (n : Nat) (v : Cko) : (s.setCko n v).pwr = s.pwr := rfl
@[simp] theorem State.setCko_out (s : State) (n : Nat) (v : Cko) : (s.setCko n v).out = s.out := rfl
@[simp] theorem State.setTio_now (s : State) (v : TimedIo) : (s.setTio v).now = s.now := rfl
@[simp] theorem State.setTio_pending (s : State) (v : TimedIo) : (s.setTio v).pending = s.pending := rfl
@[simp] theorem State.setTio_cfg (s : State) (v : TimedIo) : (s.setTio v).cfg = s.cfg := rfl
@[simp] theorem State.setTio_fab (s : State) (v : TimedIo) : (s.setTio v).fab = s.fab := rfl
@[simp] theorem State.setTio_tab (s : State) (v : TimedIo) : (s.setTio v).tab = s.tab := rfl
@[simp] theorem State.setTio_egr (s : State) (v : TimedIo) : (s.setTio v).egr = s.egr := rfl
@[simp] theorem State.setTio_crs (s : State) (v : TimedIo) : (s.setTio v).crs = s.crs := rfl
@[simp] theorem State.setTio_tk (s : State) (v : TimedIo) : (s.setTio v).tk = s.tk := rfl
@[simp] theorem State.setTio_lt (s : State) (v : TimedIo) : (s.setTio v).lt = s.lt := rfl
@[simp] theorem State.setTio_flt (s : State) (v : TimedIo) : (s.setTio v).flt = s.flt := rfl
@[simp] theorem State.setTio_lan (s : State) (v : TimedIo) : (s.setTio v).lan = s.lan := rfl
@[simp] theorem State.setTio_host (s : State) (v : TimedIo) : (s.setTio v).host = s.host := rfl
@[simp] theorem State.setTio_cores (s : State) (v : TimedIo) : (s.setTio v).cores = s.cores := rfl
@[simp] theorem State.setTio_pwr (s : State) (v : TimedIo) : (s.setTio v).pwr = s.pwr := rfl
@[simp] theorem State.setTio_out (s : State) (v : TimedIo) : (s.setTio v).out = s.out := rfl
@[simp] theorem State.setPallet_now (s : State) (n : Nat) (p : Pallet) : (s.setPallet n p).now = s.now := by
  unfold State.setPallet; split <;> rfl
@[simp] theorem State.setPallet_pending (s : State) (n : Nat) (p : Pallet) : (s.setPallet n p).pending = s.pending := by
  unfold State.setPallet; split <;> rfl
@[simp] theorem State.setPallet_cfg (s : State) (n : Nat) (p : Pallet) : (s.setPallet n p).cfg = s.cfg := by
  unfold State.setPallet; split <;> rfl
@[simp] theorem State.setPallet_fab (s : State) (n : Nat) (p : Pallet) : (s.setPallet n p).fab = s.fab := by
  unfold State.setPallet; split <;> rfl
@[simp] theorem State.setPallet_tab (s : State) (n : Nat) (p : Pallet) : (s.setPallet n p).tab = s.tab := by
  unfold State.setPallet; split <;> rfl
@[simp] theorem State.setPallet_egr (s : State) (n : Nat) (p : Pallet) : (s.setPallet n p).egr = s.egr := by
  unfold State.setPallet; split <;> rfl
@[simp] theorem State.setPallet_crs (s : State) (n : Nat) (p : Pallet) : (s.setPallet n p).crs = s.crs := by
  unfold State.setPallet; split <;> rfl
@[simp] theorem State.setPallet_tk (s : State) (n : Nat) (p : Pallet) : (s.setPallet n p).tk = s.tk := by
  unfold State.setPallet; split <;> rfl
@[simp] theorem State.setPallet_lt (s : State) (n : Nat) (p : Pallet) : (s.setPallet n p).lt = s.lt := by
  unfold State.setPallet; split <;> rfl
@[simp] theorem State.setPallet_flt (s : State) (n : Nat) (p : Pallet) : (s.setPallet n p).flt = s.flt := by
  unfold State.setPallet; split <;> rfl
@[simp] theorem State.setPallet_lan (s : State) (n : Nat) (p : Pallet) : (s.setPallet n p).lan = s.lan := by
  unfold State.setPallet; split <;> rfl
@[simp] theorem State.setPallet_tio (s : State) (n : Nat) (p : Pallet) : (s.setPallet n p).tio = s.tio := by
  unfold State.setPallet; split <;> rfl
@[simp] theorem State.setPallet_host (s : State) (n : Nat) (p : Pallet) : (s.setPallet n p).host = s.host := by
  unfold State.setPallet; split <;> rfl
@[simp] theorem State.setPallet_pwr (s : State) (n : Nat) (p : Pallet) : (s.setPallet n p).pwr = s.pwr := by
  unfold State.setPallet; split <;> rfl
@[simp] theorem State.setPallet_out (s : State) (n : Nat) (p : Pallet) : (s.setPallet n p).out = s.out := by
  unfold State.setPallet; split <;> rfl
@[simp] theorem State.setSnaps_now (s : State) (l : List Snapshot) : (s.setSnaps l).now = s.now := rfl
@[simp] theorem State.setSnaps_pending (s : State) (l : List Snapshot) : (s.setSnaps l).pending = s.pending := rfl
@[simp] theorem State.setSnaps_cfg (s : State) (l : List Snapshot) : (s.setSnaps l).cfg = s.cfg := rfl
@[simp] theorem State.setSnaps_fab (s : State) (l : List Snapshot) : (s.setSnaps l).fab = s.fab := rfl
@[simp] theorem State.setSnaps_tab (s : State) (l : List Snapshot) : (s.setSnaps l).tab = s.tab := rfl
@[simp] theorem State.setSnaps_egr (s : State) (l : List Snapshot) : (s.setSnaps l).egr = s.egr := rfl
@[simp] theorem State.setSnaps_crs (s : State) (l : List Snapshot) : (s.setSnaps l).crs = s.crs := rfl
@[simp] theorem State.setSnaps_tk (s : State) (l : List Snapshot) : (s.setSnaps l).tk = s.tk := rfl
@[simp] theorem State.setSnaps_lt (s : State) (l : List Snapshot) : (s.setSnaps l).lt = s.lt := rfl
@[simp] theorem State.setSnaps_flt (s : State) (l : List Snapshot) : (s.setSnaps l).flt = s.flt := rfl
@[simp] theorem State.setSnaps_lan (s : State) (l : List Snapshot) : (s.setSnaps l).lan = s.lan := rfl
@[simp] theorem State.setSnaps_tio (s : State) (l : List Snapshot) : (s.setSnaps l).tio = s.tio := rfl
@[simp] theorem State.setSnaps_host (s : State) (l : List Snapshot) : (s.setSnaps l).host = s.host := rfl
@[simp] theorem State.setSnaps_pwr (s : State) (l : List Snapshot) : (s.setSnaps l).pwr = s.pwr := rfl
@[simp] theorem State.setSnaps_out (s : State) (l : List Snapshot) : (s.setSnaps l).out = s.out := rfl
@[simp] theorem State.setSlot_now (s : State) (b : Bool) (m : Memory) : (s.setSlot b m).now = s.now := rfl
@[simp] theorem State.setSlot_pending (s : State) (b : Bool) (m : Memory) : (s.setSlot b m).pending = s.pending := rfl
@[simp] theorem State.setSlot_cfg (s : State) (b : Bool) (m : Memory) : (s.setSlot b m).cfg = s.cfg := rfl
@[simp] theorem State.setSlot_fab (s : State) (b : Bool) (m : Memory) : (s.setSlot b m).fab = s.fab := rfl
@[simp] theorem State.setSlot_tab (s : State) (b : Bool) (m : Memory) : (s.setSlot b m).tab = s.tab := rfl
@[simp] theorem State.setSlot_egr (s : State) (b : Bool) (m : Memory) : (s.setSlot b m).egr = s.egr := rfl
@[simp] theorem State.setSlot_crs (s : State) (b : Bool) (m : Memory) : (s.setSlot b m).crs = s.crs := rfl
@[simp] theorem State.setSlot_tk (s : State) (b : Bool) (m : Memory) : (s.setSlot b m).tk = s.tk := rfl
@[simp] theorem State.setSlot_lt (s : State) (b : Bool) (m : Memory) : (s.setSlot b m).lt = s.lt := rfl
@[simp] theorem State.setSlot_flt (s : State) (b : Bool) (m : Memory) : (s.setSlot b m).flt = s.flt := rfl
@[simp] theorem State.setSlot_lan (s : State) (b : Bool) (m : Memory) : (s.setSlot b m).lan = s.lan := rfl
@[simp] theorem State.setSlot_tio (s : State) (b : Bool) (m : Memory) : (s.setSlot b m).tio = s.tio := rfl
@[simp] theorem State.setSlot_host (s : State) (b : Bool) (m : Memory) : (s.setSlot b m).host = s.host := rfl
@[simp] theorem State.setSlot_cores (s : State) (b : Bool) (m : Memory) : (s.setSlot b m).cores = s.cores := rfl
@[simp] theorem State.setSlot_out (s : State) (b : Bool) (m : Memory) : (s.setSlot b m).out = s.out := rfl
@[simp] theorem State.setCoreRole_now (s : State) (n : Nat) (r : CoreRole) : (s.setCoreRole n r).now = s.now := by
  unfold State.setCoreRole; split <;> rfl
@[simp] theorem State.setCoreRole_pending (s : State) (n : Nat) (r : CoreRole) : (s.setCoreRole n r).pending = s.pending := by
  unfold State.setCoreRole; split <;> rfl
@[simp] theorem State.setCoreRole_cfg (s : State) (n : Nat) (r : CoreRole) : (s.setCoreRole n r).cfg = s.cfg := by
  unfold State.setCoreRole; split <;> rfl
@[simp] theorem State.setCoreRole_fab (s : State) (n : Nat) (r : CoreRole) : (s.setCoreRole n r).fab = s.fab := by
  unfold State.setCoreRole; split <;> rfl
@[simp] theorem State.setCoreRole_tab (s : State) (n : Nat) (r : CoreRole) : (s.setCoreRole n r).tab = s.tab := by
  unfold State.setCoreRole; split <;> rfl
@[simp] theorem State.setCoreRole_egr (s : State) (n : Nat) (r : CoreRole) : (s.setCoreRole n r).egr = s.egr := by
  unfold State.setCoreRole; split <;> rfl
@[simp] theorem State.setCoreRole_crs (s : State) (n : Nat) (r : CoreRole) : (s.setCoreRole n r).crs = s.crs := by
  unfold State.setCoreRole; split <;> rfl
@[simp] theorem State.setCoreRole_tk (s : State) (n : Nat) (r : CoreRole) : (s.setCoreRole n r).tk = s.tk := by
  unfold State.setCoreRole; split <;> rfl
@[simp] theorem State.setCoreRole_lt (s : State) (n : Nat) (r : CoreRole) : (s.setCoreRole n r).lt = s.lt := by
  unfold State.setCoreRole; split <;> rfl
@[simp] theorem State.setCoreRole_lan (s : State) (n : Nat) (r : CoreRole) : (s.setCoreRole n r).lan = s.lan := by
  unfold State.setCoreRole; split <;> rfl
@[simp] theorem State.setCoreRole_tio (s : State) (n : Nat) (r : CoreRole) : (s.setCoreRole n r).tio = s.tio := by
  unfold State.setCoreRole; split <;> rfl
@[simp] theorem State.setCoreRole_host (s : State) (n : Nat) (r : CoreRole) : (s.setCoreRole n r).host = s.host := by
  unfold State.setCoreRole; split <;> rfl
@[simp] theorem State.setCoreRole_cores (s : State) (n : Nat) (r : CoreRole) : (s.setCoreRole n r).cores = s.cores := by
  unfold State.setCoreRole; split <;> rfl
@[simp] theorem State.setCoreRole_pwr (s : State) (n : Nat) (r : CoreRole) : (s.setCoreRole n r).pwr = s.pwr := by
  unfold State.setCoreRole; split <;> rfl
@[simp] theorem State.setCoreRole_out (s : State) (n : Nat) (r : CoreRole) : (s.setCoreRole n r).out = s.out := by
  unfold State.setCoreRole; split <;> rfl
@[simp] theorem State.setShadow_now (s : State) (p : Nat) (f : Bank → Bank) : (s.setShadow p f).now = s.now := rfl
@[simp] theorem State.setShadow_pending (s : State) (p : Nat) (f : Bank → Bank) : (s.setShadow p f).pending = s.pending := rfl
@[simp] theorem State.setShadow_cfg (s : State) (p : Nat) (f : Bank → Bank) : (s.setShadow p f).cfg = s.cfg := rfl
@[simp] theorem State.setShadow_fab (s : State) (p : Nat) (f : Bank → Bank) : (s.setShadow p f).fab = s.fab := rfl
@[simp] theorem State.setShadow_tab (s : State) (p : Nat) (f : Bank → Bank) : (s.setShadow p f).tab = s.tab := rfl
@[simp] theorem State.setShadow_egr (s : State) (p : Nat) (f : Bank → Bank) : (s.setShadow p f).egr = s.egr := rfl
@[simp] theorem State.setShadow_tk (s : State) (p : Nat) (f : Bank → Bank) : (s.setShadow p f).tk = s.tk := rfl
@[simp] theorem State.setShadow_lt (s : State) (p : Nat) (f : Bank → Bank) : (s.setShadow p f).lt = s.lt := rfl
@[simp] theorem State.setShadow_flt (s : State) (p : Nat) (f : Bank → Bank) : (s.setShadow p f).flt = s.flt := rfl
@[simp] theorem State.setShadow_lan (s : State) (p : Nat) (f : Bank → Bank) : (s.setShadow p f).lan = s.lan := rfl
@[simp] theorem State.setShadow_tio (s : State) (p : Nat) (f : Bank → Bank) : (s.setShadow p f).tio = s.tio := rfl
@[simp] theorem State.setShadow_host (s : State) (p : Nat) (f : Bank → Bank) : (s.setShadow p f).host = s.host := rfl
@[simp] theorem State.setShadow_cores (s : State) (p : Nat) (f : Bank → Bank) : (s.setShadow p f).cores = s.cores := rfl
@[simp] theorem State.setShadow_pwr (s : State) (p : Nat) (f : Bank → Bank) : (s.setShadow p f).pwr = s.pwr := rfl
@[simp] theorem State.setShadow_out (s : State) (p : Nat) (f : Bank → Bank) : (s.setShadow p f).out = s.out := rfl

end Sys2Proof.Machine
end

