-- ==== Sys2Proof/Tests/Slice0.lean ====
section
/-! SUPPORT. The model's own tests: ill-formed commands are refused, worked figures of the spec come out, and
every obligation with hypotheses has a state and operands that meet them. -/

namespace Sys2Proof.Machine

/-! ### Ill-formed commands (12 R504 and the numbers of ports, pins and units) -/

theorem test_wf_refuses_long_frames (l : List Byte) (h : l.length = 16385) :
    Instr.wf (.frameStamp 0 l false 0) = false
    ∧ Instr.wf (.timingFrameRx 0 l 0) = false := by
  simp [Instr.wf, h]

theorem test_wf_refuses_0 :
    Instr.wf (.frameStamp 64 [] false 0) = false
    ∧ Instr.wf (.rxFrameEnd 64 0) = false
    ∧ Instr.wf (.rxOversize 64 0) = false
    ∧ Instr.wf (.rxSymbolAbort 64 0 0) = false
    ∧ Instr.wf (.grout 68 0 0) = false
    ∧ Instr.wf (.mergeRelease 7 none 0) = false
    ∧ Instr.wf (.channelStall 7 0 0) = false
    ∧ Instr.wf (.lossOfSymbolLock 64 0 0) = false
    ∧ Instr.wf (.pipelineLead 5 none 0) = false
    ∧ Instr.wf (.endKeyStage 5 0) = false
    ∧ Instr.wf (.modelStart 68 0) = false
    ∧ Instr.wf (.modelEnd 68 0) = false
    ∧ Instr.wf (.aging 68 0) = false
    ∧ Instr.wf (.physicalTxStart 68 0) = false
    ∧ Instr.wf (.txTileRead 68 0 0 0) = false
    ∧ Instr.wf (.cutPoison 68 0) = false
    ∧ Instr.wf (.cutUnderrun 68 0) = false
    ∧ Instr.wf (.extractFrame 68 false 0) = false := by decide

theorem test_wf_refuses_1 :
    Instr.wf (.pauseRx 64 0) = false
    ∧ Instr.wf (.pauseEnd 64 0) = false
    ∧ Instr.wf (.pauseCeiling 64 0) = false
    ∧ Instr.wf (.pauseRearmEnd 64 0) = false
    ∧ Instr.wf (.disableDrainEnd 64 0) = false
    ∧ Instr.wf (.stagedChangeApply 6 0 0) = false
    ∧ Instr.wf (.flapHoldEnd 4096 0 0 0) = false
    ∧ Instr.wf (.flapHoldEnd 0 281474976710656 0 0) = false
    ∧ Instr.wf (.tableScrub 5 0 0 false 0) = false
    ∧ Instr.wf (.ffLivenessDown 64 0) = false
    ∧ Instr.wf (.ffLivenessUp 64 0) = false
    ∧ Instr.wf (.courseOccurrence 64 0 0 false 0) = false
    ∧ Instr.wf (.courseOccurrence 0 1024 0 false 0) = false
    ∧ Instr.wf (.windowRelease 64 0 0) = false
    ∧ Instr.wf (.windowRelease 0 1024 0) = false
    ∧ Instr.wf (.courseSwap 64 0) = false
    ∧ Instr.wf (.candidateQualify 16 0) = false
    ∧ Instr.wf (.refPpsEdge 2 {} 0) = false := by decide

theorem test_wf_refuses_2 :
    Instr.wf (.ppsMissing 2 0) = false
    ∧ Instr.wf (.refClockLost 2 0) = false
    ∧ Instr.wf (.ptpRx 64 (.announce 0 0 false 0) 0 0) = false
    ∧ Instr.wf (.ptpTx 64 0 0) = false
    ∧ Instr.wf (.esmcRx 64 0 0) = false
    ∧ Instr.wf (.esmcRx 0 16 0) = false
    ∧ Instr.wf (.esmcQlTimeout 64 0) = false
    ∧ Instr.wf (.esmcTx 64 0) = false
    ∧ Instr.wf (.tmarkTx 64 0 0 0) = false
    ∧ Instr.wf (.tmarkRx 64 [] false 0 0 0) = false
    ∧ Instr.wf (.timingFrameTx 64 0) = false
    ∧ Instr.wf (.timingFrameRx 64 [] 0) = false
    ∧ Instr.wf (.beatSample 64 0 0 0) = false
    ∧ Instr.wf (.vernierCalDone 4 0 0) = false
    ∧ Instr.wf (.delayRunDone 64 0 0 0 0 0) = false
    ∧ Instr.wf (.ltRelockTimeout 64 0) = false
    ∧ Instr.wf (.bondCellDisagree 3 0) = false
    ∧ Instr.wf (.coreRestartDone 2 false 0) = false := by decide

theorem test_wf_refuses_3 :
    Instr.wf (.detectHoldExpiry 64 0) = false
    ∧ Instr.wf (.energyLost 64 0) = false
    ∧ Instr.wf (.linkStateProgress 64 .locked 0) = false
    ∧ Instr.wf (.linkStateTimeout 64 0) = false
    ∧ Instr.wf (.trainSetRx 64 0 0 0 false 0) = false
    ∧ Instr.wf (.symbolLock 64 0) = false
    ∧ Instr.wf (.capxRx 64 0 0 0 false 0) = false
    ∧ Instr.wf (.calxLoopbackDone 64 0 0 0) = false
    ∧ Instr.wf (.pllUnlock 4 0 0) = false
    ∧ Instr.wf (.pllRelock 4 0 0) = false
    ∧ Instr.wf (.parkAuto 64 0) = false
    ∧ Instr.wf (.parkReqLapse 64 0) = false
    ∧ Instr.wf (.parkExit 64 0) = false
    ∧ Instr.wf (.parkExitFail 64 0) = false
    ∧ Instr.wf (.eyeMonitorUpdate 64 0 0 0 [] 0) = false
    ∧ Instr.wf (.dieSensorRead 8 0 0) = false
    ∧ Instr.wf (.eqRunDone 64 0 0) = false
    ∧ Instr.wf (.modulePresenceChange 64 false 0) = false := by decide

theorem test_wf_refuses_4 :
    Instr.wf (.moduleReady 64 0 0 0) = false
    ∧ Instr.wf (.quadPowerUpDone 4 0) = false
    ∧ Instr.wf (.evtInputEdge 8 false 0) = false
    ∧ Instr.wf (.evtFilterDone 8 0) = false
    ∧ Instr.wf (.evtAonLatch 8 false 0) = false
    ∧ Instr.wf (.evtOutputEdge 8 false 0) = false
    ∧ Instr.wf (.timStartEdge 4 false 0 0) = false
    ∧ Instr.wf (.timStopEdge 4 false 0 0) = false
    ∧ Instr.wf (.timGateEdge 4 false 0 0) = false
    ∧ Instr.wf (.timOverrange 4 0) = false
    ∧ Instr.wf (.ckoBandSearchDone 8 0 false 0) = false
    ∧ Instr.wf (.ckoBandSearchDone 0 64 false 0) = false
    ∧ Instr.wf (.ckoAlignStart 8 0) = false
    ∧ Instr.wf (.ckoBypass 8 0 0) = false
    ∧ Instr.wf (.ckoReturn 8 0) = false
    ∧ Instr.wf (.ckoProfileApply 8 0) = false
    ∧ Instr.wf (.ckoSegmentEnd 8 0) = false
    ∧ Instr.wf (.ckoRelock 8 0) = false := by decide

theorem test_wf_refuses_5 :
    Instr.wf (.cmbGo .h0pf0 65536 0) = false
    ∧ Instr.wf (.pmbGo .h0pf0 65536 0) = false
    ∧ Instr.wf (.mailboxTimeout 8 0) = false
    ∧ Instr.wf (.acMailboxGo .ac0 65536 0) = false
    ∧ Instr.wf (.evcTimerExpiry .h0 2 0) = false
    ∧ Instr.wf (.evcEvent 65536 0 [] false 0) = false
    ∧ Instr.wf (.evcEvent 0 176 [] false 0) = false
    ∧ Instr.wf (.evcComplete .h0 176 0) = false
    ∧ Instr.wf (.evcSoftSet .h0 32 0) = false
    ∧ Instr.wf (.coldReset 0 4 false 0) = false
    ∧ Instr.wf (.ptpDelayReqTx 64 0) = false
    ∧ Instr.wf (.ptpDelayReqRx 64 (.announce 0 0 false 0) 0 0) = false
    ∧ Instr.wf (.evtCfgApply 8 0) = false
    ∧ Instr.wf (.ckoDisableApply 8 0) = false := by decide

theorem test_wf_refuses_packet_fields :
    Req.wf { tag := 65536 } = false
    ∧ Req.wf { flags := 256 } = false
    ∧ Req.wf { applySec := 4294967296 } = false
    ∧ Req.wf { applyNs := 1073741824 } = false := by decide

theorem test_wf_refuses_long_packet (l : List Word) (h : l.length = 1021) : Req.wf { params := l } = false := by
  simp [Req.wf, h]

theorem test_wf_packet_refused : Instr.wf (.nop { tag := 65536 }) = false ∧ Instr.wf (.nop {}) = true := by decide

/-! ### Worked figures of the spec -/

/-- The frame of 05's worked example: a need of 49 tiles, of which 48 are used. -/
theorem test_camera_tiles : tilesOf (1522 + 10) = 49 ∧ tilesOf 1500 = 48 := by decide

/-- 62.5 µs as an interval (00, the example of R7). -/
theorem test_interval_words : intervalWords (ns 62500) = [word 0xF4240000, word 0] := by decide

/-- Copy B of number 4,711 is passed by function 17, and a second copy of it is a duplicate (03's worked example). -/
theorem test_recovery_example :
    let rc : Recovery := { history := 8, reset := 100 }
    let f : RecovState := { rsn := 4710, hist := 0xFF, takeAny := false, tPass := ns 1999000 }
    let a := recoveryVerdict rc f 4711 (ns 2000073)
    a.1.rsn = 4711 ∧ a.1.hist.toNat % 256 = 255 ∧ a.2.2 = true
      ∧ (recoveryVerdict rc a.1 4711 (ns 2000073)).2.2 = false := by decide +kernel

/-- The NH_SET words of 04's worked example name next hop 301, interface 12, port 61 and its MAC. -/
theorem test_next_hop_words :
    let r : Req := { params := [0x8000012D#32, 0x000C003D#32, 0x024B0000#32, 0x1C070000#32] }
    nhFrom r = { valid := true, ff := false, target := 61, rif := 12, mac := 0x024B00001C07 } ∧ okNhSet r = true := by
  decide +kernel

/-- The ramp of 11's worked example: whole cycles at 4,104 s and 4,110 s of TK time, and the fraction 100 ns later. -/
theorem test_encoder_phase :
    let v : Cko := { cfg := { f0 := 5000000000000 }, a := sec 4000
                     prof := some { start := sec 4100, y0 := 0, segs := [{ dur := 10000000, slope := 5000000000 }]
                                    acc := intUnit * (sec 100 : Nat) } }
    v.cycles (sec 4104) = 520200000 ∧ v.cycles (sec 4110) = 551250000
      ∧ v.cycles (sec 4110 + ns 100) = 551250000 ∧ v.fraction (sec 4110 + ns 100) = 2254857830
      ∧ (v.phaseAt (sec 4110)).1 * 4096 / 1000000000 = 204800000000000 := by decide +kernel


/-! ### What meets the hypotheses of each obligation

`live` is the device after reset with the interpreter ready, forwarding, and host 0 holding the semaphore and time
authority; `pk` and `pkAt` are packets of host 0's PF1 without and with an apply-at instant. -/

namespace Witness

set_option Elab.async false

def live : State :=
  { State.reset with
    host := { State.reset.host with ready := true, sem := { owner := .h0, epoch := 1, expiry := sec 100 } }
    fab := { State.reset.fab with forwarding := true }
    pwr := { State.reset.pwr with policy := 0b001011#6 } }
def pk (ws : List Nat) : Req := { sender := .h0pf1, params := ws.map word, buf := { len := 4096 } }
def pkAt (ws : List Nat) : Req := { pk ws with applyOn := true, applySec := 10 }
def port (m : PortModel) : State := { live with egr := { live.egr with models := [(0, m)] } }
def up : PortModel := { up := true, rate := 10000, gran := 3200 }
def frame : Frame := { inPort := 0, stamp := 0, bytes := List.replicate 64 0, pipe := 0, maxLen := 1522, endNs := some 0 }
def copyAt (port : Nat) (m : PortModel) : State :=
  { live with egr := { live.egr with models := [(port, { m with up := true, rate := 10000 })] } }
def sent : PhysTx :=
  { fid := 5, cls := 0, mirror := false, ct := false, tagged := false, ce := false, start := 0, frame := frame
    ended := some 0 }
def outs (mp : Nat) (l : List Item) : State :=
  { live with fab := { live.fab with outs := [(mp, l)], frames := [(5, some frame)] } }
def l2Entry : L2Entry :=
  { vid := 1, mac := 5, static := false, dkind := .port, target := 0, mirror := false, locked := true }
def l2s : State := { live with cfg := { live.cfg with l2 := [(l2Pos 1 5 0, some l2Entry)] } }
def course (c : Course) (m : PortModel) : State := { port m with crs := { engines := [(0, c)] } }
def entry0 (a : Act) (off : Nat) : Course := { bank0 := { entries := [(0, { act := a, offset := off })] } }
def lane (l : Lane) : State := { live with lan := { live.lan with lanes := [(0, l)] } }
def quad0 (q : Quad) : State := { live with lan := { live.lan with quads := [(0, q)] } }
def lnk (l : Lane) (k : Link) : State := { lane l with lt := { live.lt with links := [(0, k)] } }
def pin (p : EvtPin) : State := { live with tio := { live.tio with pins := [(0, p)] } }
def chan (c : TimChan) : State :=
  { live with tio := { live.tio with chans := [(0, c)], mrefPresent := true, mrefLock := true } }
def cko (c : Cko) : State :=
  { live with tio := { live.tio with ckos := [(0, c)] }
              tk := { live.tk with bond := { live.tk.bond with holder := some .a } } }
def core (a : AcState) : State := { live with cores := { live.cores with ac0 := a } }
def power (f : Power → Power) : State := { live with pwr := f live.pwr }
def keeper (v : Keeper) : State := { live with tk := { live.tk with a := v, bond := { live.tk.bond with holder := some .a } } }
def bond (b : Bond) : State := { live with tk := { live.tk with bond := b } }
def flts (f : Faults) : State := { live with flt := f }
def ptp (c : PtpCfg) (st : PtpState) : State := { live with tk := { live.tk with ptpCfg := [(0, c)], ptp := [(0, st)] } }
def busy (l : List I2cReq) (stuck low : Bool) : State :=
  { live with lan := { live.lan with buses := [(0, { queue := l, stuck := stuck })], io33Low := low } }
def targ (x : EvcTarget) : State := { live with cores := { live.cores with targets := [(0, x)] } }
def flush0 : FlushSel := { byPort := false, byVid := false, staticToo := true, port := 0, vid := 0 }
theorem some_pair {α β : Type} {o : Option (α × β)} (h : o.isSome = true) : o = some ((o.get h).1, (o.get h).2) := by
  simp
def timing (kind : Byte) : List Byte :=
  let body := List.replicate 12 0#8 ++ [0x88#8, 0xB5#8, kind] ++ List.replicate 45 0#8
  body ++ goodFcs body
/-- An image of a header alone, signed with the vendor key whose private number is 12,345. -/
def image : List Byte :=
  bytesBE 52 0x4b4c4931550001005401000000000000000000000000000000000000000000005401000000000000540100000000000000000000
    ++ bytesBE 48 0xe86b995e350e4d312a95a6b7d5d8cdcdb4682f588800a1cd6c972e1dcb2a5ac38d90046951b03ccb3b179a89fda88b1b
    ++ bytesBE 48 0x485b9f2c1f44b0dd41ce6e3c3a690bbfaabec1e1ff4aefb2461fdda6629becbd43cf74c13d8c1a1625612243f0046148
    ++ bytesBE 48 0x08d999057ba3d2d969260045c55b97f089025959a6f434d651d207d19fb96e9e4fe0e86ebe0e64f85b96a9c75295df61
    ++ bytesBE 48 0x78473c497a0cf6878f37008e5f346d3fe986f61b9f0999d99810ce110cbdcc68e1338e3372a5732883f9b6f93a9f63ba
    ++ List.replicate 96 0#8
/-- `image` stands in slot A, and its vendor key in OTP. -/
def boot (f : Power → Power) : State :=
  { live with pwr := f { live.pwr with
      flash := { slotA := Memory.writeN [] 0 image }
      otp := { vendor0 := { hash := State.keyHash ((image.drop 52).take 96) } } } }
/-- A key under which the image of four zero bytes with entry 0 is signed. -/
def appKey : List Byte :=
  bytesBE 48 0x0a4d5f3c27e7c1fdcdcf0dd6fd6538f9cdec54e1f7d5ece352a1ab4905fe575e8e030202ab422768498be4e8193acba0
    ++ bytesBE 48 0x1a37a2a8e2676a203c6484e677e2e21377c5ba6c056586adc6bb2f3ce0652628eec1c0d385330ad3071ede6cadc83a92
/-- Its AC_START. -/
def acStart : Req :=
  pk ([0, 4, 0, 0] ++ [0x7c2db09d, 0x310ece0b, 0x36d50c86, 0xe4c3e664, 0x1684948c, 0xd6fc0326, 0x2b0d0ed9, 0x1a6cfbc3, 0xcd5affd3, 0x96c1f85f, 0xd0a109b1, 0x3364b19]
    ++ [0x7c2db09d, 0x310ece0b, 0x36d50c86, 0xe4c3e664, 0x1684948c, 0xd6fc0326, 0x2b0d0ed9, 0x1a6cfbc3, 0xcd5affd3, 0x96c1f85f, 0xd0a109b1, 0x3364b19])
def verifying : State :=
  power fun p => { p with otp := { p.otp with apps := [{ key := appKey }] } }
/-- What an image's code is made of: the OTP and the parts of the image that the checks read (14 R579). -/
def imageReads (rd : State.ImgRead) : List (Nat × Nat) :=
  (List.range 12).map (fun i => (4 * i, 4)) ++ [(52, 96), (0, 52), (0, 148), (148, 48), (196, 48), (244, 48), (292, 48),
    (244, 96), (State.hdr rd 8, State.hdr rd 9), (State.hdr rd 10, State.hdr rd 11)]
theorem imageCode_of_reads {s s' : State} {rd rd' : State.ImgRead} (b : Bool) (ho : s.pwr.otp = s'.pwr.otp)
    (hr : ∀ x ∈ imageReads rd', rd x.1 x.2 = rd' x.1 x.2) : s.imageCode rd b = s'.imageCode rd' b := by
  simp only [imageReads, List.range, List.range.loop, List.map, List.cons_append, List.nil_append, List.forall_mem_cons,
    List.not_mem_nil, false_implies, implies_true, and_true] at hr
  obtain ⟨h0, h1, h2, h3, h4, h5, h6, h7, h8, h9, h10, h11, hk⟩ := hr
  have e0 : State.hdr rd 0 = State.hdr rd' 0 := congrArg natLE h0
  have e1 : State.hdr rd 1 = State.hdr rd' 1 := congrArg natLE h1
  have e2 : State.hdr rd 2 = State.hdr rd' 2 := congrArg natLE h2
  have e3 : State.hdr rd 3 = State.hdr rd' 3 := congrArg natLE h3
  have e8 : State.hdr rd 8 = State.hdr rd' 8 := congrArg natLE h8
  have e9 : State.hdr rd 9 = State.hdr rd' 9 := congrArg natLE h9
  have e10 : State.hdr rd 10 = State.hdr rd' 10 := congrArg natLE h10
  have e11 : State.hdr rd 11 = State.hdr rd' 11 := congrArg natLE h11
  obtain ⟨k0, k1, k2, k3, k4, k5, k6, k7, k8, k9⟩ := hk
  unfold State.imageCode State.headerOk
  rw [e0, e1, e2, e3, e8, e9, e10, e11, ho, k0, k1, k2, k3, k4, k5, k6, k7, k8, k9]
theorem image_accepted : (boot id).imageCode (State.hostRead image) true = 0 := by decide +kernel
/-- Any state with the OTP and slot A of `boot` accepts the image there. -/
theorem image_in_slot {s : State} (ho : s.pwr.otp = (boot id).pwr.otp)
    (hf : s.pwr.flash.slotA = (boot id).pwr.flash.slotA) : s.imageCode (s.slotRead false) true = 0 := by
  have h : (boot id).imageCode ((boot id).slotRead false) true = 0 :=
    (imageCode_of_reads true rfl (by decide +kernel)).trans image_accepted
  refine Eq.trans (imageCode_of_reads true ho fun x _ => ?_) h
  simp [State.slotRead, hf]
theorem image_from_host {s : State} (ho : s.pwr.otp = (boot id).pwr.otp) (hl : s.pwr.recovLen = 340) :
    s.hostImageCode image = 0 := by
  have hb : (decide (image.length = s.pwr.recovLen) && decide (340 ≤ s.pwr.recovLen ∧ s.pwr.recovLen ≤ State.slotSize)
      && decide (State.hdr (State.hostRead image) 2 ≤ s.pwr.recovLen)) = true := by rw [hl]; decide +kernel
  simp only [State.hostImageCode, hb]
  exact (imageCode_of_reads true ho fun _ _ => rfl).trans image_accepted

theorem met_MortarCommandsComplete :
    (∃ (r : Req) (s : State), (accepted opMortarSet r s = true) ∧ (okMortarSet r = true) ∧ (2 * longestCourse s (changeInstant opMortarSet r s (us 50) false 1) ≤ r.w 4 * 1000) ∧ (stageFits opMortarSet r s (us 50) false 0 = true))
    ∧ (∃ (r : Req) (s : State), (accepted opMortarGet r s = true))
    ∧ (∃ (r : Req) (s : State), (accepted opDigestRun r s = true) ∧ (okDigestRun r = true) ∧ (s.fab.digest = none) ∧ (r.t + us 50 ≤ r.applyAt (max s.now r.t))) :=
  ⟨⟨pk [0x3e8, 0x3e8], live, by decide +kernel, by decide +kernel, by decide +kernel, by decide +kernel⟩,
   ⟨pk [], live, by decide +kernel⟩,
   ⟨pkAt [1, 1, 0, 0], live, by decide +kernel, by decide +kernel, by decide +kernel, by decide +kernel⟩⟩

theorem met_IngressCommandsComplete_0 :
    (∃ (r : Req) (s : State), (accepted opIngressSet r s = true) ∧ (okIngressSet r = true) ∧ (stageFits opIngressSet r s (us 200) true 1 = true))
    ∧ (∃ (r : Req) (s : State), (accepted opIngressGet r s = true) ∧ (r.only 4 0x7F = true) ∧ (r.f 4 0 7 ≤ 67))
    ∧ (∃ (r : Req) (s : State), (accepted opVlanSet r s = true) ∧ (okVlanSet r = true) ∧ (stageFits opVlanSet r s (ms 5) true 1 = true))
    ∧ (∃ (r : Req) (s : State), (accepted opVlanGet r s = true) ∧ (r.only 4 0xFFF = true) ∧ (1 ≤ r.f 4 0 12) ∧ (r.f 4 0 12 ≤ 4094))
    ∧ (∃ (r : Req) (s : State), (accepted opStreamSet r s = true) ∧ (okStreamSet r = true) ∧ ((s.cfgsFrom (changeInstant opStreamSet r s (ms 5) true 1)).any (streamTwice (r.f 4 0 15) (streamFrom r)) = false) ∧ ((s.cfgsFrom (changeInstant opStreamSet r s (ms 5) true 1)).any (streamCombos (r.f 4 0 15) (streamFrom r)) = false) ∧ (stageFits opStreamSet r s (ms 5) true 1 = true))
    ∧ (∃ (r : Req) (s : State), (accepted opStreamGet r s = true) ∧ (r.only 4 0x7FFF = true))
    ∧ (∃ (r : Req) (s : State), (accepted opMeterSet r s = true) ∧ (okMeterSet r = true) ∧ (stageFits opMeterSet r s (ms 5) true 1 = true))
    ∧ (∃ (r : Req) (s : State), (accepted opMeterGet r s = true) ∧ (r.only 4 0x7FFF = true) ∧ (r.f 4 0 15 ≠ 0)) :=
  ⟨⟨pk [0, 1, 0x2000, 0xb6c688, 0, 0, 0, 0, 0, 0, 0, 0], live, by decide +kernel, by decide +kernel, by decide +kernel⟩,
   ⟨pk [0], live, by decide +kernel, by decide +kernel, by decide +kernel⟩,
   ⟨pk [1, 0, 0, 0, 0, 0, 0], live, by decide +kernel, by decide +kernel, by decide +kernel⟩,
   ⟨pk [1], live, by decide +kernel, by decide +kernel, by decide +kernel, by decide +kernel⟩,
   ⟨pk [0, 0, 0, 0, 0, 0, 0, 0, 0, 0, 0, 0, 0, 0, 0, 0], live, by decide +kernel, by decide +kernel, by decide +kernel, by decide +kernel, by decide +kernel⟩,
   ⟨pk [0], live, by decide +kernel, by decide +kernel⟩,
   ⟨pk [1, 0, 0x40, 0, 0], live, by decide +kernel, by decide +kernel, by decide +kernel⟩,
   ⟨pk [1], live, by decide +kernel, by decide +kernel, by decide +kernel⟩⟩

theorem met_IngressCommandsComplete_1 :
    (∃ (r : Req) (s : State), (accepted opWindowSet r s = true) ∧ (okWindowSet r = true) ∧ (stageFits opWindowSet r s (ms 5) true 1 = true))
    ∧ (∃ (r : Req) (s : State), (accepted opRecoverySet r s = true) ∧ (okRecoverySet r = true) ∧ ((s.cfgsFrom (changeInstant opRecoverySet r s (ms 5) true 1)).any (recoveryClash (r.f 4 0 8) (recoveryOf r)) = false) ∧ (stageFits opRecoverySet r s (ms 5) true 1 = true))
    ∧ (∃ (r : Req) (s : State), (accepted opRecoveryGet r s = true) ∧ (r.only 4 0xFF = true) ∧ (r.f 4 0 8 ≠ 0))
    ∧ (∃ (r : Req) (s : State), (accepted opRecoveryReset r s = true) ∧ (r.only 4 0xFF = true) ∧ (r.f 4 0 8 ≠ 0) ∧ (stageFits opRecoveryReset r s (us 200) true 1 = true)) :=
  ⟨⟨pk [1, 0, 0, 0, 0, 0x7d0, 0, 0], live, by decide +kernel, by decide +kernel, by decide +kernel⟩,
   ⟨pk [0x200001, 0x64], live, by decide +kernel, by decide +kernel, by decide +kernel, by decide +kernel⟩,
   ⟨pk [1], live, by decide +kernel, by decide +kernel, by decide +kernel⟩,
   ⟨pk [1], live, by decide +kernel, by decide +kernel, by decide +kernel, by decide +kernel⟩⟩

theorem met_L2CommandsComplete_0 :
    (∃ (r : Req) (s : State) (a : Instant) (p : Plan (Nat × Nat) L2Entry), (accepted opL2Set r s = true) ∧ (okL2Set r = true) ∧ (a = changeInstant opL2Set r s (ms 5) true (l2Entries r).length) ∧ (planAll Plan.addL2 (l2Entries r) (s.l2PlanAt a) = some p) ∧ (txnFits s r.t a p.puts.length = true))
    ∧ (∃ (r : Req) (s : State) (ks : List (Nat × Nat)), (accepted opL2Del r s = true) ∧ (okL2Del r = true) ∧ (ks = l2DelKeys r (s.cfgAt (changeInstant opL2Del r s (ms 5) true (l2DelIdx r).length))) ∧ (stageFits opL2Del r s (ms 5) true ks.length = true))
    ∧ (∃ (r : Req) (s : State), (accepted opL2Get r s = true) ∧ (l2KeyOk r 4 = true) ∧ (l2Where (taken opL2Get r s).cfgNow (r.f 4 0 12) (r.mac 5) = none))
    ∧ (∃ (r : Req) (s : State), (accepted opTableCfgSet r s = true) ∧ (okTableCfgSet r = true) ∧ (stageFits opTableCfgSet r s (ms 5) true 1 = true))
    ∧ (∃ (r : Req) (s : State), (accepted opTableCfgGet r s = true))
    ∧ (∃ (r : Req) (s : State), (accepted opL2PortSet r s = true) ∧ (okL2PortSet r = true) ∧ (stageFits opL2PortSet r s (ms 5) true 1 = true))
    ∧ (∃ (r : Req) (s : State), (accepted opL2PortGet r s = true) ∧ (r.only 4 0x7F = true) ∧ (r.f 4 0 7 ≤ 67))
    ∧ (∃ (r : Req) (s : State) (pos : Nat) (e : L2Entry), (accepted opL2Get r s = true) ∧ (l2KeyOk r 4 = true) ∧ (l2Where (taken opL2Get r s).cfgNow (r.f 4 0 12) (r.mac 5) = some (pos, e))) :=
  ⟨⟨pk [1, 0, 0, 0], live, _, _, by decide +kernel, by decide +kernel, rfl, (Option.some_get (by decide +kernel)).symm, by decide +kernel⟩,
   ⟨pk [1, 0, 0], live, _, by decide +kernel, by decide +kernel, rfl, by decide +kernel⟩,
   ⟨pk [1, 0, 0], live, by decide +kernel, by decide +kernel, by decide +kernel⟩,
   ⟨pk [0x12c, 0x803e8, 0x2710, 0xb4, 0x3e8], live, by decide +kernel, by decide +kernel, by decide +kernel⟩,
   ⟨pk [], live, by decide +kernel⟩,
   ⟨pk [0, 0], live, by decide +kernel, by decide +kernel, by decide +kernel⟩,
   ⟨pk [0], live, by decide +kernel, by decide +kernel, by decide +kernel⟩,
   ⟨pk [1, 0, 0x50000], l2s, _, _, by decide +kernel, by decide +kernel, some_pair (by decide +kernel)⟩⟩

theorem met_L2CommandsComplete_1 :
    (∃ (r : Req) (s : State) (a : Instant) (ws : List Nat), (accepted opL2Flush r s = true) ∧ (okL2Flush r = true) ∧ (a = flushA ⟨r, s.host.nextJid, applyInstant opL2Flush r s⟩ s) ∧ (ws = flushWords (flushSet (s.cfgAt a) (flushSelOf r)).length) ∧ ((∀ g ∈ ws.zipIdx.drop 1, s.txnNear (a + us g.2) = false ∧ g.1 + s.wordsAt (a + us g.2) ≤ 64)) ∧ (txnFits s r.t a (ws.headD 0) = true))
    ∧ (∃ (r : Req) (s : State), (accepted opL2Unlock r s = true) ∧ (l2KeyOk r 4 = true) ∧ ((l2Where (s.cfgAt (changeInstant opL2Unlock r s (ms 5) true 1)) (r.f 4 0 12) (r.mac 5)).isSome = true) ∧ (stageFits opL2Unlock r s (ms 5) true 1 = true))
    ∧ (∃ (r : Req) (s : State), (accepted opL2Unlock r s = true) ∧ (l2KeyOk r 4 = true) ∧ ((l2Where (s.cfgAt (changeInstant opL2Unlock r s (ms 5) true 1)) (r.f 4 0 12) (r.mac 5)).isSome = false) ∧ (stageFits opL2Unlock r s (ms 5) true 0 = true)) :=
  ⟨⟨pk [0], live, _, _, by decide +kernel, by decide +kernel, rfl, rfl, by decide +kernel, by decide +kernel⟩,
   ⟨pk [1, 0, 0x50000], l2s, by decide +kernel, by decide +kernel, by decide +kernel, by decide +kernel⟩,
   ⟨pk [1, 5, 0], live, by decide +kernel, by decide +kernel, by decide +kernel, by decide +kernel⟩⟩

theorem met_RoutingCommandsComplete_0 :
    (∃ (r : Req) (s : State), (accepted opRifSet r s = true) ∧ (okRifSet r = true) ∧ ((s.cfgsFrom (changeInstant opRifSet r s (ms 5) true 1)).any (rifClash (r.f 4 0 10) (rifFrom r)) = false) ∧ (stageFits opRifSet r s (ms 5) true 1 = true))
    ∧ (∃ (r : Req) (s : State), (accepted opRifGet r s = true) ∧ (r.only 4 0x3FF = true))
    ∧ (∃ (r : Req) (s : State), (accepted opNhSet r s = true) ∧ (okNhSet r = true) ∧ ((s.cfgsFrom (changeInstant opNhSet r s (ms 5) true 1)).any (nhClash (r.f 4 0 14) (nhFrom r)) = false) ∧ (stageFits opNhSet r s (ms 5) true 1 = true))
    ∧ (∃ (r : Req) (s : State), (accepted opNhGet r s = true) ∧ (r.only 4 0x3FFF = true))
    ∧ (∃ (r : Req) (s : State) (a : Instant) (p : Plan (Bool × Nat) HostEntry) (e : TrieEdit × List Nat), (accepted opRouteSet r s = true) ∧ (okRouteSet r = true) ∧ (a = changeInstant opRouteSet r s (ms 5) true (routesOf r).length) ∧ ((s.cfgsFrom a).any (routeDead (routesOf r)) = false) ∧ (planAll Plan.addHost (hostsOf (routesOf r)) (s.hostPlanAt a) = some p) ∧ (planTrie s a r.t false (prefixesOf (routesOf r)) = some e) ∧ (txnFits s r.t a (p.puts.length + e.1.staged.length) = true))
    ∧ (∃ (r : Req) (s : State) (a : Instant) (rs : List TrieRoute) (e : TrieEdit × List Nat), (accepted opRouteDel r s = true) ∧ (okRouteDel r = true) ∧ (a = changeInstant opRouteDel r s (ms 5) true (routeIdx r).length) ∧ (rs = routesHere (s.cfgAt a) (routesOf r)) ∧ (planTrie s a r.t true (prefixesOf rs) = some e) ∧ (txnFits s r.t a ((hostsOf rs).length + e.1.staged.length) = true))
    ∧ (∃ (r : Req) (s : State), (accepted opRouteGet r s = true) ∧ (okRouteGet r = true))
    ∧ (∃ (r : Req) (s : State), (accepted opMcgSet r s = true) ∧ (r.only 4 0x1FFF = true) ∧ (r.only 7 0xF = true) ∧ (stageFits opMcgSet r s (ms 5) true 1 = true)) :=
  ⟨⟨pk [0, 0, 0, 0], live, by decide +kernel, by decide +kernel, by decide +kernel, by decide +kernel⟩,
   ⟨pk [0], live, by decide +kernel, by decide +kernel⟩,
   ⟨pk [0, 0, 0, 0], live, by decide +kernel, by decide +kernel, by decide +kernel, by decide +kernel⟩,
   ⟨pk [0], live, by decide +kernel, by decide +kernel⟩,
   ⟨pk [0x18020000, 0xc0000000, 0, 0, 0], live, _, _, _, by decide +kernel, by decide +kernel, rfl, by decide +kernel, (Option.some_get (by decide +kernel)).symm, (Option.some_get (by decide +kernel)).symm, by decide +kernel⟩,
   ⟨pk [0x18000000, 0xc0000000, 0, 0, 0], live, _, _, _, by decide +kernel, by decide +kernel, rfl, rfl, (Option.some_get (by decide +kernel)).symm, by decide +kernel⟩,
   ⟨pk [0, 0, 0, 0, 0], live, by decide +kernel, by decide +kernel⟩,
   ⟨pk [0, 0, 0, 0], live, by decide +kernel, by decide +kernel, by decide +kernel, by decide +kernel⟩⟩

theorem met_RoutingCommandsComplete_1 :
    (∃ (r : Req) (s : State), (accepted opMcgGet r s = true) ∧ (r.only 4 0x1FFF = true))
    ∧ (∃ (r : Req) (s : State), (accepted opFfgSet r s = true) ∧ (okFfgSet r = true) ∧ (stageFits opFfgSet r s (ms 5) true 1 = true))
    ∧ (∃ (r : Req) (s : State), (accepted opFfgGet r s = true) ∧ (r.only 4 0xFFF = true))
    ∧ (∃ (r : Req) (s : State), (accepted opFence r s = true) ∧ (okFence r = true) ∧ (s.fab.fences.length < 8)) :=
  ⟨⟨pk [0], live, by decide +kernel, by decide +kernel⟩,
   ⟨pk [0, 0, 0], live, by decide +kernel, by decide +kernel, by decide +kernel⟩,
   ⟨pk [0], live, by decide +kernel, by decide +kernel⟩,
   ⟨pk [0, 0, 0, 0], live, by decide +kernel, by decide +kernel, by decide +kernel⟩⟩

theorem met_QueueCommandsComplete_0 :
    (∃ (r : Req) (s : State), (accepted opPoolSet r s = true) ∧ (okPoolSet r = true) ∧ (poolsOk s (changeInstant opPoolSet r s (us 200) false 1) [.pools (r.f 4 0 19) (r.f 5 0 17)] = true) ∧ (stageFits opPoolSet r s (us 200) false 0 = true))
    ∧ (∃ (r : Req) (s : State), (accepted opPoolGet r s = true))
    ∧ (∃ (r : Req) (s : State), (accepted opQueueSet r s = true) ∧ (okQueueSet r = true) ∧ (((queuePorts r).any fun p => decide ((queueOf r).qmax < needTiles (s.cfgAt (changeInstant opQueueSet r s (us 200) false 1)) p)) = false) ∧ (poolsOk s (changeInstant opQueueSet r s (us 200) false 1) (queueChanges r) = true) ∧ (stageFits opQueueSet r s (us 200) false 0 = true))
    ∧ (∃ (r : Req) (s : State), (accepted opQueueGet r s = true) ∧ (r.only 4 0x7F07 = true) ∧ (r.f 4 8 7 ≤ 67))
    ∧ (∃ (r : Req) (s : State), (accepted opSchedSet r s = true) ∧ (okSchedSet r = true) ∧ ((schedOf r).slope ≤ s.confRate (r.f 4 0 7) * 1000) ∧ (stageFits opSchedSet r s (us 200) false 0 = true))
    ∧ (∃ (r : Req) (s : State), (accepted opSchedGet r s = true) ∧ (r.only 4 0x7F = true) ∧ (r.f 4 0 7 ≤ 67))
    ∧ (∃ (r : Req) (s : State), (accepted opPauseSet r s = true) ∧ (okPauseSet r = true) ∧ (stageFits opPauseSet r s (us 200) false 0 = true))
    ∧ (∃ (r : Req) (s : State), (accepted opPauseGet r s = true) ∧ (r.only 4 0x7F = true) ∧ (r.f 4 0 7 ≤ 63)) :=
  ⟨⟨pk [0x8000, 0x2000], live, by decide +kernel, by decide +kernel, by decide +kernel, by decide +kernel⟩,
   ⟨pk [], live, by decide +kernel⟩,
   ⟨pk [0, 0x20, 0xffff, 0x800, 0xffff, 0], live, by decide +kernel, by decide +kernel, by decide +kernel, by decide +kernel, by decide +kernel⟩,
   ⟨pk [0], live, by decide +kernel, by decide +kernel, by decide +kernel⟩,
   ⟨pk [0, 0x3f, 0x8080808, 0x808, 0, 0x4000, 0x4000], live, by decide +kernel, by decide +kernel, by decide +kernel, by decide +kernel⟩,
   ⟨pk [0], live, by decide +kernel, by decide +kernel, by decide +kernel⟩,
   ⟨pk [0, 0x800003e8, 0x64], live, by decide +kernel, by decide +kernel, by decide +kernel⟩,
   ⟨pk [0], live, by decide +kernel, by decide +kernel, by decide +kernel⟩⟩

theorem met_QueueCommandsComplete_1 :
    (∃ (r : Req) (s : State), (accepted opMirrorSet r s = true) ∧ (okMirrorSet r = true) ∧ (stageFits opMirrorSet r s (us 200) false 0 = true))
    ∧ (∃ (r : Req) (s : State), (accepted opMirrorGet r s = true)) :=
  ⟨⟨pk [0], live, by decide +kernel, by decide +kernel, by decide +kernel⟩,
   ⟨pk [], live, by decide +kernel⟩⟩

theorem met_CourseCommandsComplete :
    (∃ (r : Req) (s : State), (accepted opCourseSet r s = true) ∧ (okCourseSet r = true) ∧ ((s.course (coursePort r)).pend = none))
    ∧ (∃ (r : Req) (s : State), (accepted opCourseClear r s = true) ∧ (okCourseClear r = true) ∧ ((s.course (coursePort r)).pend = none))
    ∧ (∃ (r : Req) (s : State), (accepted opCourseEntrySet r s = true) ∧ (okCourseEntrySet r (s.course (coursePort r)).shadow.len = true) ∧ ((s.course (coursePort r)).pend = none))
    ∧ (∃ (r : Req) (s : State) (a : Instant), (accepted opCourseCommit r s = true) ∧ (a = r.applyAt (max s.now r.t)) ∧ (r.only 4 0xC000007F = true) ∧ (coursePort r ≤ 63) ∧ (commitBoundary (s.course (coursePort r)) a = true) ∧ (bankOk (s.course (coursePort r)).shadow (s.confRate (coursePort r)) = true) ∧ (commitTooLong s (s.course (coursePort r)).shadow a = false) ∧ (((launchEntries (s.course (coursePort r)).shadow).isEmpty = true ∨ ((s.portPlanned (coursePort r)).parkEn = false ∧ (s.model (coursePort r)).parked = false))) ∧ (pinClash s (coursePort r) (s.course (coursePort r)).shadow a = false) ∧ ((s.course (coursePort r)).pend = none) ∧ (r.t + us 500 ≤ commitStart (s.course (coursePort r)) a))
    ∧ (∃ (r : Req) (s : State), (accepted opCourseGet r s = true) ∧ (r.only 4 0x17F = true) ∧ (coursePort r ≤ 63))
    ∧ (∃ (r : Req) (s : State), (accepted opCourseEntryGet r s = true) ∧ (rangeOk r 0x7F017F = true))
    ∧ (∃ (r : Req) (s : State), (accepted opCourseReportGet r s = true) ∧ (rangeOk r 0x7F007F = true)) :=
  ⟨⟨pk [0, 0xf4240], live, by decide +kernel, by decide +kernel, by decide +kernel⟩,
   ⟨pk [0], live, by decide +kernel, by decide +kernel, by decide +kernel⟩,
   ⟨pk [0x10000, 0, 0, 0, 0], live, by decide +kernel, by decide +kernel, by decide +kernel⟩,
   ⟨pkAt [0], live, _, by decide +kernel, rfl, by decide +kernel, by decide +kernel, by decide +kernel, by decide +kernel, by decide +kernel, by decide +kernel, by decide +kernel, by decide +kernel, by decide +kernel⟩,
   ⟨pk [0], live, by decide +kernel, by decide +kernel, by decide +kernel⟩,
   ⟨pk [0x10000, 0], live, by decide +kernel, by decide +kernel⟩,
   ⟨pk [0x10000, 0], live, by decide +kernel, by decide +kernel⟩⟩

theorem met_KeeperCommandsComplete_0 :
    (∃ (r : Req) (s : State), (accepted opTkStatusGet r s = true))
    ∧ (∃ (r : Req) (s : State), (accepted opRefStatusGet r s = true) ∧ (r.only 4 0xF0000 = true))
    ∧ (∃ (r : Req) (s : State), (accepted opTimeSet r s = true) ∧ (timeSetBlocked (taken opTimeSet r s) (r.b 8 0) = false) ∧ (r.instantOk 4 = true) ∧ (r.only 8 1 = true) ∧ (intervalOk (State.setStep (r.instant 4) (tkInstant (applyInstant opTimeSet r s) r.t) (r.b 8 0)) = true) ∧ ((taken opTimeSet r s).stepNear (tkInstant (applyInstant opTimeSet r s) r.t) = false) ∧ (leadOk opTimeSet r s (ms 2) = true))
    ∧ (∃ (r : Req) (s : State), (accepted opTimeAcceptStep r s = true) ∧ (((taken opTimeAcceptStep r s).keeper ((taken opTimeAcceptStep r s).holder.getD .a)).stepPending = true) ∧ (r.only 6 0x3FFFFFFF = true) ∧ (r.f 6 0 30 ≤ 1000000000) ∧ ((-((taken opTimeAcceptStep r s).keeper ((taken opTimeAcceptStep r s).holder.getD .a)).pending - r.interval 4).natAbs ≤ ns (r.f 6 0 30)) ∧ ((taken opTimeAcceptStep r s).stepNear (tkInstant (applyInstant opTimeAcceptStep r s) r.t) = false) ∧ (leadOk opTimeAcceptStep r s (ms 2) = true))
    ∧ (∃ (r : Req) (s : State), (accepted opRefCmd r s = true) ∧ ((r.f 4 0 2 == 2 && (!(taken opRefCmd r s).qualified (r.f 4 16 4) || ((taken opRefCmd r s).cand (r.f 4 16 4)).kind == 5)) = false) ∧ (r.only 4 0xF0003 = true) ∧ (leadOk opRefCmd r s (ms 2) = true))
    ∧ (∃ (r : Req) (s : State), (accepted opRefSet r s = true) ∧ (okRefSet r = true) ∧ (refClash (taken opRefSet r s) (r.f 4 16 4) (candOf r) = false) ∧ (leadOk opRefSet r s (ms 2) = true))
    ∧ (∃ (r : Req) (s : State), (accepted opRefGet r s = true) ∧ (r.only 4 0xF0000 = true))
    ∧ (∃ (r : Req) (s : State), (accepted opServoSet r s = true) ∧ (okServoSet r = true) ∧ (leadOk opServoSet r s (ms 2) = true)) :=
  ⟨⟨pk [], live, by decide +kernel⟩,
   ⟨pk [0], live, by decide +kernel, by decide +kernel⟩,
   ⟨pk [0, 0, 0, 0, 0], live, by decide +kernel, by decide +kernel, by decide +kernel, by decide +kernel, by decide +kernel, by decide +kernel, by decide +kernel⟩,
   ⟨pk [0, 0, 0], keeper { stepPending := true, steer := 0 }, by decide +kernel, by decide +kernel, by decide +kernel, by decide +kernel, by decide +kernel, by decide +kernel, by decide +kernel⟩,
   ⟨pk [0], live, by decide +kernel, by decide +kernel, by decide +kernel, by decide +kernel⟩,
   ⟨pk [0, 0], live, by decide +kernel, by decide +kernel, by decide +kernel, by decide +kernel⟩,
   ⟨pk [0], live, by decide +kernel, by decide +kernel⟩,
   ⟨pk [0, 0x1312d00, 0xa, 0x3e8, 0x3e8], live, by decide +kernel, by decide +kernel, by decide +kernel⟩⟩

theorem met_KeeperCommandsComplete_1 :
    (∃ (r : Req) (s : State), (accepted opServoGet r s = true) ∧ (r.only 4 7 = true) ∧ (r.f 4 0 3 ≤ 4))
    ∧ (∃ (r : Req) (s : State), (accepted opKeeperCfgSet r s = true) ∧ (okKeeperCfgSet r = true) ∧ (leadOk opKeeperCfgSet r s (ms 2) = true))
    ∧ (∃ (r : Req) (s : State), (accepted opKeeperCfgGet r s = true))
    ∧ (∃ (r : Req) (s : State), (accepted opPtpPortSet r s = true) ∧ (okPtpPortSet r = true) ∧ (ptpClash (taken opPtpPortSet r s) (r.f 4 0 7) (ptpCfgOf r) = false) ∧ (leadOk opPtpPortSet r s (ms 2) = true))
    ∧ (∃ (r : Req) (s : State), (accepted opPtpPortGet r s = true) ∧ (okPortKey r = true))
    ∧ (∃ (r : Req) (s : State), (accepted opSynceSet r s = true) ∧ (okSynceSet r = true) ∧ ((!(synceOf r).en && (taken opSynceSet r s).namedPlanned 4 (r.f 4 0 7)) = false) ∧ (leadOk opSynceSet r s (ms 2) = true))
    ∧ (∃ (r : Req) (s : State), (accepted opSynceGet r s = true) ∧ (okPortKey r = true))
    ∧ (∃ (r : Req) (s : State), (accepted opRefinSet r s = true) ∧ (okRefinSet r = true) ∧ (leadOk opRefinSet r s (ms 2) = true)) :=
  ⟨⟨pk [0], live, by decide +kernel, by decide +kernel, by decide +kernel⟩,
   ⟨pk [0x32, 0x64, 0x64, 0xc, 0x20040, 0xc350, 0xf3203e8, 0xf4240, 0x14, 0, 0, 0x25], live, by decide +kernel, by decide +kernel, by decide +kernel⟩,
   ⟨pk [], live, by decide +kernel⟩,
   ⟨pk [0x40000000, 0x7010000, 0], lane { cfg := { mode := 1 } }, by decide +kernel, by decide +kernel, by decide +kernel, by decide +kernel⟩,
   ⟨pk [0], live, by decide +kernel, by decide +kernel⟩,
   ⟨pk [0], live, by decide +kernel, by decide +kernel, by decide +kernel, by decide +kernel⟩,
   ⟨pk [0], live, by decide +kernel, by decide +kernel⟩,
   ⟨pk [0, 0, 0], live, by decide +kernel, by decide +kernel, by decide +kernel⟩⟩

theorem met_KeeperCommandsComplete_2 :
    ∃ (r : Req) (s : State), (accepted opRefinGet r s = true) ∧ (r.only 4 1 = true) :=
  ⟨pk [0], live, by decide +kernel, by decide +kernel⟩

theorem met_BondCommandsComplete :
    (∃ (r : Req) (s : State), (accepted opBondCfgSet r s = true) ∧ (okBondCfgSet r = true) ∧ (leadOk opBondCfgSet r s (ms 2) = true))
    ∧ (∃ (r : Req) (s : State), (accepted opBondCfgGet r s = true))
    ∧ (∃ (r : Req) (s : State), (accepted opBondHandover r s = true) ∧ (r.only 4 0x80000000 = true) ∧ (leadOk opBondHandover r s (ms 2) = true))
    ∧ (∃ (r : Req) (s : State), (accepted opKeeperDisable r s = true) ∧ (r.only 4 0x80000001 = true) ∧ (leadOk opKeeperDisable r s (ms 2) = true))
    ∧ (∃ (r : Req) (s : State), (accepted opKeeperEnable r s = true) ∧ ((((taken opKeeperEnable r s).bk (keeperOf r)).cond == .off || ((taken opKeeperEnable r s).bk (keeperOf r)).cond == .down) = true) ∧ (r.only 4 1 = true) ∧ (leadOk opKeeperEnable r s (ms 2) = true)) :=
  ⟨⟨pk [2, 0x10], live, by decide +kernel, by decide +kernel, by decide +kernel⟩,
   ⟨pk [], live, by decide +kernel⟩,
   ⟨pk [0], live, by decide +kernel, by decide +kernel, by decide +kernel⟩,
   ⟨pk [0], live, by decide +kernel, by decide +kernel, by decide +kernel⟩,
   ⟨pk [0], bond { holder := some .a, ka := { cond := .off }, kb := { cond := .off } }, by decide +kernel, by decide +kernel, by decide +kernel, by decide +kernel⟩⟩

theorem met_LinkTimingCommandsComplete_0 :
    (∃ (r : Req) (s : State), (accepted opLinkTimingSet r s = true) ∧ (okLinkTimingSet r = true) ∧ ((!(ltCfgOf r).en && (taken opLinkTimingSet r s).namedPlanned 0 (r.f 4 0 7)) = false) ∧ (leadOk opLinkTimingSet r s (ms 2) = true))
    ∧ (∃ (r : Req) (s : State), (accepted opLinkTimingGet r s = true) ∧ (okPortKey r = true))
    ∧ (∃ (r : Req) (s : State), (accepted opAsymSet r s = true) ∧ (okAsymSet r = true) ∧ (leadOk opAsymSet r s (ms 2) = true))
    ∧ (∃ (r : Req) (s : State), (accepted opAsymGet r s = true) ∧ (okPortKey r = true))
    ∧ (∃ (r : Req) (s : State), (accepted opLinkStatusGet r s = true) ∧ (okPortKey r = true))
    ∧ (∃ (r : Req) (s : State), (accepted opAsymMeasure r s = true) ∧ (r.f 4 30 2 ≠ 2) ∧ (s.lt.asym = none) ∧ ((r.f 4 30 2 == 1 && asymNoFirst (taken opAsymMeasure r s) (r.f 4 0 7) r.t) = false) ∧ (okAsymMeasure r = true))
    ∧ (∃ (r : Req) (s : State), (accepted opAsymMeasure r s = true) ∧ (r.f 4 30 2 = 2) ∧ (okAsymMeasure r = true))
    ∧ (∃ (r : Req) (s : State), (accepted opCalDelayRun r s = true) ∧ (delayBusy (taken opCalDelayRun r s) = false)) :=
  ⟨⟨pk [0x80000000, 0x1f4, 0x807d0], live, by decide +kernel, by decide +kernel, by decide +kernel, by decide +kernel⟩,
   ⟨pk [0], live, by decide +kernel, by decide +kernel⟩,
   ⟨pk [0, 0, 0, 0], live, by decide +kernel, by decide +kernel, by decide +kernel⟩,
   ⟨pk [0], live, by decide +kernel, by decide +kernel⟩,
   ⟨pk [0], live, by decide +kernel, by decide +kernel⟩,
   ⟨pk [0, 1], live, by decide +kernel, by decide +kernel, by decide +kernel, by decide +kernel, by decide +kernel⟩,
   ⟨pk [0x80000000, 0], live, by decide +kernel, by decide +kernel, by decide +kernel⟩,
   ⟨pk [0, 0], live, by decide +kernel, by decide +kernel⟩⟩

theorem met_LinkTimingCommandsComplete_1 :
    ∃ (r : Req) (s : State), (accepted opCalVernierRun r s = true) ∧ (r.only 4 0xF = true) ∧ (vernierBusy (taken opCalVernierRun r s) = false) :=
  ⟨pk [0], live, by decide +kernel, by decide +kernel, by decide +kernel⟩

theorem met_TimedInputCommandsComplete_0 :
    (∃ (r : Req) (s : State) (a : Instant), (accepted opEvtCfgSet r s = true) ∧ (applyInstant opEvtCfgSet r s = some a) ∧ (okEvtCfgSet r = true) ∧ (evtCfgClash (taken opEvtCfgSet r s) (evtCfgOf r) = false) ∧ (r.t + us 200 ≤ a))
    ∧ (∃ (r : Req) (s : State), (accepted opEvtCfgSet r s = true) ∧ (applyInstant opEvtCfgSet r s = none) ∧ (okEvtCfgSet r = true) ∧ (evtCfgClash (taken opEvtCfgSet r s) (evtCfgOf r) = false) ∧ ((((taken opEvtCfgSet r s).applyPin (r.f 4 0 3) r.t (evtCfgOf r)).1.pin (r.f 4 0 3)).pulseEnd = none))
    ∧ (∃ (r : Req) (s : State), (accepted opEvtCfgSet r s = true) ∧ (applyInstant opEvtCfgSet r s = none) ∧ (okEvtCfgSet r = true) ∧ (evtCfgClash (taken opEvtCfgSet r s) (evtCfgOf r) = false) ∧ ((((taken opEvtCfgSet r s).applyPin (r.f 4 0 3) r.t (evtCfgOf r)).1.pin (r.f 4 0 3)).pulseEnd ≠ none))
    ∧ (∃ (r : Req) (s : State), (accepted opEvtCfgGet r s = true) ∧ (r.only 4 7 = true))
    ∧ (∃ (r : Req) (s : State), (accepted opEvtEdge r s = true) ∧ (pinOwner s r (r.f 4 0 3) = true) ∧ ((r.sender.core = none → s.holds r.sender = true ∧ (taken opEvtEdge r s).cfgNow.footing = false)) ∧ ((s.pin (r.f 4 0 3)).cfg.mode = 2) ∧ (okEvtEdge r = true) ∧ (edgesApart (s.pin (r.f 4 0 3)).lastOut (evtEdges r) = true) ∧ ((s.pin (r.f 4 0 3)).queue.length + r.f 4 16 5 ≤ 32) ∧ (edgesLate (evtEdges r) r.t = false))
    ∧ (∃ (r : Req) (s : State), (accepted opEvtCancel r s = true) ∧ (pinOwner s r (r.f 4 0 3) = true) ∧ ((r.sender.core = none → s.holds r.sender = true ∧ (taken opEvtCancel r s).cfgNow.footing = false)) ∧ (r.only 4 7 = true))
    ∧ (∃ (r : Req) (s : State), (accepted opEvtStampGet r s = true) ∧ (pinOwner s r (r.f 4 0 3) = true) ∧ (r.only 4 0x3F0007 = true) ∧ (1 ≤ r.f 4 16 6) ∧ (r.f 4 16 6 ≤ 32))
    ∧ (∃ (r : Req) (s : State), (accepted opTimCfgSet r s = true) ∧ (okTimCfgSet r = true)) :=
  ⟨⟨pkAt [0x14000000, 0, 0, 0, 0, 0, 0, 0, 0, 0, 0], live, _, by decide +kernel, (Option.some_get (by decide +kernel)).symm, by decide +kernel, by decide +kernel, by decide +kernel⟩,
   ⟨pk [0x14000000, 0, 0, 0, 0, 0, 0, 0, 0, 0, 0], live, by decide +kernel, by decide +kernel, by decide +kernel, by decide +kernel, by decide +kernel⟩,
   ⟨pk [0x14000000, 0, 0, 0, 0, 0, 0, 0, 0, 0, 0], pin { cfg := { mode := 2 }, pulseEnd := some (sec 1) }, by decide +kernel, by decide +kernel, by decide +kernel, by decide +kernel, by decide +kernel⟩,
   ⟨pk [0], live, by decide +kernel, by decide +kernel⟩,
   ⟨pk [0x10000, 0xa, 0, 0, 0, 1], pin { cfg := { mode := 2 } }, by decide +kernel, by decide +kernel, by decide +kernel, by decide +kernel, by decide +kernel, by decide +kernel, by decide +kernel, by decide +kernel⟩,
   ⟨pk [0], live, by decide +kernel, by decide +kernel, by decide +kernel, by decide +kernel⟩,
   ⟨pk [0x10000], live, by decide +kernel, by decide +kernel, by decide +kernel, by decide +kernel, by decide +kernel⟩,
   ⟨pk [0, 0x400], live, by decide +kernel, by decide +kernel⟩⟩

theorem met_TimedInputCommandsComplete_1 :
    (∃ (r : Req) (s : State), (accepted opTimCfgGet r s = true) ∧ (r.only 4 3 = true))
    ∧ (∃ (r : Req) (s : State), (accepted opTimArm r s = true) ∧ ((s.chan (r.f 4 0 2)).cfg.enable = true) ∧ ((s.chan (r.f 4 0 2)).cfg.gate = 2) ∧ (r.only 4 0x80000003 = true) ∧ (r.b 4 31 = true))
    ∧ (∃ (r : Req) (s : State), (accepted opTimArm r s = true) ∧ ((s.chan (r.f 4 0 2)).cfg.enable = true) ∧ ((s.chan (r.f 4 0 2)).cfg.gate = 2) ∧ (r.only 4 0x80000003 = true) ∧ (r.b 4 31 = false))
    ∧ (∃ (r : Req) (s : State), (accepted opTimRawGet r s = true) ∧ (r.only 4 0x3F0003 = true) ∧ (1 ≤ r.f 4 16 6) ∧ (r.f 4 16 6 ≤ 32))
    ∧ (∃ (r : Req) (s : State), (accepted opTimStatsGet r s = true) ∧ (r.only 4 3 = true))
    ∧ (∃ (r : Req) (s : State), (accepted opMrefSet r s = true) ∧ (r.only 4 1 = true))
    ∧ (∃ (r : Req) (s : State), (accepted opMrefGet r s = true))
    ∧ (∃ (r : Req) (s : State), (accepted opCalTimeioRun r s = true) ∧ (s.tio.calRun = false)) :=
  ⟨⟨pk [0], live, by decide +kernel, by decide +kernel⟩,
   ⟨pk [0x80000000], chan { cfg := { enable := true, gate := 2 } }, by decide +kernel, by decide +kernel, by decide +kernel, by decide +kernel, by decide +kernel⟩,
   ⟨pk [0], chan { cfg := { enable := true, gate := 2 } }, by decide +kernel, by decide +kernel, by decide +kernel, by decide +kernel, by decide +kernel⟩,
   ⟨pk [0x10000], live, by decide +kernel, by decide +kernel, by decide +kernel, by decide +kernel⟩,
   ⟨pk [0], live, by decide +kernel, by decide +kernel⟩,
   ⟨pk [0], live, by decide +kernel, by decide +kernel⟩,
   ⟨pk [], live, by decide +kernel⟩,
   ⟨pk [], live, by decide +kernel, by decide +kernel⟩⟩

theorem met_ClockOutputCommandsComplete :
    (∃ (r : Req) (s : State) (a : Instant), (accepted opCkoSet r s = true) ∧ (applyInstant opCkoSet r s = some a) ∧ ((s.cko (r.f 4 0 3)).state ≠ .held) ∧ (okCkoSet r = true) ∧ ((ckoCfgOf r).yMin ≤ (ckoCfgOf r).yMax) ∧ (r.t + ms 10 ≤ a) ∧ ((ckoCfgOf r).enable = true))
    ∧ (∃ (r : Req) (s : State) (a : Instant), (accepted opCkoSet r s = true) ∧ (applyInstant opCkoSet r s = some a) ∧ ((s.cko (r.f 4 0 3)).state ≠ .held) ∧ (okCkoSet r = true) ∧ ((ckoCfgOf r).yMin ≤ (ckoCfgOf r).yMax) ∧ (r.t + ms 10 ≤ a) ∧ ((ckoCfgOf r).enable = false))
    ∧ (∃ (r : Req) (s : State), (accepted opCkoGet r s = true) ∧ (r.only 4 7 = true))
    ∧ (∃ (r : Req) (s : State), (accepted opCkoProfileSet r s = true) ∧ ((s.cko (r.f 4 0 3)).pend = none) ∧ (okCkoProfileSet r = true))
    ∧ (∃ (r : Req) (s : State) (a : Instant), (accepted opCkoProfileStart r s = true) ∧ (applyInstant opCkoProfileStart r s = some a) ∧ (((s.cko (r.f 4 0 3)).state == .running || (s.cko (r.f 4 0 3)).state == .bypass) = true) ∧ (r.only 4 0x7F07 = true) ∧ (1 ≤ r.f 4 8 7 ∧ r.f 4 8 7 ≤ 64) ∧ (profileLeaves (s.cko (r.f 4 0 3)) (r.f 4 8 7) a = false) ∧ ((s.cko (r.f 4 0 3)).pend = none) ∧ (r.t + ms 1 ≤ a))
    ∧ (∃ (r : Req) (s : State), (accepted opCkoPhaseGet r s = true) ∧ (r.only 4 7 = true))
    ∧ (∃ (r : Req) (s : State) (a : Instant), (accepted opCkoCmd r s = true) ∧ (applyInstant opCkoCmd r s = some a) ∧ (ckoCmdBad (taken opCkoCmd r s) r = false) ∧ (r.only 4 0x307 = true) ∧ (r.f 4 8 2 < 2) ∧ (r.t + ms 1 ≤ a))
    ∧ (∃ (r : Req) (s : State), (accepted opCkoCmd r s = true) ∧ (applyInstant opCkoCmd r s = none) ∧ (ckoCmdBad (taken opCkoCmd r s) r = false) ∧ (r.only 4 0x307 = true) ∧ (r.f 4 8 2 < 2)) :=
  ⟨⟨pkAt [0x80000000, 0x4e72a000, 0x918, 0, 0], live, _, by decide +kernel, (Option.some_get (by decide +kernel)).symm, by decide +kernel, by decide +kernel, by decide +kernel, by decide +kernel, by decide +kernel⟩,
   ⟨pkAt [0, 0, 0, 0, 0], live, _, by decide +kernel, (Option.some_get (by decide +kernel)).symm, by decide +kernel, by decide +kernel, by decide +kernel, by decide +kernel, by decide +kernel⟩,
   ⟨pk [0], live, by decide +kernel, by decide +kernel⟩,
   ⟨pk [0, 1, 0, 0], live, by decide +kernel, by decide +kernel, by decide +kernel⟩,
   ⟨pkAt [0x100], cko { state := .running }, _, by decide +kernel, (Option.some_get (by decide +kernel)).symm, by decide +kernel, by decide +kernel, by decide +kernel, by decide +kernel, by decide +kernel, by decide +kernel⟩,
   ⟨pk [0], live, by decide +kernel, by decide +kernel⟩,
   ⟨pkAt [0x100], cko { state := .running }, _, by decide +kernel, (Option.some_get (by decide +kernel)).symm, by decide +kernel, by decide +kernel, by decide +kernel, by decide +kernel⟩,
   ⟨pk [0x100], cko { state := .running }, by decide +kernel, by decide +kernel, by decide +kernel, by decide +kernel, by decide +kernel⟩⟩

theorem met_FootingCommandsComplete :
    (∃ (r : Req) (s : State), (accepted opBondStatusGet r s = true))
    ∧ (∃ (r : Req) (s : State) (a : Instant), (accepted opFootingEnter r s = true) ∧ (applyInstant opFootingEnter r s = some a) ∧ (s.flt.state = 0) ∧ (r.t + us 200 ≤ a))
    ∧ (∃ (r : Req) (s : State), (accepted opFootingEnter r s = true) ∧ (applyInstant opFootingEnter r s = none) ∧ (s.flt.state = 0))
    ∧ (∃ (r : Req) (s : State) (a : Instant), (accepted opFootingExit r s = true) ∧ (applyInstant opFootingExit r s = some a) ∧ (mayLeave ((taken opFootingExit r s).footCfgDue r.t) = true) ∧ (r.t + ms 10 ≤ a))
    ∧ (∃ (r : Req) (s : State), (accepted opFootingExit r s = true) ∧ (applyInstant opFootingExit r s = none) ∧ (mayLeave ((taken opFootingExit r s).footCfgDue r.t) = true))
    ∧ (∃ (r : Req) (s : State) (a : Instant), (accepted opFootingCfgSet r s = true) ∧ (applyInstant opFootingCfgSet r s = some a) ∧ (okFootingCfgSet r = true) ∧ (r.t + us 200 ≤ a))
    ∧ (∃ (r : Req) (s : State), (accepted opFootingCfgSet r s = true) ∧ (applyInstant opFootingCfgSet r s = none) ∧ (okFootingCfgSet r = true))
    ∧ (∃ (r : Req) (s : State), (accepted opFootingCfgGet r s = true)) :=
  ⟨⟨pk [], live, by decide +kernel⟩,
   ⟨pkAt [], live, _, by decide +kernel, (Option.some_get (by decide +kernel)).symm, by decide +kernel, by decide +kernel⟩,
   ⟨pk [], live, by decide +kernel, by decide +kernel, by decide +kernel⟩,
   ⟨pkAt [], flts { state := 2 }, _, by decide +kernel, (Option.some_get (by decide +kernel)).symm, by decide +kernel, by decide +kernel⟩,
   ⟨pk [], flts { state := 2 }, by decide +kernel, by decide +kernel, by decide +kernel⟩,
   ⟨pkAt [1, 0x64], live, _, by decide +kernel, (Option.some_get (by decide +kernel)).symm, by decide +kernel, by decide +kernel⟩,
   ⟨pk [1, 0x64], live, by decide +kernel, by decide +kernel, by decide +kernel⟩,
   ⟨pk [], live, by decide +kernel⟩⟩

theorem met_LaneCommandsComplete_0 :
    (∃ (r : Req) (s : State), (accepted opPortSet r s = true) ∧ (okPortSet r = true) ∧ (portSetClash (taken opPortSet r s) r = false) ∧ (leadOk opPortSet r s (us 200) = true))
    ∧ (∃ (r : Req) (s : State), (accepted opPortGet r s = true) ∧ (okPortKey r = true))
    ∧ (∃ (r : Req) (s : State), (accepted opLaneStatusGet r s = true) ∧ (okPortKey r = true))
    ∧ (∃ (r : Req) (s : State), (accepted opLinkRetrain r s = true) ∧ (r.f 4 0 7 ≤ 63) ∧ (r.only 4 0x4000007F = true) ∧ (((taken opLinkRetrain r s).namedPlanned 0 (r.f 4 0 7) && !r.b 4 30) = false) ∧ (leadOk opLinkRetrain r s (us 200) = true))
    ∧ (∃ (r : Req) (s : State), (accepted opLinkPark r s = true) ∧ (r.f 4 0 7 < 48) ∧ (r.only 4 0x8000007F = true) ∧ (r.b 4 31 = true) ∧ ((taken opLinkPark r s).parkable (r.f 4 0 7) = true) ∧ ((s.lane (r.f 4 0 7)).state ≠ .park) ∧ ((taken opLinkPark r s).parkForbidden (r.f 4 0 7) = false) ∧ ((s.lane (r.f 4 0 7)).parkFrom = none) ∧ ((s.lane (r.f 4 0 7)).parkWait = false))
    ∧ (∃ (r : Req) (s : State), (accepted opLinkPark r s = true) ∧ (r.f 4 0 7 < 48) ∧ (r.only 4 0x8000007F = true) ∧ ((if r.b 4 31 then (s.lane (r.f 4 0 7)).state = .park else (s.lane (r.f 4 0 7)).state ≠ .park ∧ (taken opLinkPark r s).parkable (r.f 4 0 7) = true)))
    ∧ (∃ (r : Req) (s : State), (accepted opLinkPark r s = true) ∧ (r.f 4 0 7 < 48) ∧ (r.only 4 0x8000007F = true) ∧ (r.b 4 31 = false) ∧ ((s.lane (r.f 4 0 7)).state = .park) ∧ ((s.lane (r.f 4 0 7)).exitFrom = none) ∧ ((s.lane (r.f 4 0 7)).exitJid = none))
    ∧ (∃ (r : Req) (s : State), (accepted opQuadSet r s = true) ∧ (okQuadSet r = true) ∧ (quadSetClash (taken opQuadSet r s) r = false) ∧ (leadOk opQuadSet r s (us 200) = true)) :=
  ⟨⟨pk [0x80000000, 0x3e8, 0x3e8, 0xa], live, by decide +kernel, by decide +kernel, by decide +kernel, by decide +kernel⟩,
   ⟨pk [0], live, by decide +kernel, by decide +kernel⟩,
   ⟨pk [0], live, by decide +kernel, by decide +kernel⟩,
   ⟨pk [0], live, by decide +kernel, by decide +kernel, by decide +kernel, by decide +kernel, by decide +kernel⟩,
   ⟨pk [0x80000000], lane { state := .active, rate := 3 }, by decide +kernel, by decide +kernel, by decide +kernel, by decide +kernel, by decide +kernel, by decide +kernel, by decide +kernel, by decide +kernel, by decide +kernel⟩,
   ⟨pk [0x80000000], lane { state := .park, rate := 3 }, by decide +kernel, by decide +kernel, by decide +kernel, by decide +kernel⟩,
   ⟨pk [0], lane { state := .park, rate := 3 }, by decide +kernel, by decide +kernel, by decide +kernel, by decide +kernel, by decide +kernel, by decide +kernel, by decide +kernel⟩,
   ⟨pk [0, 0], live, by decide +kernel, by decide +kernel, by decide +kernel, by decide +kernel⟩⟩

theorem met_LaneCommandsComplete_1 :
    (∃ (r : Req) (s : State), (accepted opQuadGet r s = true) ∧ (r.only 4 3 = true))
    ∧ (∃ (r : Req) (s : State), (accepted opEqSet r s = true) ∧ (okEqSet r = true))
    ∧ (∃ (r : Req) (s : State), (accepted opEqGet r s = true) ∧ (okPortKey r = true))
    ∧ (∃ (r : Req) (s : State), (accepted opModuleRead r s = true) ∧ (okModuleAccess false r = true) ∧ (((taken opModuleRead r s).lane ((taken opModuleRead r s).moduleOf (r.f 4 0 7))).modReady = true) ∧ (((taken opModuleRead r s).bus (r.f 4 0 7 / 16)).stuck = false))
    ∧ (∃ (r : Req) (s : State), (accepted opModuleWrite r s = true) ∧ (okModuleAccess true r = true) ∧ (((taken opModuleWrite r s).lane ((taken opModuleWrite r s).moduleOf (r.f 4 0 7))).modReady = true) ∧ (((taken opModuleWrite r s).bus (r.f 4 0 7 / 16)).stuck = false))
    ∧ (∃ (r : Req) (s : State), (accepted opModuleCfgSet r s = true) ∧ (okModuleCfgSet r = true))
    ∧ (∃ (r : Req) (s : State), (accepted opModuleCfgGet r s = true) ∧ (r.only 4 3 = true))
    ∧ (∃ (r : Req) (s : State), (accepted opCalCfgSet r s = true) ∧ (okCalCfgSet r = true)) :=
  ⟨⟨pk [0], live, by decide +kernel, by decide +kernel⟩,
   ⟨pk [0, 0, 0, 0x320], live, by decide +kernel, by decide +kernel⟩,
   ⟨pk [0], live, by decide +kernel, by decide +kernel⟩,
   ⟨pk [0, 1], lane { modReady := true }, by decide +kernel, by decide +kernel, by decide +kernel, by decide +kernel⟩,
   ⟨pk [0, 1, 0], lane { modReady := true }, by decide +kernel, by decide +kernel, by decide +kernel, by decide +kernel⟩,
   ⟨pk [0, 0x64], live, by decide +kernel, by decide +kernel⟩,
   ⟨pk [0], live, by decide +kernel, by decide +kernel⟩,
   ⟨pk [0x1e], live, by decide +kernel, by decide +kernel⟩⟩

theorem met_LaneCommandsComplete_2 :
    ∃ (r : Req) (s : State), (accepted opCalCfgGet r s = true) :=
  ⟨pk [], live, by decide +kernel⟩

theorem met_CoreCommandsComplete :
    (∃ (r : Req) (s : State), (accepted opAcLoad r s = true) ∧ (((s.ac (coreOf r)).status == .running || (s.ac (coreOf r)).status == .held) = false) ∧ (okAcLoad r = true))
    ∧ (∃ (r : Req) (s : State), (accepted opAcStart r s = true) ∧ (((s.ac (coreOf r)).status == .loaded || (s.ac (coreOf r)).status == .stopped || (s.ac (coreOf r)).status == .faulted) = true) ∧ (okAcStart r = true) ∧ ((s.ac (coreOf r)).starting = none) ∧ ((activeKey s.pwr.otp.apps).isNone = false))
    ∧ (∃ (r : Req) (s : State), (accepted opAcStop r s = true) ∧ ((s.ac (coreOf r)).status = .running) ∧ (r.only 4 1 = true))
    ∧ (∃ (r : Req) (s : State), (accepted opAcStatusGet r s = true) ∧ (r.only 4 1 = true))
    ∧ (∃ (r : Req) (s : State), (accepted opAcPermitSet r s = true) ∧ (r.only 4 0x3F01 = true))
    ∧ (∃ (r : Req) (s : State), (accepted opAcPermitGet r s = true) ∧ (r.only 4 1 = true)) :=
  ⟨⟨pk [0, 0], live, by decide +kernel, by decide +kernel, by decide +kernel⟩,
   ⟨pk ([0, 4, 0, 0] ++ List.replicate 24 0), { core { status := .loaded } with pwr := { live.pwr with otp := { live.pwr.otp with apps := [{ key := [] }] } } }, by decide +kernel, by decide +kernel, by decide +kernel, by decide +kernel, by decide +kernel⟩,
   ⟨pk [0], core { status := .running }, by decide +kernel, by decide +kernel, by decide +kernel⟩,
   ⟨pk [0], live, by decide +kernel, by decide +kernel⟩,
   ⟨pk [0], live, by decide +kernel, by decide +kernel⟩,
   ⟨pk [0], live, by decide +kernel, by decide +kernel⟩⟩

theorem met_EventAndCounterCommandsComplete_0 :
    (∃ (r : Req) (s : State), (accepted opEvcRouteSet r s = true) ∧ (okEvcRouteSet r = true) ∧ (evcRouteClash (taken opEvcRouteSet r s) r = false))
    ∧ (∃ (r : Req) (s : State), (accepted opEvcRouteGet r s = true) ∧ (okEvcRouteGet r = true))
    ∧ (∃ (r : Req) (s : State) (t : Target), (accepted opEvcTargetSet r s = true) ∧ (evcTargetOf r = some t) ∧ (r.only 4 0x707 = true))
    ∧ (∃ (r : Req) (s : State) (t : Target), (accepted opEvcTargetGet r s = true) ∧ (evcTargetOf r = some t) ∧ (r.only 4 7 = true))
    ∧ (∃ (r : Req) (s : State), (accepted opCounterGet r s = true) ∧ (s.countersPf0 r.sender = true) ∧ (okCounters r 0x7FFF 0x1FF 256 = true))
    ∧ (∃ (r : Req) (s : State), (accepted opPalletGet r s = true) ∧ (s.countersPf0 r.sender = true) ∧ (((taken opPalletGet r s).pallet (r.f 4 31 1)).valid = true) ∧ (okCounters r 0x80007FFF 0x1FF 256 = true))
    ∧ (∃ (r : Req) (s : State), (accepted opCounterCatalogGet r s = true) ∧ (s.countersPf0 r.sender = true) ∧ (okCounters r 0x7FFF 0x7F 64 = true))
    ∧ (∃ (r : Req) (s : State), (accepted opPalletSnapshot r s = true) ∧ (okPalletSnapshot r = true) ∧ ((taken opPalletSnapshot r s).snapBusy = false) ∧ (r.t < snapInstant (applyInstant opPalletSnapshot r s) r.t) ∧ (r.b 4 31 = false)) :=
  ⟨⟨pk [1, 0], live, by decide +kernel, by decide +kernel, by decide +kernel⟩,
   ⟨pk [0x100], live, by decide +kernel, by decide +kernel⟩,
   ⟨pk [0, 0, 0, 0, 0], live, _, by decide +kernel, (Option.some_get (by decide +kernel)).symm, by decide +kernel⟩,
   ⟨pk [0], live, _, by decide +kernel, (Option.some_get (by decide +kernel)).symm, by decide +kernel⟩,
   ⟨pk [0, 1], live, by decide +kernel, by decide +kernel, by decide +kernel⟩,
   ⟨pk [0, 1], { live with cores := { live.cores with pallet0 := { valid := true } } }, by decide +kernel, by decide +kernel, by decide +kernel, by decide +kernel⟩,
   ⟨pk [0, 1], live, by decide +kernel, by decide +kernel, by decide +kernel⟩,
   ⟨pk [0, 0], live, by decide +kernel, by decide +kernel, by decide +kernel, by decide +kernel, by decide +kernel⟩⟩

theorem met_EventAndCounterCommandsComplete_1 :
    (∃ (r : Req) (s : State), (accepted opPalletSnapshot r s = true) ∧ (okPalletSnapshot r = true) ∧ ((taken opPalletSnapshot r s).snapBusy = false) ∧ (r.t < snapInstant (applyInstant opPalletSnapshot r s) r.t) ∧ (r.b 4 31 = true) ∧ (r.w 5 ≠ 0))
    ∧ (∃ (r : Req) (s : State), (accepted opPalletSnapshot r s = true) ∧ (okPalletSnapshot r = true) ∧ (r.b 4 31 = true) ∧ (r.w 5 = 0)) :=
  ⟨⟨pk [0x80000000, 5], live, by decide +kernel, by decide +kernel, by decide +kernel, by decide +kernel, by decide +kernel, by decide +kernel⟩,
   ⟨pk [0x80000000, 0], live, by decide +kernel, by decide +kernel, by decide +kernel, by decide +kernel⟩⟩

theorem met_SystemCommandsComplete :
    (∃ (r : Req) (s : State), (accepted opNop r s = true))
    ∧ (∃ (r : Req) (s : State), (accepted opSysInfoGet r s = true))
    ∧ (∃ (r : Req) (s : State), (accepted opJournalGet r s = true) ∧ (okJournalGet r = true)) :=
  ⟨⟨pk [], live, by decide +kernel⟩,
   ⟨pk [], live, by decide +kernel⟩,
   ⟨pk [0x100], live, by decide +kernel, by decide +kernel⟩⟩

theorem met_SecurityCommandsComplete :
    (∃ (r : Req) (s : State), (accepted opPolicyGet r s = true))
    ∧ (∃ (r : Req) (s : State), (accepted opPolicySet r s = true) ∧ (s.pwr.lockPolicy = false) ∧ (r.only 4 0x3F = true) ∧ (r.only 5 0x3F = true))
    ∧ (∃ (r : Req) (s : State), (accepted opConfigLock r s = true) ∧ (okConfigLock r = true) ∧ (r.b 4 2 = false))
    ∧ (∃ (r : Req) (s : State), (accepted opConfigLock r s = true) ∧ (okConfigLock r = true) ∧ (r.b 4 2 = true) ∧ (s.pwr.otpWrite = none))
    ∧ (∃ (r : Req) (s : State), (accepted opKeyEnrol r s = true) ∧ (okKeyEnrol s.pwr.otp r = true) ∧ (enrolAuth s.pwr.otp r = true) ∧ (r.b 4 0 = false) ∧ (((enrolSlots s.pwr.otp r).any fun k => k.key == wordBytes r 5 24) = false) ∧ ((enrolSlots s.pwr.otp r).length < 4) ∧ (s.pwr.otpWrite = none))
    ∧ (∃ (r : Req) (s : State), (accepted opKeyEnrol r s = true) ∧ (okKeyEnrol s.pwr.otp r = true) ∧ (enrolAuth s.pwr.otp r = true) ∧ (r.b 4 0 = true) ∧ ((activeKey (enrolSlots s.pwr.otp r)).isNone = false) ∧ (s.pwr.otpWrite = none))
    ∧ (∃ (r : Req) (s : State), (accepted opKeyStatusGet r s = true)) :=
  ⟨⟨pk [], live, by decide +kernel⟩,
   ⟨pk [0, 0], live, by decide +kernel, by decide +kernel, by decide +kernel, by decide +kernel⟩,
   ⟨pk [0], live, by decide +kernel, by decide +kernel, by decide +kernel⟩,
   ⟨pk [5], live, by decide +kernel, by decide +kernel, by decide +kernel, by decide +kernel⟩,
   ⟨pk ([0, 0, 0, 0] ++ List.replicate 45 0), live, by decide +kernel, by decide +kernel, by decide +kernel, by decide +kernel, by decide +kernel, by decide +kernel, by decide +kernel⟩,
   ⟨pk ([0x101, 0, 0, 0] ++ List.replicate 45 0), power fun p => { p with otp := { p.otp with apps := [{ key := [] }] } }, by decide +kernel, by decide +kernel, by decide +kernel, by decide +kernel, by decide +kernel, by decide +kernel⟩,
   ⟨pk [], live, by decide +kernel⟩⟩

theorem met_PowerCommandsComplete :
    (∃ (r : Req) (s : State), (accepted opPowerStatusGet r s = true))
    ∧ (∃ (r : Req) (s : State), (accepted opWakeCfgSet r s = true) ∧ (r.only 4 0xFFFF = true))
    ∧ (∃ (r : Req) (s : State), (accepted opWakeCfgGet r s = true))
    ∧ (∃ (r : Req) (s : State), (accepted opSleepEnter r s = true) ∧ (sleepBarred (taken opSleepEnter r s) = false) ∧ (r.only 4 0x80000000 = true) ∧ (r.only 5 0xFFFFF = true) ∧ (leadOk opSleepEnter r s (ms 1) = true))
    ∧ (∃ (r : Req) (s : State), (accepted opDeviceReset r s = true) ∧ (r.only 4 1 = true) ∧ (leadOk opDeviceReset r s (ms 1) = true)) :=
  ⟨⟨pk [], live, by decide +kernel⟩,
   ⟨pk [0, 0], live, by decide +kernel, by decide +kernel⟩,
   ⟨pk [], live, by decide +kernel⟩,
   ⟨pk [0, 0], live, by decide +kernel, by decide +kernel, by decide +kernel, by decide +kernel, by decide +kernel⟩,
   ⟨pk [0], live, by decide +kernel, by decide +kernel, by decide +kernel⟩⟩

theorem met_FabricEventsComplete_0 :
    (∃ (port : Nat) (bytes : List Byte) (overrun : Bool) (t : Instant) (s : State) (w : State) (id : Nat), (port < 64) ∧ ((s.model port).up = true) ∧ ((s.model port).parked = false) ∧ (s.stampLate port t = false) ∧ (s.rxOf port = none) ∧ (s.fab.rebase = none) ∧ (s.fab.forwarding = true) ∧ (s.fab.fwdStart ≤ t) ∧ (hasPort (s.cfgAt t).excluded port = false) ∧ ((s.input (pipeOf port) port).stalled = false) ∧ ((overrun = true → 128 ≤ bytes.length)) ∧ (State.portConsumes bytes = false) ∧ ((s.tick t).newFrame { inPort := port, stamp := t, bytes := bytes, pipe := pipeOf port, consumed := false, maxLen := ((s.cfgAt t).ing port).maxFrame } = (w, id)))
    ∧ (∃ (port : Nat) (t : Instant) (s : State) (id : Nat) (f : Frame), ((s.tick t).rxOf port = some id) ∧ ((s.tick t).frame id = some f) ∧ (f.bytes.length ≤ f.maxLen))
    ∧ (∃ (port : Nat) (t : Instant) (s : State) (id : Nat) (f : Frame), ((s.tick t).rxOf port = some id) ∧ ((s.tick t).frame id = some f) ∧ (f.maxLen < f.bytes.length))
    ∧ (∃ (port : Nat), (port < 68) ∧ (port < 64 ∨ port = 67))
    ∧ (∃ (port : Nat) (upto : Instant) (t : Instant) (s : State) (w : State), (64 ≤ port) ∧ (port ≤ 66) ∧ (w = ((s.tick t).pushItem (pipeOf port) port (.grout ((s.tick t).sourceHz port upto % 2 ^ 32))).pushItem 5 port (.grout ((s.tick t).sourceHz port upto % 2 ^ 32))))
    ∧ (∃ (mp : Nat) (tagError : Option Nat), (mp < 7) ∧ (tagError = none))
    ∧ (∃ (mp : Nat) (tagError : Option Nat) (i : Nat), (mp < 7) ∧ (tagError = some i))
    ∧ (∃ (mp : Nat) (input : Nat) (t : Instant) (s : State), (mp < 7) ∧ ((mergeInputs mp).contains input = true) ∧ (((s.tick t).input mp input).stalled = false)) :=
  ⟨⟨0, List.replicate 64 0, false, 0, port up, _, _, by decide +kernel, by decide +kernel, by decide +kernel, by decide +kernel, by decide +kernel, by decide +kernel, by decide +kernel, by decide +kernel, by decide +kernel, by decide +kernel, by decide +kernel, by decide +kernel, rfl⟩,
   ⟨0, 0, { live with fab := { live.fab with rx := [(0, some 5)], frames := [(5, some frame)] } }, _, _, (Option.some_get (by decide +kernel)).symm, (Option.some_get (by decide +kernel)).symm, by decide +kernel⟩,
   ⟨0, 0, { live with fab := { live.fab with rx := [(0, some 5)], frames := [(5, some { frame with maxLen := 0 })] } }, _, _, (Option.some_get (by decide +kernel)).symm, (Option.some_get (by decide +kernel)).symm, by decide +kernel⟩,
   ⟨0, by decide +kernel, by decide +kernel⟩,
   ⟨64, 0, 0, live, _, by decide +kernel, by decide +kernel, rfl⟩,
   ⟨0, _, by decide +kernel, rfl⟩,
   ⟨0, some 0, 0, by decide +kernel, by decide +kernel⟩,
   ⟨0, 0, 0, live, by decide +kernel, by decide +kernel, by decide +kernel⟩⟩

theorem met_FabricEventsComplete_1 :
    (∃ (t : Instant) (s : State) (d : DigestRun), (s.fab.digest = some d) ∧ (d.until_ ≤ min (ns s.fab.admHz) ((s.tick t).unitBound 5)))
    ∧ (∃ (unit : Nat) (horizon : Instant) (t : Instant) (s : State) (w : State), (unit ≠ 5) ∧ (w = (s.tick t).applyUnit unit (min (min horizon t) ((s.tick t).unitBound unit)) t))
    ∧ (∃ (unit : Nat) (horizon : Instant) (t : Instant) (s : State) (w : State), (unit = 5) ∧ (w = (s.tick t).egressTo (min (min horizon t) ((s.tick t).unitBound 5)) t))
    ∧ (∃ (t : Instant) (s : State) (w : State), (w = (s.tick t).lanesDue t))
    ∧ (∃ (port : Nat), (port < 68)) :=
  ⟨⟨0, { live with fab := { live.fab with digest := some { a := 0, until_ := 0, mask := 0, jid := none } } }, _, (Option.some_get (by decide +kernel)).symm, by decide +kernel⟩,
   ⟨0, 0, 0, live, _, by decide +kernel, rfl⟩,
   ⟨5, 0, 0, live, _, by decide +kernel, rfl⟩,
   ⟨0, live, _, rfl⟩,
   ⟨0, by decide +kernel⟩⟩

theorem met_LearningEventsComplete_0 :
    (∃ (a : Instant) (t : Instant) (s : State) (n : LearnNotice) (rest : List LearnNotice), (s.tab.queue = n :: rest) ∧ (t + us 20 ≤ a) ∧ (s.txnNear a = false) ∧ (s.wordsAt a < 64) ∧ (s.noticesAt a < 16))
    ∧ (∃ (vid : Nat) (mac : Nat) (a : Instant) (t : Instant) (s : State) (v : Instant), ((s.l2Ctl vid mac).holdUntil = some v) ∧ (v ≤ t) ∧ (t + us 20 ≤ a) ∧ (s.txnNear a = false) ∧ (s.wordsAt a < 64))
    ∧ (∃ (a : Instant) (t : Instant) (s : State) (w : State) (chs : List Change), ((s.cfgAt t).tableCfg.ageTime ≠ 0) ∧ ((s.cfgAt t).footing = false) ∧ (t + us 20 ≤ a) ∧ (s.txnNear a = false) ∧ (((s.cfgAt a).l2.filterMap (·.2)).foldl (ageEntry (s.cfgAt t).tableCfg.ageTime t) ((s.tick t), []) = (w, chs)) ∧ (chs ≠ []) ∧ (chs.length + s.wordsAt a ≤ 64))
    ∧ (∃ (jid : Nat) (s : State) (f : Flush), ((s.tab.flushes.filter fun f => f.jid == jid).find? (fun f => !(s.flushAhead f).isEmpty) = some f))
    ∧ (∃ (jid : Nat) (s : State), ((s.tab.flushes.filter fun f => f.jid == jid).find? (fun f => !(s.flushAhead f).isEmpty) = none))
    ∧ (∃ (copy : Nat) (table : Nat) (uncorrectable : Bool), (copy ≤ 4) ∧ (table ≤ 9) ∧ (uncorrectable = true))
    ∧ (∃ (copy : Nat) (table : Nat) (uncorrectable : Bool), (copy ≤ 4) ∧ (table ≤ 9) ∧ (uncorrectable = false))
    ∧ (∃ (port : Nat) (t : Instant) (s : State) (d : Instant) (rest : List Instant), (Tbl.get [] s.tab.downAt port = d :: rest) ∧ (d ≤ t)) :=
  ⟨⟨us 20, 0, { live with tab := { live.tab with queue := [{ stamp := 0, inPort := 0, pipe := 0, vid := 1, mac := 5, move := false }] } }, { stamp := 0, inPort := 0, pipe := 0, vid := 1, mac := 5, move := false }, [], by decide +kernel, by decide +kernel, by decide +kernel, by decide +kernel, by decide +kernel⟩,
   ⟨0, 0, us 20, 0, { live with tab := { live.tab with ctl := [(0, { holdUntil := some 0 })] } }, _, (Option.some_get (by decide +kernel)).symm, by decide +kernel, by decide +kernel, by decide +kernel, by decide +kernel⟩,
   ⟨sec 301, sec 300, { l2s with cfg := { l2s.cfg with l2 := [(0, some { l2Entry with locked := false })] } }, _, _, by decide +kernel, by decide +kernel, by decide +kernel, by decide +kernel, rfl, by decide +kernel, by decide +kernel⟩,
   ⟨0, { l2s with tab := { live.tab with flushes := [{ jid := 0, a := 0, k := 1, sel := flush0 }] } }, _, (Option.some_get (by decide +kernel)).symm⟩,
   ⟨0, live, by decide +kernel⟩,
   ⟨0, 0, true, by decide +kernel, by decide +kernel, by decide +kernel⟩,
   ⟨0, 0, _, by decide +kernel, by decide +kernel, rfl⟩,
   ⟨0, 0, { live with tab := { live.tab with downAt := [(0, [0])] } }, 0, [], by decide +kernel, by decide +kernel⟩⟩

theorem met_LearningEventsComplete_1 :
    (∃ (port : Nat) (t : Instant) (s : State) (v : Instant), (Tbl.get none s.tab.upAt port = some v) ∧ (v ≤ t))
    ∧ (∃ (jid : Nat) (t : Instant) (s : State) (f : FenceRec), (s.fab.fences.find? (fun f => f.jid == jid) = some f) ∧ ((fenceNow (s.tick t) f).done = (fenceNow (s.tick t) f).mask))
    ∧ (∃ (jid : Nat) (t : Instant) (s : State) (f : FenceRec), (s.fab.fences.find? (fun f => f.jid == jid) = some f) ∧ ((fenceNow (s.tick t) f).done ≠ (fenceNow (s.tick t) f).mask))
    ∧ (∃ (jid : Nat) (t : Instant) (s : State) (f : FenceRec), (s.fab.fences.find? (fun f => f.jid == jid) = some f) ∧ (f.until_ ≤ t)) :=
  ⟨⟨0, 0, { live with tab := { live.tab with upAt := [(0, some 0)] } }, _, (Option.some_get (by decide +kernel)).symm, by decide +kernel⟩,
   ⟨0, 0, { live with fab := { live.fab with fences := [{ jid := 0, f := 0, mask := 0, until_ := 0 }] } }, _, (Option.some_get (by decide +kernel)).symm, by decide +kernel⟩,
   ⟨0, 0, { live with fab := { live.fab with fences := [{ jid := 0, f := 1000, mask := 1, until_ := 0 }] } }, _, (Option.some_get (by decide +kernel)).symm, by decide +kernel⟩,
   ⟨0, 0, { live with fab := { live.fab with fences := [{ jid := 0, f := 0, mask := 0, until_ := 0 }] } }, _, (Option.some_get (by decide +kernel)).symm, by decide +kernel⟩⟩

theorem met_PipelineAndQueueEventsComplete_0 :
    (∃ (pipe : Nat) (t : Instant) (s : State) (id : Nat) (rest : List Item) (f : Frame), (s.outq pipe = .lead id :: rest) ∧ (pipe < 5) ∧ (((s.tick t).setOutq pipe rest).frame id = some f))
    ∧ (∃ (pipe : Nat) (t : Instant) (s : State) (id : Nat) (rest : List Item) (f : Frame), (s.outq pipe = .fin id :: rest) ∧ (pipe < 5) ∧ (((s.tick t).setOutq pipe rest).frame id = some f))
    ∧ (∃ (t : Instant) (s : State) (id : Nat) (rest : List Item) (f : Frame), (s.outq 5 = .lead id :: rest) ∧ (((s.tick t).setOutq 5 rest).frame id = some f))
    ∧ (∃ (t : Instant) (s : State) (id : Nat) (rest : List Item) (f : Frame), (s.outq 5 = .fin id :: rest) ∧ (((s.tick t).setOutq 5 rest).frame id = some f))
    ∧ (∃ (port : Nat), (port < 68))
    ∧ (∃ (port : Nat), (port < 68))
    ∧ (∃ (port : Nat) (t : Instant) (s : State) (w : State) (y : PhysTx) (rest : List PhysTx), (port < 64) ∧ (w = (s.tick t).sendPhys port) ∧ ((w.model port).phys = y :: rest) ∧ (w.physReady port y t = true))
    ∧ (∃ (port : Nat) (s : State) (y : PhysTx), ((s.model port).phys.find? PhysTx.bad = some y)) :=
  ⟨⟨0, 0, outs 0 [.lead 5], 5, [], _, by decide +kernel, by decide +kernel, (Option.some_get (by decide +kernel)).symm⟩,
   ⟨0, 0, outs 0 [.fin 5], 5, [], _, by decide +kernel, by decide +kernel, (Option.some_get (by decide +kernel)).symm⟩,
   ⟨0, outs 5 [.lead 5], 5, [], _, by decide +kernel, (Option.some_get (by decide +kernel)).symm⟩,
   ⟨0, outs 5 [.fin 5], 5, [], _, by decide +kernel, (Option.some_get (by decide +kernel)).symm⟩,
   ⟨0, by decide +kernel⟩,
   ⟨0, by decide +kernel⟩,
   ⟨0, 0, port { up with phys := [sent] }, _, sent, [], by decide +kernel, rfl, by decide +kernel, by decide +kernel⟩,
   ⟨0, port { up with phys := [{ sent with ct := true, frame := { frame with poison := some 1 } }] }, _, (Option.some_get (by decide +kernel)).symm⟩⟩

theorem met_PipelineAndQueueEventsComplete_1 :
    (∃ (port : Nat) (t : Instant) (s : State) (y : PhysTx) (w : State), ((s.model port).phys.find? (fun y => y.ct && y.begun) = some y) ∧ (w = (s.tick t).endEarly port y 14 ((s.tick t).sentBy port y t)))
    ∧ (∃ (addr : Nat) (errors : Nat), (errors = 1) ∧ (addr < 524288))
    ∧ (∃ (addr : Nat) (errors : Nat), (2 ≤ errors) ∧ (addr < 524288))
    ∧ (∃ (port : Nat), (port < 64))
    ∧ (∃ (port : Nat), (port < 64))
    ∧ (∃ (port : Nat), (port < 64))
    ∧ (∃ (port : Nat) (t : Instant) (s : State) (w : State) (x : Instant), (w = (s.tick t).egressPort port t) ∧ ((w.model port).ignoreUntil = some x) ∧ (x ≤ min t (w.unitBound 5)))
    ∧ (∃ (port : Nat) (s : State) (y : PhysTx) (rest : List PhysTx), (port = 64) ∧ ((s.model port).phys = y :: rest) ∧ (y.ended.isSome = true)) :=
  ⟨⟨0, 0, port { up with phys := [{ sent with ct := true, begun := true }] }, _, _, (Option.some_get (by decide +kernel)).symm, rfl⟩,
   ⟨0, 1, by decide +kernel, by decide +kernel⟩,
   ⟨0, 2, by decide +kernel, by decide +kernel⟩,
   ⟨0, by decide +kernel⟩,
   ⟨0, by decide +kernel⟩,
   ⟨0, by decide +kernel⟩,
   ⟨0, 0, port { up with ignoreUntil := some 0 }, _, _, rfl, (Option.some_get (by decide +kernel)).symm, by decide +kernel⟩,
   ⟨64, copyAt 64 { phys := [sent] }, sent, [], by decide +kernel, by decide +kernel, by decide +kernel⟩⟩

theorem met_PipelineAndQueueEventsComplete_2 :
    (∃ (port : Nat) (s : State) (c : AppCore) (y : PhysTx) (rest : List PhysTx), (port = (if c = AppCore.ac0 then 65 else 66)) ∧ ((s.model port).phys = y :: rest) ∧ (y.ended.isSome = true))
    ∧ (∃ (src : InjectSource) (c : AppCore), (src = .core c))
    ∧ (∃ (src : InjectSource) (direct : Bool) (hb3 : Word) (hb0 : Word) (bs : List Byte), (src = .firmware direct hb3 hb0 bs) ∧ (64 ≤ bs.length) ∧ (bs.length ≤ 9216) ∧ (State.outerType bs ≠ 0x88B5))
    ∧ (∃ (s : State) (y : PhysTx) (rest : List PhysTx), ((s.model 67).phys = y :: rest) ∧ (y.begun = false) ∧ (y.ended = none))
    ∧ (∃ (s : State) (y : PhysTx) (rest : List PhysTx) (e : Instant), ((s.model 67).phys = y :: rest) ∧ (y.begun = false) ∧ (y.ended = some e))
    ∧ (∃ (s : State) (y : PhysTx) (rest : List PhysTx) (e : Instant), ((s.model 67).phys = y :: rest) ∧ (y.begun = true) ∧ (y.ended = some e)) :=
  ⟨⟨65, copyAt 65 { phys := [sent] }, .ac0, sent, [], by decide +kernel, by decide +kernel, by decide +kernel⟩,
   ⟨_, .ac0, rfl⟩,
   ⟨.firmware false 0#32 0#32 (List.replicate 64 0), false, 0#32, 0#32, List.replicate 64 0, by decide +kernel, by decide +kernel, by decide +kernel, by decide +kernel⟩,
   ⟨copyAt 67 { phys := [{ sent with begun := false, ended := none }] }, { sent with begun := false, ended := none }, [], by decide +kernel, by decide +kernel, by decide +kernel⟩,
   ⟨copyAt 67 { phys := [{ sent with begun := false, ended := some 0 }] }, { sent with begun := false, ended := some 0 }, [], _, by decide +kernel, by decide +kernel, (Option.some_get (by decide +kernel)).symm⟩,
   ⟨copyAt 67 { phys := [{ sent with begun := true, ended := some 0 }] }, { sent with begun := true, ended := some 0 }, [], _, by decide +kernel, by decide +kernel, (Option.some_get (by decide +kernel)).symm⟩⟩

theorem met_CourseEventsComplete :
    (∃ (port : Nat) (entry : Nat) (t : Instant) (s : State) (w : State), (w = (s.tick t).egressPort port t) ∧ (port < 64) ∧ (entry < 1024) ∧ (State.isOccurrence (w.course port) ((w.course port).act.entry entry) t = true) ∧ (((w.course port).act.entry entry).act = .gate))
    ∧ (∃ (port : Nat) (entry : Nat) (t : Instant) (s : State) (w : State), (w = (s.tick t).egressPort port t) ∧ (port < 64) ∧ (entry < 1024) ∧ (State.isOccurrence (w.course port) ((w.course port).act.entry entry) t = true) ∧ (((w.course port).act.entry entry).act.launches = true) ∧ ((w.model port).up = false))
    ∧ (∃ (port : Nat) (entry : Nat) (t : Instant) (s : State) (w : State) (x : Copy) (h : Claim), (w = (s.tick t).egressPort port t) ∧ (port < 64) ∧ (entry < 1024) ∧ (State.isOccurrence (w.course port) ((w.course port).act.entry entry) t = true) ∧ (((w.course port).act.entry entry).act.launches = true) ∧ ((w.model port).up = true) ∧ ((w.equeue (q7 port)).copies.find? (fun x => x.claims entry t && !w.isLaunched port x) = some x) ∧ (x.claim = some h))
    ∧ (∃ (port : Nat) (entry : Nat) (t : Instant) (s : State) (w : State), (w = (s.tick t).egressPort port t) ∧ (port < 64) ∧ (entry < 1024) ∧ (State.isOccurrence (w.course port) ((w.course port).act.entry entry) t = true) ∧ (((w.course port).act.entry entry).act.launches = true) ∧ ((w.model port).up = true) ∧ ((w.equeue (q7 port)).copies.find? (fun x => x.claims entry t && !w.isLaunched port x) = none))
    ∧ (∃ (port : Nat) (entry : Nat) (t : Instant) (s : State), (port < 64) ∧ ((((s.tick t).course port).act.entry entry).act.launches = true) ∧ (State.isOccurrence ((s.tick t).course port) (((s.tick t).course port).act.entry entry) (t + ns 320) = true) ∧ ((((s.tick t).equeue (q7 port)).copies.any fun x => x.claims entry (t + ns 320)) = false))
    ∧ (∃ (port : Nat) (t : Instant) (s : State) (w : SwapPending), (((s.tick t).course port).pend = some w) ∧ (w.a ≤ min t ((s.tick t).unitBound 5)))
    ∧ (∃ (t : Instant) (s : State) (r : RebaseRun), (s.fab.rebase = some r) ∧ ((s.tick t).heldBefore r.s = false)) :=
  ⟨⟨0, 0, 0, course (entry0 .gate 0) up, _, rfl, by decide +kernel, by decide +kernel, by decide +kernel, by decide +kernel⟩,
   ⟨0, 0, 0, course (entry0 .launch 0) {}, _, rfl, by decide +kernel, by decide +kernel, by decide +kernel, by decide +kernel, by decide +kernel⟩,
   ⟨0, 0, 0, { course (entry0 .launch 0) up with egr := { (port up).egr with queues := [(7, { copies := [{ fid := 5, stamp := 0, inPort := 0, need := 1, lenNow := 64, ended := true, claimPt := some 0, claim := some ⟨0, 0, 0, false, 0⟩ }] })] } }, _, _, _, rfl, by decide +kernel, by decide +kernel, by decide +kernel, by decide +kernel, by decide +kernel, (Option.some_get (by decide +kernel)).symm, (Option.some_get (by decide +kernel)).symm⟩,
   ⟨0, 0, 0, course (entry0 .launch 0) up, _, rfl, by decide +kernel, by decide +kernel, by decide +kernel, by decide +kernel, by decide +kernel, by decide +kernel⟩,
   ⟨0, 0, 0, course (entry0 .launch (ns 320)) up, by decide +kernel, by decide +kernel, by decide +kernel, by decide +kernel⟩,
   ⟨0, 0, course { pend := some { a := 0, carry := false, copy := false, rate := 0, jid := none, words := [] } } up, _, (Option.some_get (by decide +kernel)).symm, by decide +kernel⟩,
   ⟨0, { live with fab := { live.fab with rebase := some ⟨0, 0⟩ } }, _, (Option.some_get (by decide +kernel)).symm, by decide +kernel⟩⟩

theorem met_KeeperEventsComplete_0 :
    (∃ (t : Instant) (s : State), (t % servoPeriod = 0) ∧ (s.started = true) ∧ (s.pwr.inReset = false))
    ∧ (∃ (t : Instant) (s : State) (w : State), (s.tk.xoLost = false) ∧ (w = (({ (s.tick t) with tk := { s.tk with xoLost := true, bond := { s.tk.bond with xoFault := true } } }).tkFlag 5).raise 0x0406 87 [] t))
    ∧ (∃ (s : State), (s.tk.xoLost = true))
    ∧ (∃ (s : State), (s.tk.xoLost = false))
    ∧ (∃ (which : Nat) (t : Instant) (s : State), (which = 0) ∧ (s.started = true) ∧ (s.runs .a = true) ∧ (s.tkTime .a t % sec 1 = 0))
    ∧ (∃ (which : Nat) (t : Instant) (s : State), (which = 1) ∧ (s.started = true) ∧ (s.runs .b = true) ∧ (s.tkTime .b t % sec 1 = 0))
    ∧ (∃ (which : Nat) (t : Instant) (s : State), (which = 2) ∧ (s.started = true) ∧ (t % sec 1 = 0))
    ∧ (∃ (t : Instant) (s : State), (s.tk.voteAt + ms s.tk.cfg.voteWindow ≤ t)) :=
  ⟨⟨0, bond { holder := some .a, ka := { cond := .run }, kb := { cond := .run } }, by decide +kernel, by decide +kernel, by decide +kernel⟩,
   ⟨0, live, _, by decide +kernel, rfl⟩,
   ⟨{ live with tk := { live.tk with xoLost := true } }, by decide +kernel⟩,
   ⟨live, by decide +kernel⟩,
   ⟨0, 0, bond { holder := some .a, ka := { cond := .run }, kb := { cond := .run } }, by decide +kernel, by decide +kernel, by decide +kernel, by decide +kernel⟩,
   ⟨1, 0, bond { holder := some .a, ka := { cond := .run }, kb := { cond := .run } }, by decide +kernel, by decide +kernel, by decide +kernel, by decide +kernel⟩,
   ⟨2, 0, bond { holder := some .a, ka := { cond := .run }, kb := { cond := .run } }, by decide +kernel, by decide +kernel, by decide +kernel⟩,
   ⟨sec 1, live, by decide +kernel⟩⟩

theorem met_KeeperEventsComplete_1 :
    (∃ (cand : Nat) (t : Instant) (s : State), (cand < 16) ∧ ((s.cand cand).valid = true) ∧ (s.candProblem cand t = none))
    ∧ (∃ (input : Nat) (edge : PpsEdge) (s : State), (input < 2) ∧ ((s.refCfg input).falling = edge.falling) ∧ ((s.refCfg input).mode = 3))
    ∧ (∃ (input : Nat) (edge : PpsEdge) (s : State), (input < 2) ∧ ((s.refCfg input).falling = edge.falling) ∧ ((s.refCfg input).mode = 1) ∧ (edge.phase = none))
    ∧ (∃ (input : Nat) (edge : PpsEdge) (t : Instant) (s : State) (p : Int) (w : Int), (input < 2) ∧ ((s.refCfg input).falling = edge.falling) ∧ ((s.refCfg input).mode = 1) ∧ (edge.phase = some p) ∧ (w = divRound (fromSecond t - p) (s.refCfg input).period * (s.refCfg input).period))
    ∧ (∃ (input : Nat) (t : Instant) (s : State), (input < 2) ∧ ((s.refSt input).ppsDue t = true))
    ∧ (∃ (input : Nat), (input < 2))
    ∧ (∃ (port : Nat) (msg : PtpMsg) (s : State) (q : Nat) (origin : Instant) (corr : Int), (port < 64) ∧ ((s.ptpCfg port).role = 1) ∧ (msg = .sync q false origin corr))
    ∧ (∃ (port : Nat) (msg : PtpMsg) (s : State) (q : Nat) (origin : Instant) (corr : Int), (port < 64) ∧ ((s.ptpCfg port).role = 1) ∧ (msg = .sync q true origin corr)) :=
  ⟨⟨0, 0, { live with tk := { live.tk with cands := [(0, { valid := true, kind := 5 })] } }, by decide +kernel, by decide +kernel, by decide +kernel⟩,
   ⟨0, {}, { live with tk := { live.tk with refCfg := [(0, { mode := 3 })] } }, by decide +kernel, by decide +kernel, by decide +kernel⟩,
   ⟨0, {}, { live with tk := { live.tk with refCfg := [(0, { mode := 1 })] } }, by decide +kernel, by decide +kernel, by decide +kernel, by decide +kernel⟩,
   ⟨0, { phase := some 0 }, 0, { live with tk := { live.tk with refCfg := [(0, { mode := 1 })] } }, 0, _, by decide +kernel, by decide +kernel, by decide +kernel, by decide +kernel, rfl⟩,
   ⟨0, 0, live, by decide +kernel, by decide +kernel⟩,
   ⟨0, by decide +kernel⟩,
   ⟨0, .sync 0 false 0 0, ptp { role := 1 } {}, 0, 0, 0, by decide +kernel, by decide +kernel, by decide +kernel⟩,
   ⟨0, .sync 0 true 0 0, ptp { role := 1 } {}, 0, 0, 0, by decide +kernel, by decide +kernel, by decide +kernel⟩⟩

theorem met_KeeperEventsComplete_2 :
    (∃ (port : Nat) (msg : PtpMsg) (s : State) (q : Nat) (origin : Instant) (corr : Int) (t2 : Instant) (c : Int), (port < 64) ∧ ((s.ptpCfg port).role ≠ 0) ∧ (msg = .followUp q origin corr) ∧ ((s.ptpSt port).sync = some (q, t2, c)))
    ∧ (∃ (port : Nat) (kind : Nat) (s : State), (port < 64) ∧ (kind = 0) ∧ ((s.ptpCfg port).role = 2) ∧ ((s.ptpCfg port).twoStep = false))
    ∧ (∃ (port : Nat) (kind : Nat) (s : State), (port < 64) ∧ (kind = 1) ∧ ((s.ptpCfg port).role = 2))
    ∧ (∃ (port : Nat) (s : State), (port < 64) ∧ ((s.ptpCfg port).role ≠ 0) ∧ (¬ ((s.ptpCfg port).role = 2 ∧ (s.ptpCfg port).profile = 0)))
    ∧ (∃ (port : Nat) (msg : PtpMsg) (s : State) (q : Nat), (port < 64) ∧ ((s.ptpCfg port).role = 2) ∧ ((s.ptpCfg port).profile = 0) ∧ (msg = .delayReq q))
    ∧ (∃ (port : Nat) (s : State), (port < 64) ∧ ((s.synceCfg port).en = true) ∧ ((s.synceCfg port).rx = true))
    ∧ (∃ (port : Nat) (t : Instant) (s : State), ((s.esmc port).ql.isSome = true) ∧ ((s.esmc port).at_ + sec 5 < t))
    ∧ (∃ (port : Nat) (s : State), (port < 64) ∧ ((s.synceCfg port).en = true) ∧ ((s.synceCfg port).tx = true)) :=
  ⟨⟨0, .followUp 0 0 0, ptp { role := 1 } { sync := some (0, 0, 0) }, 0, 0, 0, 0, 0, by decide +kernel, by decide +kernel, by decide +kernel, by decide +kernel⟩,
   ⟨0, _, ptp { role := 2 } {}, by decide +kernel, rfl, by decide +kernel, by decide +kernel⟩,
   ⟨0, 1, ptp { role := 2 } {}, by decide +kernel, by decide +kernel, by decide +kernel⟩,
   ⟨0, ptp { role := 1 } {}, by decide +kernel, by decide +kernel, by decide +kernel⟩,
   ⟨0, _, ptp { role := 2 } {}, 0, by decide +kernel, by decide +kernel, by decide +kernel, rfl⟩,
   ⟨0, { live with tk := { live.tk with synceCfg := [(0, { en := true, rx := true, tx := true })] } }, by decide +kernel, by decide +kernel, by decide +kernel⟩,
   ⟨0, sec 6, { live with tk := { live.tk with esmc := [(0, { ql := some 2 })] } }, by decide +kernel, by decide +kernel⟩,
   ⟨0, { live with tk := { live.tk with synceCfg := [(0, { en := true, rx := true, tx := true })] } }, by decide +kernel, by decide +kernel, by decide +kernel⟩⟩

theorem met_LinkTimingEventsComplete_0 :
    (∃ (port : Nat) (s : State), (port < 64) ∧ ((s.link port).state ≠ .coarse) ∧ ((s.link port).state ≠ .fine) ∧ ((s.link port).state ≠ .stale))
    ∧ (∃ (port : Nat) (s : State), (port < 64) ∧ (((s.link port).state = .coarse ∨ (s.link port).state = .fine)))
    ∧ (∃ (port : Nat) (t : Instant) (s : State), ((s.link port).state = .stale) ∧ (s.isActive port = true) ∧ (s.relockPast port t = true))
    ∧ (∃ (port : Nat) (cycle : Nat) (sym : Nat) (t : Instant) (s : State) (m : OwnMark), (port < 64) ∧ (s.sendsTiming port = true) ∧ ((s.link port).marks.find? (fun m => m.dep.isNone) = some m) ∧ (m.at_ ≤ t) ∧ ((s.tick t).lineIdle port t = true) ∧ ((s.link port).clearOfMarks ((s.tick t).departure port cycle sym) (txTime ((s.tick t).model port).rate 4) = true))
    ∧ (∃ (port : Nat) (symbols : List Nat) (codeError : Bool) (s : State) (b0 : Nat) (b1 : Nat) (b2 : Nat) (q : Nat), (port < 64) ∧ (symbols = [b0, b1, b2]) ∧ (q = (b0 + 256 * b1) % 65536) ∧ (codeError = false) ∧ (oddOnes (q + 65536 * b2) = false) ∧ (s.isActive port = true) ∧ (s.isTl port = true) ∧ ((s.link port).lastKept ≠ some q) ∧ ((s.link port).kept.any (fun m => m.seq == q) = false))
    ∧ (∃ (port : Nat) (s : State), (port < 64) ∧ ((s.lane port).state = .calx) ∧ ((s.link port).loopDone = true) ∧ ((s.lane port).calxCal = false))
    ∧ (∃ (port : Nat) (t : Instant) (s : State) (x : Slot) (rest : List Slot) (w : State), (port < 64) ∧ ((s.lane port).state ≠ .calx) ∧ (s.sendsTiming port = true) ∧ ((s.link port).slots = x :: rest) ∧ (x.at_ ≤ t) ∧ ((s.model port).tx = none) ∧ ((s.model port).freeAt ≤ t) ∧ (s.fitsWindow port 64 t = true) ∧ (w = (s.tick t).sendLocal port ((s.tick t).timingPayload port x) t) ∧ (x.timing = true))
    ∧ (∃ (port : Nat) (t : Instant) (s : State) (x : Slot) (rest : List Slot) (w : State), (port < 64) ∧ ((s.lane port).state ≠ .calx) ∧ (s.sendsTiming port = true) ∧ ((s.link port).slots = x :: rest) ∧ (x.at_ ≤ t) ∧ ((s.model port).tx = none) ∧ ((s.model port).freeAt ≤ t) ∧ (s.fitsWindow port 64 t = true) ∧ (w = (s.tick t).sendLocal port ((s.tick t).calPayload port) t) ∧ (x.timing = false)) :=
  ⟨⟨0, live, by decide +kernel, by decide +kernel, by decide +kernel, by decide +kernel⟩,
   ⟨0, lnk {} { state := .coarse }, by decide +kernel, by decide +kernel⟩,
   ⟨0, us 40, lnk { state := .active, exitFrom := some 0 } { state := .stale }, by decide +kernel, by decide +kernel, by decide +kernel⟩,
   ⟨0, 0, 0, 0, lnk { state := .active, rate := 3 } { state := .coarse, marks := [{ seq := 1, src := .a, at_ := 0, flags := 0 }] }, _, by decide +kernel, by decide +kernel, (Option.some_get (by decide +kernel)).symm, by decide +kernel, by decide +kernel, by decide +kernel⟩,
   ⟨0, [1, 0, 1], _, lnk { state := .active, rate := 3 } {}, 1, 0, 1, _, by decide +kernel, by decide +kernel, rfl, rfl, by decide +kernel, by decide +kernel, by decide +kernel, by decide +kernel, by decide +kernel⟩,
   ⟨0, lnk { state := .calx } { loopDone := true }, by decide +kernel, by decide +kernel, by decide +kernel, by decide +kernel⟩,
   ⟨0, 0, lnk { state := .active, rate := 3 } { state := .coarse, slots := [{ at_ := 0, seq := 1, timing := true }] }, { at_ := 0, seq := 1, timing := true }, [], _, by decide +kernel, by decide +kernel, by decide +kernel, by decide +kernel, by decide +kernel, by decide +kernel, by decide +kernel, by decide +kernel, rfl, by decide +kernel⟩,
   ⟨0, 0, lnk { state := .active, rate := 3 } { state := .coarse, slots := [{ at_ := 0, seq := 1, timing := false }] }, { at_ := 0, seq := 1, timing := false }, [], _, by decide +kernel, by decide +kernel, by decide +kernel, by decide +kernel, by decide +kernel, by decide +kernel, by decide +kernel, by decide +kernel, rfl, by decide +kernel⟩⟩

theorem met_LinkTimingEventsComplete_1 :
    (∃ (port : Nat) (bytes : List Byte), (port < 64) ∧ (goodTiming bytes = true) ∧ (timingByte bytes 0 1 = 0x11))
    ∧ (∃ (port : Nat) (bytes : List Byte), (port < 64) ∧ (goodTiming bytes = true) ∧ (timingByte bytes 0 1 = 0x12))
    ∧ (∃ (port : Nat) (s : State), (port < 64) ∧ ((s.link port).running = true))
    ∧ (∃ (quad : Nat) (s : State), (quad < 4) ∧ ((s.vernier quad).running = true))
    ∧ (∃ (t : Instant) (s : State) (a : AsymOpen), (s.lt.asym = some a) ∧ (a.until_ ≤ t)) :=
  ⟨⟨0, timing 0x11#8, by decide +kernel, by decide +kernel, by decide +kernel⟩,
   ⟨0, timing 0x12#8, by decide +kernel, by decide +kernel, by decide +kernel⟩,
   ⟨0, lnk {} { running := true }, by decide +kernel, by decide +kernel⟩,
   ⟨0, { live with lt := { live.lt with verniers := [(0, { running := true })] } }, by decide +kernel, by decide +kernel⟩,
   ⟨0, { live with lt := { live.lt with asym := some { jid := 0, port := 0, second := false, apply := false, keep := false, until_ := 0, w4 := 0, w5 := 0, sel := none, es := [], fs := [] } } }, _, (Option.some_get (by decide +kernel)).symm, by decide +kernel⟩⟩

theorem met_BondEventsComplete_0 :
    (∃ (t : Instant) (s : State), (s.holder.isSome = true) ∧ (s.tk.bond.renewed + (s.tick t).aonLeast s.leaseTime ≤ t))
    ∧ (∃ (k : Tk) (check : Nat) (s : State), ((s.bk k).cond = .run) ∧ (check < 7) ∧ (check ≠ 1) ∧ (¬ (check = 3 ∧ s.tk.xoLost = true)))
    ∧ (∃ (k : Tk) (check : Nat) (t : Instant) (s : State) (w : State), ((s.bk k).cond = .run) ∧ (check = 1) ∧ (w = (s.tick t).setBk k { s.bk k with supply := false }) ∧ ((w.bk k).cond = .run))
    ∧ (∃ (k : Tk) (s : State), ((s.bk k).supply = false) ∧ ((s.bk k).cond = .down))
    ∧ (∃ (k : Tk) (ok : Bool) (s : State), ((s.bk k).cond = .loading) ∧ (ok = true))
    ∧ (∃ (k : Tk) (ok : Bool) (s : State), ((s.bk k).cond = .loading) ∧ (ok = false))
    ∧ (∃ (cell : Nat) (t : Instant) (s : State) (c : Cell) (q : List Instant), (s.cells[cell]? = some c) ∧ ((s.cells.any fun x => x.isolated) = false) ∧ (c.isolated = false) ∧ (q = t :: c.reloads.filter (fun r => decide (t < r + sec 1))) ∧ (q.length < 3))
    ∧ (∃ (cell : Nat) (t : Instant) (s : State) (c : Cell) (q : List Instant), (s.cells[cell]? = some c) ∧ ((s.cells.any fun x => x.isolated) = false) ∧ (c.isolated = false) ∧ (q = t :: c.reloads.filter (fun r => decide (t < r + sec 1))) ∧ (3 ≤ q.length)) :=
  ⟨⟨sec 1, bond { holder := some .a, ka := { cond := .run }, kb := { cond := .run } }, by decide +kernel, by decide +kernel⟩,
   ⟨.a, 0, bond { holder := some .a, ka := { cond := .run }, kb := { cond := .run } }, by decide +kernel, by decide +kernel, by decide +kernel, by decide +kernel⟩,
   ⟨.a, 1, 0, bond { holder := some .a, ka := { cond := .run }, kb := { cond := .run } }, _, by decide +kernel, by decide +kernel, rfl, by decide +kernel⟩,
   ⟨.a, bond { ka := { cond := .down, supply := false } }, by decide +kernel, by decide +kernel⟩,
   ⟨.a, true, bond { ka := { cond := .loading } }, by decide +kernel, by decide +kernel⟩,
   ⟨.a, _, bond { ka := { cond := .loading } }, by decide +kernel, rfl⟩,
   ⟨0, 0, live, _, _, (Option.some_get (by decide +kernel)).symm, by decide +kernel, by decide +kernel, rfl, by decide +kernel⟩,
   ⟨0, 0, bond { cell0 := { reloads := [0, 0] } }, _, _, (Option.some_get (by decide +kernel)).symm, by decide +kernel, by decide +kernel, rfl, by decide +kernel⟩⟩

theorem met_BondEventsComplete_1 :
    (∃ (k : Tk) (band : Option Nat) (t : Instant) (s : State) (w : State), ((s.bk k).cond = .boot) ∧ (s.pwr.inReset = false) ∧ (w = ((s.tick t).bandEnd k band).bandGrant t) ∧ (w.started = false))
    ∧ (∃ (k : Tk) (band : Option Nat) (t : Instant) (s : State) (w : State), ((s.bk k).cond = .boot) ∧ (s.pwr.inReset = false) ∧ (w = ((s.tick t).bandEnd k band).bandGrant t) ∧ (w.started = true))
    ∧ (∃ (cause : Nat), (cause < 4))
    ∧ (∃ (cause : Nat) (t : Instant) (s : State) (n : Nat) (w : State), (s.standbyCore = some n) ∧ (cause < 4) ∧ (w = ((s.tick t).raise 0x0805 90 [bytesBE 1 n, bytesBE 1 cause] t).restartCore n t))
    ∧ (∃ (t : Instant) (s : State) (n : Nat) (w : State), (s.flt.takeover = some n) ∧ (w = (s.tick t).replayJournal t))
    ∧ (∃ (core : Nat) (ok : Bool) (s : State) (n : Nat), (core < 2) ∧ (s.coreRole core = .restarting) ∧ (ok = true) ∧ (s.interpCore = some n))
    ∧ (∃ (core : Nat) (ok : Bool) (t : Instant) (s : State) (w : State), (core < 2) ∧ (s.coreRole core = .restarting) ∧ (ok = true) ∧ (s.interpCore = none) ∧ (w = ((s.tick t).setCoreRole core .interp).replayJournal t))
    ∧ (∃ (cause : Nat) (s : State), (s.causeStands cause = true)) :=
  ⟨⟨.a, none, 0, live, _, by decide +kernel, by decide +kernel, rfl, by decide +kernel⟩,
   ⟨.a, none, 0, bond { kb := { cond := .down } }, _, by decide +kernel, by decide +kernel, rfl, by decide +kernel⟩,
   ⟨0, by decide +kernel⟩,
   ⟨0, 0, live, _, _, (Option.some_get (by decide +kernel)).symm, by decide +kernel, rfl⟩,
   ⟨0, flts { takeover := some 0 }, _, _, (Option.some_get (by decide +kernel)).symm, rfl⟩,
   ⟨1, true, flts { cc1 := .restarting }, _, by decide +kernel, by decide +kernel, by decide +kernel, (Option.some_get (by decide +kernel)).symm⟩,
   ⟨1, true, 0, flts { cc0 := .failed, cc1 := .restarting }, _, by decide +kernel, by decide +kernel, by decide +kernel, by decide +kernel, rfl⟩,
   ⟨0, live, by decide +kernel⟩⟩

theorem met_BondEventsComplete_2 :
    (∃ (t : Instant) (s : State) (e : Instant), (s.flt.e = some e) ∧ (e ≤ t) ∧ (s.flt.cmdEnter = []) ∧ (s.flt.state ≠ 2))
    ∧ (∃ (s : State), (s.flt.state = 2))
    ∧ (∃ (cause : Nat) (t : Instant) (s : State) (w : State), (w = (s.tick t).footCfgDue t) ∧ (w.causeGone cause t = true))
    ∧ (∃ (t : Instant) (s : State) (x : Instant), (s.flt.x = some x) ∧ (x ≤ t)) :=
  ⟨⟨0, flts { e := some 0 }, _, (Option.some_get (by decide +kernel)).symm, by decide +kernel, by decide +kernel, by decide +kernel⟩,
   ⟨flts { state := 2 }, by decide +kernel⟩,
   ⟨0, 0, live, _, rfl, by decide +kernel⟩,
   ⟨0, flts { x := some 0 }, _, (Option.some_get (by decide +kernel)).symm, by decide +kernel⟩⟩

theorem met_LaneEventsComplete_0 :
    (∃ (port : Nat) (t : Instant) (s : State) (w : State), (port < 64) ∧ (w = (s.tick t).setLane port { s.lane port with energy := true }) ∧ ((w.lane port).state = .detect) ∧ ((w.lane port).since + us (100 * (w.lane port).cfg.hold) ≤ t) ∧ ((w.lane port).cfg.mode = 0) ∧ (w.mayStart port t = true))
    ∧ (∃ (port : Nat) (t : Instant) (s : State) (w : State), (port < 64) ∧ (w = (s.tick t).setLane port { s.lane port with energy := false }) ∧ ((w.lane port).state = .active))
    ∧ (∃ (port : Nat) (s : State), (port < 64) ∧ (s.isActive port = true))
    ∧ (∃ (port : Nat) (p : LinkProgress) (s : State) (tl25 : Bool) (far : Nat), (port < 64) ∧ ((s.lane port).state = .base) ∧ (p = .agreed tl25 far))
    ∧ (∃ (port : Nat) (p : LinkProgress) (s : State), (port < 64) ∧ ((s.lane port).state = .step) ∧ (p = .farTrain))
    ∧ (∃ (port : Nat) (p : LinkProgress) (s : State), (port < 64) ∧ ((s.lane port).state = .train) ∧ (p = .bothReady) ∧ (8 ≤ (s.lane port).farReady))
    ∧ (∃ (port : Nat) (p : LinkProgress) (s : State), (port < 64) ∧ ((s.lane port).state = .lock) ∧ (p = .locked))
    ∧ (∃ (port : Nat) (p : LinkProgress) (s : State), (port < 64) ∧ ((s.lane port).state = .calx) ∧ (p = .calxDone) ∧ ((s.lane port).calxCal = true) ∧ (4 ≤ (s.lane port).calxRecv) ∧ ((s.link port).loopDone = true)) :=
  ⟨⟨0, ms 10, { live with lan := { live.lan with lanes := [(0, {})], quads := [(0, { powered := true, lbLock := true })] }, tk := { live.tk with bond := { live.tk.bond with grantedOnce := true } } }, _, by decide +kernel, rfl, by decide +kernel, by decide +kernel, by decide +kernel, by decide +kernel⟩,
   ⟨0, 0, lane { state := .active }, _, by decide +kernel, rfl, by decide +kernel⟩,
   ⟨0, lane { state := .active }, by decide +kernel, by decide +kernel⟩,
   ⟨0, .agreed false 0, lane { state := .base }, false, 0, by decide +kernel, by decide +kernel, by decide +kernel⟩,
   ⟨0, .farTrain, lane { state := .step }, by decide +kernel, by decide +kernel, by decide +kernel⟩,
   ⟨0, .bothReady, lane { state := .train, farReady := 8 }, by decide +kernel, by decide +kernel, by decide +kernel, by decide +kernel⟩,
   ⟨0, _, lane { state := .lock }, by decide +kernel, by decide +kernel, rfl⟩,
   ⟨0, .calxDone, lnk { state := .calx, calxCal := true, calxRecv := 4 } { loopDone := true }, by decide +kernel, by decide +kernel, by decide +kernel, by decide +kernel, by decide +kernel, by decide +kernel⟩⟩

theorem met_LaneEventsComplete_1 :
    (∃ (port : Nat) (t : Instant) (s : State) (d : Nat), (port < 64) ∧ ((s.lane port).timeout = some d) ∧ ((s.lane port).since + d ≤ t) ∧ ((s.lane port).state ≠ .fallback))
    ∧ (∃ (port : Nat) (req : Nat) (status : Nat) (check : Nat) (codeError : Bool) (s : State), (port < 64) ∧ (codeError = false) ∧ (check = (req ^^^ status) ^^^ 0xA5) ∧ ((s.lane port).state = .train))
    ∧ (∃ (port : Nat) (type : Nat) (flags : Nat) (check : Nat) (codeError : Bool) (s : State), (port < 64) ∧ (codeError = false) ∧ (check = (type ^^^ flags) ^^^ 0xA5) ∧ ((s.lane port).state = .calx) ∧ (type = 1))
    ∧ (∃ (port : Nat) (type : Nat) (flags : Nat) (check : Nat) (codeError : Bool) (s : State), (port < 64) ∧ (codeError = false) ∧ (check = (type ^^^ flags) ^^^ 0xA5) ∧ ((s.lane port).state = .active) ∧ (type = 2) ∧ (s.parkable port = true) ∧ ((s.lane port).parkFrom = none) ∧ (s.parkForbidden port = false))
    ∧ (∃ (port : Nat) (type : Nat) (flags : Nat) (check : Nat) (codeError : Bool) (s : State), (port < 64) ∧ (codeError = false) ∧ (check = (type ^^^ flags) ^^^ 0xA5) ∧ ((s.lane port).state = .active) ∧ (type = 3) ∧ ((s.lane port).parkFrom.isSome = true) ∧ (s.parkable port = true) ∧ (s.parkForbidden port = false))
    ∧ (∃ (port : Nat) (s : State), (port < 64) ∧ ((s.lane port).state = .lock))
    ∧ (∃ (port : Nat) (t : Instant) (s : State) (e : Instant) (w : State), (port < 64) ∧ ((s.lane port).state = .park) ∧ ((s.lane port).exitFrom = some e) ∧ (t < e + us 10) ∧ (w = (((s.tick t).countP port 99).finishOpt (s.lane port).exitJid State.stOk [] t).enterActive port (s.lane port).rate (s.lane port).fallen 12 t))
    ∧ (∃ (port : Nat) (fixedTx : Nat) (fixedRx : Nat) (t : Instant) (s : State) (w : State), (port < 64) ∧ ((s.lane port).state = .calx) ∧ (w = (s.tick t).setLink port { s.link port with fixedTx := fixedTx, fixedRx := fixedRx, loopDone := true, liveDone := false })) :=
  ⟨⟨0, us 200, lane { state := .step }, _, by decide +kernel, (Option.some_get (by decide +kernel)).symm, by decide +kernel, by decide +kernel⟩,
   ⟨0, 0, 0, 0xA5, _, lane { state := .train }, by decide +kernel, rfl, by decide +kernel, by decide +kernel⟩,
   ⟨0, 1, 0, 0xA4, _, lane { state := .calx }, by decide +kernel, rfl, by decide +kernel, by decide +kernel, by decide +kernel⟩,
   ⟨0, 2, 0, 0xA7, _, lane { state := .active, rate := 3 }, by decide +kernel, rfl, by decide +kernel, by decide +kernel, by decide +kernel, by decide +kernel, by decide +kernel, by decide +kernel⟩,
   ⟨0, 3, 0, 0xA6, _, lane { state := .active, rate := 3, parkFrom := some 0 }, by decide +kernel, rfl, by decide +kernel, by decide +kernel, by decide +kernel, by decide +kernel, by decide +kernel, by decide +kernel⟩,
   ⟨0, lane { state := .lock }, by decide +kernel, by decide +kernel⟩,
   ⟨0, 0, lane { state := .park, exitFrom := some 0 }, _, _, by decide +kernel, by decide +kernel, (Option.some_get (by decide +kernel)).symm, by decide +kernel, rfl⟩,
   ⟨0, 0, 0, 0, lane { state := .calx }, _, by decide +kernel, by decide +kernel, rfl⟩⟩

theorem met_LaneEventsComplete_2 :
    (∃ (port : Nat) (t : Instant) (s : State), (s.parkable port = true) ∧ ((s.lane port).cfg.parkEn = true) ∧ ((s.lane port).parkFrom = none) ∧ ((s.lane port).parkWait = false) ∧ (s.parkForbidden port = false) ∧ (s.holdsCopy port = false) ∧ ((s.model port).freeAt + us (s.lane port).cfg.parkIdle ≤ t) ∧ ((s.lane port).since + us (s.lane port).cfg.parkIdle ≤ t))
    ∧ (∃ (port : Nat) (t : Instant) (s : State) (v : Instant), ((s.lane port).parkFrom = some v) ∧ (v + us 100 ≤ t))
    ∧ (∃ (port : Nat) (s : State), (port < 64) ∧ ((s.lane port).state = .park) ∧ ((s.lane port).exitFrom = none))
    ∧ (∃ (port : Nat) (t : Instant) (s : State) (e : Instant), (port < 64) ∧ ((s.lane port).state = .park) ∧ ((s.lane port).exitFrom = some e) ∧ (e + us 10 ≤ t))
    ∧ (∃ (quad : Nat) (pll : Nat) (t : Instant) (s : State) (w : State), (quad < 4) ∧ (pll = 0) ∧ ((s.quad quad).powered = true) ∧ (w = (({ (s.tick t) with lan := ((s.tick t).setQuad quad { s.quad quad with lbLock := false }).lan } : State).count (0x7EC0 + quad)).raise 0x0108 101 [bytesBE 1 quad, bytesBE 1 0] t))
    ∧ (∃ (quad : Nat) (pll : Nat) (s : State), (quad < 4) ∧ (pll = 0) ∧ ((s.quad quad).powered = true))
    ∧ (∃ (quad : Nat) (pll : Nat) (s : State), (quad = 3) ∧ (1 ≤ pll) ∧ (pll < 3) ∧ ((s.quad 3).powered = true) ∧ ((s.hb pll).rate ≠ 0) ∧ ((s.hb pll).slots.getLsbD ((s.hb pll).rate - 1) = true))
    ∧ (∃ (pll : Nat) (t : Instant) (s : State) (w : State), (1 ≤ pll) ∧ (pll < 3) ∧ ((s.hb pll).rate ≠ 0) ∧ ((s.hb pll).lock = false) ∧ (w = ((s.tick t).setHb pll { s.hb pll with slots := (s.hb pll).slots &&& ~~~ BitVec.ofNat 4 (2 ^ ((s.hb pll).rate - 1)) }).startSearch pll (s.hb pll).rate false)) :=
  ⟨⟨0, ms 1, lane { state := .active, rate := 3, cfg := { parkEn := true } }, by decide +kernel, by decide +kernel, by decide +kernel, by decide +kernel, by decide +kernel, by decide +kernel, by decide +kernel, by decide +kernel⟩,
   ⟨0, us 100, lane { state := .active, parkFrom := some 0 }, _, (Option.some_get (by decide +kernel)).symm, by decide +kernel⟩,
   ⟨0, lane { state := .park }, by decide +kernel, by decide +kernel, by decide +kernel⟩,
   ⟨0, us 10, lane { state := .park, exitFrom := some 0 }, _, by decide +kernel, by decide +kernel, (Option.some_get (by decide +kernel)).symm, by decide +kernel⟩,
   ⟨0, _, 0, quad0 { powered := true }, _, by decide +kernel, rfl, by decide +kernel, rfl⟩,
   ⟨0, _, quad0 { powered := true }, by decide +kernel, rfl, by decide +kernel⟩,
   ⟨3, 1, { live with lan := { live.lan with quads := [(3, { powered := true })], hb0 := { rate := 1, slots := 1#4 } } }, by decide +kernel, by decide +kernel, by decide +kernel, by decide +kernel, by decide +kernel, by decide +kernel⟩,
   ⟨1, 0, { live with lan := { live.lan with hb0 := { rate := 1 } } }, _, by decide +kernel, by decide +kernel, by decide +kernel, by decide +kernel, rfl⟩⟩

theorem met_LaneEventsComplete_3 :
    (∃ (pll : Nat) (s : State), (1 ≤ pll) ∧ (pll < 3) ∧ ((s.hb pll).search = some 3))
    ∧ (∃ (quad : Nat) (t : Instant) (s : State) (w : State), (quad < 4) ∧ ((s.quad quad).powered = true) ∧ ((s.quad quad).starting = true) ∧ (w = (State.portsOf quad).foldl (State.startPort t) ((State.portsOf quad).foldl (fun s p => s.startSource (pipeOf p) p t) ((s.tick t).setQuad quad { s.quad quad with lbLock := true, starting := false, jid := none })))) :=
  ⟨⟨1, { live with lan := { live.lan with hb0 := { search := some 3 } } }, by decide +kernel, by decide +kernel, by decide +kernel⟩,
   ⟨0, 0, quad0 { powered := true, starting := true }, _, by decide +kernel, by decide +kernel, by decide +kernel, rfl⟩⟩

theorem met_ModuleEventsComplete_0 :
    (∃ (s : State), (s.lan.io33Low = false))
    ∧ (∃ (port : Nat) (absent : Bool) (s : State), (port < 64) ∧ (s.lan.io33Low = false) ∧ (flag (s.lane port).side 0 = absent) ∧ ((s.lane port).modPresent = absent))
    ∧ (∃ (port : Nat) (ident : Nat) (t : Instant) (s : State), (port < 64) ∧ ((s.lane port).modPresent = true) ∧ ((s.lane port).modReady = false) ∧ ((s.lane port).moduleHeld t = false) ∧ (moduleKind port ident ≠ 3))
    ∧ (∃ (port : Nat) (ident : Nat) (t : Instant) (s : State), (port < 64) ∧ ((s.lane port).modPresent = true) ∧ ((s.lane port).modReady = false) ∧ ((s.lane port).moduleHeld t = false) ∧ (moduleKind port ident = 3))
    ∧ (∃ (bus : Nat) (s : State), (bus < 4) ∧ ((s.bus bus).stuck = false) ∧ (s.lan.io33Low = false))
    ∧ (∃ (bus : Nat) (r : I2cResult) (s : State) (x : I2cReq) (rest : List I2cReq), (bus < 4) ∧ ((s.bus bus).queue = x :: rest) ∧ (r = .stuck))
    ∧ (∃ (bus : Nat) (r : I2cResult) (t : Instant) (s : State) (x : I2cReq) (rest : List I2cReq) (j : Nat) (w : State), (bus < 4) ∧ ((s.bus bus).queue = x :: rest) ∧ (r = .nack) ∧ (x.jid = some j) ∧ (w = ((s.tick t).setBus bus { (s.bus bus) with queue := rest, nack := true }).count (0x7EC8 + 2 * bus)))
    ∧ (∃ (bus : Nat) (r : I2cResult) (s : State) (x : I2cReq) (rest : List I2cReq) (bs : List Byte), (bus < 4) ∧ ((s.bus bus).queue = x :: rest) ∧ (r = .data bs)) :=
  ⟨⟨live, by decide +kernel⟩,
   ⟨0, false, lane { side := 0 }, by decide +kernel, by decide +kernel, by decide +kernel, by decide +kernel⟩,
   ⟨0, 3, 0, lane { modPresent := true }, by decide +kernel, by decide +kernel, by decide +kernel, by decide +kernel, by decide +kernel⟩,
   ⟨0, 0, 0, lane { modPresent := true }, by decide +kernel, by decide +kernel, by decide +kernel, by decide +kernel, by decide +kernel⟩,
   ⟨0, live, by decide +kernel, by decide +kernel, by decide +kernel⟩,
   ⟨0, .stuck, busy [{ jid := none, port := 0, dev := false, page := 0, off := 0, len := 1, write := none }] false false, { jid := none, port := 0, dev := false, page := 0, off := 0, len := 1, write := none }, [], by decide +kernel, by decide +kernel, by decide +kernel⟩,
   ⟨0, _, 0, busy [{ jid := some 1, port := 0, dev := false, page := 0, off := 0, len := 1, write := none }] false false, { jid := some 1, port := 0, dev := false, page := 0, off := 0, len := 1, write := none }, [], _, _, by decide +kernel, by decide +kernel, rfl, (Option.some_get (by decide +kernel)).symm, rfl⟩,
   ⟨0, .data [], busy [{ jid := none, port := 0, dev := false, page := 0, off := 0, len := 1, write := none }] false false, { jid := none, port := 0, dev := false, page := 0, off := 0, len := 1, write := none }, [], [], by decide +kernel, by decide +kernel, by decide +kernel⟩⟩

theorem met_ModuleEventsComplete_1 :
    (∃ (bus : Nat) (freed : Bool) (s : State), (bus < 4) ∧ ((s.bus bus).stuck = true) ∧ (freed = true) ∧ (s.lan.io33Low = false))
    ∧ (∃ (t : Instant) (s : State) (w : State), (s.lan.io33Low = false) ∧ (w = (List.range 4).foldl (fun s q => s.abortBus q t) (s.tick t)))
    ∧ (∃ (t : Instant) (s : State) (w : State), (s.lan.io33Low = true) ∧ (w = (List.range 4).foldl (fun s q => s.setBus q { s.bus q with stuck := false }) (s.tick t)))
    ∧ (∃ (port : Nat) (width : Nat) (height : Nat) (ctle : Nat) (dfe : List Int) (t : Instant) (s : State) (w : State), (port < 64) ∧ ((s.lane port).eqRun = false) ∧ (w = (s.tick t).setLane port { (s.lane port) with eyeValid := true, eyeW := min 1000 width, eyeH := min 1023 height, ctle := ctle % 32, dfe := dfe.take 8, eyeLow := (s.lane port).eyeLow || (s.lane port).eyeIsLow width height }))
    ∧ (∃ (sensor : Nat) (temp : Int) (t : Instant) (s : State) (w : State), (sensor < 8) ∧ (w = (s.tick t).takeTemp sensor temp t))
    ∧ (∃ (port : Nat) (s : State), (port < 64) ∧ ((s.lane port).eqRun = true)) :=
  ⟨⟨0, true, busy [] true false, by decide +kernel, by decide +kernel, by decide +kernel, by decide +kernel⟩,
   ⟨0, live, _, by decide +kernel, rfl⟩,
   ⟨0, busy [] false true, _, by decide +kernel, rfl⟩,
   ⟨0, 0, 0, 0, [], 0, live, _, by decide +kernel, by decide +kernel, rfl⟩,
   ⟨0, 0, 0, live, _, by decide +kernel, rfl⟩,
   ⟨0, lane { eqRun := true }, by decide +kernel, by decide +kernel⟩⟩

theorem met_TimedIoEventsComplete_0 :
    (∃ (pin : Nat) (rising : Bool) (t : Instant) (s : State) (w : State), (pin < 8) ∧ (w = (s.tick t).filterDone pin t) ∧ ((w.pin pin).cfg.mode = 1) ∧ (w.pwr.asleep = none) ∧ ((w.pin pin).edgeClose t = false) ∧ ((w.pin pin).cfg.filter = 0) ∧ (State.edgeSelected (w.pin pin) rising = true))
    ∧ (∃ (pin : Nat) (t : Instant) (s : State) (w : State), (pin < 8) ∧ (w = (s.tick t).filterDone pin t) ∧ ((w.pin pin).cfg.mode = 0) ∧ (w.pwr.asleep = none))
    ∧ (∃ (pin : Nat) (t : Instant) (s : State) (e : Instant) (rising : Bool), (pin < 8) ∧ ((s.pin pin).filtering = some (e, rising)) ∧ (e + ns (s.pin pin).cfg.filter ≤ t) ∧ (State.edgeSelected (s.pin pin) rising = true))
    ∧ (∃ (pin : Nat) (rising : Bool) (s : State), (pin < 8) ∧ ((s.pin pin).cfg.mode = 1) ∧ (s.pwr.asleep.isNone = false) ∧ (State.edgeSelected (s.pin pin) rising = true) ∧ ((s.pin pin).aonLatch = none))
    ∧ (∃ (pin : Nat) (t : Instant) (s : State) (x : EvtPending) (w : State) (d : Nat), (pin < 8) ∧ (State.nextPinCfg (s.pin pin) = some x) ∧ (x.a ≤ t) ∧ ((s.tick t).applyPin pin x.a x.cfg = (w, d)))
    ∧ (∃ (pin : Nat) (t : Instant) (s : State) (e : Instant), (pin < 8) ∧ ((s.pin pin).pulseEnd = some e) ∧ (e ≤ t))
    ∧ (∃ (pin : Nat) (t : Instant) (s : State) (e : Instant) (l : Bool) (rest : List (Instant × Bool)), (pin < 8) ∧ ((s.pin pin).pulseEnd = none) ∧ ((s.pin pin).queue = (e, l) :: rest) ∧ (e ≤ t))
    ∧ (∃ (pin : Nat) (t : Instant) (s : State), (pin < 8) ∧ ((s.pin pin).pulseEnd = none) ∧ ((s.pin pin).queue = []) ∧ (s.pulseRises (s.pin pin) t = true)) :=
  ⟨⟨0, true, 0, pin { cfg := { mode := 1 } }, _, by decide +kernel, rfl, by decide +kernel, by decide +kernel, by decide +kernel, by decide +kernel, by decide +kernel⟩,
   ⟨0, 0, live, _, by decide +kernel, rfl, by decide +kernel, by decide +kernel⟩,
   ⟨0, 0, pin { cfg := { mode := 1 }, filtering := some (0, true) }, 0, true, by decide +kernel, by decide +kernel, by decide +kernel, by decide +kernel⟩,
   ⟨0, true, { pin { cfg := { mode := 1 } } with pwr := { live.pwr with asleep := some 0 } }, by decide +kernel, by decide +kernel, by decide +kernel, by decide +kernel, by decide +kernel⟩,
   ⟨0, 0, pin { next := [{ a := 0, jid := none, cfg := {} }] }, _, _, _, by decide +kernel, (Option.some_get (by decide +kernel)).symm, by decide +kernel, rfl⟩,
   ⟨0, 0, pin { pulseEnd := some 0 }, _, by decide +kernel, (Option.some_get (by decide +kernel)).symm, by decide +kernel⟩,
   ⟨0, 0, pin { queue := [(0, true)] }, 0, true, [], by decide +kernel, by decide +kernel, by decide +kernel, by decide +kernel⟩,
   ⟨0, 0, pin { cfg := { mode := 3, period := sec 1, width := 2 } }, by decide +kernel, by decide +kernel, by decide +kernel, by decide +kernel⟩⟩

theorem met_TimedIoEventsComplete_1 :
    (∃ (t : Instant) (s : State) (w : State), ((s.tio.calValid && !s.tio.calRun) = false) ∧ (w = (s.tick t).takeCalTables t) ∧ (w.calTaken = true))
    ∧ (∃ (chan : Nat) (rising : Bool) (raw : Nat) (s : State), (chan < 4) ∧ (s.mrefOk = true) ∧ ((s.chan chan).cfg.enable = true) ∧ (rising ≠ (s.chan chan).cfg.startFall) ∧ ((s.chan chan).armed = true) ∧ ((s.chan chan).armedAt ≤ raw) ∧ ((s.chan chan).startDead raw = false) ∧ ((s.chan chan).openAt = none))
    ∧ (∃ (chan : Nat) (rising : Bool) (raw : Nat) (s : State) (x : Nat) (d : Instant), (chan < 4) ∧ (s.mrefOk = true) ∧ ((s.chan chan).cfg.enable = true) ∧ ((s.chan chan).cfg.period = false) ∧ (rising ≠ (s.chan chan).cfg.stopFall) ∧ ((s.chan chan).openAt = some (x, d)) ∧ (x < raw) ∧ (raw ≤ x + sec 20))
    ∧ (∃ (chan : Nat) (high : Bool) (s : State), (chan < 4) ∧ ((s.chan chan).cfg.gate ≠ 2) ∧ ((s.chan chan).cfg.enable = true) ∧ (s.tio.off = false) ∧ (State.gateArms { (s.chan chan) with gateOn := high } = true))
    ∧ (∃ (chan : Nat) (high : Bool) (s : State), (chan < 4) ∧ ((s.chan chan).cfg.gate ≠ 2) ∧ ((s.chan chan).cfg.enable = true) ∧ (s.tio.off = false) ∧ (State.gateArms { (s.chan chan) with gateOn := high } = false) ∧ ((s.chan chan).cfg.period = false))
    ∧ (∃ (chan : Nat) (t : Instant) (s : State) (x : Nat) (d : Instant), (chan < 4) ∧ ((s.chan chan).openAt = some (x, d)) ∧ (d + ms 19980 ≤ t))
    ∧ (∃ (s : State), ((s.tio.mrefPresent || s.tio.mrefLock) = true))
    ∧ (∃ (err : Int) (s : State), (s.tio.mrefLock = false) ∧ (err.natAbs ≤ 10000) ∧ (s.tio.off = false)) :=
  ⟨⟨0, live, _, by decide +kernel, rfl, by decide +kernel⟩,
   ⟨0, true, 0, chan { cfg := { enable := true }, armed := true }, by decide +kernel, by decide +kernel, by decide +kernel, by decide +kernel, by decide +kernel, by decide +kernel, by decide +kernel, by decide +kernel⟩,
   ⟨0, true, 1, chan { cfg := { enable := true }, openAt := some (0, 0) }, 0, 0, by decide +kernel, by decide +kernel, by decide +kernel, by decide +kernel, by decide +kernel, by decide +kernel, by decide +kernel, by decide +kernel⟩,
   ⟨0, true, chan { cfg := { enable := true } }, by decide +kernel, by decide +kernel, by decide +kernel, by decide +kernel, by decide +kernel⟩,
   ⟨0, false, chan { cfg := { enable := true } }, by decide +kernel, by decide +kernel, by decide +kernel, by decide +kernel, by decide +kernel, by decide +kernel⟩,
   ⟨0, sec 20, chan { openAt := some (0, 0) }, 0, 0, by decide +kernel, by decide +kernel, by decide +kernel⟩,
   ⟨chan {}, by decide +kernel⟩,
   ⟨0, live, by decide +kernel, by decide +kernel, by decide +kernel⟩⟩

theorem met_ClockOutputEventsComplete_0 :
    (∃ (out : Nat) (band : Nat) (ok : Bool) (s : State) (w : CkoWait × Instant × Option Nat) (x : CkoCfg) (r : Bool), (out < 8) ∧ (band < 64) ∧ (ok = true) ∧ ((s.cko out).waits.find? (fun w => w.1.searching) = some w) ∧ (w.1 = .set x r))
    ∧ (∃ (out : Nat) (t : Instant) (s : State) (w : CkoWait × Instant × Option Nat) (x : CkoCfg) (r : Bool) (y : State), (out < 8) ∧ (State.ckoDue (s.cko out) t CkoWait.isReady = some w) ∧ (w.1 = .set x r) ∧ (y = ((s.tick t).withdrawProfile out t).dropWait out w))
    ∧ (∃ (out : Nat) (cause : Nat) (s : State), (out < 8) ∧ (cause < 2) ∧ ((s.cko out).state = .running) ∧ ((cause = 0 ∨ s.nclk = false)))
    ∧ (∃ (out : Nat) (cause : Nat) (t : Instant) (s : State) (w : CkoWait × Instant × Option Nat), (out < 8) ∧ (cause = 2) ∧ (State.ckoDue (s.cko out) t CkoWait.isForce = some w) ∧ ((s.cko out).state = .running))
    ∧ (∃ (out : Nat) (t : Instant) (s : State) (w : CkoWait × Instant × Option Nat), (out < 8) ∧ (State.ckoDue (s.cko out) t CkoWait.isBack = some w) ∧ (((s.tick t).dropWait out w).mayReturn out = true))
    ∧ (∃ (out : Nat) (t : Instant) (s : State), (out < 8) ∧ (State.ckoDue (s.cko out) t CkoWait.isBack = none) ∧ (s.mayReturn out = true) ∧ ((s.cko out).cfg.auto = true) ∧ ((s.cko out).forced = false) ∧ ((s.cko out).lockSince + ms 100 ≤ t))
    ∧ (∃ (out : Nat) (t : Instant) (s : State) (p : ProfilePend), (out < 8) ∧ ((s.cko out).pend = some p) ∧ (p.s ≤ t))
    ∧ (∃ (out : Nat) (t : Instant) (s : State) (p : Profile), (out < 8) ∧ ((s.cko out).prof = some p) ∧ (p.done < p.segs.length) ∧ (Cko.segEnd p (p.done + 1) ≤ t)) :=
  ⟨⟨0, 0, true, cko { state := .running, waits := [(.set {} false, 0, none)] }, _, {}, false, by decide +kernel, by decide +kernel, by decide +kernel, (Option.some_get (by decide +kernel)).symm, by decide +kernel⟩,
   ⟨0, 0, cko { state := .running, waits := [(.set {} true, 0, none)] }, _, {}, true, _, by decide +kernel, (Option.some_get (by decide +kernel)).symm, by decide +kernel, rfl⟩,
   ⟨0, 0, cko { state := .running }, by decide +kernel, by decide +kernel, by decide +kernel, by decide +kernel⟩,
   ⟨0, 2, 0, cko { state := .running, waits := [(.force, 0, none)] }, _, by decide +kernel, by decide +kernel, (Option.some_get (by decide +kernel)).symm, by decide +kernel⟩,
   ⟨0, 0, cko { state := .bypass, pllLock := true, waits := [(.back, 0, none)] }, _, by decide +kernel, (Option.some_get (by decide +kernel)).symm, by decide +kernel⟩,
   ⟨0, ms 100, cko { state := .bypass, pllLock := true }, by decide +kernel, by decide +kernel, by decide +kernel, by decide +kernel, by decide +kernel, by decide +kernel⟩,
   ⟨0, 0, cko { pend := some { s := 0, jid := none, segs := [] } }, _, by decide +kernel, (Option.some_get (by decide +kernel)).symm, by decide +kernel⟩,
   ⟨0, sec 1, cko { prof := some { start := 0, y0 := 0, segs := [{}], acc := 0 } }, _, by decide +kernel, (Option.some_get (by decide +kernel)).symm, by decide +kernel, by decide +kernel⟩⟩

theorem met_ClockOutputEventsComplete_1 :
    (∃ (out : Nat) (t : Instant) (s : State) (x : Instant), (out < 8) ∧ (s.nclk = true) ∧ ((s.cko out).state = .locking) ∧ ((s.cko out).relock = some x) ∧ ((s.cko out).relocksAt x t = true))
    ∧ (∃ (out : Nat) (t : Instant) (s : State) (w : CkoWait × Instant × Option Nat) (x : CkoCfg) (y : State), (out < 8) ∧ (State.ckoDue (s.cko out) t CkoWait.isDisable = some w) ∧ (w.1 = .disable x) ∧ (y = ((s.tick t).withdrawProfile out t).dropWait out w)) :=
  ⟨⟨0, ms 5, cko { state := .locking, relock := some 0 }, _, by decide +kernel, by decide +kernel, by decide +kernel, (Option.some_get (by decide +kernel)).symm, by decide +kernel⟩,
   ⟨0, 0, cko { state := .running, waits := [(.disable {}, 0, none)] }, _, {}, _, by decide +kernel, (Option.some_get (by decide +kernel)).symm, by decide +kernel, rfl⟩⟩

theorem met_SemaphoreEventsComplete_0 :
    (∃ (h : HostPort) (s : State), (s.hostOff h.pf0 = false) ∧ (s.host.sem.owner = .free))
    ∧ (∃ (h : HostPort) (t : Instant) (s : State) (g : HostPort), (s.hostOff h.pf0 = false) ∧ (s.semHolder = some g) ∧ (g ≠ h) ∧ (t < s.host.sem.expiry))
    ∧ (∃ (h : HostPort) (t : Instant) (s : State), (s.hostOff h.pf0 = false) ∧ (s.semHolder = some h) ∧ (t < s.host.sem.expiry + us 1))
    ∧ (∃ (h : HostPort) (s : State), (s.hostOff h.pf0 = true))
    ∧ (∃ (h : HostPort) (t : Instant) (s : State), (s.semHolder = some h) ∧ (t < s.host.sem.expiry + us 1))
    ∧ (∃ (h : HostPort) (t : Instant) (s : State), (s.semHolder = some h) ∧ (t < s.host.sem.expiry))
    ∧ (∃ (h : HostPort) (t : Instant) (s : State), (s.semHolder = some h) ∧ (t < s.host.sem.expiry))
    ∧ (∃ (t : Instant) (s : State), (s.semHolder ≠ none) ∧ (s.host.sem.expiry ≤ t)) :=
  ⟨⟨.h0, { live with host := { live.host with sem := {} } }, by decide +kernel, by decide +kernel⟩,
   ⟨.h1, 0, live, .h0, by decide +kernel, by decide +kernel, by decide +kernel, by decide +kernel⟩,
   ⟨.h0, 0, live, by decide +kernel, by decide +kernel, by decide +kernel⟩,
   ⟨.h1, power fun p => { p with hostcfg := true }, by decide +kernel⟩,
   ⟨_, 0, live, (Option.some_get (by decide +kernel)).symm, by decide +kernel⟩,
   ⟨_, 0, live, (Option.some_get (by decide +kernel)).symm, by decide +kernel⟩,
   ⟨_, 0, live, (Option.some_get (by decide +kernel)).symm, by decide +kernel⟩,
   ⟨sec 100, live, by decide +kernel, by decide +kernel⟩⟩

theorem met_SemaphoreEventsComplete_1 :
    (∃ (h : HostPort) (value : Nat) (s : State), (s.semHolder = some h) ∧ (50 ≤ value) ∧ (value ≤ 800))
    ∧ (∃ (h : HostPort) (value : Nat) (s : State), (s.semHolder = some h) ∧ (20 ≤ value) ∧ (value ≤ 10000)) :=
  ⟨⟨_, 50, live, (Option.some_get (by decide +kernel)).symm, by decide +kernel, by decide +kernel⟩,
   ⟨_, 20, live, (Option.some_get (by decide +kernel)).symm, by decide +kernel, by decide +kernel⟩⟩

theorem met_MailboxEventsComplete_0 :
    (∃ (fn : Sender) (t : Instant) (s : State) (g : HostPort) (w : State) (m : MboxRegs), (w = ((s.tick t).wakeSource 13).semRenew g t) ∧ (m = w.mbox fn (if fn.pf1 then 1 else 0)) ∧ (fn.host = some g) ∧ (fn.core = none) ∧ (fn.code < 4) ∧ (s.hostOff fn = false) ∧ (w.holds fn = true) ∧ ((w.fn fn).enable = true) ∧ (w.slotOf (if fn.pf1 then 1 else 0) = none))
    ∧ (∃ (fn : Sender) (t : Instant) (s : State) (g : HostPort) (w : State) (m : MboxRegs), (w = ((s.tick t).wakeSource 13).semRenew g t) ∧ (m = w.mbox fn (2 + fn.code)) ∧ (fn.host = some g) ∧ (fn.core = none) ∧ (fn.code < 4) ∧ (s.hostOff fn = false) ∧ ((w.fn fn).enable = true) ∧ (w.slotOf (2 + fn.code) = none))
    ∧ (∃ (core : AppCore) (t : Instant) (s : State), (((s.tick t).ac core).status = .running) ∧ (((s.tick t).ac core).permits.getLsbD 5 = true) ∧ (((s.tick t).fn core.sender).enable = true) ∧ ((s.tick t).slotOf (2 + core.sender.code) = none))
    ∧ (∃ (slot : Nat) (t : Instant) (s : State) (n : Notice), ((s.tick t).slotOf slot = some n) ∧ (n.until_ ≤ t))
    ∧ (∃ (fn : Sender) (t : Instant) (s : State) (last : Instant), (Tbl.find s.host.batch fn.code = some last) ∧ (last + ms 10 ≤ t))
    ∧ (∃ (t : Instant) (s : State) (j : Nat) (f : Finish), ((s.tick t).nextFinished t = some (j, f)))
    ∧ (∃ (fn : Sender) (s : State), (s.hostOff fn = false))
    ∧ (∃ (fn : Sender) (log2 : Nat) (t : Instant) (s : State), (s.hostOff fn = false) ∧ (((s.tick t).fn fn).enable = false) ∧ (4 ≤ log2) ∧ (log2 ≤ (if fn.code < 4 then 12 else 8))) :=
  ⟨⟨.h0pf1, 0, { live with host := { live.host with fns := [(1, { enable := true })] } }, .h0, _, _, rfl, rfl, by decide +kernel, by decide +kernel, by decide +kernel, by decide +kernel, by decide +kernel, by decide +kernel, by decide +kernel⟩,
   ⟨.h0pf1, 0, { live with host := { live.host with fns := [(1, { enable := true })] } }, .h0, _, _, rfl, rfl, by decide +kernel, by decide +kernel, by decide +kernel, by decide +kernel, by decide +kernel, by decide +kernel⟩,
   ⟨.ac0, 0, { core { status := .running } with host := { live.host with fns := [(4, { enable := true })] } }, by decide +kernel, by decide +kernel, by decide +kernel, by decide +kernel⟩,
   ⟨0, 0, { live with host := { live.host with slots := [(0, some { sender := .h0pf0, buf := {}, tag := 0, t := 0, until_ := 0 })] } }, _, (Option.some_get (by decide +kernel)).symm, by decide +kernel⟩,
   ⟨.h0pf0, ms 10, { live with host := { live.host with batch := [(0, 0)] } }, _, (Option.some_get (by decide +kernel)).symm, by decide +kernel⟩,
   ⟨0, { live with host := { live.host with journal := [(1, { opcode := 0, epoch := 0, state := .committed, req := {}, finish := some { t := 0, status := 0, words := [] } })] } }, _, _, some_pair (by decide +kernel)⟩,
   ⟨.h0pf0, live, by decide +kernel⟩,
   ⟨.h0pf0, 4, 0, live, by decide +kernel, by decide +kernel, by decide +kernel, by decide +kernel⟩⟩

theorem met_MailboxEventsComplete_1 :
    (∃ (fn : Sender) (t : Instant) (s : State), (((s.tick t).fn fn).enable = true) ∧ ((s.tick t).openOf fn = 0))
    ∧ (∃ (fn : Sender) (t : Instant) (s : State), (((s.tick t).fn fn).enable = true) ∧ ((s.tick t).openOf fn ≠ 0))
    ∧ (∃ (fn : Sender) (s : State), (fn.code < 4) ∧ (s.hostOff fn = false))
    ∧ (∃ (fn : Sender) (s : State), (fn.code < 4) ∧ (s.hostOff fn = false))
    ∧ (∃ (fn : Sender) (s : State), (s.hostOff fn = true))
    ∧ (∃ (fn : Sender) (s : State), (s.hostOff fn = true))
    ∧ (∃ (fn : Sender) (s : State), (s.hostOff fn = true))
    ∧ (∃ (fn : Sender) (s : State), (s.hostOff fn = true)) :=
  ⟨⟨.h0pf0, 0, { live with host := { live.host with fns := [(0, { enable := true })] } }, by decide +kernel, by decide +kernel⟩,
   ⟨.h0pf0, 0, { live with host := { live.host with fns := [(0, { enable := true })], journal := [(1, { opcode := 0, epoch := 0, state := .taken, req := {} })] } }, by decide +kernel, by decide +kernel⟩,
   ⟨.h0pf0, live, by decide +kernel, by decide +kernel⟩,
   ⟨.h0pf0, live, by decide +kernel, by decide +kernel⟩,
   ⟨.h1pf0, power fun p => { p with hostcfg := true }, by decide +kernel⟩,
   ⟨.h1pf0, power fun p => { p with hostcfg := true }, by decide +kernel⟩,
   ⟨.h1pf0, power fun p => { p with hostcfg := true }, by decide +kernel⟩,
   ⟨.h1pf0, power fun p => { p with hostcfg := true }, by decide +kernel⟩⟩

theorem met_MailboxEventsComplete_2 :
    (∃ (fn : Sender) (s : State), (s.hostOff fn = true))
    ∧ (∃ (fn : Sender) (s : State), (s.hostOff fn = true))
    ∧ (∃ (fn : Sender), (fn.code < 4))
    ∧ (∃ (h : HostPort) (t : Instant) (s : State) (w : State), (((s.tick t).hostRegs h).perst = false) ∧ (w = ((((((s.tick t).dropUncommitted h.pf0).dropUncommitted h.pf1).semRelease h 0x04#5 t).fnReset h.pf0).fnReset h.pf1)))
    ∧ (∃ (h : HostPort) (t : Instant) (s : State), (((s.tick t).hostRegs h).perst = true)) :=
  ⟨⟨.h1pf0, power fun p => { p with hostcfg := true }, by decide +kernel⟩,
   ⟨.h1pf0, power fun p => { p with hostcfg := true }, by decide +kernel⟩,
   ⟨.h0pf0, by decide +kernel⟩,
   ⟨.h0, 0, live, _, by decide +kernel, rfl⟩,
   ⟨.h0, 0, { live with host := { live.host with h0 := { perst := true } } }, by decide +kernel⟩⟩

theorem met_CoreEventsComplete_0 :
    (∃ (core : AppCore) (t : Instant) (s : State), ((s.ac core).status = .running) ∧ (0 < (s.ac core).wdog) ∧ ((s.ac core).lastKick + us (s.ac core).wdog ≤ t))
    ∧ (∃ (core : AppCore) (cause : Nat) (s : State), ((s.ac core).status = .running) ∧ ((cause = 2 ∨ cause = 3)))
    ∧ (∃ (core : AppCore) (s : State), ((s.ac core).status = .running))
    ∧ (∃ (target : Target) (n : Nat) (t : Instant) (s : State) (x : EvcTimer), (n = 0) ∧ (State.fireTimer (s.target target).timer0 t = some x))
    ∧ (∃ (target : Target) (n : Nat) (t : Instant) (s : State) (x : EvcTimer), (n = 1) ∧ (State.fireTimer (s.target target).timer1 t = some x))
    ∧ (∃ (target : Target) (value : Nat) (t : Instant) (s : State) (x : EvcTimer) (y : EvcTimer), (State.enableTimer (s.target target).timer0 (flag value 0) t = (x, false)) ∧ (State.enableTimer (s.target target).timer1 (flag value 1) t = (y, false)))
    ∧ (∃ (target : Target) (value : Nat) (t : Instant) (s : State) (x : EvcTimer) (y : EvcTimer), (State.enableTimer (s.target target).timer0 (flag value 0) t = (x, true)) ∧ (State.enableTimer (s.target target).timer1 (flag value 1) t = (y, true)))
    ∧ (∃ (core : AppCore) (toH0 : Bool) (toH1 : Bool) (s : State), ((s.ac core).status = .running) ∧ (toH0 = true) ∧ (toH1 = true)) :=
  ⟨⟨.ac0, us 10, core { status := .running, wdog := 10, mie := true }, by decide +kernel, by decide +kernel, by decide +kernel⟩,
   ⟨.ac0, 2, core { status := .running, wdog := 10, mie := true }, by decide +kernel, by decide +kernel⟩,
   ⟨.ac0, core { status := .running, wdog := 10, mie := true }, by decide +kernel⟩,
   ⟨.h0, _, 0, targ { timer0 := { next := some 0 } }, _, rfl, (Option.some_get (by decide +kernel)).symm⟩,
   ⟨.h0, 1, 0, targ { timer1 := { next := some 0 } }, _, by decide +kernel, (Option.some_get (by decide +kernel)).symm⟩,
   ⟨.h0, 0, 0, live, {}, {}, by decide +kernel, by decide +kernel⟩,
   ⟨.h0, 3, 1, live, { enable := true }, { enable := true }, by decide +kernel, by decide +kernel⟩,
   ⟨.ac0, true, true, core { status := .running, wdog := 10, mie := true }, by decide +kernel, by decide +kernel, by decide +kernel⟩⟩

theorem met_CoreEventsComplete_1 :
    (∃ (core : AppCore) (toH0 : Bool) (toH1 : Bool) (s : State), ((s.ac core).status = .running) ∧ (toH0 = true) ∧ (toH1 = false))
    ∧ (∃ (core : AppCore) (s : State), ((s.ac core).status = .running))
    ∧ (∃ (h : HostPort) (ac0 : Bool) (ac1 : Bool) (s : State), (s.hostOff h.pf0 = false) ∧ (ac0 = true) ∧ (ac1 = true))
    ∧ (∃ (h : HostPort) (ac0 : Bool) (ac1 : Bool) (s : State), (s.hostOff h.pf0 = false) ∧ (ac0 = false) ∧ (ac1 = true))
    ∧ (∃ (ac0 : Bool) (ac1 : Bool), (ac0 = true) ∧ (ac1 = false))
    ∧ (∃ (ac0 : Bool) (ac1 : Bool), (ac0 = true) ∧ (ac1 = true))
    ∧ (∃ (core : AppCore) (t : Instant) (s : State) (j : Nat) (r : Req) (key : List Byte) (w : State) (h : List Byte), ((s.ac core).starting = some (j, r)) ∧ (activeKey s.pwr.otp.apps = some key) ∧ (w = (s.tick t).setAc core { s.ac core with starting := none }) ∧ (h = (s.tick t).imageHash core r) ∧ (ecdsaOk key h (sigNat r 8) (sigNat r 20) = true))
    ∧ (∃ (core : AppCore) (s : State) (j : Nat) (r : Req), ((s.ac core).starting = some (j, r)) ∧ (activeKey s.pwr.otp.apps = none)) :=
  ⟨⟨.ac0, true, _, core { status := .running, wdog := 10, mie := true }, by decide +kernel, by decide +kernel, rfl⟩,
   ⟨.ac0, core { status := .running, wdog := 10, mie := true }, by decide +kernel⟩,
   ⟨.h0, true, true, live, by decide +kernel, by decide +kernel, by decide +kernel⟩,
   ⟨.h0, _, true, live, by decide +kernel, rfl, by decide +kernel⟩,
   ⟨true, _, by decide +kernel, rfl⟩,
   ⟨true, true, by decide +kernel, by decide +kernel⟩,
   ⟨.ac0, 0, { verifying with cores := { live.cores with ac0 := { starting := some (1, acStart) } } }, 1, acStart, _, _, _, by decide +kernel, (Option.some_get (by decide +kernel)).symm, rfl, rfl, by decide +kernel⟩,
   ⟨.ac0, core { starting := some (1, {}) }, 1, {}, by decide +kernel, by decide +kernel⟩⟩

theorem met_EventAndPalletEventsComplete_0 :
    (∃ (source : Nat), (source < 160))
    ∧ (∃ (target : Target) (t : Instant) (s : State) (src : Nat) (w : State), ((s.tick t).bestClaim target = some src) ∧ (w = (s.tick t).claimSource target src))
    ∧ (∃ (target : Target) (t : Instant) (s : State) (w : State), ((s.tick t).bestClaim target = none) ∧ (w = (s.tick t).count (0x7EF0 + 2 * target.code + 1)))
    ∧ (∃ (target : Target) (source : Nat) (t : Instant) (s : State) (w : State), (source < 176) ∧ ((s.target target).inServ.getLsbD source = true) ∧ (w = (s.tick t).setTarget target { (s.target target) with inServ := (s.target target).inServ &&& ~~~ BitVec.ofNat 176 (2 ^ source) }) ∧ (target.host = none) ∧ ((160 ≤ source ∨ (s.effTarget (s.route source).target) = target)))
    ∧ (∃ (target : Target) (source : Nat) (t : Instant) (s : State) (h : HostPort) (w : State) (x : State), (source < 176) ∧ ((s.target target).inServ.getLsbD source = true) ∧ (w = (s.tick t).setTarget target { (s.target target) with inServ := (s.target target).inServ &&& ~~~ BitVec.ofNat 176 (2 ^ source) }) ∧ (target.host = some h) ∧ (x = (if 0 < w.claimCount target then w.ringDbBoth h 16 else w)) ∧ ((160 ≤ source ∨ (s.effTarget (s.route source).target) = target)))
    ∧ (∃ (target : Target) (source : Nat) (t : Instant) (s : State) (w : State), (source < 176) ∧ ((s.target target).inServ.getLsbD source = true) ∧ (w = (s.tick t).setTarget target { (s.target target) with inServ := (s.target target).inServ &&& ~~~ BitVec.ofNat 176 (2 ^ source) }) ∧ (target.host = none) ∧ (source < 160) ∧ ((s.effTarget (s.route source).target) ≠ target))
    ∧ (∃ (n : Nat), (n < 32))
    ∧ (∃ (core : AppCore) (t : Instant) (s : State) (src : Nat), ((s.ac core).status = .running) ∧ ((s.ac core).mie = true) ∧ ((s.tick t).deliverable core.target = some src)) :=
  ⟨⟨0, by decide +kernel⟩,
   ⟨.h0, 0, { live with cores := { live.cores with pendSh := 1#160, routes := [(0, { prio := 1, target := .h0 })], ac0 := { status := .running, mie := true, depth := 1 } } }, _, _, (Option.some_get (by decide +kernel)).symm, rfl⟩,
   ⟨.h0, 0, live, _, by decide +kernel, rfl⟩,
   ⟨.ac0, 0, 0, { live with cores := { live.cores with routes := [(0, { target := .ac0 })], targets := [(4, { inServ := 1#176 })], ac0 := { status := .running } } }, _, by decide +kernel, by decide +kernel, rfl, by decide +kernel, by decide +kernel⟩,
   ⟨.h0, 0, 0, { live with cores := { live.cores with routes := [(0, { target := .h0 })], targets := [(0, { inServ := 1#176 })], ac0 := { status := .running } } }, .h0, _, _, by decide +kernel, by decide +kernel, rfl, by decide +kernel, rfl, by decide +kernel⟩,
   ⟨.ac0, 0, 0, { live with cores := { live.cores with routes := [(0, { target := .h0 })], targets := [(4, { inServ := 1#176 })], ac0 := { status := .running } } }, _, by decide +kernel, by decide +kernel, rfl, by decide +kernel, by decide +kernel, by decide +kernel⟩,
   ⟨0, by decide +kernel⟩,
   ⟨.ac0, 0, { live with cores := { live.cores with pendSh := 1#160, routes := [(0, { prio := 1, target := .ac0 })], ac0 := { status := .running, mie := true, depth := 1 } } }, _, by decide +kernel, by decide +kernel, (Option.some_get (by decide +kernel)).symm⟩⟩

theorem met_EventAndPalletEventsComplete_1 :
    (∃ (core : AppCore) (t : Instant) (s : State), ((s.ac core).status = .running) ∧ (0 < (s.ac core).depth) ∧ ((s.tick t).deliverable core.target = none))
    ∧ (∃ (core : AppCore) (t : Instant) (s : State) (src : Nat), ((s.ac core).status = .running) ∧ (0 < (s.ac core).depth) ∧ ((s.tick t).deliverable core.target = some src))
    ∧ (∃ (pallet : Nat) (s : State), (pallet < 3) ∧ (s.snapBusy = false))
    ∧ (∃ (pallet : Nat) (s : State), (pallet < 3) ∧ (s.snapBusy = true))
    ∧ (∃ (t : Instant) (s : State) (w : State) (x : Snapshot), (w = (s.tick t).periodicDue t) ∧ (w.snapsDue t = [x]) ∧ (w.snapBusy = false))
    ∧ (∃ (t : Instant) (s : State) (w : State), (w = (s.tick t).periodicDue t))
    ∧ (∃ (s : State) (x : Snapshot), (s.cores.snaps.find? (·.begun) = some x)) :=
  ⟨⟨.ac0, 0, core { status := .running, wdog := 10, mie := true, depth := 1 }, by decide +kernel, by decide +kernel, by decide +kernel⟩,
   ⟨.ac0, 0, { live with cores := { live.cores with pendSh := 1#160, routes := [(0, { prio := 1, target := .ac0 })], ac0 := { status := .running, mie := true, depth := 1 } } }, _, by decide +kernel, by decide +kernel, (Option.some_get (by decide +kernel)).symm⟩,
   ⟨0, live, by decide +kernel, by decide +kernel⟩,
   ⟨0, { live with cores := { live.cores with snaps := [{ t := 0, pallet := 0, begun := true }] } }, by decide +kernel, by decide +kernel⟩,
   ⟨0, { live with cores := { live.cores with snaps := [{ t := 0, pallet := 0, begun := false }] } }, _, { t := 0, pallet := 0, begun := false }, rfl, by decide +kernel, by decide +kernel⟩,
   ⟨0, live, _, rfl⟩,
   ⟨{ live with cores := { live.cores with snaps := [{ t := 0, pallet := 0, begun := true }] } }, _, (Option.some_get (by decide +kernel)).symm⟩⟩

theorem met_PowerAndBootEventsComplete_0 :
    (∃ (cause : Nat), ((cause = 1 ∨ cause = 2)))
    ∧ (∃ (cause : Nat) (t : Instant) (s : State) (w : PowerWait × Instant × Nat), (cause = 6) ∧ ((s.tick t).resetDue true t = some w))
    ∧ (∃ (cause : Nat), ((cause = 3 ∨ cause = 4)))
    ∧ (∃ (cause : Nat) (t : Instant) (s : State) (w : PowerWait × Instant × Nat), (cause = 5) ∧ ((s.tick t).resetDue false t = some w))
    ∧ (∃ (cause : Nat), (cause = 7))
    ∧ (∃ (t : Instant) (s : State), (s.pwr.inReset = true) ∧ (s.pwr.hold ≤ t))
    ∧ (∃ (src : ImageSource) (readable : Bool) (t : Instant) (s : State) (b : Bool) (trial : Bool), ((s.tick t).nextSlot = some (b, trial)) ∧ ((s.tick t).booting = true) ∧ (src = (if b then ImageSource.slotB else .slotA)) ∧ ((s.tick t).imageCode ((s.tick t).slotRead b) readable = 0))
    ∧ (∃ (src : ImageSource) (readable : Bool) (t : Instant) (s : State) (b : Bool) (trial : Bool) (c : Nat) (w : State), ((s.tick t).nextSlot = some (b, trial)) ∧ ((s.tick t).booting = true) ∧ (src = (if b then ImageSource.slotB else .slotA)) ∧ (c = (s.tick t).imageCode ((s.tick t).slotRead b) readable) ∧ (c ≠ 0) ∧ (w = (s.tick t).slotReason b c)) :=
  ⟨⟨1, by decide +kernel⟩,
   ⟨6, 0, power fun p => { p with waits := [(.reset true, 0, 1)] }, _, by decide +kernel, (Option.some_get (by decide +kernel)).symm⟩,
   ⟨3, by decide +kernel⟩,
   ⟨5, 0, power fun p => { p with waits := [(.reset false, 0, 1)] }, _, by decide +kernel, (Option.some_get (by decide +kernel)).symm⟩,
   ⟨7, by decide +kernel⟩,
   ⟨0, power fun p => { p with inReset := true }, by decide +kernel, by decide +kernel⟩,
   ⟨.slotA, true, 0, boot id, _, _, some_pair (by decide +kernel), by decide +kernel, by decide +kernel, image_in_slot rfl rfl⟩,
   ⟨_, false, 0, live, false, false, _, _, by decide +kernel, by decide +kernel, rfl, rfl, by decide +kernel, rfl⟩⟩

theorem met_PowerAndBootEventsComplete_1 :
    (∃ (h : HostPort) (image : List Byte) (t : Instant) (s : State), (s.pwr.stage = 8) ∧ (s.pwr.recovSt = 2) ∧ ((h = .h0 ∨ s.pwr.hostcfg = false)) ∧ ((s.tick t).hostImageCode image = 0))
    ∧ (∃ (h : HostPort) (image : List Byte) (t : Instant) (s : State) (c : Nat), (s.pwr.stage = 8) ∧ (s.pwr.recovSt = 2) ∧ (h = .h0) ∧ ((s.tick t).hostImageCode image = c) ∧ (c ≠ 0))
    ∧ (∃ (s : State), (s.pwr.image ≠ 0) ∧ (s.pwr.stage = 4) ∧ (s.started = true) ∧ (s.pwr.inReset = false))
    ∧ (∃ (t : Instant) (s : State) (f : Instant), (s.pwr.fwdAt = some f) ∧ (f ≤ t) ∧ (s.fab.forwarding = false) ∧ (s.pwr.asleep = none))
    ∧ (∃ (t : Instant) (s : State) (b : Instant), (s.pwr.asleep = some b) ∧ (0 < s.pwr.wakeAfter) ∧ (b + (s.tick t).aonLeast (ms s.pwr.wakeAfter) ≤ t))
    ∧ (∃ (wakeN : Bool) (s : State), (wakeN = false) ∧ (s.pwr.asleep ≠ none) ∧ (s.pwr.wakePend = true))
    ∧ (∃ (wakeN : Bool) (t : Instant) (s : State) (w : State), (wakeN = true) ∧ (w = (s.tick t).wakeSource 9) ∧ (w.pwr.asleep ≠ none) ∧ (w.pwr.wakePend = true))
    ∧ (∃ (t : Instant) (s : State) (app : Bool) (k : List Byte) (j : Nat) (w : State), (s.pwr.otpWrite = some (.enrol app k, j)) ∧ (w = { (s.tick t) with pwr := { s.pwr with otp := s.pwr.otp.apply (.enrol app k), otpWrite := none } })) :=
  ⟨⟨.h0, image, 0, boot fun p => { p with stage := 8, recovSt := 2, recovLen := 340 }, by decide +kernel, by decide +kernel, by decide +kernel, image_from_host rfl rfl⟩,
   ⟨_, [], 0, power fun p => { p with stage := 8, recovSt := 2 }, 1, by decide +kernel, by decide +kernel, rfl, by decide +kernel, by decide +kernel⟩,
   ⟨{ bond { holder := some .a, ka := { cond := .run }, kb := { cond := .run } } with pwr := { live.pwr with image := 1, stage := 4 } }, by decide +kernel, by decide +kernel, by decide +kernel, by decide +kernel⟩,
   ⟨0, { live with fab := { live.fab with forwarding := false }, pwr := { live.pwr with fwdAt := some 0 } }, _, (Option.some_get (by decide +kernel)).symm, by decide +kernel, by decide +kernel, by decide +kernel⟩,
   ⟨ms 2, power fun p => { p with asleep := some 0, wakeAfter := 1 }, _, (Option.some_get (by decide +kernel)).symm, by decide +kernel, by decide +kernel⟩,
   ⟨_, power fun p => { p with asleep := some 0, wakePend := true }, rfl, by decide +kernel, by decide +kernel⟩,
   ⟨true, 0, power fun p => { p with asleep := some 0, wakePend := true }, _, by decide +kernel, rfl, by decide +kernel, by decide +kernel⟩,
   ⟨0, power fun p => { p with otpWrite := some (.enrol false [], 1) }, false, [], 1, _, by decide +kernel, rfl⟩⟩

theorem met_PowerAndBootEventsComplete_2 :
    (∃ (s : State) (n : Nat) (j : Nat), (s.pwr.otpWrite = some (.floor n, j)))
    ∧ (∃ (t : Instant) (s : State) (u : FwUpdate) (j : Nat) (w : State), (s.pwr.update = some u) ∧ (u.erasing = some j) ∧ (w = (s.tick t).setSlot u.slotB []))
    ∧ (∃ (t : Instant) (s : State) (u : FwUpdate) (w : State), (s.pwr.update = some u) ∧ (u.last + sec 600 ≤ t) ∧ (u.erasing = none) ∧ (w = (s.tick t).setSlot u.slotB [])) :=
  ⟨⟨power fun p => { p with otpWrite := some (.floor 0, 1) }, 0, 1, by decide +kernel⟩,
   ⟨0, power fun p => { p with update := some { slotB := false, length := 4, last := 0, erasing := some 1 } }, _, 1, _, (Option.some_get (by decide +kernel)).symm, by decide +kernel, rfl⟩,
   ⟨sec 600, power fun p => { p with update := some { slotB := false, length := 4, last := 0 } }, _, _, (Option.some_get (by decide +kernel)).symm, by decide +kernel, by decide +kernel, rfl⟩⟩

theorem met_RegisterAndNoticeEventsComplete :
    (∃ (fn : Sender) (w : BarWrite) (s : State) (off : Nat) (value : Word) (en : BitVec 4), (fn.code < 4) ∧ (s.hostOff fn = false) ∧ (w = .bar0 off value en) ∧ (off % 4 = 0) ∧ (en ≠ 0))
    ∧ (∃ (fn : Sender) (w : BarWrite) (s : State) (off : Nat), (fn.code < 4) ∧ (s.hostOff fn = false) ∧ (w = .bar0Long off))
    ∧ (∃ (fn : Sender) (w : BarWrite) (s : State) (off : Nat) (bytes : List Byte), (fn.code < 4) ∧ (s.hostOff fn = false) ∧ (w = .bar2 off bytes))
    ∧ (∃ (fn : Sender) (w : BarWrite) (s : State) (addr : Nat) (value : Word) (c : AppCore), (w = .core addr value) ∧ (fn.core = some c) ∧ ((s.ac c).status = .running))
    ∧ (∃ (fn : Sender) (off : Nat) (len : Nat) (t : Instant) (s : State) (r : List Word × State), (fn.code < 4) ∧ (s.hostOff fn = false) ∧ (off % 4 = 0) ∧ (0 < len) ∧ (len ≤ 128) ∧ (r = State.readDwords fn t ((len + 3) / 4) off len (s.tick t)))
    ∧ (∃ (t : Instant) (s : State) (slot : Nat) (n : Notice), (s.host.ready = true) ∧ ((s.tick t).nextNotice = some (slot, n)) ∧ (t ≤ n.until_))
    ∧ (∃ (t : Instant) (s : State) (slot : Nat) (n : Notice), (s.host.ready = true) ∧ ((s.tick t).nextNotice = some (slot, n)) ∧ (n.until_ < t)) :=
  ⟨⟨.h0pf0, .bar0 0 0#32 15#4, live, 0, 0#32, 15#4, by decide +kernel, by decide +kernel, by decide +kernel, by decide +kernel, by decide +kernel⟩,
   ⟨.h0pf0, _, live, 0, by decide +kernel, by decide +kernel, rfl⟩,
   ⟨.h0pf0, .bar2 0 [], live, 0, [], by decide +kernel, by decide +kernel, by decide +kernel⟩,
   ⟨.ac0, .core 0 0#32, core { status := .running, wdog := 10, mie := true }, 0, 0#32, .ac0, by decide +kernel, by decide +kernel, by decide +kernel⟩,
   ⟨.h0pf0, 0, 4, 0, live, _, by decide +kernel, by decide +kernel, by decide +kernel, by decide +kernel, by decide +kernel, rfl⟩,
   ⟨0, { live with host := { live.host with slots := [(0, some { sender := .h0pf0, buf := {}, tag := 0, t := 0, until_ := 0 })] } }, _, _, by decide +kernel, some_pair (by decide +kernel), by decide +kernel⟩,
   ⟨1, { live with host := { live.host with slots := [(0, some { sender := .h0pf0, buf := {}, tag := 0, t := 0, until_ := 0 })] } }, _, _, by decide +kernel, some_pair (by decide +kernel), by decide +kernel⟩⟩

theorem met_FirmwareUpdateCommandsComplete_0 :
    (∃ (r : Req) (s : State), (accepted opFwUpdateBegin r s = true) ∧ (okFwUpdateBegin r = true) ∧ ((taken opFwUpdateBegin r s).runsSlot (r.b 4 0) = false) ∧ (s.pwr.update = none))
    ∧ (∃ (r : Req) (s : State) (u : FwUpdate), (accepted opFwUpdateData r s = true) ∧ (s.pwr.update = some u) ∧ (u.erasing = none) ∧ (r.only 4 0x7FFFFF = true) ∧ (r.f 4 0 23 % 4 = 0) ∧ (r.f 4 0 23 = u.written) ∧ (r.f 4 0 23 + 4 * (r.pw - 1) ≤ (u.length + 3) / 4 * 4)) :=
  ⟨⟨pk [0, 0], live, by decide +kernel, by decide +kernel, by decide +kernel, by decide +kernel⟩,
   ⟨pk [0, 0], power fun p => { p with update := some { slotB := false, length := 4, last := 0 } }, _, by decide +kernel, (Option.some_get (by decide +kernel)).symm, by decide +kernel, by decide +kernel, by decide +kernel, by decide +kernel, by decide +kernel⟩⟩

theorem met_FirmwareUpdateCommandsComplete_1 :
    (∃ (r : Req) (s : State), (accepted opFwUpdateCommit r s = true) ∧ ((r.f 4 0 2 == 3 && s.pwr.trial) = false) ∧ (r.only 4 0x103 = true) ∧ ((taken opFwUpdateCommit r s).imageCode ((taken opFwUpdateCommit r s).slotRead (r.b 4 8)) true = 0) ∧ (r.f 4 0 2 = 0))
    ∧ (∃ (r : Req) (s : State), (accepted opFwUpdateCommit r s = true) ∧ ((r.f 4 0 2 == 3 && s.pwr.trial) = false) ∧ (r.only 4 0x103 = true) ∧ ((taken opFwUpdateCommit r s).imageCode ((taken opFwUpdateCommit r s).slotRead (r.b 4 8)) true = 0) ∧ (r.f 4 0 2 = 1)) :=
  ⟨⟨pk [0], boot id, by decide +kernel, by decide +kernel, by decide +kernel, image_in_slot (congrArg Power.otp (taken_pwr ..)) (congrArg (fun p => p.flash.slotA) (taken_pwr ..)), by decide +kernel⟩,
   ⟨pk [1], boot id, by decide +kernel, by decide +kernel, by decide +kernel, image_in_slot (congrArg Power.otp (taken_pwr ..)) (congrArg (fun p => p.flash.slotA) (taken_pwr ..)), by decide +kernel⟩⟩

theorem met_FirmwareUpdateCommandsComplete_2 :
    (∃ (r : Req) (s : State), (accepted opFwUpdateCommit r s = true) ∧ ((r.f 4 0 2 == 3 && s.pwr.trial) = false) ∧ (r.only 4 0x103 = true) ∧ ((taken opFwUpdateCommit r s).imageCode ((taken opFwUpdateCommit r s).slotRead (r.b 4 8)) true = 0) ∧ (r.f 4 0 2 = 2))
    ∧ (∃ (r : Req) (s : State), (accepted opFwUpdateCommit r s = true) ∧ (s.pwr.trial = false) ∧ (r.only 4 0x103 = true) ∧ ((taken opFwUpdateCommit r s).imageCode ((taken opFwUpdateCommit r s).slotRead (r.b 4 8)) true = 0) ∧ (r.f 4 0 2 = 3) ∧ (s.pwr.otpWrite = none)) :=
  ⟨⟨pk [2], boot id, by decide +kernel, by decide +kernel, by decide +kernel, image_in_slot (congrArg Power.otp (taken_pwr ..)) (congrArg (fun p => p.flash.slotA) (taken_pwr ..)), by decide +kernel⟩,
   ⟨pk [3], boot id, by decide +kernel, by decide +kernel, by decide +kernel, image_in_slot (congrArg Power.otp (taken_pwr ..)) (congrArg (fun p => p.flash.slotA) (taken_pwr ..)), by decide +kernel, by decide +kernel⟩⟩

theorem met_StepRunsFrontCommand :
    ∃ (c : Instr) (rest : List Instr) (s : State), s.pending = c :: rest :=
  ⟨.nop {}, [], { live with pending := [.nop {}] }, rfl⟩

theorem met_EmptyQueueIdles :
    ∃ s : State, s.pending = [] :=
  ⟨live, rfl⟩

def noticed : Notice := { sender := .h0pf1, buf := { len := 4096 }, tag := 7, t := 0, until_ := us 2 }
def waiting : State := { live with host := { live.host with slots := [(4, some noticed)] } }
def asked : Req := { sender := .h0pf1, tag := 7, buf := { len := 4096 }, viaPriv := true }

theorem met_PacketIsItsCommand :
    ∃ (c : Instr) (opcode slot : Nat) (r : Req) (n : Notice) (dma : Option (List Word)) (rest : List Word) (t : Instant)
      (s w : State), packetOfInstr c = some (opcode, r) ∧ r.wf = true ∧ s.host.ready = true
      ∧ (s.tick t).nextNotice = some (slot, n) ∧ t ≤ n.until_ ∧ r.sender = n.sender
      ∧ r.viaPriv = (decide (2 ≤ slot) && n.sender.core.isNone) ∧ r.tag = n.tag ∧ r.buf = n.buf ∧ r.t = t
      ∧ n.buf.len % 4 = 0 ∧ n.buf.len ≤ 4096 ∧ 16 + 4 * r.pw ≤ n.buf.len
      ∧ w = ((s.tick t).setSlotOf slot none).setMbox n.sender slot
          { ((s.tick t).setSlotOf slot none).mbox n.sender slot with taken := true }
      ∧ w.readPacket n.sender n.buf dma = some (packetOf opcode r ++ rest) :=
  ⟨.nop asked, 0, 4, asked, noticed, some (packetOf 0 asked ++ List.replicate 1020 0), List.replicate 1020 0, 0, waiting, _, rfl, by decide +kernel, by decide +kernel, by decide +kernel, by decide +kernel, by decide +kernel, by decide +kernel, by decide +kernel, by decide +kernel, by decide +kernel, by decide +kernel, by decide +kernel, by decide +kernel, rfl, by decide +kernel⟩

theorem met_NoticesServedInOrder :
    (∃ (s : State) (i : Nat) (n : Notice), s.nextNotice = some (i, n))
    ∧ (∃ s : State, s.nextNotice = none) :=
  ⟨⟨waiting, 4, noticed, by decide +kernel⟩,
   ⟨live, by decide +kernel⟩⟩

theorem met_ChecksInOrder :
    (∃ (c : Instr) (opcode : Nat) (r : Req) (op : OpSpec) (s : State), packetOfInstr c = some (opcode, r)
      ∧ opTable opcode = some op ∧ r.flags % 2 = 0 ∧ s.slotFree r.viaPriv = true
      ∧ (r.viaPriv || !s.batchOpen r.sender) = true ∧ (op.pw r && decide (16 + 4 * r.pw ≤ r.buf.len)) = false)
    ∧ (∃ (c : Instr) (opcode : Nat) (r : Req) (op : OpSpec) (s : State), packetOfInstr c = some (opcode, r)
      ∧ opTable opcode = some op ∧ r.flags % 2 = 0 ∧ s.slotFree r.viaPriv = true
      ∧ (r.viaPriv || !s.batchOpen r.sender) = true ∧ (op.pw r && decide (16 + 4 * r.pw ≤ r.buf.len)) = true ∧ (applyFits op r && decide (r.flags < 4)) = false)
    ∧ (∃ (c : Instr) (opcode : Nat) (r : Req) (op : OpSpec) (s : State), packetOfInstr c = some (opcode, r)
      ∧ opTable opcode = some op ∧ r.flags % 2 = 0 ∧ s.slotFree r.viaPriv = true
      ∧ (r.viaPriv || !s.batchOpen r.sender) = true ∧ (op.pw r && decide (16 + 4 * r.pw ≤ r.buf.len)) = true ∧ (applyFits op r && decide (r.flags < 4)) = true ∧ maySend op r s = false)
    ∧ (∃ (c : Instr) (opcode : Nat) (r : Req) (op : OpSpec) (s : State), packetOfInstr c = some (opcode, r)
      ∧ opTable opcode = some op ∧ r.flags % 2 = 0 ∧ s.slotFree r.viaPriv = true
      ∧ (r.viaPriv || !s.batchOpen r.sender) = true ∧ (op.pw r && decide (16 + 4 * r.pw ≤ r.buf.len)) = true ∧ (applyFits op r && decide (r.flags < 4)) = true ∧ maySend op r s = true ∧ (!op.sem || s.holds r.sender) = false)
    ∧ (∃ (c : Instr) (opcode : Nat) (r : Req) (op : OpSpec) (s : State), packetOfInstr c = some (opcode, r)
      ∧ opTable opcode = some op ∧ r.flags % 2 = 0 ∧ s.slotFree r.viaPriv = true
      ∧ (r.viaPriv || !s.batchOpen r.sender) = true ∧ (op.pw r && decide (16 + 4 * r.pw ≤ r.buf.len)) = true ∧ (applyFits op r && decide (r.flags < 4)) = true ∧ maySend op r s = true ∧ (!op.sem || s.holds r.sender) = true
      ∧ (!(s.cfgAt (max s.now r.t)).footing || op.footing) = false) :=
  ⟨⟨.nop (pk [0]), 0, pk [0], opNop, live, rfl, rfl, by decide +kernel, by decide +kernel, by decide +kernel, by decide +kernel⟩,
   ⟨.nop { pk [] with flags := 4 }, 0, { pk [] with flags := 4 }, opNop, live, rfl, rfl, by decide +kernel, by decide +kernel, by decide +kernel, by decide +kernel, by decide +kernel⟩,
   ⟨.mortarSet { pk [1000, 1000] with sender := .h0pf0 }, 0x10, { pk [1000, 1000] with sender := .h0pf0 }, opMortarSet, power fun p => { p with lockPf0 := true }, rfl, rfl, by decide +kernel, by decide +kernel, by decide +kernel, by decide +kernel, by decide +kernel, by decide +kernel⟩,
   ⟨.mortarSet (pk [1000, 1000]), 0x10, pk [1000, 1000], opMortarSet, { live with host := { live.host with sem := {} } }, rfl, rfl, by decide +kernel, by decide +kernel, by decide +kernel, by decide +kernel, by decide +kernel, by decide +kernel, by decide +kernel⟩,
   ⟨.mortarSet (pk [1000, 1000]), 0x10, pk [1000, 1000], opMortarSet, { live with cfg := { live.cfg with footing := true } }, rfl, rfl, by decide +kernel, by decide +kernel, by decide +kernel, by decide +kernel, by decide +kernel, by decide +kernel, by decide +kernel, by decide +kernel⟩⟩

theorem met_CheckOnlyAppliesNothing :
    ∃ (c : Instr) (opcode : Nat) (r : Req) (s t : State), packetOfInstr c = some (opcode, r) ∧ r.checkOnly = true
      ∧ singleReq r s = true ∧ exec c s = .next t :=
  ⟨.mortarSet { pk [1000, 1000] with flags := 2 }, 0x10, { pk [1000, 1000] with flags := 2 }, live, _, rfl, by decide +kernel, by decide +kernel, rfl⟩

theorem met_ReadsChangeNothing : singleReq (pk []) live = true
    ∧ (∃ t, exec (.nop (pk [])) live = .next t) ∧ (∃ t, exec (.sysInfoGet (pk [])) live = .next t) ∧ (∃ t, exec (.journalGet (pk [])) live = .next t)
    ∧ (∃ t, exec (.mortarGet (pk [])) live = .next t) ∧ (∃ t, exec (.portGet (pk [])) live = .next t) ∧ (∃ t, exec (.laneStatusGet (pk [])) live = .next t)
    ∧ (∃ t, exec (.quadGet (pk [])) live = .next t) ∧ (∃ t, exec (.eqGet (pk [])) live = .next t) ∧ (∃ t, exec (.moduleCfgGet (pk [])) live = .next t)
    ∧ (∃ t, exec (.ingressGet (pk [])) live = .next t) ∧ (∃ t, exec (.poolGet (pk [])) live = .next t) ∧ (∃ t, exec (.queueGet (pk [])) live = .next t)
    ∧ (∃ t, exec (.schedGet (pk [])) live = .next t) ∧ (∃ t, exec (.pauseGet (pk [])) live = .next t) ∧ (∃ t, exec (.mirrorGet (pk [])) live = .next t)
    ∧ (∃ t, exec (.l2Get (pk [])) live = .next t) ∧ (∃ t, exec (.tableCfgGet (pk [])) live = .next t) ∧ (∃ t, exec (.l2PortGet (pk [])) live = .next t)
    ∧ (∃ t, exec (.vlanGet (pk [])) live = .next t) ∧ (∃ t, exec (.streamGet (pk [])) live = .next t) ∧ (∃ t, exec (.meterGet (pk [])) live = .next t)
    ∧ (∃ t, exec (.recoveryGet (pk [])) live = .next t) ∧ (∃ t, exec (.courseGet (pk [])) live = .next t) ∧ (∃ t, exec (.courseEntryGet (pk [])) live = .next t)
    ∧ (∃ t, exec (.courseReportGet (pk [])) live = .next t) ∧ (∃ t, exec (.tkStatusGet (pk [])) live = .next t) ∧ (∃ t, exec (.refStatusGet (pk [])) live = .next t)
    ∧ (∃ t, exec (.refGet (pk [])) live = .next t) ∧ (∃ t, exec (.servoGet (pk [])) live = .next t) ∧ (∃ t, exec (.keeperCfgGet (pk [])) live = .next t)
    ∧ (∃ t, exec (.ptpPortGet (pk [])) live = .next t) ∧ (∃ t, exec (.synceGet (pk [])) live = .next t) ∧ (∃ t, exec (.refinGet (pk [])) live = .next t)
    ∧ (∃ t, exec (.linkTimingGet (pk [])) live = .next t) ∧ (∃ t, exec (.asymGet (pk [])) live = .next t) ∧ (∃ t, exec (.linkStatusGet (pk [])) live = .next t)
    ∧ (∃ t, exec (.evtCfgGet (pk [])) live = .next t) ∧ (∃ t, exec (.timCfgGet (pk [])) live = .next t) ∧ (∃ t, exec (.timStatsGet (pk [])) live = .next t)
    ∧ (∃ t, exec (.mrefGet (pk [])) live = .next t) ∧ (∃ t, exec (.ckoGet (pk [])) live = .next t) ∧ (∃ t, exec (.ckoPhaseGet (pk [])) live = .next t)
    ∧ (∃ t, exec (.counterGet (pk [])) live = .next t) ∧ (∃ t, exec (.palletGet (pk [])) live = .next t) ∧ (∃ t, exec (.counterCatalogGet (pk [])) live = .next t)
    ∧ (∃ t, exec (.bondStatusGet (pk [])) live = .next t) ∧ (∃ t, exec (.bondCfgGet (pk [])) live = .next t) ∧ (∃ t, exec (.footingCfgGet (pk [])) live = .next t)
    ∧ (∃ t, exec (.calCfgGet (pk [])) live = .next t) ∧ (∃ t, exec (.policyGet (pk [])) live = .next t) ∧ (∃ t, exec (.keyStatusGet (pk [])) live = .next t)
    ∧ (∃ t, exec (.powerStatusGet (pk [])) live = .next t) ∧ (∃ t, exec (.wakeCfgGet (pk [])) live = .next t) ∧ (∃ t, exec (.evcRouteGet (pk [])) live = .next t)
    ∧ (∃ t, exec (.evcTargetGet (pk [])) live = .next t) ∧ (∃ t, exec (.acStatusGet (pk [])) live = .next t) ∧ (∃ t, exec (.acPermitGet (pk [])) live = .next t) :=
  ⟨by decide +kernel, ⟨_, rfl⟩, ⟨_, rfl⟩, ⟨_, rfl⟩, ⟨_, rfl⟩, ⟨_, rfl⟩, ⟨_, rfl⟩, ⟨_, rfl⟩, ⟨_, rfl⟩, ⟨_, rfl⟩, ⟨_, rfl⟩, ⟨_, rfl⟩, ⟨_, rfl⟩, ⟨_, rfl⟩, ⟨_, rfl⟩, ⟨_, rfl⟩, ⟨_, rfl⟩, ⟨_, rfl⟩, ⟨_, rfl⟩, ⟨_, rfl⟩, ⟨_, rfl⟩, ⟨_, rfl⟩, ⟨_, rfl⟩, ⟨_, rfl⟩, ⟨_, rfl⟩, ⟨_, rfl⟩, ⟨_, rfl⟩, ⟨_, rfl⟩, ⟨_, rfl⟩, ⟨_, rfl⟩, ⟨_, rfl⟩, ⟨_, rfl⟩, ⟨_, rfl⟩, ⟨_, rfl⟩, ⟨_, rfl⟩, ⟨_, rfl⟩, ⟨_, rfl⟩, ⟨_, rfl⟩, ⟨_, rfl⟩, ⟨_, rfl⟩, ⟨_, rfl⟩, ⟨_, rfl⟩, ⟨_, rfl⟩, ⟨_, rfl⟩, ⟨_, rfl⟩, ⟨_, rfl⟩, ⟨_, rfl⟩, ⟨_, rfl⟩, ⟨_, rfl⟩, ⟨_, rfl⟩, ⟨_, rfl⟩, ⟨_, rfl⟩, ⟨_, rfl⟩, ⟨_, rfl⟩, ⟨_, rfl⟩, ⟨_, rfl⟩, ⟨_, rfl⟩, ⟨_, rfl⟩⟩

theorem met_SemaphoreReleasedOnLinkLoss :
    ∃ (h : HostPort) (s : State), s.semHolder = some h ∧ (s.hostRegs h).perst = false :=
  ⟨.h0, live, by decide +kernel, by decide +kernel⟩

theorem met_SemaphoreGrants :
    (∃ (h g : HostPort) (t : Instant) (s : State), g ≠ h ∧ s.hostOff h.pf0 = true)
    ∧ (∃ (h g : HostPort) (t : Instant) (s : State), g ≠ h ∧ s.hostOff h.pf0 = false ∧ s.semHolder = some g ∧ t < s.host.sem.expiry)
    ∧ (∃ (h g : HostPort) (t : Instant) (s : State), g ≠ h ∧ s.hostOff h.pf0 = false ∧ s.semHolder = none)
    ∧ (∃ (h g : HostPort) (t : Instant) (s : State), g ≠ h ∧ s.hostOff h.pf0 = false ∧ s.semHolder = some g ∧ s.host.sem.expiry ≤ t)
    ∧ (∃ (h g : HostPort) (t : Instant) (s : State), g ≠ h ∧ s.hostOff h.pf0 = false ∧ s.semHolder = some h ∧ t < s.host.sem.expiry + us 1)
    ∧ (∃ (h g : HostPort) (t : Instant) (s : State), g ≠ h ∧ s.hostOff h.pf0 = false ∧ s.semHolder = some h ∧ s.host.sem.expiry + us 1 ≤ t) :=
  ⟨⟨.h1, .h0, 0, power fun p => { p with hostcfg := true }, by decide +kernel, by decide +kernel⟩,
   ⟨.h1, .h0, 0, power fun p => { p with hostcfg := false }, by decide +kernel, by decide +kernel, by decide +kernel, by decide +kernel⟩,
   ⟨.h1, .h0, 0, { power fun p => { p with hostcfg := false } with host := { live.host with sem := {} } }, by decide +kernel, by decide +kernel, by decide +kernel⟩,
   ⟨.h1, .h0, sec 100, power fun p => { p with hostcfg := false }, by decide +kernel, by decide +kernel, by decide +kernel, by decide +kernel⟩,
   ⟨.h0, .h1, sec 100, power fun p => { p with hostcfg := false }, by decide +kernel, by decide +kernel, by decide +kernel, by decide +kernel⟩,
   ⟨.h0, .h1, sec 101, power fun p => { p with hostcfg := false }, by decide +kernel, by decide +kernel, by decide +kernel, by decide +kernel⟩⟩

theorem met_InstantWordsReadBack :
    ∃ t : Nat, t = sec 18446744073709551616 - 1 ∧ t < sec 18446744073709551616 :=
  ⟨_, rfl, by decide +kernel⟩

theorem met_ApplyAtSecondsNearest :
    (∃ y v : Int, (y - v) % 4294967296 = 0)
    ∧ (∃ (r : Req) (now : Instant), 0 ≤ nearest32 (now / sec 1) r.applySec) :=
  ⟨⟨4294967297, 1, by decide +kernel⟩,
   ⟨{ applySec := 4294967295 }, sec 4294967296, by decide +kernel⟩⟩

theorem met_CountersSaturate :
    (∃ (s : State) (i n : Nat), 0 < n ∧ s.counter i + n < 18446744073709551615)
    ∧ (∃ (s : State) (i n : Nat), s.counter i ≠ 18446744073709551615 ∧ 18446744073709551615 ≤ s.counter i + n)
    ∧ (∃ (s : State) (i n : Nat), s.counter i = 18446744073709551615)
    ∧ (∃ i j : Nat, j ≠ i) :=
  ⟨⟨live, 0x0100, 18446744073709551614, by decide +kernel, by decide +kernel⟩,
   ⟨live, 0x0100, 18446744073709551615, by decide +kernel, by decide +kernel⟩,
   ⟨live.countQuiet 0x0100 18446744073709551615, 0x0100, 1, by decide +kernel⟩,
   ⟨0, 1, by decide +kernel⟩⟩

theorem met_AcLoadWritesTcm :
    (∃ (r : Req) (s : State), accepted opAcLoad r s = true ∧ s.memOk ∧ (s.ac (coreOf r)).status = .running)
    ∧ (∃ (r : Req) (s : State), accepted opAcLoad r s = true ∧ s.memOk ∧ (s.ac (coreOf r)).status = .held)
    ∧ (∃ (r : Req) (s : State), accepted opAcLoad r s = true ∧ s.memOk ∧ (s.ac (coreOf r)).status ≠ .running ∧ (s.ac (coreOf r)).status ≠ .held ∧ 262144 < r.f 5 0 18 + 4 * (r.pw - 2))
    ∧ (∃ (r : Req) (s : State), accepted opAcLoad r s = true ∧ s.memOk ∧ (s.ac (coreOf r)).status ≠ .running ∧ (s.ac (coreOf r)).status ≠ .held ∧ okAcLoad r = true) :=
  ⟨⟨pk [0, 0, 1], core { status := .running }, by decide +kernel, ⟨rfl, rfl, rfl, rfl, rfl, rfl, rfl⟩, by decide +kernel⟩,
   ⟨pk [0, 0, 1], core { status := .held }, by decide +kernel, ⟨rfl, rfl, rfl, rfl, rfl, rfl, rfl⟩, by decide +kernel⟩,
   ⟨pk [0, 0x3FFFC, 1, 2], core { status := .stopped }, by decide +kernel, ⟨rfl, rfl, rfl, rfl, rfl, rfl, rfl⟩, by decide +kernel, by decide +kernel, by decide +kernel⟩,
   ⟨pk [0x100, 0x3FFF8, 1, 2], core { status := .stopped }, by decide +kernel, ⟨rfl, rfl, rfl, rfl, rfl, rfl, rfl⟩, by decide +kernel, by decide +kernel, by decide +kernel⟩⟩

theorem met_Bar2WritesItsQuarter :
    ∃ (fn : Sender) (off : Nat) (bytes : List Byte) (s : State), fn.code < 4 ∧ s.hostOff fn = false
      ∧ off + bytes.length ≤ 0x80000 ∧ s.memOk ∧ 0 < bytes.length :=
  ⟨.h1pf1, 0x7FFFF, [1], power fun p => { p with hostcfg := false }, by decide +kernel, by decide +kernel, by decide +kernel, ⟨rfl, rfl, rfl, rfl, rfl, rfl, rfl⟩, by decide +kernel⟩

theorem met_ParkOfTimingPortConflicts :
    (∃ (r : Req) (s : State) (i : Nat), accepted opLinkPark r s = true ∧ r.f 4 0 7 < 48 ∧ s.parkable (r.f 4 0 7) = true
      ∧ r.only 4 0x8000007F = true ∧ r.b 4 31 = true ∧ (s.lane (r.f 4 0 7)).state ≠ .park ∧ (i < 16 ∧ (s.cand i).valid = true ∧ (s.cand i).kind = 0 ∧ (s.cand i).port = r.f 4 0 7))
    ∧ (∃ (r : Req) (s : State) (i : Nat), accepted opLinkPark r s = true ∧ r.f 4 0 7 < 48 ∧ s.parkable (r.f 4 0 7) = true
      ∧ r.only 4 0x8000007F = true ∧ r.b 4 31 = true ∧ (s.lane (r.f 4 0 7)).state ≠ .park ∧ (s.link (r.f 4 0 7)).farCand = true) :=
  ⟨⟨pk [0x80000000], { lane { state := .active, rate := 3 } with tk := { live.tk with cands := [(15, { valid := true, kind := 0, port := 0 })] } }, 15, by decide +kernel, by decide +kernel, by decide +kernel, by decide +kernel, by decide +kernel, by decide +kernel, by decide +kernel⟩,
   ⟨pk [0x80000000], lnk { state := .active, rate := 3 } { farCand := true }, 0, by decide +kernel, by decide +kernel, by decide +kernel, by decide +kernel, by decide +kernel, by decide +kernel, by decide +kernel⟩⟩

theorem met_ClaimTakesBestSource :
    (∃ (target : Target) (t : Instant) (s : State) (src : Nat), (s.tick t).bestClaim target = some src ∧ src < 160)
    ∧ (∃ (target : Target) (t : Instant) (s : State), (s.tick t).bestClaim target = none) :=
  ⟨⟨.h0, 0, { live with cores := { live.cores with pendSh := 1#160, routes := [(0, { prio := 1, target := .h0 })] } }, 0, by decide +kernel, by decide +kernel⟩,
   ⟨.h0, 0, live, by decide +kernel⟩⟩

theorem met_MessageQueues :
    (∃ (c : AppCore) (s : State), (s.ac c).status = .running ∧ (s.ac c).toH0.length < 16 ∧ State.msgRight (s.ac c) .h0 = true)
    ∧ (∃ (c : AppCore) (s : State), (s.ac c).status = .running ∧ 16 ≤ (s.ac c).toH0.length)
    ∧ (∃ (c : AppCore) (s : State), (s.ac c).status = .running ∧ State.msgRight (s.ac c) .h0 = false) :=
  ⟨⟨.ac0, core { status := .running, toH0 := List.replicate 15 [] }, by decide +kernel, by decide +kernel, by decide +kernel⟩,
   ⟨.ac0, core { status := .running, toH0 := List.replicate 16 [] }, by decide +kernel, by decide +kernel⟩,
   ⟨.ac0, core { status := .running, permits := 0 }, by decide +kernel, by decide +kernel⟩⟩

theorem met_EventLogKeepsSixtyFour :
    (∃ (src : Nat) (s : State) (h : HostPort), src < 160
      ∧ (s.route src).target = (match h with | .h0 => Target.h0 | .h1 => Target.h1) ∧ 0 < (s.route src).prio ∧ (s.target (s.route src).target).log.length < 64)
    ∧ (∃ (src : Nat) (s : State) (h : HostPort), src < 160
      ∧ (s.route src).target = (match h with | .h0 => Target.h0 | .h1 => Target.h1) ∧ 0 < (s.route src).prio ∧ 64 ≤ (s.target (s.route src).target).log.length) :=
  ⟨⟨159, { live with cores := { live.cores with routes := [(159, { prio := 1, target := .h0 })], targets := [(0, { log := List.replicate 63 [] })] } }, .h0, by decide +kernel, by decide +kernel, by decide +kernel, by decide +kernel⟩,
   ⟨159, { live with cores := { live.cores with routes := [(159, { prio := 1, target := .h0 })], targets := [(0, { log := List.replicate 64 [] })] } }, .h0, by decide +kernel, by decide +kernel, by decide +kernel, by decide +kernel⟩⟩

theorem met_MemoryStaysCanonical :
    ∃ s t : State, s.memOk ∧ step s = .next t :=
  ⟨live, live, ⟨rfl, rfl, rfl, rfl, rfl, rfl, rfl⟩, rfl⟩

theorem met_QueueIsTheHosts :
    ∃ (i : Instr) (s t : State), exec i s = .next t :=
  ⟨.nop {}, live, _, rfl⟩

theorem met_SettingsReadBack :
    (∃ r : Req, okLinkTimingSet r = true ∧ r.pw = 3)
    ∧ (∃ r : Req, okAsymSet r = true ∧ r.pw = 4)
    ∧ (∃ r : Req, okSynceSet r = true ∧ r.pw = 1)
    ∧ (∃ r : Req, okRefinSet r = true ∧ r.pw = 3)
    ∧ (∃ r : Req, okMeterSet r = true ∧ r.pw = 5)
    ∧ (∃ r : Req, okEqSet r = true ∧ r.pw = 4) :=
  ⟨⟨pk [0x80000000, 500, (8 * 65536) + 2000], by decide +kernel, by decide +kernel⟩,
   ⟨pk [0, 0, 0, 0], by decide +kernel, by decide +kernel⟩,
   ⟨pk [0], by decide +kernel, by decide +kernel⟩,
   ⟨pk [0, 0, 0], by decide +kernel, by decide +kernel⟩,
   ⟨pk [1, 0, 64, 0, 0], by decide +kernel, by decide +kernel⟩,
   ⟨pk [0, 0, 0, 800], by decide +kernel, by decide +kernel⟩⟩

end Witness

end Sys2Proof.Machine
end

section
/-! The four words of an instant (00 R6): what each holds, and that they give the instant back. -/

namespace Sys2Proof

theorem word_toNat (n : Nat) : (word n).toNat = n % 4294967296 := BitVec.toNat_ofNat n 32

theorem word_toNat_of_lt {n : Nat} (h : n < 4294967296) : (word n).toNat = n := by
  rw [word_toNat, Nat.mod_eq_of_lt h]

theorem word_low_add_high {n : Nat} (h : n < 18446744073709551616) :
    (word n).toNat + 4294967296 * (word (n / 4294967296)).toNat = n := by
  rw [word_toNat, word_toNat_of_lt (Nat.div_lt_of_lt_mul h), Nat.mod_add_div]

theorem word_ns_toNat (t : Nat) : (word (t / 65536 % 1000000000)).toNat = t / 65536 % 1000000000 :=
  word_toNat_of_lt ((Nat.mod_lt _ (by decide)).trans (by decide))

theorem word_subNs_toNat (t : Nat) : (word (t % 65536)).toNat = t % 65536 :=
  word_toNat_of_lt ((Nat.mod_lt _ (by decide)).trans (by decide))

theorem mod_sec_div_ns (t : Nat) : t % sec 1 / ns 1 = t / 65536 % 1000000000 :=
  Nat.mod_mul_right_div_self t 65536 1000000000

theorem sec_add_ns_add_subNs (t : Nat) :
    sec (t / 65536000000000) + ns (t / 65536 % 1000000000) + t % 65536 = t := by
  unfold sec ns
  omega

/-- The reserved bits that `instantOfWords` drops are 0 in the words of an instant. -/
theorem instantOfWords_instantWords {t : Nat} (hs : t / 65536000000000 < 18446744073709551616) :
    instantOfWords (word (t / 65536000000000)) (word (t / 65536000000000 / 4294967296))
      (word (t / 65536 % 1000000000)) (word (t % 65536)) = t := by
  have hns : t / 65536 % 1000000000 < 1073741824 := (Nat.mod_lt _ (by decide)).trans (by decide)
  rw [instantOfWords, word_ns_toNat, word_subNs_toNat, Nat.mod_eq_of_lt hns, Nat.mod_mod, Nat.mul_comm (word _).toNat,
    word_low_add_high hs, sec_add_ns_add_subNs]

/-- Settles O47: the seconds fit two words, and the other two fields one word each. -/
theorem instantWordsReadBack : Obligations.InstantWordsReadBack := by
  intro t ht
  have hs : t / 65536000000000 < 18446744073709551616 := (Nat.div_lt_iff_lt_mul (by decide)).2 ht
  refine ⟨_, _, _, _, rfl, instantOfWords_instantWords hs, word_low_add_high hs, ?_, ?_, word_subNs_toNat t, ?_⟩
  · rw [word_ns_toNat, mod_sec_div_ns]
  · rw [word_ns_toNat]
    exact Nat.le_of_lt_succ (Nat.mod_lt _ (by decide))
  · rw [word_subNs_toNat]
    exact Nat.mod_lt _ (by decide)

end Sys2Proof
end

section
/-! No command stops the block: every branch of every command's meaning ends in a next state. -/

namespace Sys2Proof.Machine

/-- The outcome is a next state: no fault and no refusal. -/
def AnswersNext (o : Host.Outcome State Fault Refusal) : Prop := ∃ t, o = .next t

theorem answersNext_next (t : State) : AnswersNext (.next t) := ⟨t, rfl⟩

theorem answersNext_ite {c : Prop} [Decidable c] {a b : Host.Outcome State Fault Refusal}
    (ha : AnswersNext a) (hb : AnswersNext b) : AnswersNext (if c then a else b) := by
  split <;> assumption

/-- The arms, by what decides their outcome: one, two or three conditions in a row; what the event finds in the
state, a branch for each finding; and all the others, packets among them, which answer next outright. -/
theorem exec_answersNext (i : Instr) (s : State) : AnswersNext (exec i s) := by
  cases i <;> dsimp only [exec]
  case' channelStall | lossOfSymbolLock | modelEnd | windowRelease | servoCycle | candidateQualify |
      voteWindowEnd | ppsMissing | refClockLost | esmcRx | esmcQlTimeout | esmcTx | xoLost | xoResume | aonTrim
      | vernierCalDone | delayRunDone | ltRelockTimeout | leaseExpiry | interpreterFault | footingCauseDetect |
      footingEntry | bufPowerDown | footingCauseClear | calxLoopbackDone | pllUnlock | parkAuto | parkExit |
      eqRunDone | sidebandScan | modulePresenceChange | moduleAlarmPoll | i2cRetry | quadPowerUpDone |
      evtFilterDone | evtAonLatch | mrefLost | mrefLock | semAcquire | cmbGo | pmbGo | rrRdWrite | ringEnable |
      dbRing | dbMaskWrite | functionLevelReset | hostReset | acWatchdogExpiry | acFault | wdogKick |
      acMailboxGo | acMsgSend | acMsgPop | hostMsgSend | evcEvent | evcComplete | resetRelease | configPartRun |
      wake | io33Low | io33Restore | keeperSupplyReturn | hostResetRelease | ptpDelayReqTx | rcFieldRead =>
    refine answersNext_ite ?_ ?_
  case' grout | txTileRead | l2Age | tableScrub | keeperBandSearchDone | timingFrameRx | beatSample |
      rejoinBandDone | pllHopTimeout | eyeMonitorUpdate | dieSensorRead | moduleReady | timeioCalDone |
      palletTrigger | recoveryLoad =>
    refine answersNext_ite ?_ (answersNext_ite ?_ ?_)
  case' energyLost | trainSetRx | pllRelock | timStartEdge | timGateEdge =>
    refine answersNext_ite ?_ (answersNext_ite ?_ (answersNext_ite ?_ ?_))
  case' frameStamp => fun_cases execFrameStamp
  case' rxFrameEnd => fun_cases execRxFrameEnd
  case' rxOversize => fun_cases execRxOversize
  case' mergeRelease => fun_cases execMergeRelease
  case' pipelineLead => fun_cases execPipelineLead
  case' endKeyStage => fun_cases execEndKeyStage
  case' admission => fun_cases execAdmission
  case' endKeyAdmission => fun_cases execEndKeyAdmission
  case' physicalTxStart => fun_cases execPhysicalTxStart
  case' cutPoison => fun_cases execCutPoison
  case' cutUnderrun => fun_cases execCutUnderrun
  case' extractFrame => fun_cases execExtractFrame
  case' injectDescriptor => fun_cases execInjectDescriptor
  case' loopbackReentry => fun_cases execLoopbackReentry
  case' pauseRearmEnd => fun_cases execPauseRearmEnd
  case' rebase => fun_cases execRebase
  case' digestComplete => fun_cases execDigestComplete
  case' learnNoticeApply => fun_cases execLearnNoticeApply
  case' flapHoldEnd => fun_cases execFlapHoldEnd
  case' ffLivenessDown => fun_cases execFfLivenessDown
  case' ffLivenessUp => fun_cases execFfLivenessUp
  case' l2FlushGroup => fun_cases execL2FlushGroup
  case' fenceComplete => fun_cases execFenceComplete
  case' fenceTimeout => fun_cases execFenceTimeout
  case' courseOccurrence => fun_cases execCourseOccurrence
  case' courseSwap => fun_cases execCourseSwap
  case' refPpsEdge => fun_cases execRefPpsEdge
  case' ptpRx => fun_cases execPtpRx
  case' ptpTx => fun_cases execPtpTx
  case' ppsOutput => fun_cases execPpsOutput
  case' tmarkTx => fun_cases execTmarkTx
  case' tmarkRx => fun_cases execTmarkRx
  case' timingFrameTx => fun_cases execTimingFrameTx
  case' asymWindowEnd => fun_cases execAsymWindowEnd
  case' keeperCheckFail => fun_cases execKeeperCheckFail
  case' bondCellDisagree => fun_cases execBondCellDisagree
  case' standbyFault => fun_cases execStandbyFault
  case' coreTakeover => fun_cases execCoreTakeover
  case' coreRestartDone => fun_cases execCoreRestartDone
  case' footingExitApply => fun_cases execFootingExitApply
  case' detectHoldExpiry => fun_cases execDetectHoldExpiry
  case' linkStateProgress => fun_cases execLinkStateProgress
  case' linkStateTimeout => fun_cases execLinkStateTimeout
  case' symbolLock => fun_cases execSymbolLock
  case' capxRx => fun_cases execCapxRx
  case' hbBandSearchDone => fun_cases execHbBandSearchDone
  case' parkReqLapse => fun_cases execParkReqLapse
  case' parkExitFail => fun_cases execParkExitFail
  case' i2cTransactionDone => fun_cases execI2cTransactionDone
  case' evtInputEdge => fun_cases execEvtInputEdge
  case' evtOutputEdge => fun_cases execEvtOutputEdge
  case' timStopEdge => fun_cases execTimStopEdge
  case' timOverrange => fun_cases execTimOverrange
  case' ckoBandSearchDone => fun_cases execCkoBandSearchDone
  case' ckoAlignStart => fun_cases execCkoAlignStart
  case' ckoBypass => fun_cases execCkoBypass
  case' ckoReturn => fun_cases execCkoReturn
  case' ckoProfileApply => fun_cases execCkoProfileApply
  case' ckoSegmentEnd => fun_cases execCkoSegmentEnd
  case' ckoRelock => fun_cases execCkoRelock
  case' noticeTake => fun_cases execNoticeTake
  case' mailboxTimeout => fun_cases execMailboxTimeout
  case' batchTimeout => fun_cases execBatchTimeout
  case' commandComplete => fun_cases execCommandComplete
  case' registerWrite => fun_cases execRegisterWrite
  case' evcTimerExpiry => fun_cases execEvcTimerExpiry
  case' evcClaim => fun_cases execEvcClaim
  case' evcDelivery => fun_cases execEvcDelivery
  case' evcExit => fun_cases execEvcExit
  case' palletDone => fun_cases execPalletDone
  case' coldReset => fun_cases execColdReset
  case' warmReset => fun_cases execWarmReset
  case' bootImageVerify => fun_cases execBootImageVerify
  case' forwardingStart => fun_cases execForwardingStart
  case' wakeTimerExpiry => fun_cases execWakeTimerExpiry
  case' fwUpdateTimeout => fun_cases execFwUpdateTimeout
  case' otpWriteDone => fun_cases execOtpWriteDone
  case' flashEraseDone => fun_cases execFlashEraseDone
  case' ptpDelayReqRx => fun_cases execPtpDelayReqRx
  case' evtCfgApply => fun_cases execEvtCfgApply
  case' ckoDisableApply => fun_cases execCkoDisableApply
  case' acImageVerified => fun_cases execAcImageVerified
  all_goals exact answersNext_next _

/-- Settles O38: no arm of `exec` has a branch that faults or refuses. -/
theorem everyCommandAnswersNext : Obligations.EveryCommandAnswersNext := exec_answersNext

end Sys2Proof.Machine
end

section
/-! A packet outside any batch whose body only reads leaves the device as it is. The reads go by the shape of
their bodies: those that answer at once, those that first refuse bad operands, and five with a shape of
their own. -/

namespace Sys2Proof.Machine

/-- A command that runs a body which only reads, as a packet outside any batch. -/
theorem OpSpec.ReadOnly.sameDevice {op : OpSpec} (h : op.ReadOnly) {i : Instr} {r : Req} {s t : State}
    (h1 : singleReq r s = true) (hi : exec i s = .next (runCommand opTable op r s)) (e : exec i s = .next t) :
    s.sameDevice t := by
  have ht : runCommand opTable op r s = t := Host.Outcome.next.inj (hi.symm.trans e)
  exact ht ▸ runCommand_sameDevice opTable op r s h1 (.inr h)

theorem OpSpec.readOnly_of_done {op : OpSpec} {ws : Ctx → State → List Word}
    (h : op.body = fun c s => .done s (ws c s)) : op.ReadOnly := by
  intro c s
  rw [h]
  exact Res.leaves_done s _

theorem OpSpec.readOnly_of_refuseIf_done {op : OpSpec} {bad : Ctx → State → Bool} {st : Nat}
    {ws : Ctx → State → List Word} (h : op.body = fun c s => refuseIf (bad c s) st (.done s (ws c s))) :
    op.ReadOnly := by
  intro c s
  rw [h]
  exact Res.leaves_refuseIf _ _ (Res.leaves_done s _)

/-- L2_GET answers whether or not an entry stands under the key (04 R160). -/
theorem opL2Get_readOnly : opL2Get.ReadOnly := by
  intro c s
  refine Res.leaves_refuseIf _ _ ?_
  cases l2Where s.cfgNow (c.r.f 4 0 12) (c.r.mac 5) with
  | some e => exact Res.leaves_done s _
  | none => exact Res.leaves_done s _

/-- EVC_TARGET_GET refuses a number that names no target (13 R566). -/
theorem opEvcTargetGet_readOnly : opEvcTargetGet.ReadOnly := by
  intro c s
  dsimp only [opEvcTargetGet, bodyEvcTargetGet]
  cases evcTargetOf c.r with
  | none => exact Res.leaves_fail s _ _
  | some k => exact Res.leaves_refuseIf _ _ (Res.leaves_done s _)

theorem opCounterGet_readOnly : opCounterGet.ReadOnly := fun _ s =>
  Res.leaves_refuseIf _ _ (Res.leaves_refuseIf _ _ (Res.leaves_done s _))

theorem opPalletGet_readOnly : opPalletGet.ReadOnly := fun _ s =>
  Res.leaves_refuseIf _ _ (Res.leaves_refuseIf _ _ (Res.leaves_refuseIf _ _ (Res.leaves_done s _)))

theorem opCounterCatalogGet_readOnly : opCounterCatalogGet.ReadOnly := fun _ s =>
  Res.leaves_refuseIf _ _ (Res.leaves_refuseIf _ _ (Res.leaves_done s _))

/-- Settles O44: no body among these reads changes the state it is given (01 R29). -/
theorem readsChangeNothing : Obligations.ReadsChangeNothing := by
  intro r s t h1
  have plain {i : Instr} {ws : Ctx → State → List Word} (op : OpSpec)
      (hi : exec i s = .next (runCommand opTable op r s))
      (hb : op.body = fun c s => .done s (ws c s)) : exec i s = .next t → s.sameDevice t :=
    (OpSpec.readOnly_of_done hb).sameDevice h1 hi
  have checked {i : Instr} {bad : Ctx → State → Bool} {st : Nat} {ws : Ctx → State → List Word} (op : OpSpec)
      (hi : exec i s = .next (runCommand opTable op r s))
      (hb : op.body = fun c s => refuseIf (bad c s) st (.done s (ws c s))) : exec i s = .next t → s.sameDevice t :=
    (OpSpec.readOnly_of_refuseIf_done hb).sameDevice h1 hi
  exact ⟨plain opNop rfl rfl, plain opSysInfoGet rfl rfl, checked opJournalGet rfl rfl, plain opMortarGet rfl rfl,
    checked opPortGet rfl rfl, checked opLaneStatusGet rfl rfl, checked opQuadGet rfl rfl, checked opEqGet rfl rfl,
    checked opModuleCfgGet rfl rfl, checked opIngressGet rfl rfl, plain opPoolGet rfl rfl,
    checked opQueueGet rfl rfl, checked opSchedGet rfl rfl, checked opPauseGet rfl rfl, plain opMirrorGet rfl rfl,
    opL2Get_readOnly.sameDevice h1 rfl, plain opTableCfgGet rfl rfl, checked opL2PortGet rfl rfl,
    checked opVlanGet rfl rfl, checked opStreamGet rfl rfl, checked opMeterGet rfl rfl,
    checked opRecoveryGet rfl rfl, checked opCourseGet rfl rfl, checked opCourseEntryGet rfl rfl,
    checked opCourseReportGet rfl rfl, plain opTkStatusGet rfl rfl, checked opRefStatusGet rfl rfl,
    checked opRefGet rfl rfl, checked opServoGet rfl rfl, plain opKeeperCfgGet rfl rfl,
    checked opPtpPortGet rfl rfl, checked opSynceGet rfl rfl, checked opRefinGet rfl rfl,
    checked opLinkTimingGet rfl rfl, checked opAsymGet rfl rfl, checked opLinkStatusGet rfl rfl,
    checked opEvtCfgGet rfl rfl, checked opTimCfgGet rfl rfl, checked opTimStatsGet rfl rfl,
    plain opMrefGet rfl rfl, checked opCkoGet rfl rfl, checked opCkoPhaseGet rfl rfl,
    opCounterGet_readOnly.sameDevice h1 rfl, opPalletGet_readOnly.sameDevice h1 rfl,
    opCounterCatalogGet_readOnly.sameDevice h1 rfl, plain opBondStatusGet rfl rfl, plain opBondCfgGet rfl rfl,
    plain opFootingCfgGet rfl rfl, plain opCalCfgGet rfl rfl, plain opPolicyGet rfl rfl,
    plain opKeyStatusGet rfl rfl, plain opPowerStatusGet rfl rfl, plain opWakeCfgGet rfl rfl,
    checked opEvcRouteGet rfl rfl, opEvcTargetGet_readOnly.sameDevice h1 rfl, checked opAcStatusGet rfl rfl,
    checked opAcPermitGet rfl rfl⟩

end Sys2Proof.Machine
end

section
/-! The apply-at seconds (02 R76): `nearest32` is a congruent value within 2^31 s of the current seconds, and no other
congruent value lies nearer than one that lies so near. -/

namespace Sys2Proof

theorem nearest32_congruent (cur v : Nat) : (nearest32 cur v - v) % 4294967296 = 0 := by
  fun_cases nearest32 <;> omega

theorem nearest32_natAbs_sub_le (cur v : Nat) : (nearest32 cur v - cur).natAbs ≤ 2147483648 := by
  fun_cases nearest32 <;> omega

/-- Two values congruent modulo 2^32 are equal or 2^32 apart, so one within 2^31 is at least as near as the other. -/
theorem natAbs_sub_le_of_congruent {x y v cur : Int} (hx : (x - v) % 4294967296 = 0) (hy : (y - v) % 4294967296 = 0)
    (hn : (x - cur).natAbs ≤ 2147483648) : (x - cur).natAbs ≤ (y - cur).natAbs := by
  have apart : x = y ∨ 4294967296 ≤ (x - y).natAbs := by omega
  rcases apart with rfl | far
  · exact le_rfl
  · omega

theorem Req.applyAt_of_nonneg {r : Req} {now : Instant} (h : 0 ≤ nearest32 (now / sec 1) r.applySec) :
    r.applyAt now = sec (nearest32 (now / sec 1) r.applySec).toNat + ns r.applyNs :=
  if_neg (Int.not_lt.mpr h)

theorem sec_eq_mul (n : Nat) : sec n = n * sec 1 := rfl

/-- Settles O48: the value is congruent and within 2^31, which makes it the nearest; `applyAt` takes its seconds. -/
theorem applyAtSecondsNearest : Obligations.ApplyAtSecondsNearest := by
  intro cur v
  refine ⟨nearest32_congruent cur v, nearest32_natAbs_sub_le cur v, fun y hy => ?_, fun r now h => ?_⟩
  · exact natAbs_sub_le_of_congruent (nearest32_congruent cur v) hy (nearest32_natAbs_sub_le cur v)
  · rw [Req.applyAt_of_nonneg h, sec_eq_mul, Nat.cast_add, Nat.cast_mul, Int.toNat_of_nonneg h]

end Sys2Proof
end

section
/-! The mortar commands (02 R84 to R86): none of a body's refusals applies to the operands in range. -/

namespace Sys2Proof.Machine

theorem refuseIf_of_false {c : Bool} (h : c = false) (st : Nat) (k : Res) : refuseIf c st k = k :=
  if_neg (Bool.eq_false_iff.mp h)

theorem bodyMortarSet_of_inRange {c : Ctx} {s : State} (hok : okMortarSet c.r = true)
    (hres : 2 * longestCourse s (s.effA c (us 50) false 1) ≤ c.r.w 4 * 1000) :
    bodyMortarSet c s = s.stageChange c (us 50) false [5] 0 [.mortar (c.r.w 4) (c.r.w 5)] :=
  (refuseIf_of_false (congrArg not hok) ..).trans
    (refuseIf_of_false (decide_eq_false (Nat.not_lt.mpr hres)) ..)

/-- The state in which a digest run of a packet is open from `a` on. -/
def digestOpened (r : Req) (s : State) (jid : Nat) (a : Instant) : State :=
  { s with fab := { s.fab with digest := some { a, until_ := a + us (r.w 4), mask := r.mask68 5, jid := some jid } } }

theorem bodyDigestRun_of_idle {r : Req} {s : State} {jid : Nat} {a : Instant} (hok : okDigestRun r = true)
    (hidle : s.fab.digest = none) (hlead : r.t + us 50 ≤ a) :
    bodyDigestRun ⟨r, jid, some a⟩ s = .wait (digestOpened r s jid a) :=
  (refuseIf_of_false (congrArg not hok) ..).trans <|
    (refuseIf_of_false (congrArg Option.isSome hidle) ..).trans <|
      refuseIf_of_false (decide_eq_false (Nat.not_lt.mpr hlead)) ..

theorem exec_mortarSet (r : Req) (s : State) :
    exec (.mortarSet r) s = .next (runCommand opTable opMortarSet r s) := rfl

theorem exec_mortarGet (r : Req) (s : State) :
    exec (.mortarGet r) s = .next (runCommand opTable opMortarGet r s) := rfl

theorem exec_digestRun (r : Req) (s : State) :
    exec (.digestRun r) s = .next (runCommand opTable opDigestRun r s) := rfl

/-- Settles O1: no body refuses, and the interpreter answers as the body does. -/
theorem mortarCommandsComplete : Obligations.MortarCommandsComplete := by
  refine ⟨fun r s hacc hok hres hfit => ?_, fun r s hacc => ?_, fun r s hacc hok hidle hlead => ?_⟩
  · have hres' : 2 * longestCourse (taken opMortarSet r s)
        ((taken opMortarSet r s).effA ⟨r, s.host.nextJid, applyInstant opMortarSet r s⟩ (us 50) false 1)
        ≤ r.w 4 * 1000 := by
      rwa [effA_taken, longestCourse_taken]
    rw [exec_mortarSet, runCommand_staged hacc hfit (bodyMortarSet_of_inRange hok hres')]
  · rw [exec_mortarGet, runCommand_done hacc rfl, taken_fab]
  · have hidle' : (taken opDigestRun r s).fab.digest = none := by rw [taken_fab, hidle]
    have hbody := bodyDigestRun_of_idle (jid := s.host.nextJid) hok hidle' hlead
    rw [← applyInstant_must hacc rfl] at hbody
    rw [exec_digestRun, runCommand_wait hacc hbody, digestOpened]

end Sys2Proof.Machine
end

section
/-! The events of the mortar (02 R40 to R86; 03 R94): each takes the branch that its guards select. -/

namespace Sys2Proof.Machine

/-- None of the reasons to drop a stamped frame holds (02 R49, R50, R59; 14 R583), and its bytes are for the fabric
(03 R90). -/
structure TakesStamp (s : State) (port : Nat) (bytes : List Byte) (overrun : Bool) (t : Instant) : Prop where
  front : port < 64
  up : (s.model port).up = true
  awake : (s.model port).parked = false
  rising : s.stampLate port t = false
  idle : s.rxOf port = none
  settled : s.fab.rebase = none
  forwarding : s.fab.forwarding = true
  started : s.fab.fwdStart ≤ t
  included : hasPort (s.cfgAt t).excluded port = false
  flowing : (s.input (pipeOf port) port).stalled = false
  room : overrun = true → 128 ≤ bytes.length
  forwarded : State.portConsumes bytes = false

theorem execFrameStamp_of_takes {port : Nat} {bytes : List Byte} {overrun : Bool} {t : Instant} {s : State}
    (h : TakesStamp (s.tick t) port bytes overrun t) :
    execFrameStamp port bytes overrun t s =
      let x := (s.tick t).newFrame { inPort := port, stamp := t, bytes := bytes, pipe := pipeOf port, consumed := false
                                     maxLen := (((s.tick t).cfgAt t).ing port).maxFrame }
      .next ((x.1.setRx port (some x.2)).pushItem (pipeOf port) port (.lead x.2)) := by
  obtain ⟨hfront, hup, hawake, hrising, hidle, hsettled, hforwarding, hstarted, hincluded, hflowing, hroom,
    hfwd⟩ := h
  have htaken : ¬ (64 ≤ port ∨ (!((s.tick t).model port).up) = true ∨ ((s.tick t).model port).parked = true
      ∨ (s.tick t).stampLate port t = true ∨ ((s.tick t).rxOf port).isSome = true) := by
    simp [hup, hawake, hrising, hidle, hfront]
  have hrun : ¬ ((!(s.tick t).fab.forwarding) = true ∨ t < (s.tick t).fab.fwdStart
      ∨ hasPort ((s.tick t).cfgAt t).excluded port = true) := by
    rw [hforwarding, hincluded]
    simpa using hstarted
  have hshort : ¬ (overrun = true ∧ bytes.length < 128) := fun ⟨ho, hl⟩ => Nat.not_lt.mpr (hroom ho) hl
  simp only [execFrameStamp, if_neg htaken, if_neg hrun, if_neg hshort, hsettled, hflowing, hfwd, Option.isSome_none,
    Bool.false_eq_true, if_false]

section FrameEnd

variable {port id : Nat} {t : Instant} {s : State} {f : Frame} (hrx : (s.tick t).rxOf port = some id)
  (hf : (s.tick t).frame id = some f)
include hrx hf

theorem execRxFrameEnd_of_fits (hfits : f.bytes.length ≤ f.maxLen) :
    execRxFrameEnd port t s = .next ((s.tick t).frameArrived port id f) := by
  simp only [execRxFrameEnd, hrx, hf, if_neg (Nat.not_lt.mpr hfits)]

theorem execRxOversize_of_over (hover : f.maxLen < f.bytes.length) :
    execRxOversize port t s = .next ((s.tick t).abortRx port f.maxLen 0x06 4 t) := by
  simp only [execRxOversize, hrx, hf, if_neg (Nat.not_le.mpr hover)]

end FrameEnd

section Grout

variable {port : Nat} {upto t : Instant} {s : State}

/-- A front port and loopback send their horizon to their pipeline alone (02 R67). -/
theorem execGrout_of_piped (hport : port < 68) (hpiped : port < 64 ∨ port = 67) :
    execGrout port upto t s =
      .next ((s.tick t).pushItem (pipeOf port) port (.grout ((s.tick t).sourceHz port upto % 2 ^ 32))) := by
  have hlone : ¬ (64 ≤ port ∧ port ≤ 66) := by omega
  simp only [execGrout, if_neg (Nat.not_le.mpr hport), if_neg hlone]

/-- An injection boundary sends its horizon to the admission point too (02 R67). -/
theorem execGrout_of_injection (hlow : 64 ≤ port) (hhigh : port ≤ 66) :
    execGrout port upto t s =
      let h := (s.tick t).sourceHz port upto
      let w := ((s.tick t).pushItem (pipeOf port) port (.grout (h % 2 ^ 32))).pushItem 5 port (.grout (h % 2 ^ 32))
      .next { w with fab := { w.fab with
        sentHz := Tbl.set 0 w.fab.sentHz port (max h (Tbl.get 0 w.fab.sentHz port)) } } := by
  have hport : ¬ 68 ≤ port := by omega
  simp only [execGrout, if_neg hport, if_pos (And.intro hlow hhigh)]

end Grout

section MergePoint

variable {mp : Nat} (hmp : mp < 7) (t : Instant) (s : State)
include hmp

theorem execMergeRelease_none : execMergeRelease mp none t s = .next ((s.tick t).mergeRun mp) := by
  simp only [execMergeRelease, if_neg (Nat.not_le.mpr hmp)]

theorem execMergeRelease_some (i : Nat) :
    execMergeRelease mp (some i) t s = .next (((s.tick t).tagError mp i t).mergeRun mp) := by
  simp only [execMergeRelease, if_neg (Nat.not_le.mpr hmp)]

theorem execChannelStall_of_flowing {input : Nat} (hin : (mergeInputs mp).contains input = true)
    (hflowing : ((s.tick t).input mp input).stalled = false) :
    execChannelStall mp input t s = .next ((s.tick t).stallInput mp input t) := by
  have hlive : ¬ (7 ≤ mp ∨ (!(mergeInputs mp).contains input) = true
      ∨ ((s.tick t).input mp input).stalled = true) := by
    rw [hin, hflowing]
    simpa using hmp
  simp only [execChannelStall, if_neg hlive]

end MergePoint

theorem execDigestComplete_of_passed {t : Instant} {s : State} {d : DigestRun} (hd : s.fab.digest = some d)
    (hpassed : d.until_ ≤ min (ns s.fab.admHz) ((s.tick t).unitBound 5)) :
    execDigestComplete t s = .next ((s.tick t).digestEnd t) := by
  simp only [execDigestComplete, State.tick_fab, hd]
  exact if_pos hpassed

/-- The lanes, the footing settings and sleep entry apply what is due, after a unit has. -/
theorem execStagedChangeApply_of_unit {unit : Nat} {horizon t : Instant} {s w : State}
    (hw : w = (let h := min (min horizon t) ((s.tick t).unitBound unit)
               if unit = 5 then (s.tick t).egressTo h t else (s.tick t).applyUnit unit h t)) :
    execStagedChangeApply unit horizon t s = .next (((w.lanesDue t).footCfgDue t).powerDue t) := by
  rw [hw, execStagedChangeApply]

theorem execModelEnd_of_port {port : Nat} (hport : port < 68) (t : Instant) (s : State) :
    execModelEnd port t s =
      .next ((((((s.tick t).egressPort port t).drainStep port t).parkStep port t).sendPhys port).powerDue t) := by
  simp only [execModelEnd, if_neg (Nat.not_le.mpr hport)]

/-- Settles O19: a lemma for each event with a guard; the others have a single branch. -/
theorem fabricEventsComplete : Obligations.FabricEventsComplete := by
  refine ⟨?frameStamp, ?rxFrameEnd, ?rxOversize, ?rxSymbolAbort, ?groutPiped, ?groutInjection, ?mergeRelease,
    ?mergeTagError, ?channelStall, ?ringCountUpdate, ?digestComplete, ?unitApply, ?egressApply, ?disableDrainEnd,
    ?modelEnd⟩
  case frameStamp =>
    intro port bytes overrun t s w id hfront hup hawake hrising hidle hsettled hforwarding hstarted hincluded hflowing
      hroom hfwd hnew
    have htakes : TakesStamp (s.tick t) port bytes overrun t :=
      ⟨hfront, hup, hawake, hrising, hidle, hsettled, hforwarding, hstarted, hincluded, hflowing, hroom, hfwd⟩
    have hrun := execFrameStamp_of_takes htakes
    have hnew' : (s.tick t).newFrame { inPort := port, stamp := t, bytes := bytes, pipe := pipeOf port
                                       maxLen := (((s.tick t).cfgAt t).ing port).maxFrame } = (w, id) := hnew
    rw [hnew'] at hrun
    exact hrun
  case rxFrameEnd => exact fun port t s id f hrx hf hfits => execRxFrameEnd_of_fits hrx hf hfits
  case rxOversize => exact fun port t s id f hrx hf hover => execRxOversize_of_over hrx hf hover
  case rxSymbolAbort => exact fun port arrived t s => rfl
  case groutPiped => exact fun port upto t s hport hpiped => execGrout_of_piped hport hpiped
  case groutInjection =>
    rintro port upto t s w hlow hhigh rfl
    exact execGrout_of_injection hlow hhigh
  case mergeRelease =>
    rintro mp _ t s hmp rfl
    exact execMergeRelease_none hmp t s
  case mergeTagError =>
    rintro mp _ t s i hmp rfl
    exact execMergeRelease_some hmp t s i
  case channelStall => exact fun mp input t s hmp hin hflowing => execChannelStall_of_flowing hmp t s hin hflowing
  case ringCountUpdate => exact fun count t s => rfl
  case digestComplete => exact fun t s d hd hpassed => execDigestComplete_of_passed hd hpassed
  case unitApply =>
    intro unit horizon t s w hunit hw
    exact execStagedChangeApply_of_unit (hw.trans (if_neg hunit).symm)
  case egressApply =>
    rintro _ horizon t s w rfl hw
    exact execStagedChangeApply_of_unit (hw.trans (if_pos rfl).symm)
  case disableDrainEnd =>
    rintro port t s w rfl
    rfl
  case modelEnd => exact fun port t s hport => execModelEnd_of_port hport t s

end Sys2Proof.Machine
end

section
/-! The ingress commands (03 R115 to R120): what a body does once none of its refusals applies, and the interpreter's
answer to it. -/

namespace Sys2Proof.Machine

theorem refuseIf_of_ok {ok : Bool} (h : ok = true) (st : Nat) (k : Res) : refuseIf (!ok) st k = k :=
  refuseIf_of_false (congrArg not h) st k

/-- A command whose body stages a change that fits (04 R126, 02 R75). -/
theorem exec_staged {i : Instr} {op : OpSpec} {r : Req} {s : State} {lead words : Nat} {txn : Bool} {units : List Nat}
    {chs : List Change} {ws : List Word} (hrun : exec i s = .next (runCommand opTable op r s))
    (hacc : accepted op r s = true) (hfit : stageFits op r s lead txn words = true)
    (hbody : op.body ⟨r, s.host.nextJid, applyInstant op r s⟩ (taken op r s) =
      (taken op r s).stageChange ⟨r, s.host.nextJid, applyInstant op r s⟩ lead txn units words chs ws) :
    exec i s = .next (stagedState op r s lead txn units words chs ws) := by
  rw [hrun, runCommand_staged hacc hfit hbody]

/-- A command whose body is done as it is taken. -/
theorem exec_done {i : Instr} {op : OpSpec} {r : Req} {s s' : State} {ws : List Word}
    (hrun : exec i s = .next (runCommand opTable op r s)) (hacc : accepted op r s = true)
    (hbody : op.body ⟨r, s.host.nextJid, applyInstant op r s⟩ (taken op r s) = .done s' ws) :
    exec i s = .next (okReply op r s s' ws) := by
  rw [hrun, runCommand_done hacc hbody]

section Bodies

variable {c : Ctx} {s : State}

theorem bodyIngressSet_of_inRange (hok : okIngressSet c.r = true) :
    bodyIngressSet c s = s.stageChange c (us 200) true copies5 1 [.ingress (c.r.f 4 0 7) (ingressOf c.r)] :=
  refuseIf_of_ok hok ..

theorem bodyIngressGet_of_inRange (honly : c.r.only 4 0x7F = true) (hport : c.r.f 4 0 7 ≤ 67) :
    bodyIngressGet c s = .done s (word (c.r.f 4 0 7) :: (s.cfgNow.ing (c.r.f 4 0 7)).words) := by
  have hlow : ¬ 67 < c.r.f 4 0 7 := Nat.not_lt.mpr hport
  exact refuseIf_of_false (by simp [honly, hlow]) ..

theorem bodyVlanSet_of_inRange (hok : okVlanSet c.r = true) :
    bodyVlanSet c s = s.stageChange c (ms 5) true allUnits 1 [.vlan (c.r.f 4 0 12) (vlanOf c.r)] :=
  refuseIf_of_ok hok ..

theorem bodyVlanGet_of_inRange (honly : c.r.only 4 0xFFF = true) (hlow : 1 ≤ c.r.f 4 0 12)
    (hhigh : c.r.f 4 0 12 ≤ 4094) :
    bodyVlanGet c s = .done s ((s.cfgNow.vlan (c.r.f 4 0 12)).words (c.r.f 4 0 12)) :=
  refuseIf_of_false (by simp [honly, hlow, hhigh]) ..

theorem bodyStreamSet_of_inRange (hok : okStreamSet c.r = true)
    (honce : (s.cfgsFrom (s.effA c (ms 5) true 1)).any (streamTwice (c.r.f 4 0 15) (streamFrom c.r)) = false)
    (hroom : (s.cfgsFrom (s.effA c (ms 5) true 1)).any (streamCombos (c.r.f 4 0 15) (streamFrom c.r)) = false) :
    bodyStreamSet c s = s.stageChange c (ms 5) true copies5 1 [.stream (c.r.f 4 0 15) (streamFrom c.r)] :=
  (refuseIf_of_ok hok ..).trans <| (refuseIf_of_false honce ..).trans <| refuseIf_of_false hroom ..

theorem bodyStreamGet_of_inRange (honly : c.r.only 4 0x7FFF = true) :
    bodyStreamGet c s = .done s (Stream.words (c.r.f 4 0 15) (s.cfgNow.stream (c.r.f 4 0 15))) :=
  refuseIf_of_ok honly ..

theorem bodyMeterSet_of_inRange (hok : okMeterSet c.r = true) :
    bodyMeterSet c s = s.stageChange c (ms 5) true copies5 1 [.meter (c.r.f 4 0 15) (meterOf c.r)] :=
  refuseIf_of_ok hok ..

theorem bodyMeterGet_of_inRange (honly : c.r.only 4 0x7FFF = true) (hi : c.r.f 4 0 15 ≠ 0) :
    bodyMeterGet c s = .done s ((s.cfgNow.meter (c.r.f 4 0 15)).words (c.r.f 4 0 15)) :=
  refuseIf_of_false (by simp [honly, hi]) ..

theorem bodyWindowSet_of_inRange (hok : okWindowSet c.r = true) :
    bodyWindowSet c s = s.stageChange c (ms 5) true copies5 1 [.window (c.r.f 4 0 8) (windowOf c.r)] :=
  refuseIf_of_ok hok ..

theorem bodyRecoverySet_of_inRange (hok : okRecoverySet c.r = true)
    (hclear : (s.cfgsFrom (s.effA c (ms 5) true 1)).any (recoveryClash (c.r.f 4 0 8) (recoveryOf c.r)) = false) :
    bodyRecoverySet c s = s.stageChange c (ms 5) true copies5 1 [.recovery (c.r.f 4 0 8) (recoveryOf c.r)] :=
  (refuseIf_of_ok hok ..).trans <| refuseIf_of_false hclear ..

section RecoveryIndex

variable (honly : c.r.only 4 0xFF = true) (hi : c.r.f 4 0 8 ≠ 0)
include honly hi

theorem bodyRecoveryGet_of_inRange : bodyRecoveryGet c s = .done s (recoveryWords s (c.r.f 4 0 8)) :=
  refuseIf_of_false (by simp [honly, hi]) ..

theorem bodyRecoveryReset_of_inRange :
    bodyRecoveryReset c s = s.stageChange c (us 200) true copies5 1 [.recoveryReset (c.r.f 4 0 8)] :=
  refuseIf_of_false (by simp [honly, hi]) ..

end RecoveryIndex

end Bodies

/-- Settles O2: no body refuses; the conflict tests look at the configurations from the change's instant on, which the
take leaves as they are. -/
theorem ingressCommandsComplete : Obligations.IngressCommandsComplete := by
  refine ⟨?ingressSet, ?ingressGet, ?vlanSet, ?vlanGet, ?streamSet, ?streamGet, ?meterSet, ?meterGet, ?windowSet,
    ?recoverySet, ?recoveryGet, ?recoveryReset⟩
  case ingressSet => exact fun r s hacc hok hfit => exec_staged rfl hacc hfit (bodyIngressSet_of_inRange hok)
  case ingressGet =>
    exact fun r s hacc honly hport => exec_done rfl hacc (bodyIngressGet_of_inRange honly hport)
  case vlanSet => exact fun r s hacc hok hfit => exec_staged rfl hacc hfit (bodyVlanSet_of_inRange hok)
  case vlanGet =>
    exact fun r s hacc honly hlow hhigh => exec_done rfl hacc (bodyVlanGet_of_inRange honly hlow hhigh)
  case streamSet =>
    intro r s hacc hok honce hroom hfit
    rw [← cfgsFrom_taken opStreamSet r s, ← effA_taken opStreamSet r s s.host.nextJid] at honce hroom
    exact exec_staged rfl hacc hfit (bodyStreamSet_of_inRange hok honce hroom)
  case streamGet => exact fun r s hacc honly => exec_done rfl hacc (bodyStreamGet_of_inRange honly)
  case meterSet => exact fun r s hacc hok hfit => exec_staged rfl hacc hfit (bodyMeterSet_of_inRange hok)
  case meterGet => exact fun r s hacc honly hi => exec_done rfl hacc (bodyMeterGet_of_inRange honly hi)
  case windowSet => exact fun r s hacc hok hfit => exec_staged rfl hacc hfit (bodyWindowSet_of_inRange hok)
  case recoverySet =>
    intro r s hacc hok hclear hfit
    rw [← cfgsFrom_taken opRecoverySet r s, ← effA_taken opRecoverySet r s s.host.nextJid] at hclear
    exact exec_staged rfl hacc hfit (bodyRecoverySet_of_inRange hok hclear)
  case recoveryGet => exact fun r s hacc honly hi => exec_done rfl hacc (bodyRecoveryGet_of_inRange honly hi)
  case recoveryReset =>
    exact fun r s hacc honly hi hfit => exec_staged rfl hacc hfit (bodyRecoveryReset_of_inRange honly hi)

end Sys2Proof.Machine
end

section
/-! The events of the pipelines, admission, the queues and PAUSE (03 R88, R89; 05 R173 to R200): each takes the branch
that its guards select. Several only carry an instant, up to which the model of a port runs (log entry 27). -/

namespace Sys2Proof.Machine

@[simp] theorem State.tick_outq (s : State) (t : Instant) (mp : Nat) : (s.tick t).outq mp = s.outq mp := rfl

@[simp] theorem State.tick_model (s : State) (t : Instant) (port : Nat) : (s.tick t).model port = s.model port := rfl

section Pipelines

variable {pipe id : Nat} {t : Instant} {s : State} {rest : List Item} {f : Frame} (hpipe : pipe < 5)
  (hf : ((s.tick t).setOutq pipe rest).frame id = some f)
include hpipe hf

theorem execPipelineLead_of_frame (hq : s.outq pipe = .lead id :: rest) (ecc : Option (Nat × Nat)) :
    execPipelineLead pipe ecc t s =
      .next (State.flushPipe pipe rest.length (((s.tick t).setOutq pipe rest).leadPass pipe id f ecc t)) := by
  simp only [execPipelineLead, State.tick_outq, hq, if_neg (Nat.not_le.mpr hpipe), hf]

theorem execEndKeyStage_of_frame (hq : s.outq pipe = .fin id :: rest) :
    execEndKeyStage pipe t s =
      .next (State.flushPipe pipe rest.length (((s.tick t).setOutq pipe rest).endPass pipe id f t)) := by
  simp only [execEndKeyStage, State.tick_outq, hq, if_neg (Nat.not_le.mpr hpipe), hf]

end Pipelines

section AdmissionPoint

variable {id : Nat} {t : Instant} {s : State} {rest : List Item} {f : Frame}
  (hf : ((s.tick t).setOutq 5 rest).frame id = some f)
include hf

theorem execAdmission_of_frame (hq : s.outq 5 = .lead id :: rest) :
    execAdmission t s = .next ((((s.tick t).setOutq 5 rest).egressTo f.stamp t).admitLead id f) := by
  simp only [execAdmission, State.tick_outq, hq, hf]

theorem execEndKeyAdmission_of_frame (hq : s.outq 5 = .fin id :: rest) :
    execEndKeyAdmission t s =
      .next ((((s.tick t).setOutq 5 rest).egressTo (ns (f.endNs.getD 0)) t).admitEnd id f (ns (f.endNs.getD 0))) := by
  simp only [execEndKeyAdmission, State.tick_outq, hq, hf]

end AdmissionPoint

/-- The events that only carry an instant to a port answer so: past the last port nothing but time moves. -/
theorem next_ite_of_port {n port : Nat} (hport : port < n) (idle ran : State) :
    (.next (if n ≤ port then idle else ran) : Host.Outcome State Fault Refusal) = .next ran :=
  congrArg Host.Outcome.next (if_neg (Nat.not_le.mpr hport))

theorem execPauseRearmEnd_of_over {port : Nat} {t x : Instant} {s w : State} (hw : w = (s.tick t).egressPort port t)
    (hx : (w.model port).ignoreUntil = some x) (hover : x ≤ min t (w.unitBound 5)) :
    execPauseRearmEnd port t s = .next (w.setModel port { w.model port with ignoreUntil := none }) := by
  simp only [execPauseRearmEnd, ← hw, hx, if_pos hover]

section Transmitter

variable {port : Nat} {t : Instant} {s : State} {y : PhysTx}

theorem execPhysicalTxStart_of_ready {w : State} {rest : List PhysTx} (hport : port < 64)
    (hw : w = (s.tick t).sendPhys port) (hhead : (w.model port).phys = y :: rest)
    (hready : w.physReady port y t = true) :
    execPhysicalTxStart port t s =
      .next ((w.setModel port { w.model port with phys := { y with begun := true, begunAt := t } :: rest }).sendPhys
        port) := by
  simp only [execPhysicalTxStart, ← hw, if_neg (Nat.not_le.mpr hport), hhead, hready, Bool.not_true, Bool.false_eq_true,
    if_false]

theorem execCutPoison_of_bad (hbad : (s.model port).phys.find? PhysTx.bad = some y) :
    execCutPoison port t s = .next ((s.tick t).endEarly port y 13 (State.allButFour y)) := by
  simp only [execCutPoison, State.tick_model, hbad]

theorem execCutUnderrun_of_begun {w : State}
    (hcut : (s.model port).phys.find? (fun y => y.ct && y.begun) = some y)
    (hw : w = (s.tick t).endEarly port y 14 ((s.tick t).sentBy port y t)) :
    execCutUnderrun port t s =
      .next ({ w with egr := { w.egr with underrun := true } }.raise 0x0132 96 [bytesBE 1 port] t) := by
  simp only [execCutUnderrun, State.tick_model, hcut, ← hw]

variable {addr : Nat}

theorem execTxTileRead_of_corrected (haddr : addr < 524288) :
    execTxTileRead port addr 1 t s = .next (((s.tick t).sendPhys port).countD 5) := by
  have htile : ¬ (1 = 0 ∨ 524288 ≤ addr) := by omega
  simp only [execTxTileRead, if_neg htile, if_true]

theorem execTxTileRead_of_bad {errors : Nat} (hbad : 2 ≤ errors) (haddr : addr < 524288) :
    execTxTileRead port addr errors t s = .next (((s.tick t).sendPhys port).tileBad port addr t) := by
  have htile : ¬ (errors = 0 ∨ 524288 ≤ addr) := by omega
  have hmany : errors ≠ 1 := by omega
  simp only [execTxTileRead, if_neg htile, if_neg hmany]

end Transmitter

section Extraction

variable {t : Instant} {s : State} {y : PhysTx} {rest : List PhysTx} (hended : y.ended.isSome = true) (fwFull : Bool)
include hended

theorem execExtractFrame_firmware (hhead : (s.model 64).phys = y :: rest) :
    execExtractFrame 64 fwFull t s =
      .next (if fwFull then ((s.tick t).setModel 64 { s.model 64 with phys := rest }).countQ 64 y.cls 17
        else ((s.tick t).setModel 64 { s.model 64 with phys := rest }).extract64 y) := by
  have hinside : ¬ (64 < 64 ∨ 66 < 64) := by decide
  have hwhole : y.ended.isNone = false := Option.isNone_eq_false_iff.mpr hended
  simp only [execExtractFrame, if_neg hinside, State.tick_model, hhead, hwhole, Bool.false_eq_true, if_false, if_true]
  exact (apply_ite Host.Outcome.next ..).symm

theorem execExtractFrame_core {c : AppCore} (hhead : (s.model c.port).phys = y :: rest) :
    execExtractFrame c.port fwFull t s =
      .next (((s.tick t).setModel c.port { s.model c.port with phys := rest }).extractTo c c.port y) := by
  have hinside : ¬ (c.port < 64 ∨ 66 < c.port) := by cases c <;> decide
  have hcore : c.port ≠ 64 := by cases c <;> decide
  have hself : (if c.port = 65 then AppCore.ac0 else AppCore.ac1) = c := by cases c <;> rfl
  have hwhole : y.ended.isNone = false := Option.isNone_eq_false_iff.mpr hended
  simp only [execExtractFrame, if_neg hinside, State.tick_model, hhead, hwhole, Bool.false_eq_true, if_false,
    if_neg hcore, hself]

end Extraction

theorem appCore_port_eq_ite (c : AppCore) : c.port = if c = AppCore.ac0 then 65 else 66 := by
  cases c <;> rfl

theorem execInjectDescriptor_firmware {direct : Bool} {hb3 hb0 : Word} {bs : List Byte} (hmin : 64 ≤ bs.length)
    (hmax : bs.length ≤ 9216) (htype : State.outerType bs ≠ 0x88B5) (t : Instant) (s : State) :
    execInjectDescriptor (.firmware direct hb3 hb0 bs) t s =
      .next ((s.tick t).inject (if direct then (s.tick t).directFrame 64 hb3.toNat hb0.toNat bs t
        else { inPort := 64, stamp := t, bytes := bs, pipe := 0 }) t) := by
  have htaken : ¬ (bs.length < 64 ∨ 9216 < bs.length ∨ State.outerType bs = 0x88B5) :=
    fun h => h.elim (Nat.not_lt.mpr hmin) fun h => h.elim (Nat.not_lt.mpr hmax) htype
  simp only [execInjectDescriptor, if_neg htaken]

section Loopback

variable {t e : Instant} {s : State} {y : PhysTx} {rest : List PhysTx} (hhead : (s.model 67).phys = y :: rest)
include hhead

theorem execLoopbackReentry_of_start (hbegun : y.begun = false) (hended : y.ended = none) :
    execLoopbackReentry t s = .next ((s.tick t).loopStart y rest) := by
  simp only [execLoopbackReentry, State.tick_model, hhead, hbegun, hended, Bool.false_eq_true, if_false]

theorem execLoopbackReentry_of_whole (hbegun : y.begun = false) (hended : y.ended = some e) :
    execLoopbackReentry t s = .next (((s.tick t).loopStart y rest).loopEnd rest e) := by
  simp only [execLoopbackReentry, State.tick_model, hhead, hbegun, hended, Bool.false_eq_true, if_false]

theorem execLoopbackReentry_of_end (hbegun : y.begun = true) (hended : y.ended = some e) :
    execLoopbackReentry t s = .next ((s.tick t).loopEnd rest e) := by
  simp only [execLoopbackReentry, State.tick_model, hhead, hbegun, hended, if_true]

end Loopback

/-- Settles O21: a lemma for each event says which branch its guards select; a core's injection has a single one. -/
theorem pipelineAndQueueEventsComplete : Obligations.PipelineAndQueueEventsComplete := by
  refine ⟨?pipelineLead, ?endKeyStage, ?admission, ?endKeyAdmission, ?modelStart, ?aging, ?physicalTxStart, ?cutPoison,
    ?cutUnderrun, ?tileCorrected, ?tileBad, ?pauseRx, ?pauseEnd, ?pauseCeiling, ?pauseRearmEnd, ?extractFirmware,
    ?extractCore, ?injectCore, ?injectFirmware, ?loopbackStart, ?loopbackWhole, ?loopbackEnd⟩
  case pipelineLead => exact fun pipe ecc t s id rest f hq hpipe hf => execPipelineLead_of_frame hpipe hf hq ecc
  case endKeyStage => exact fun pipe t s id rest f hq hpipe hf => execEndKeyStage_of_frame hpipe hf hq
  case admission => exact fun t s id rest f hq hf => execAdmission_of_frame hf hq
  case endKeyAdmission => exact fun t s id rest f hq hf => execEndKeyAdmission_of_frame hf hq
  case modelStart => exact fun port t s hport => next_ite_of_port hport ..
  case aging => exact fun port t s hport => next_ite_of_port hport ..
  case physicalTxStart =>
    exact fun port t s w y rest hport hw hhead hready => execPhysicalTxStart_of_ready hport hw hhead hready
  case cutPoison => exact fun port t s y hbad => execCutPoison_of_bad hbad
  case cutUnderrun => exact fun port t s y w hcut hw => execCutUnderrun_of_begun hcut hw
  case tileCorrected =>
    rintro port addr _ t s rfl haddr
    exact execTxTileRead_of_corrected haddr
  case tileBad => exact fun port addr errors t s hbad haddr => execTxTileRead_of_bad hbad haddr
  case pauseRx => exact fun port t s hport => next_ite_of_port hport ..
  case pauseEnd => exact fun port t s hport => next_ite_of_port hport ..
  case pauseCeiling => exact fun port t s hport => next_ite_of_port hport ..
  -- The lemma is elaborated on its own: unified with the goal, it would run the port's model.
  case pauseRearmEnd => exact fun port t s w x hw hx hover => (execPauseRearmEnd_of_over hw hx hover :)
  case extractFirmware =>
    rintro _ fwFull t s y rest rfl hhead hended
    exact execExtractFrame_firmware hended fwFull hhead
  case extractCore =>
    intro port fwFull t s c y rest hport hhead hended
    rw [← appCore_port_eq_ite] at hport
    subst hport
    exact execExtractFrame_core hended fwFull hhead
  case injectCore =>
    rintro _ t s c rfl
    rfl
  case injectFirmware =>
    rintro _ t s direct hb3 hb0 bs rfl hmin hmax htype
    exact execInjectDescriptor_firmware hmin hmax htype t s
  case loopbackStart => exact fun t s y rest hhead hbegun hended => execLoopbackReentry_of_start hhead hbegun hended
  case loopbackWhole => exact fun t s y rest e hhead hbegun hended => execLoopbackReentry_of_whole hhead hbegun hended
  case loopbackEnd => exact fun t s y rest e hhead hbegun hended => execLoopbackReentry_of_end hhead hbegun hended

end Sys2Proof.Machine
end

section
/-! The L2 commands (04 R158 to R163): what a body does once none of its refusals applies, and the interpreter's answer
to it. The setting commands stage or read one entry; L2_SET needs a plan for its entries, L2_FLUSH room for each of its
groups. -/

namespace Sys2Proof.Machine

/-- A command whose body leaves work that has still to come due: its first reply is PENDING (12 R509). -/
theorem exec_wait {i : Instr} {op : OpSpec} {r : Req} {s s' : State} {ws : List Word}
    (hrun : exec i s = .next (runCommand opTable op r s)) (hacc : accepted op r s = true)
    (hbody : op.body ⟨r, s.host.nextJid, applyInstant op r s⟩ (taken op r s) = .wait s' ws) :
    exec i s = .next (pendingReply op r s s' ws) := by
  rw [hrun, runCommand_wait hacc hbody]

theorem txnState_tab (op : OpSpec) (r : Req) (s : State) (a : Instant) (words : Nat) (chs : List Change) :
    (txnState op r s a words chs).tab = s.tab := by
  rw [txnState, State.stage_tab, taken_tab]

/-- A transaction that fits waits, whether or not its packet gives its instant (04 R126). -/
theorem stageChange_txn {op : OpSpec} {r : Req} {s : State} {words : Nat} {chs : List Change} {ws : List Word}
    (hfit : stageFits op r s (ms 5) true words = true) :
    (taken op r s).stageChange ⟨r, s.host.nextJid, applyInstant op r s⟩ (ms 5) true copies5 words chs ws =
      .wait (txnState op r s (changeInstant op r s (ms 5) true words) words chs) ws := by
  rw [stageChange_fits hfit]
  exact if_neg (by simp)

section Bodies

variable {c : Ctx} {s : State}

theorem bodyL2Set_of_plan {a : Instant} {p : Plan (Nat × Nat) L2Entry} (hok : okL2Set c.r = true)
    (ha : s.effA c (ms 5) true (l2Entries c.r).length = a)
    (hplan : planAll Plan.addL2 (l2Entries c.r) (s.l2PlanAt a) = some p) :
    bodyL2Set c s =
      stagePlan c s a p.puts.length p.l2Moves p.l2Puts fun w => w.afterL2Set (l2Entries c.r) a := by
  simp only [bodyL2Set, refuseIf_of_ok hok, ha, hplan]

theorem bodyL2Del_of_inRange (hok : okL2Del c.r = true) :
    bodyL2Del c s =
      (let ks := l2DelKeys c.r (s.cfgAt (s.effA c (ms 5) true (l2DelIdx c.r).length))
       s.stageChange c (ms 5) true copies5 ks.length (ks.map fun k => .l2Del k.1 k.2) [word ks.length]) :=
  refuseIf_of_ok hok ..

theorem bodyL2Get_of_absent (hkey : l2KeyOk c.r 4 = true)
    (hnone : l2Where s.cfgNow (c.r.f 4 0 12) (c.r.mac 5) = none) :
    bodyL2Get c s = .done s [word (c.r.w 4), word (c.r.w 5), word (c.r.w 6), 0, 0] := by
  simp only [bodyL2Get, refuseIf_of_ok hkey, hnone]

theorem bodyL2Get_of_found {pos : Nat} {e : L2Entry} (hkey : l2KeyOk c.r 4 = true)
    (hfound : l2Where s.cfgNow (c.r.f 4 0 12) (c.r.mac 5) = some (pos, e)) :
    bodyL2Get c s = .done s (e.words ++
      [word (atBit true 31 + atBit e.locked 30
        + min 0xFFFFF ((c.t - (s.l2Ctl e.vid e.mac).lastHit) / sec 1))]) := by
  simp only [bodyL2Get, refuseIf_of_ok hkey, hfound]

theorem bodyL2Flush_of_room {a : Instant} {ws : List Nat} {w : State} {rs : List Word} (hok : okL2Flush c.r = true)
    (ha : flushA c s = a) (hws : flushWords (flushSet (s.cfgAt a) (flushSelOf c.r)).length = ws)
    (hroom : ∀ g ∈ ws.zipIdx.drop 1, s.txnNear (a + us g.2) = false ∧ g.1 + s.wordsAt (a + us g.2) ≤ 64)
    (hstage : s.stageChange { c with a := some a } (ms 5) true copies5 (ws.headD 0) [.l2Flush (flushSelOf c.r)] =
      .wait w rs) :
    bodyL2Flush c s = .wait { w with tab := { w.tab with
      flushes := w.tab.flushes ++ [{ jid := c.jid, a := a, k := 1, sel := flushSelOf c.r }] } } rs := by
  have hapart : ((ws.zipIdx.drop 1).any fun g => s.txnNear (a + us g.2)) = false :=
    List.any_eq_false.mpr fun g hg => Bool.eq_false_iff.mp (hroom g hg).1
  have hwords : ((ws.zipIdx.drop 1).any fun g => decide (64 < g.1 + s.wordsAt (a + us g.2))) = false :=
    List.any_eq_false.mpr fun g hg => by simpa using (hroom g hg).2
  simp only [bodyL2Flush, ha, hws, refuseIf_of_ok hok, refuseIf_of_false hapart, refuseIf_of_false hwords, hstage]

theorem bodyL2Unlock_of_found {w : State} {ws : List Word} (hkey : l2KeyOk c.r 4 = true)
    (hfound : (l2Where (s.cfgAt (s.effA c (ms 5) true 1)) (c.r.f 4 0 12) (c.r.mac 5)).isSome = true)
    (hstage : s.stageChange c (ms 5) true copies5 1 [.l2Lock (c.r.f 4 0 12) (c.r.mac 5) false] = .wait w ws) :
    bodyL2Unlock c s = .wait (w.clearHolds [(c.r.f 4 0 12, c.r.mac 5)]) ws := by
  simp only [bodyL2Unlock, refuseIf_of_ok hkey, hfound, if_true, hstage]

/-- The spec is silent about a key without an entry; the model completes the command and stages no change (log entry
32). -/
theorem bodyL2Unlock_of_absent (hkey : l2KeyOk c.r 4 = true)
    (hnone : (l2Where (s.cfgAt (s.effA c (ms 5) true 1)) (c.r.f 4 0 12) (c.r.mac 5)).isSome = false) :
    bodyL2Unlock c s = s.stageChange c (ms 5) true copies5 0 [] := by
  simp only [bodyL2Unlock, refuseIf_of_ok hkey, hnone, Bool.false_eq_true, if_false]

theorem bodyTableCfgSet_of_inRange (hok : okTableCfgSet c.r = true) :
    bodyTableCfgSet c s = s.stageChange c (ms 5) true copies5 1 [.tableCfg (tableCfgOf c.r)] :=
  refuseIf_of_ok hok ..

theorem bodyL2PortSet_of_inRange (hok : okL2PortSet c.r = true) :
    bodyL2PortSet c s = s.stageChange c (ms 5) true allUnits 1 [.l2port (c.r.f 4 0 7) (l2PortOf c.r)] :=
  refuseIf_of_ok hok ..

theorem bodyL2PortGet_of_inRange (honly : c.r.only 4 0x7F = true) (hport : c.r.f 4 0 7 ≤ 67) :
    bodyL2PortGet c s = .done s ((s.cfgNow.l2port (c.r.f 4 0 7)).words (c.r.f 4 0 7)) := by
  have hlow : ¬ 67 < c.r.f 4 0 7 := Nat.not_lt.mpr hport
  exact refuseIf_of_false (by simp [honly, hlow]) ..

end Bodies

/-- Settles O3: no body refuses, and what a body plans or looks up in the state that the take leaves is what stood
before. That L2_UNLOCK completes for a key without an entry (log entry 32), and the seconds in the reply of L2_GET for
an entry that was never hit or is written anew (log entry 134), are the model's choice. -/
theorem l2CommandsComplete : Obligations.L2CommandsComplete := by
  refine ⟨?l2Set, ?l2Del, ?l2GetAbsent, ?tableCfgSet, ?tableCfgGet, ?l2PortSet, ?l2PortGet, ?l2GetFound, ?l2Flush,
    ?l2UnlockFound, ?l2UnlockAbsent⟩
  case l2Set =>
    intro r s a p hacc hok ha hplan hfit
    rw [← l2PlanAt_taken opL2Set r s] at hplan
    exact exec_wait rfl hacc ((bodyL2Set_of_plan hok ((effA_taken ..).trans ha.symm) hplan).trans
      (stagePlan_fits rfl hfit))
  case l2Del =>
    rintro r s _ hacc hok rfl hfit
    rw [← cfgAt_taken opL2Del r s, ← effA_taken opL2Del r s s.host.nextJid] at hfit ⊢
    exact exec_staged rfl hacc hfit (bodyL2Del_of_inRange hok)
  case l2GetAbsent => exact fun r s hacc hkey hnone => exec_done rfl hacc (bodyL2Get_of_absent hkey hnone)
  case tableCfgSet => exact fun r s hacc hok hfit => exec_staged rfl hacc hfit (bodyTableCfgSet_of_inRange hok)
  case tableCfgGet => exact fun r s hacc => exec_done rfl hacc rfl
  case l2PortSet => exact fun r s hacc hok hfit => exec_staged rfl hacc hfit (bodyL2PortSet_of_inRange hok)
  case l2PortGet => exact fun r s hacc honly hport => exec_done rfl hacc (bodyL2PortGet_of_inRange honly hport)
  case l2GetFound =>
    intro r s pos e hacc hkey hfound
    have hctl : s.l2Ctl e.vid e.mac = (taken opL2Get r s).l2Ctl e.vid e.mac := by
      simp only [State.l2Ctl, taken_tab]
    rw [hctl]
    exact exec_done rfl hacc (bodyL2Get_of_found hkey hfound)
  case l2Flush =>
    intro r s a ws hacc hok ha hws hroom hfit
    have hflushes : (txnState opL2Flush r s a (ws.headD 0) [.l2Flush (flushSelOf r)]).tab.flushes = s.tab.flushes :=
      congrArg Tables.flushes (txnState_tab ..)
    simp only [← cfgAt_taken opL2Flush r s, ← txnNear_taken opL2Flush r s, ← wordsAt_taken opL2Flush r s] at hws hroom
    rw [← hflushes]
    exact exec_wait rfl hacc (bodyL2Flush_of_room hok ((flushA_taken ..).trans ha.symm) hws.symm hroom
      (stageChange_at hfit))
  case l2UnlockFound =>
    intro r s hacc hkey hfound hfit
    rw [← cfgAt_taken opL2Unlock r s, ← effA_taken opL2Unlock r s s.host.nextJid] at hfound
    exact exec_wait rfl hacc (bodyL2Unlock_of_found hkey hfound (stageChange_txn hfit))
  case l2UnlockAbsent =>
    intro r s hacc hkey hnone hfit
    rw [← cfgAt_taken opL2Unlock r s, ← effA_taken opL2Unlock r s s.host.nextJid] at hnone
    exact exec_staged rfl hacc hfit (bodyL2Unlock_of_absent hkey hnone)

end Sys2Proof.Machine
end

section
/-! The routing, group and fence commands (04 R154, R164 to R169): what a body does once none of its refusals applies,
and the interpreter's answer to it. -/

namespace Sys2Proof.Machine

section Bodies

variable {c : Ctx} {s : State}

theorem bodyRifSet_of_inRange (hok : okRifSet c.r = true)
    (hclear : (s.cfgsFrom (s.effA c (ms 5) true 1)).any (rifClash (c.r.f 4 0 10) (rifFrom c.r)) = false) :
    bodyRifSet c s = s.stageChange c (ms 5) true copies5 1 [.rif (c.r.f 4 0 10) (rifFrom c.r)] :=
  (refuseIf_of_ok hok ..).trans <| refuseIf_of_false hclear ..

theorem bodyRifGet_of_inRange (honly : c.r.only 4 0x3FF = true) :
    bodyRifGet c s = .done s ((s.cfgNow.rif (c.r.f 4 0 10)).words (c.r.f 4 0 10)) :=
  refuseIf_of_ok honly ..

theorem bodyNhSet_of_inRange (hok : okNhSet c.r = true)
    (hclear : (s.cfgsFrom (s.effA c (ms 5) true 1)).any (nhClash (c.r.f 4 0 14) (nhFrom c.r)) = false) :
    bodyNhSet c s = s.stageChange c (ms 5) true copies5 1 [.nh (c.r.f 4 0 14) (nhFrom c.r)] :=
  (refuseIf_of_ok hok ..).trans <| refuseIf_of_false hclear ..

theorem bodyNhGet_of_inRange (honly : c.r.only 4 0x3FFF = true) :
    bodyNhGet c s = .done s ((s.cfgNow.nh (c.r.f 4 0 14)).words (c.r.f 4 0 14)) :=
  refuseIf_of_ok honly ..

theorem bodyRouteSet_of_plan {a : Instant} {p : Plan (Bool × Nat) HostEntry} {e : TrieEdit × List Nat}
    (hok : okRouteSet c.r = true) (ha : s.effA c (ms 5) true (routesOf c.r).length = a)
    (hlive : (s.cfgsFrom a).any (routeDead (routesOf c.r)) = false)
    (hhosts : planAll Plan.addHost (hostsOf (routesOf c.r)) (s.hostPlanAt a) = some p)
    (htrie : planTrie s a c.t false (prefixesOf (routesOf c.r)) = some e) :
    bodyRouteSet c s = stagePlan c s a (p.puts.length + e.1.staged.length) p.hostMoves
      (p.hostPuts ++ trieChange false (prefixesOf (routesOf c.r)) e.2) id := by
  simp only [bodyRouteSet, ha, refuseIf_of_ok hok, refuseIf_of_false hlive, hhosts, htrie]

theorem bodyRouteDel_of_plan {a : Instant} {rs : List TrieRoute} {e : TrieEdit × List Nat}
    (hok : okRouteDel c.r = true) (ha : s.effA c (ms 5) true (routeIdx c.r).length = a)
    (hrs : routesHere (s.cfgAt a) (routesOf c.r) = rs) (htrie : planTrie s a c.t true (prefixesOf rs) = some e) :
    bodyRouteDel c s = stagePlan c s a ((hostsOf rs).length + e.1.staged.length) []
      (((hostsOf rs).map fun h => .hostDel h.v6 h.addr) ++ trieChange true (prefixesOf rs) e.2) id := by
  simp only [bodyRouteDel, ha, hrs, refuseIf_of_ok hok, htrie]

theorem bodyRouteGet_of_hit {x : TrieRoute} (hok : okRouteGet c.r = true)
    (hhit : routeHit s.cfgNow (c.r.b 4 20) (routeOfWords c.r 4) = some x) :
    bodyRouteGet c s = .done s (x.words ++ [word (2 ^ 31)]) := by
  simp only [bodyRouteGet, refuseIf_of_ok hok, hhit]

theorem bodyRouteGet_of_miss (hok : okRouteGet c.r = true)
    (hmiss : routeHit s.cfgNow (c.r.b 4 20) (routeOfWords c.r 4) = none) :
    bodyRouteGet c s =
      .done s ([word (c.r.w 4), word (c.r.w 5), word (c.r.w 6), word (c.r.w 7), word (c.r.w 8)] ++ [0]) := by
  simp only [bodyRouteGet, refuseIf_of_ok hok, hmiss]

theorem bodyMcgSet_of_inRange (hgroup : c.r.only 4 0x1FFF = true) (hmask : c.r.only 7 0xF = true) :
    bodyMcgSet c s = s.stageChange c (ms 5) true allUnits 1 [.mcg (c.r.f 4 0 13) (c.r.mask68 5)] :=
  refuseIf_of_false (by simp [hgroup, hmask]) ..

theorem bodyMcgGet_of_inRange (honly : c.r.only 4 0x1FFF = true) :
    bodyMcgGet c s = .done s (word (c.r.f 4 0 13) :: mask68Words (s.cfgNow.mcg (c.r.f 4 0 13))) :=
  refuseIf_of_ok honly ..

theorem bodyFfgSet_of_inRange (hok : okFfgSet c.r = true) :
    bodyFfgSet c s =
      s.stageChange c (ms 5) true copies5 1 [.ffg (c.r.f 4 0 12) (c.r.b 4 31) (c.r.b 4 30) (ffgMembers c.r)] :=
  refuseIf_of_ok hok ..

theorem bodyFfgGet_of_inRange (honly : c.r.only 4 0xFFF = true) :
    bodyFfgGet c s = .done s ((s.cfgNow.ffg (c.r.f 4 0 12)).words (c.r.f 4 0 12)) :=
  refuseIf_of_ok honly ..

theorem bodyFence_of_free (hok : okFence c.r = true) (hfree : s.fab.fences.length < 8) :
    bodyFence c s = .wait { s with fab := { s.fab with fences := s.fab.fences ++
      [{ jid := c.jid, f := nsCeil (fenceF c.a c.t s), mask := fenceMask c.r, until_ := c.t + ms (fenceTmo c.r) }] } } :=
  (refuseIf_of_ok hok ..).trans <| refuseIf_of_false (decide_eq_false (Nat.not_le.mpr hfree)) ..

end Bodies

/-- Settles O4: no body refuses, and what a body plans, looks up or tests for a conflict in the state that the take
leaves is what stood before. -/
theorem routingCommandsComplete : Obligations.RoutingCommandsComplete := by
  refine ⟨?rifSet, ?rifGet, ?nhSet, ?nhGet, ?routeSet, ?routeDel, ?routeGet, ?mcgSet, ?mcgGet, ?ffgSet, ?ffgGet,
    ?fence⟩
  case rifSet =>
    intro r s hacc hok hclear hfit
    rw [← cfgsFrom_taken opRifSet r s, ← effA_taken opRifSet r s s.host.nextJid] at hclear
    exact exec_staged rfl hacc hfit (bodyRifSet_of_inRange hok hclear)
  case rifGet => exact fun r s hacc honly => exec_done rfl hacc (bodyRifGet_of_inRange honly)
  case nhSet =>
    intro r s hacc hok hclear hfit
    rw [← cfgsFrom_taken opNhSet r s, ← effA_taken opNhSet r s s.host.nextJid] at hclear
    exact exec_staged rfl hacc hfit (bodyNhSet_of_inRange hok hclear)
  case nhGet => exact fun r s hacc honly => exec_done rfl hacc (bodyNhGet_of_inRange honly)
  case routeSet =>
    intro r s a p e hacc hok ha hlive hhosts htrie hfit
    rw [← cfgsFrom_taken opRouteSet r s] at hlive
    rw [← hostPlanAt_taken opRouteSet r s] at hhosts
    rw [← planTrie_taken opRouteSet r s] at htrie
    exact exec_wait rfl hacc ((bodyRouteSet_of_plan hok ((effA_taken ..).trans ha.symm) hlive hhosts htrie).trans
      (stagePlan_fits rfl hfit))
  case routeDel =>
    intro r s a rs e hacc hok ha hrs htrie hfit
    rw [← cfgAt_taken opRouteDel r s] at hrs
    rw [← planTrie_taken opRouteDel r s] at htrie
    exact exec_wait rfl hacc ((bodyRouteDel_of_plan hok ((effA_taken ..).trans ha.symm) hrs.symm htrie).trans
      (stagePlan_fits rfl hfit))
  case routeGet =>
    intro r s hacc hok
    cases hhit : routeHit (taken opRouteGet r s).cfgNow (r.b 4 20) (routeOfWords r 4) with
    | some x => exact exec_done rfl hacc (bodyRouteGet_of_hit hok hhit)
    | none => exact exec_done rfl hacc (bodyRouteGet_of_miss hok hhit)
  case mcgSet =>
    exact fun r s hacc hgroup hmask hfit => exec_staged rfl hacc hfit (bodyMcgSet_of_inRange hgroup hmask)
  case mcgGet => exact fun r s hacc honly => exec_done rfl hacc (bodyMcgGet_of_inRange honly)
  case ffgSet => exact fun r s hacc hok hfit => exec_staged rfl hacc hfit (bodyFfgSet_of_inRange hok)
  case ffgGet => exact fun r s hacc honly => exec_done rfl hacc (bodyFfgGet_of_inRange honly)
  case fence =>
    intro r s hacc hok hfree
    have hfences : (taken opFence r s).fab.fences = s.fab.fences := congrArg Fabric.fences (taken_fab ..)
    rw [← hfences] at hfree ⊢
    rw [← fenceF_taken opFence r s]
    exact exec_wait rfl hacc (bodyFence_of_free hok hfree)

end Sys2Proof.Machine
end

section
/-! The events of learning, aging, flushing, scrubbing, liveness and fences (04 R126, R137 to R141, R152, R154): each
takes the branch that its guards select. -/

namespace Sys2Proof.Machine

@[simp] theorem State.tick_cfgAt (s : State) (t a : Instant) : (s.tick t).cfgAt a = s.cfgAt a := rfl

@[simp] theorem State.tick_txnNear (s : State) (t a : Instant) : (s.tick t).txnNear a = s.txnNear a := rfl

@[simp] theorem State.tick_wordsAt (s : State) (t a : Instant) : (s.tick t).wordsAt a = s.wordsAt a := rfl

@[simp] theorem State.tick_noticesAt (s : State) (t a : Instant) : (s.tick t).noticesAt a = s.noticesAt a := rfl

@[simp] theorem State.tick_l2Ctl (s : State) (t : Instant) (vid mac : Nat) :
    (s.tick t).l2Ctl vid mac = s.l2Ctl vid mac := rfl

@[simp] theorem State.tick_flushAhead (s : State) (t : Instant) (f : Flush) :
    (s.tick t).flushAhead f = s.flushAhead f := rfl

@[simp] theorem State.tick_flushIdle (s : State) (t : Instant) : (s.tick t).flushIdle = s.flushIdle := rfl

section Slot

variable {a t : Instant} {s : State} (hlead : t + us 20 ≤ a) (hnear : s.txnNear a = false)
include hlead hnear

theorem execLearnNoticeApply_of_slot {n : LearnNotice} {rest : List LearnNotice} (hqueue : s.tab.queue = n :: rest)
    (hwords : s.wordsAt a < 64) (hnotices : s.noticesAt a < 16) :
    execLearnNoticeApply a t s =
      .next ({ s.tick t with tab := { s.tab with queue := rest } }.learn n a t) := by
  have hslot : ¬ (a < t + us 20 ∨ (s.tick t).txnNear a = true ∨ 64 ≤ (s.tick t).wordsAt a
      ∨ 16 ≤ (s.tick t).noticesAt a) := by
    simp [hnear, hlead, hwords, hnotices]
  simp only [execLearnNoticeApply, State.tick_tab, hqueue, if_neg hslot]

theorem execFlapHoldEnd_of_due {vid mac : Nat} {v : Instant} (hhold : (s.l2Ctl vid mac).holdUntil = some v)
    (hdue : v ≤ t) (hwords : s.wordsAt a < 64) :
    execFlapHoldEnd vid mac a t s =
      .next (((s.tick t).putL2Ctl vid mac { s.l2Ctl vid mac with holdUntil := none, moves := [] }).writeOne a 0
        (.l2Lock vid mac false)) := by
  simp only [execFlapHoldEnd, State.tick_l2Ctl, hhold]
  exact if_pos ⟨hdue, hlead, hnear, hwords⟩

theorem execL2Age_of_aged {w : State} {chs : List Change} (hage : (s.cfgAt t).tableCfg.ageTime ≠ 0)
    (hfooting : (s.cfgAt t).footing = false)
    (hpass : ((s.cfgAt a).l2.filterMap (·.2)).foldl (ageEntry (s.cfgAt t).tableCfg.ageTime t) (s.tick t, []) = (w, chs))
    (haged : chs ≠ []) (hwords : chs.length + s.wordsAt a ≤ 64) :
    execL2Age a t s =
      .next (w.stage { a := a, jids := [], txn := true, units := copies5, words := chs.length, change := chs }) := by
  have hruns : ¬ ((s.cfgAt t).tableCfg.ageTime = 0 ∨ (s.cfgAt t).footing = true ∨ a < t + us 20
      ∨ s.txnNear a = true) := by
    simp [hage, hfooting, hlead, hnear]
  have hroom : ¬ (chs.isEmpty = true ∨ 64 < chs.length + s.wordsAt a) := by
    simp [haged, hwords]
  simp only [execL2Age, State.tick_cfgAt, State.tick_txnNear, State.tick_wordsAt, if_neg hruns, hpass, if_neg hroom]

end Slot

section Flushes

variable {jid : Nat} {s : State}

theorem execL2FlushGroup_of_ahead {f : Flush}
    (hahead : (s.tab.flushes.filter fun f => f.jid == jid).find? (fun f => !(s.flushAhead f).isEmpty) = some f)
    (t : Instant) : execL2FlushGroup jid t s = .next ((s.tick t).flushGroup f) := by
  simp only [execL2FlushGroup, State.tick_tab, State.tick_flushAhead, hahead]

theorem execL2FlushGroup_of_over
    (hover : (s.tab.flushes.filter fun f => f.jid == jid).find? (fun f => !(s.flushAhead f).isEmpty) = none)
    (t : Instant) :
    execL2FlushGroup jid t s =
      .next (((s.tab.flushes.filter fun f => f.jid == jid).filter s.flushIdle).foldl
        (fun w f => w.flushEnd f State.stOk t) (s.tick t)) := by
  simp only [execL2FlushGroup, State.tick_tab, State.tick_flushAhead, State.tick_flushIdle, hover]

end Flushes

theorem execTableScrub_of_word {copy table : Nat} (hcopy : copy ≤ 4) (htable : table ≤ 9) (index : Nat)
    (uncorrectable : Bool) (t : Instant) (s : State) :
    execTableScrub copy table index uncorrectable t s =
      if uncorrectable then .next (eccWord (s.tick t) copy table index t) else .next ((s.tick t).countD 0) :=
  if_neg (not_or.mpr ⟨Nat.not_lt.mpr hcopy, Nat.not_lt.mpr htable⟩)

section Liveness

variable {port : Nat} {t d : Instant} {s : State} (hdue : d ≤ t)
include hdue

theorem execFfLivenessDown_of_due {rest : List Instant} (hdown : Tbl.get [] s.tab.downAt port = d :: rest) :
    execFfLivenessDown port t s =
      .next ({ s.tick t with tab := { s.tab with downAt := Tbl.set [] s.tab.downAt port rest } }.applyDue d t) := by
  simp only [execFfLivenessDown, State.tick_tab, hdown, if_pos hdue]

theorem execFfLivenessUp_of_due (hup : Tbl.get none s.tab.upAt port = some d) :
    execFfLivenessUp port t s =
      .next ({ s.tick t with tab := { s.tab with upAt := Tbl.set none s.tab.upAt port none } }.applyDue d t) := by
  simp only [execFfLivenessUp, State.tick_tab, hup, if_pos hdue]

end Liveness

section Fences

variable {jid : Nat} {t : Instant} {s : State} {f : FenceRec}
  (hfence : s.fab.fences.find? (fun f => f.jid == jid) = some f)
include hfence

theorem execFenceComplete_of_all (hall : (fenceNow (s.tick t) f).done = (fenceNow (s.tick t) f).mask) :
    execFenceComplete jid t s =
      .next ({ s.tick t with fab := { s.fab with fences := s.fab.fences.filter fun f => f.jid != jid } }.finish jid
        State.stOk [word (fenceNow (s.tick t) f).last] t) := by
  simp only [execFenceComplete, State.tick_fab, hfence, if_pos hall]

theorem execFenceComplete_of_some (hsome : (fenceNow (s.tick t) f).done ≠ (fenceNow (s.tick t) f).mask) :
    execFenceComplete jid t s =
      .next { s.tick t with fab := { s.fab with
        fences := s.fab.fences.map fun g => if g.jid = jid then fenceNow (s.tick t) f else g } } := by
  simp only [execFenceComplete, State.tick_fab, hfence, if_neg hsome]

theorem execFenceTimeout_of_late (hlate : f.until_ ≤ t) :
    execFenceTimeout jid t s =
      .next ({ s.tick t with fab := { s.fab with fences := s.fab.fences.filter fun f => f.jid != jid } }.finish jid
        State.stTimeout (word (fenceNow (s.tick t) f).last
          :: mask68Words ((fenceNow (s.tick t) f).mask &&& ~~~(fenceNow (s.tick t) f).done)) t) := by
  simp only [execFenceTimeout, State.tick_fab, hfence, if_neg (Nat.not_lt.mpr hlate)]

end Fences

/-- Settles O20: a lemma for each event says which branch its guards select; the step to its instant changes nothing
that the guards read. -/
theorem learningEventsComplete : Obligations.LearningEventsComplete := by
  refine ⟨?learnNoticeApply, ?flapHoldEnd, ?l2Age, ?flushGroup, ?flushOver, ?scrubUncorrectable, ?scrubCorrected,
    ?livenessDown, ?livenessUp, ?fenceAll, ?fenceSome, ?fenceTimeout⟩
  case learnNoticeApply =>
    exact fun a t s n rest hqueue hlead hnear hwords hnotices =>
      execLearnNoticeApply_of_slot hlead hnear hqueue hwords hnotices
  case flapHoldEnd =>
    exact fun vid mac a t s v hhold hdue hlead hnear hwords => execFlapHoldEnd_of_due hlead hnear hhold hdue hwords
  case l2Age =>
    exact fun a t s w chs hage hfooting hlead hnear hpass haged hwords =>
      execL2Age_of_aged hlead hnear hage hfooting hpass haged hwords
  case flushGroup => exact fun jid t s f hahead => execL2FlushGroup_of_ahead hahead t
  case flushOver => exact fun jid t s hover => execL2FlushGroup_of_over hover t
  case scrubUncorrectable =>
    rintro copy table index _ t s hcopy htable rfl
    exact execTableScrub_of_word hcopy htable index true t s
  case scrubCorrected =>
    rintro copy table index _ t s hcopy htable rfl
    exact execTableScrub_of_word hcopy htable index false t s
  case livenessDown => exact fun port t s d rest hdown hdue => execFfLivenessDown_of_due hdue hdown
  case livenessUp => exact fun port t s v hup hdue => execFfLivenessUp_of_due hdue hup
  case fenceAll => exact fun jid t s f hfence hall => execFenceComplete_of_all hfence hall
  case fenceSome => exact fun jid t s f hfence hsome => execFenceComplete_of_some hfence hsome
  case fenceTimeout => exact fun jid t s f hfence hlate => execFenceTimeout_of_late hfence hlate

end Sys2Proof.Machine
end

section
/-! The pool, queue, scheduler, PAUSE and mirror commands (05 R206 to R211): what a body does once none of its refusals
applies, and the interpreter's answer to it. -/

namespace Sys2Proof.Machine

/-- The refusal of a GET that names a port: for a reserved bit, or past the last port. -/
theorem refuseIf_of_only_of_le {only : Bool} {top p : Nat} (honly : only = true) (hp : p ≤ top) (st : Nat) (k : Res) :
    refuseIf (!only || decide (top < p)) st k = k :=
  refuseIf_of_false (Bool.or_eq_false_iff.mpr ⟨congrArg not honly, decide_eq_false (Nat.not_lt.mpr hp)⟩) st k

/-- The refusal of a SET for its ranges and for one more fault. -/
theorem refuseIf_of_ok_of_clear {ok bad : Bool} (hok : ok = true) (hclear : bad = false) (st : Nat) (k : Res) :
    refuseIf (!ok || bad) st k = k :=
  refuseIf_of_false (Bool.or_eq_false_iff.mpr ⟨congrArg not hok, hclear⟩) st k

section Bodies

variable {c : Ctx} {s : State}

theorem bodyPoolSet_of_inRange (hok : okPoolSet c.r = true)
    (hpools : poolsOk s (s.effA c (us 200) false 1) [.pools (c.r.f 4 0 19) (c.r.f 5 0 17)] = true) :
    bodyPoolSet c s = s.stageChange c (us 200) false [5] 0 [.pools (c.r.f 4 0 19) (c.r.f 5 0 17)] :=
  (refuseIf_of_ok hok ..).trans <| refuseIf_of_ok hpools ..

theorem bodyQueueSet_of_inRange (hok : okQueueSet c.r = true)
    (hneed : ((queuePorts c.r).any fun p =>
      decide ((queueOf c.r).qmax < needTiles (s.cfgAt (s.effA c (us 200) false 1)) p)) = false)
    (hpools : poolsOk s (s.effA c (us 200) false 1) (queueChanges c.r) = true) :
    bodyQueueSet c s = s.stageChange c (us 200) false [5] 0 (queueChanges c.r) :=
  (refuseIf_of_ok_of_clear hok hneed ..).trans <| refuseIf_of_ok hpools ..

theorem bodyQueueGet_of_inRange (honly : c.r.only 4 0x7F07 = true) (hport : c.r.f 4 8 7 ≤ 67) :
    bodyQueueGet c s =
      .done s (word (c.r.w 4) :: (s.cfgNow.queue (8 * c.r.f 4 8 7 + c.r.f 4 0 3)).words) :=
  refuseIf_of_only_of_le honly hport ..

theorem bodySchedSet_of_inRange (hok : okSchedSet c.r = true)
    (hslope : (schedOf c.r).slope ≤ s.confRate (c.r.f 4 0 7) * 1000) :
    bodySchedSet c s = s.stageChange c (us 200) false [5] 0 [.sched (c.r.f 4 0 7) (schedOf c.r)] :=
  refuseIf_of_ok_of_clear hok (decide_eq_false (Nat.not_lt.mpr hslope)) ..

theorem bodySchedGet_of_inRange (honly : c.r.only 4 0x7F = true) (hport : c.r.f 4 0 7 ≤ 67) :
    bodySchedGet c s = .done s ((s.cfgNow.sched (c.r.f 4 0 7)).words (c.r.f 4 0 7)) :=
  refuseIf_of_only_of_le honly hport ..

theorem bodyPauseSet_of_inRange (hok : okPauseSet c.r = true) :
    bodyPauseSet c s = s.stageChange c (us 200) false [5] 0 [.pause (c.r.f 4 0 7) (pauseOf c.r)] :=
  refuseIf_of_ok hok ..

theorem bodyPauseGet_of_inRange (honly : c.r.only 4 0x7F = true) (hport : c.r.f 4 0 7 ≤ 63) :
    bodyPauseGet c s = .done s [word (c.r.f 4 0 7),
      word (atBit (s.cfgNow.pause (c.r.f 4 0 7)).en 31 + (s.cfgNow.pause (c.r.f 4 0 7)).ceiling),
      word (s.cfgNow.pause (c.r.f 4 0 7)).rearm] :=
  refuseIf_of_only_of_le honly hport ..

theorem bodyMirrorSet_of_inRange (hok : okMirrorSet c.r = true) :
    bodyMirrorSet c s = s.stageChange c (us 200) false [5] 0 [.mirror (mirrorOf c.r)] :=
  refuseIf_of_ok hok ..

end Bodies

/-- Settles O5: no body refuses; the pools, the needs of MAX_FRAME and the port's rate that a SET is tested against, in
the state that the take leaves, are what stood before. -/
theorem queueCommandsComplete : Obligations.QueueCommandsComplete := by
  refine ⟨?poolSet, ?poolGet, ?queueSet, ?queueGet, ?schedSet, ?schedGet, ?pauseSet, ?pauseGet, ?mirrorSet,
    ?mirrorGet⟩
  case poolSet =>
    intro r s hacc hok hpools hfit
    rw [← poolsOk_taken opPoolSet r s, ← effA_taken opPoolSet r s s.host.nextJid] at hpools
    exact exec_staged rfl hacc hfit (bodyPoolSet_of_inRange hok hpools)
  case poolGet =>
    intro r s hacc
    rw [← taken_egr opPoolGet r s]
    exact exec_done rfl hacc rfl
  case queueSet =>
    intro r s hacc hok hneed hpools hfit
    rw [← effA_taken opQueueSet r s s.host.nextJid] at hneed hpools
    rw [← cfgAt_taken opQueueSet r s] at hneed
    rw [← poolsOk_taken opQueueSet r s] at hpools
    exact exec_staged rfl hacc hfit (bodyQueueSet_of_inRange hok hneed hpools)
  case queueGet => exact fun r s hacc honly hport => exec_done rfl hacc (bodyQueueGet_of_inRange honly hport)
  case schedSet =>
    intro r s hacc hok hslope hfit
    rw [← confRate_taken opSchedSet r s] at hslope
    exact exec_staged rfl hacc hfit (bodySchedSet_of_inRange hok hslope)
  case schedGet => exact fun r s hacc honly hport => exec_done rfl hacc (bodySchedGet_of_inRange honly hport)
  case pauseSet => exact fun r s hacc hok hfit => exec_staged rfl hacc hfit (bodyPauseSet_of_inRange hok)
  case pauseGet => exact fun r s hacc honly hport => exec_done rfl hacc (bodyPauseGet_of_inRange honly hport)
  case mirrorSet => exact fun r s hacc hok hfit => exec_staged rfl hacc hfit (bodyMirrorSet_of_inRange hok)
  case mirrorGet => exact fun r s hacc => exec_done rfl hacc rfl

end Sys2Proof.Machine
end

section
/-! The course commands (06 R250 to R256): what a body does once none of its refusals applies, and the interpreter's
answer to it. -/

namespace Sys2Proof.Machine

theorem commitTooLong_taken (op : OpSpec) (r : Req) (s : State) (sh : Bank) (a : Instant) :
    commitTooLong (taken op r s) sh a = commitTooLong s sh a := by
  simp only [commitTooLong, cfgPlanned_taken, cfgAt_taken]

theorem pinClash_taken (op : OpSpec) (r : Req) (s : State) (p : Nat) (sh : Bank) (a : Instant) :
    pinClash (taken op r s) p sh a = pinClash s p sh a := by
  simp only [pinClash, pin_taken, course_taken]

/-- A course that awaits its swap, committed for `a` by the packet `r` with the journal number `jid` (06 R253). -/
def committed (r : Req) (co : Course) (rate jid : Nat) (a : Instant) : Course :=
  { co with pend := some { a := a, carry := r.b 4 31, copy := r.b 4 30, rate := rate, jid := some jid
                           words := commitWords co.shadow rate } }

section Bodies

variable {c : Ctx} {s : State}

section Shadow

-- A shadow bank changes only while no swap of its port is pending (06 R250).
variable (hpend : (s.course (coursePort c.r)).pend = none)
include hpend

theorem bodyCourseSet_of_inRange (hok : okCourseSet c.r = true) :
    bodyCourseSet c s = .done (s.setShadow (coursePort c.r) fun b => { b with len := c.r.f 5 0 30 }) [] :=
  (refuseIf_of_false (congrArg Option.isSome hpend) ..).trans <| refuseIf_of_ok hok ..

theorem bodyCourseClear_of_inRange (hok : okCourseClear c.r = true) :
    bodyCourseClear c s = .done (s.setShadow (coursePort c.r) fun b => { b with entries := [] }) [] :=
  (refuseIf_of_false (congrArg Option.isSome hpend) ..).trans <| refuseIf_of_ok hok ..

theorem bodyCourseEntrySet_of_inRange
    (hok : okCourseEntrySet c.r (s.course (coursePort c.r)).shadow.len = true) :
    bodyCourseEntrySet c s =
      .done (s.setShadow (coursePort c.r) fun b => { b with entries := putEntries c.r b.entries }) [] :=
  (refuseIf_of_false (congrArg Option.isSome hpend) ..).trans <| refuseIf_of_ok hok ..

end Shadow

theorem bodyCourseGet_of_inRange (honly : c.r.only 4 0x17F = true) (hport : coursePort c.r ≤ 63) :
    bodyCourseGet c s = .done s (word (c.r.w 4) :: courseGetWords (s.course (coursePort c.r)) (c.r.b 4 8)) :=
  refuseIf_of_only_of_le honly hport ..

theorem bodyCourseEntryGet_of_inRange (hok : rangeOk c.r 0x7F017F = true) :
    bodyCourseEntryGet c s = .done s ([word (c.r.w 4), word (c.r.w 5)] ++ (List.range (c.r.f 4 16 7)).flatMap fun i =>
      ((if c.r.b 4 8 then (s.course (coursePort c.r)).shadow else (s.course (coursePort c.r)).act).entry
        (c.r.f 5 0 10 + i)).words) :=
  refuseIf_of_ok hok ..

theorem bodyCourseReportGet_of_inRange (hok : rangeOk c.r 0x7F007F = true) :
    bodyCourseReportGet c s = .done s ([word (c.r.w 4), word (c.r.w 5)] ++ (List.range (c.r.f 4 16 7)).flatMap fun i =>
      (Tbl.get ({} : Report) (s.course (coursePort c.r)).reports (c.r.f 5 0 10 + i)).words) :=
  refuseIf_of_ok hok ..

end Bodies

section Commit

variable {r : Req} {p rate : Nat} {co : Course} {a : Instant} {s : State}

theorem commitOperands_ok (honly : r.only 4 0xC000007F = true) (hport : p ≤ 63)
    (hboundary : commitBoundary co a = true) :
    (!r.only 4 0xC000007F || decide (63 < p) || !commitBoundary co a) = false := by
  simp [honly, hboundary, Nat.not_lt.mpr hport]

variable (hbank : bankOk co.shadow rate = true) (hshort : commitTooLong s co.shadow a = false)
  (hpark : (launchEntries co.shadow).isEmpty = true ∨ ((s.portPlanned p).parkEn = false ∧ (s.model p).parked = false))
  (hpin : pinClash s p co.shadow a = false)
include hbank hshort hpark hpin

/-- A bank that launches is committed only to a port that may not park and is not parked (06 R242). -/
theorem commitConflicts_clear :
    (!bankOk co.shadow rate || commitTooLong s co.shadow a
      || (!(launchEntries co.shadow).isEmpty && ((s.portPlanned p).parkEn || (s.model p).parked))
      || pinClash s p co.shadow a) = false := by
  have hparked : (!(launchEntries co.shadow).isEmpty && ((s.portPlanned p).parkEn || (s.model p).parked)) = false := by
    rcases hpark with hnone | ⟨hen, hout⟩
    · rw [hnone, Bool.not_true, Bool.false_and]
    · rw [hen, hout, Bool.or_false, Bool.and_false]
  rw [hbank, hshort, hparked, hpin]
  rfl

theorem bodyCourseCommit_of_fits (hp : coursePort r = p) (hco : s.course p = co) (hrate : s.confRate p = rate)
    (honly : r.only 4 0xC000007F = true) (hport : p ≤ 63) (hboundary : commitBoundary co a = true)
    (hpend : co.pend = none) (hlead : r.t + us 500 ≤ commitStart co a) (jid : Nat) :
    bodyCourseCommit ⟨r, jid, some a⟩ s =
      .wait (s.setCourse p (committed r co rate jid a)) (commitWords co.shadow rate) := by
  subst hp hco hrate
  exact (refuseIf_of_false (commitOperands_ok honly hport hboundary) ..).trans <|
    (refuseIf_of_false (commitConflicts_clear hbank hshort hpark hpin) ..).trans <|
      (refuseIf_of_false (congrArg Option.isSome hpend) ..).trans <|
        refuseIf_of_false (decide_eq_false (Nat.not_lt.mpr hlead)) ..

end Commit

/-- Settles O6: no body refuses, and the courses, the configurations, the port and the event pins that a body reads in
the state that the take leaves are what stood before. -/
theorem courseCommandsComplete : Obligations.CourseCommandsComplete := by
  refine ⟨?courseSet, ?courseClear, ?courseEntrySet, ?courseCommit, ?courseGet, ?courseEntryGet, ?courseReportGet⟩
  case courseSet =>
    intro r s hacc hok hpend
    rw [← course_taken opCourseSet r s] at hpend
    exact exec_done rfl hacc (bodyCourseSet_of_inRange hpend hok)
  case courseClear =>
    intro r s hacc hok hpend
    rw [← course_taken opCourseClear r s] at hpend
    exact exec_done rfl hacc (bodyCourseClear_of_inRange hpend hok)
  case courseEntrySet =>
    intro r s hacc hok hpend
    rw [← course_taken opCourseEntrySet r s] at hok hpend
    exact exec_done rfl hacc (bodyCourseEntrySet_of_inRange hpend hok)
  case courseCommit =>
    rintro r s _ hacc rfl honly hport hboundary hbank hshort hpark hpin hpend hlead
    rw [← commitTooLong_taken opCourseCommit r s] at hshort
    rw [← portPlanned_taken opCourseCommit r s, ← model_taken opCourseCommit r s] at hpark
    rw [← pinClash_taken opCourseCommit r s] at hpin
    have hbody := bodyCourseCommit_of_fits hbank hshort hpark hpin rfl (course_taken ..) (confRate_taken ..) honly hport
      hboundary hpend hlead s.host.nextJid
    rw [← applyInstant_must hacc rfl] at hbody
    exact exec_wait rfl hacc hbody
  case courseGet =>
    intro r s hacc honly hport
    rw [← course_taken opCourseGet r s]
    exact exec_done rfl hacc (bodyCourseGet_of_inRange honly hport)
  case courseEntryGet =>
    intro r s hacc hok
    rw [← course_taken opCourseEntryGet r s]
    exact exec_done rfl hacc (bodyCourseEntryGet_of_inRange hok)
  case courseReportGet =>
    intro r s hacc hok
    rw [← course_taken opCourseReportGet r s]
    exact exec_done rfl hacc (bodyCourseReportGet_of_inRange hok)

end Sys2Proof.Machine
end

section
/-! The events of the courses (06 R226 to R246, 02 R55): each takes the branch that its guards select. An occurrence
runs the model of its port up to its instant first. -/

namespace Sys2Proof.Machine

theorem act_ne_none_of_launches {a : Act} (h : a.launches = true) : a ≠ .none := by
  rintro rfl
  exact Bool.noConfusion h

theorem act_ne_gate_of_launches {a : Act} (h : a.launches = true) : a ≠ .gate := by
  rintro rfl
  exact Bool.noConfusion h

/-- An occurrence of an entry with an action is not passed over. -/
theorem occurrence_arrives {port entry : Nat} {t : Instant} {c : Course} {e : Entry} (hport : port < 64)
    (hentry : entry < 1024) (hocc : State.isOccurrence c e t = true) (hact : e.act ≠ .none) :
    ¬ (64 ≤ port ∨ 1024 ≤ entry ∨ e.act = .none ∨ !State.isOccurrence c e t) := by
  simp [Nat.not_le.mpr hport, Nat.not_le.mpr hentry, hact, hocc]

section Occurrence

variable {port entry : Nat} {t : Instant} {s w : State} (hw : w = (s.tick t).egressPort port t) (hport : port < 64)
  (hentry : entry < 1024)
  (hocc : State.isOccurrence (w.course port) ((w.course port).act.entry entry) t = true)
include hw hport hentry hocc

theorem execCourseOccurrence_of_gate (hgate : ((w.course port).act.entry entry).act = .gate) (error : Nat)
    (whole : Bool) :
    execCourseOccurrence port entry error whole t s =
      .next ((w.setCourse port { w.course port with gates := ((w.course port).act.entry entry).gates }).setReport port
        entry { status := if (w.model port).up then 3 else 4, course := State.courseOf (w.course port) t % 65536 }) := by
  have hact : ((w.course port).act.entry entry).act ≠ .none := by rw [hgate]; exact Act.noConfusion
  simp only [execCourseOccurrence, ← hw, if_neg (occurrence_arrives hport hentry hocc hact), if_pos hgate]

section Launch

variable (hlaunch : ((w.course port).act.entry entry).act.launches = true)
include hlaunch

theorem execCourseOccurrence_of_down (hdown : (w.model port).up = false) (error : Nat) (whole : Bool) :
    execCourseOccurrence port entry error whole t s =
      .next (w.setReport port entry { status := 4, course := State.courseOf (w.course port) t % 65536 }) := by
  simp only [execCourseOccurrence, ← hw,
    if_neg (occurrence_arrives hport hentry hocc (act_ne_none_of_launches hlaunch)),
    if_neg (act_ne_gate_of_launches hlaunch), hdown, Bool.not_false, if_true]

variable (hup : (w.model port).up = true)
include hup

theorem execCourseOccurrence_of_claimed {x : Copy} {h : Claim}
    (hmine : (w.equeue (q7 port)).copies.find? (fun x => x.claims entry t && !w.isLaunched port x) = some x)
    (hclaim : x.claim = some h) (error : Nat) (whole : Bool) :
    execCourseOccurrence port entry error whole t s =
      .next ((w.launch port entry x h ((w.course port).act.entry entry) error whole t).runPort port
        (min t (w.unitBound 5))) := by
  simp only [execCourseOccurrence, ← hw,
    if_neg (occurrence_arrives hport hentry hocc (act_ne_none_of_launches hlaunch)),
    if_neg (act_ne_gate_of_launches hlaunch), hup, Bool.not_true, Bool.false_eq_true, if_false, hmine, hclaim]

theorem execCourseOccurrence_of_unclaimed
    (hnone : (w.equeue (q7 port)).copies.find? (fun x => x.claims entry t && !w.isLaunched port x) = none)
    (error : Nat) (whole : Bool) :
    execCourseOccurrence port entry error whole t s =
      .next ((w.countP port 72).setReport port entry
        { status := 3, course := State.courseOf (w.course port) t % 65536 }) := by
  simp only [execCourseOccurrence, ← hw,
    if_neg (occurrence_arrives hport hentry hocc (act_ne_none_of_launches hlaunch)),
    if_neg (act_ne_gate_of_launches hlaunch), hup, Bool.not_true, Bool.false_eq_true, if_false, hnone]

end Launch

end Occurrence

theorem execWindowRelease_of_unclaimed {port entry : Nat} {t : Instant} {s : State} (hport : port < 64)
    (hlaunch : (((s.tick t).course port).act.entry entry).act.launches = true)
    (hocc : State.isOccurrence ((s.tick t).course port) (((s.tick t).course port).act.entry entry) (t + ns 320) = true)
    (hfree : (((s.tick t).equeue (q7 port)).copies.any fun x => x.claims entry (t + ns 320)) = false) :
    execWindowRelease port entry t s = .next ((s.tick t).egressPort port t) := by
  have hreleased : ¬ (64 ≤ port ∨ !(((s.tick t).course port).act.entry entry).act.launches ∨
      !State.isOccurrence ((s.tick t).course port) (((s.tick t).course port).act.entry entry) (t + ns 320) ∨
      ((s.tick t).equeue (q7 port)).copies.any fun x => x.claims entry (t + ns 320)) := by
    rw [hlaunch, hocc, hfree]
    simp [Nat.not_le.mpr hport]
  exact if_neg hreleased

theorem execCourseSwap_of_due {port : Nat} {t : Instant} {s : State} {w : SwapPending}
    (hpend : ((s.tick t).course port).pend = some w) (hdue : w.a ≤ min t ((s.tick t).unitBound 5)) :
    execCourseSwap port t s = .next (((s.tick t).egressTo w.a t).courseSwap port t) := by
  simp only [execCourseSwap, hpend, if_pos hdue]

theorem execRebase_of_released {t : Instant} {s : State} {r : RebaseRun} (hrun : s.fab.rebase = some r)
    (hreleased : (s.tick t).heldBefore r.s = false) : execRebase t s = .next ((s.tick t).rebase r t) := by
  simp only [execRebase, State.tick_fab, hrun, hreleased, Bool.false_eq_true, if_false]

/-- Settles O22: a lemma for each event says which branch its guards select. That the record of a GATE occurrence says
EMPTY, or DOWN while the port is down, is the model's choice (log entry 130). -/
theorem courseEventsComplete : Obligations.CourseEventsComplete := by
  refine ⟨?gate, ?down, ?claimed, ?unclaimed, ?windowRelease, ?courseSwap, ?rebase⟩
  case gate =>
    exact fun port entry error whole t s w hw hport hentry hocc hgate =>
      (execCourseOccurrence_of_gate hw hport hentry hocc hgate error whole)
  case down =>
    exact fun port entry error whole t s w hw hport hentry hocc hlaunch hdown =>
      (execCourseOccurrence_of_down hw hport hentry hocc hlaunch hdown error whole)
  case claimed =>
    exact fun port entry error whole t s w x h hw hport hentry hocc hlaunch hup hmine hclaim =>
      (execCourseOccurrence_of_claimed hw hport hentry hocc hlaunch hup hmine hclaim error whole)
  case unclaimed =>
    exact fun port entry error whole t s w hw hport hentry hocc hlaunch hup hnone =>
      (execCourseOccurrence_of_unclaimed hw hport hentry hocc hlaunch hup hnone error whole)
  case windowRelease =>
    exact fun port entry t s hport hlaunch hocc hfree => execWindowRelease_of_unclaimed hport hlaunch hocc hfree
  case courseSwap => exact fun port t s w hpend hdue => execCourseSwap_of_due hpend hdue
  case rebase => exact fun t s r hrun hreleased => execRebase_of_released hrun hreleased

end Sys2Proof.Machine
end

section
/-! The keeper, servo, reference, PTP and SyncE commands (07 R297 to R308): what a body does once none of its refusals
applies, and the interpreter's answer to it. A SET waits as a keeper change for its servo cycle; a time step also keeps
1 ms from the other accepted steps (07 R284). -/

namespace Sys2Proof.Machine

theorem cand_taken (op : OpSpec) (r : Req) (s : State) (i : Nat) : (taken op r s).cand i = s.cand i := by
  simp only [State.cand, taken_tk]

theorem servoCfg_taken (op : OpSpec) (r : Req) (s : State) (i : Nat) : (taken op r s).servoCfg i = s.servoCfg i := by
  simp only [State.servoCfg, taken_tk]

theorem ptpCfg_taken (op : OpSpec) (r : Req) (s : State) (p : Nat) : (taken op r s).ptpCfg p = s.ptpCfg p := by
  simp only [State.ptpCfg, taken_tk]

theorem synceCfg_taken (op : OpSpec) (r : Req) (s : State) (p : Nat) : (taken op r s).synceCfg p = s.synceCfg p := by
  simp only [State.synceCfg, taken_tk]

theorem refCfg_taken (op : OpSpec) (r : Req) (s : State) (i : Nat) : (taken op r s).refCfg i = s.refCfg i := by
  simp only [State.refCfg, taken_tk]

section Waits

variable {i : Instr} {op : OpSpec} {r : Req} {s : State} {ch : TkChange}
  (hrun : exec i s = .next (runCommand opTable op r s)) (hacc : accepted op r s = true)
  (hlead : leadOk op r s (ms 2) = true)
include hrun hacc hlead

/-- A command whose body puts a keeper change for its servo cycle (07 R297). -/
theorem exec_keeper
    (hbody : op.body ⟨r, s.host.nextJid, applyInstant op r s⟩ (taken op r s) =
      stageTk ⟨r, s.host.nextJid, applyInstant op r s⟩ (taken op r s) ch) :
    exec i s = .next (keeperState op r s ch) := by
  rw [hrun, runCommand_keeper hacc hlead hbody]

/-- A command whose body puts a time step that keeps 1 ms from the accepted ones (07 R284). -/
theorem exec_timeStep
    (hapart : (taken op r s).stepNear (tkInstant (applyInstant op r s) r.t) = false)
    (hbody : op.body ⟨r, s.host.nextJid, applyInstant op r s⟩ (taken op r s) =
      stageStep ⟨r, s.host.nextJid, applyInstant op r s⟩ (taken op r s) ch) :
    exec i s = .next (pendingReply op r s (((taken op r s).noteStep (tkInstant (applyInstant op r s) r.t)).putTk
      (tkInstant (applyInstant op r s) r.t) s.host.nextJid ch) []) :=
  exec_wait hrun hacc <| hbody.trans <| (refuseIf_of_false hapart ..).trans <| stageTk_fits hlead _

end Waits

section Bodies

variable {c : Ctx} {s : State}

theorem bodyTimeSet_of_inRange (hfree : timeSetBlocked s (c.r.b 8 0) = false) (hinstant : c.r.instantOk 4 = true)
    (honly : c.r.only 8 1 = true)
    (hinterval : intervalOk (State.setStep (c.r.instant 4) (tkInstant c.a c.t) (c.r.b 8 0)) = true) :
    bodyTimeSet c s = stageStep c s (.timeSet (c.r.instant 4) (c.r.b 8 0)) :=
  (refuseIf_of_false hfree ..).trans <| refuseIf_of_false (by simp only [hinstant, honly, hinterval]; rfl) ..

theorem bodyTimeAcceptStep_of_within (hpending : (s.keeper (s.holder.getD .a)).stepPending = true)
    (honly : c.r.only 6 0x3FFFFFFF = true) (htop : c.r.f 6 0 30 ≤ 1000000000)
    (hwithin : (-(s.keeper (s.holder.getD .a)).pending - c.r.interval 4).natAbs ≤ ns (c.r.f 6 0 30)) :
    bodyTimeAcceptStep c s = stageStep c s .acceptStep :=
  (refuseIf_of_ok hpending ..).trans <| (refuseIf_of_only_of_le honly htop ..).trans <|
    refuseIf_of_false (decide_eq_false (Nat.not_lt.mpr hwithin)) ..

theorem bodyRefCmd_of_admitted
    (hadmitted : (c.r.f 4 0 2 == 2 && (!s.qualified (c.r.f 4 16 4) || (s.cand (c.r.f 4 16 4)).kind == 5)) = false)
    (honly : c.r.only 4 0xF0003 = true) : bodyRefCmd c s = stageTk c s (.refCmd (c.r.f 4 16 4) (c.r.f 4 0 2)) :=
  (refuseIf_of_false hadmitted ..).trans <| refuseIf_of_ok honly ..

theorem bodyRefSet_of_clear (hok : okRefSet c.r = true) (hclear : refClash s (c.r.f 4 16 4) (candOf c.r) = false) :
    bodyRefSet c s = stageTk c s (.cand (c.r.f 4 16 4) (candOf c.r)) :=
  (refuseIf_of_ok hok ..).trans <| refuseIf_of_false hclear ..

theorem bodyServoGet_of_inRange (honly : c.r.only 4 7 = true) (hinput : c.r.f 4 0 3 ≤ 4) :
    bodyServoGet c s = .done s [word (c.r.f 4 0 3), word (s.servoCfg (c.r.f 4 0 3)).bandwidth,
      word (s.servoCfg (c.r.f 4 0 3)).damping, word (s.servoCfg (c.r.f 4 0 3)).lockPhase,
      word (s.servoCfg (c.r.f 4 0 3)).lockFreq] :=
  refuseIf_of_only_of_le honly hinput ..

theorem bodyPtpPortSet_of_clear (hok : okPtpPortSet c.r = true)
    (hclear : ptpClash s (c.r.f 4 0 7) (ptpCfgOf c.r) = false) :
    bodyPtpPortSet c s = stageTk c s (.ptp (c.r.f 4 0 7) (ptpCfgOf c.r)) :=
  (refuseIf_of_ok hok ..).trans <| refuseIf_of_false hclear ..

theorem bodySynceSet_of_clear (hok : okSynceSet c.r = true)
    (hclear : (!(synceOf c.r).en && s.namedPlanned 4 (c.r.f 4 0 7)) = false) :
    bodySynceSet c s = stageTk c s (.synce (c.r.f 4 0 7) (synceOf c.r)) :=
  (refuseIf_of_ok hok ..).trans <| refuseIf_of_false hclear ..

end Bodies

/-- Settles O7: no body refuses, and the settings that a GET reads in the state that the take leaves are what stood
before. That TIME_SET is refused for a step beyond an interval of 00 R7 is the model's choice (log entry 138). -/
theorem keeperCommandsComplete : Obligations.KeeperCommandsComplete := by
  refine ⟨?tkStatusGet, ?refStatusGet, ?timeSet, ?timeAcceptStep, ?refCmd, ?refSet, ?refGet, ?servoSet, ?servoGet,
    ?keeperCfgSet, ?keeperCfgGet, ?ptpPortSet, ?ptpPortGet, ?synceSet, ?synceGet, ?refinSet, ?refinGet⟩
  case tkStatusGet => exact fun r s hacc => exec_done rfl hacc rfl
  case refStatusGet => exact fun r s hacc honly => exec_done rfl hacc (refuseIf_of_ok honly ..)
  case timeSet =>
    exact fun r s hacc hfree hinstant honly hinterval hapart hlead =>
      exec_timeStep rfl hacc hlead hapart (bodyTimeSet_of_inRange hfree hinstant honly hinterval)
  case timeAcceptStep =>
    exact fun r s hacc hpending honly htop hwithin hapart hlead =>
      exec_timeStep rfl hacc hlead hapart (bodyTimeAcceptStep_of_within hpending honly htop hwithin)
  case refCmd =>
    exact fun r s hacc hadmitted honly hlead => exec_keeper rfl hacc hlead (bodyRefCmd_of_admitted hadmitted honly)
  case refSet =>
    exact fun r s hacc hok hclear hlead => exec_keeper rfl hacc hlead (bodyRefSet_of_clear hok hclear)
  case refGet =>
    intro r s hacc honly
    rw [← cand_taken opRefGet r s]
    exact exec_done rfl hacc (refuseIf_of_ok honly ..)
  case servoSet => exact fun r s hacc hok hlead => exec_keeper rfl hacc hlead (refuseIf_of_ok hok ..)
  case servoGet =>
    intro r s hacc honly hinput
    rw [← servoCfg_taken opServoGet r s]
    exact exec_done rfl hacc (bodyServoGet_of_inRange honly hinput)
  case keeperCfgSet => exact fun r s hacc hok hlead => exec_keeper rfl hacc hlead (refuseIf_of_ok hok ..)
  case keeperCfgGet =>
    intro r s hacc
    rw [← taken_tk opKeeperCfgGet r s]
    exact exec_done rfl hacc rfl
  case ptpPortSet =>
    exact fun r s hacc hok hclear hlead => exec_keeper rfl hacc hlead (bodyPtpPortSet_of_clear hok hclear)
  case ptpPortGet =>
    intro r s hacc hkey
    rw [← ptpCfg_taken opPtpPortGet r s]
    exact exec_done rfl hacc (refuseIf_of_ok hkey ..)
  case synceSet =>
    exact fun r s hacc hok hclear hlead => exec_keeper rfl hacc hlead (bodySynceSet_of_clear hok hclear)
  case synceGet =>
    intro r s hacc hkey
    rw [← synceCfg_taken opSynceGet r s]
    exact exec_done rfl hacc (refuseIf_of_ok hkey ..)
  case refinSet => exact fun r s hacc hok hlead => exec_keeper rfl hacc hlead (refuseIf_of_ok hok ..)
  case refinGet =>
    intro r s hacc honly
    rw [← refCfg_taken opRefinGet r s]
    exact exec_done rfl hacc (refuseIf_of_ok honly ..)

end Sys2Proof.Machine
end

section
/-! The events of the keepers (07 R263 to R295): the servo cycle, XO, PPS and time, the candidates, the reference
inputs, PTP and ESMC. Each takes the branch that its guards select. -/

namespace Sys2Proof.Machine

@[simp] theorem State.tick_ptpSt (s : State) (t : Instant) (p : Nat) : (s.tick t).ptpSt p = s.ptpSt p := rfl

theorem execServoCycle_of_due {t : Instant} {s : State} (hcycle : t % servoPeriod = 0) (hstarted : s.started = true)
    (hout : s.pwr.inReset = false) (m : ServoIn) : execServoCycle m t s = .next ((s.tick t).servoCycle m t) :=
  if_pos ⟨hcycle, hstarted, congrArg not hout⟩

section Oscillator

variable {s : State} (t : Instant)

theorem execXoLost_of_present (hxo : s.tk.xoLost = false) {w : State}
    (hw : w = (({ (s.tick t) with tk := { s.tk with
      xoLost := true, bond := { s.tk.bond with xoFault := true } } }).tkFlag 5).raise 0x0406 87 [] t) :
    execXoLost t s = .next ((w.xoLostKeeper t .a).xoLostKeeper t .b) := by
  rw [hw]
  exact if_neg (Bool.eq_false_iff.mp hxo)

theorem execXoResume_of_lost (hxo : s.tk.xoLost = true) :
    execXoResume t s = .next { (s.tick t) with tk := { s.tk with xoLost := false, xoBack := true } } :=
  if_pos hxo

theorem execAonTrim_of_present (hxo : s.tk.xoLost = false) :
    execAonTrim t s = .next { (s.tick t) with tk := { s.tk with aonTrim := some t } } :=
  if_neg (Bool.eq_false_iff.mp hxo)

end Oscillator

section Pps

variable {t : Instant} {s : State} (hstarted : s.started = true)
include hstarted

/-- A started keeper that counts is at a whole second of its time. -/
theorem wholeSecond_of_runs {k : Tk} (hruns : s.runs k = true) (hwhole : s.tkTime k t % sec 1 = 0) :
    (s.started && s.runs k && s.tkTime k t % sec 1 == 0) = true := by
  rw [hstarted, hruns, hwhole]
  rfl

theorem execPpsOutput_monA (hruns : s.runs .a = true) (hwhole : s.tkTime .a t % sec 1 = 0) :
    execPpsOutput 0 t s =
      .next ({ (s.tick t) with tk := { s.tk with ppsMonA := s.tkTime .a t } }.emit (.pps 0 t)) :=
  if_pos (wholeSecond_of_runs hstarted hruns hwhole)

theorem execPpsOutput_monB (hruns : s.runs .b = true) (hwhole : s.tkTime .b t % sec 1 = 0) :
    execPpsOutput 1 t s =
      .next ({ (s.tick t) with tk := { s.tk with ppsMonB := s.tkTime .b t } }.emit (.pps 1 t)) :=
  if_pos (wholeSecond_of_runs hstarted hruns hwhole)

theorem execPpsOutput_out (hwhole : t % sec 1 = 0) :
    execPpsOutput 2 t s = .next ({ (s.tick t) with tk := { s.tk with ppsOut := t } }.emit (.pps 2 t)) := by
  have hdue : (s.started && t % sec 1 == 0) = true := by
    rw [hstarted, hwhole]
    rfl
  exact if_pos hdue

end Pps

section Candidates

variable {t : Instant} {s : State}

theorem execVoteWindowEnd_of_over (hover : s.tk.voteAt + ms s.tk.cfg.voteWindow ≤ t) (fs : List FreqMeas) :
    execVoteWindowEnd fs t s = .next ((s.tick t).vote fs t) :=
  if_neg (Nat.not_lt.mpr hover)

theorem execCandidateQualify_of_sound {cand : Nat} (hcand : cand < 16) (hvalid : (s.cand cand).valid = true)
    (hsound : s.candProblem cand t = none) :
    execCandidateQualify cand t s = .next ((s.tick t).qualifyDue cand t) :=
  if_pos ⟨hcand, hvalid, hsound⟩

end Candidates

section RefInput

variable {input : Nat} {t : Instant} {s : State} (hinput : input < 2)
include hinput

theorem execPpsMissing_of_due (hdue : (s.refSt input).ppsDue t = true) :
    execPpsMissing input t s = .next ((s.tick t).setRefSt input { (s.refSt input) with ppsOk := false }) :=
  if_pos ⟨hinput, hdue⟩

theorem execRefClockLost_of_input :
    execRefClockLost input t s =
      .next ((s.tick t).setRefSt input { (s.refSt input) with clock := false, phase := none }) :=
  if_pos hinput

section PpsEdge

variable {edge : PpsEdge} (hedge : (s.refCfg input).falling = edge.falling)
include hedge

/-- An edge of the selected kind at an input that takes PPS is not passed over (07 R302). -/
theorem ppsEdge_counts (hmode : (s.refCfg input).mode = 1 ∨ (s.refCfg input).mode = 3) :
    ¬ (2 ≤ input ∨ ¬ ((s.refCfg input).mode = 1 ∨ (s.refCfg input).mode = 3)
      ∨ (s.refCfg input).falling ≠ edge.falling) := by
  rintro (hpast | hother | hfalling)
  · exact Nat.not_le.mpr hinput hpast
  · exact hother hmode
  · exact hfalling hedge

theorem execRefPpsEdge_pps (hmode : (s.refCfg input).mode = 3) :
    execRefPpsEdge input edge t s =
      .next ((s.tick t).setRefSt input { (s.refSt input) with
        lastPps := some t, ppsOk := (s.refSt input).ppsInStep t, ppsOff := some (fromSecond t) }) :=
  (if_neg (ppsEdge_counts hinput hedge (.inr hmode))).trans (if_pos hmode)

section ClockPps

variable (hmode : (s.refCfg input).mode = 1)
include hmode

theorem execRefPpsEdge_clockPps_stopped (hphase : edge.phase = none) :
    execRefPpsEdge input edge t s =
      .next ((s.tick t).setRefSt input { (s.refSt input) with
        lastPps := some t, ppsOk := (s.refSt input).ppsInStep t }) := by
  have hclocked : (s.refCfg input).mode ≠ 3 := hmode.trans_ne (by decide)
  refine (if_neg (ppsEdge_counts hinput hedge (.inl hmode))).trans ((if_neg hclocked).trans ?_)
  simp only [hphase]
  rfl

theorem execRefPpsEdge_clockPps {p w : Int} (hphase : edge.phase = some p)
    (hw : w = divRound (fromSecond t - p) (s.refCfg input).period * (s.refCfg input).period) :
    execRefPpsEdge input edge t s =
      .next ((s.tick t).setRefSt input { (s.refSt input) with
        lastPps := some t, ppsOk := (s.refSt input).ppsInStep t, whole := some w
        posOk := decide ((fromSecond t - p - w).natAbs * 100 ≤ 40 * (s.refCfg input).period) }) := by
  have hclocked : (s.refCfg input).mode ≠ 3 := hmode.trans_ne (by decide)
  refine (if_neg (ppsEdge_counts hinput hedge (.inl hmode))).trans ((if_neg hclocked).trans ?_)
  simp only [hphase, hw]
  rfl

end ClockPps

end PpsEdge

end RefInput

section Ptp

variable {port : Nat} {t : Instant} {s : State} (hport : port < 64)
include hport

/-- A front port with a role in PTP takes its messages (07 R288). -/
theorem ptpRx_taken (hrole : (s.ptpCfg port).role ≠ 0) : ¬ (64 ≤ port ∨ (s.ptpCfg port).role = 0) :=
  not_or.mpr ⟨Nat.not_le.mpr hport, hrole⟩

theorem execPtpRx_followUp {q : Nat} {t2 : Instant} {c : Int} (hrole : (s.ptpCfg port).role ≠ 0)
    (hsync : (s.ptpSt port).sync = some (q, t2, c)) (origin : Instant) (corr : Int)
    (stamp : Instant) :
    execPtpRx port (.followUp q origin corr) stamp t s = .next ((s.tick t).ptpOffset port origin t2 (corr + c)) := by
  refine (if_neg (ptpRx_taken hport hrole)).trans ?_
  simp only [State.tick_ptpSt, hsync, if_true]

theorem execPtpRx_sync (hreceiver : (s.ptpCfg port).role = 1) (q : Nat) (two : Bool) (origin : Instant) (corr : Int)
    (stamp : Instant) :
    execPtpRx port (.sync q two origin corr) stamp t s =
      if two then .next ((s.tick t).setPtpSt port { (s.ptpSt port) with sync := some (q, stamp, corr) })
      else .next ((s.tick t).ptpOffset port origin stamp corr) := by
  have hrole : (s.ptpCfg port).role ≠ 0 := hreceiver.trans_ne (by decide)
  exact (if_neg (ptpRx_taken hport hrole)).trans (if_neg (not_not.mpr hreceiver))

section Transmitter

variable (htx : (s.ptpCfg port).role = 2)
include htx

theorem execPtpTx_sync_oneStep (hone : (s.ptpCfg port).twoStep = false) :
    execPtpTx port 0 t s =
      .next (((s.tick t).setPtpSt port { (s.ptpSt port) with
        seqTx := ((s.ptpSt port).seqTx + 1) % 65536 }).emit (.ptp port (s.ptpCfg port).transport
          (.sync (s.ptpSt port).seqTx false (ns (nsFloor t)) (t % 65536 : Nat)))) :=
  (if_neg (Nat.not_le.mpr hport)).trans <| (if_pos ⟨rfl, htx⟩).trans <| if_neg (Bool.eq_false_iff.mp hone)

theorem execPtpTx_announce :
    execPtpTx port 1 t s =
      .next ((s.tick t).emit (.ptp port (s.ptpCfg port).transport
        (.announce (s.portMac port) s.clockClass true s.tk.cfg.utcOffset))) :=
  (if_neg (Nat.not_le.mpr hport)).trans <| (if_neg fun h => Nat.one_ne_zero h.1).trans <| if_pos ⟨rfl, htx⟩

theorem execPtpDelayReqRx_delayReq (hprofile : (s.ptpCfg port).profile = 0) (q : Nat) (stamp : Instant) :
    execPtpDelayReqRx port (.delayReq q) stamp t s =
      .next ((s.tick t).emit (.ptp port (s.ptpCfg port).transport
        (.delayResp q (ns (nsFloor stamp)) (-((stamp % 65536 : Nat) : Int))))) := by
  have hrole : (s.ptpCfg port).role ≠ 0 := htx.trans_ne (by decide)
  exact (if_neg (ptpRx_taken hport hrole)).trans (if_pos ⟨htx, hprofile⟩)

end Transmitter

theorem execPtpDelayReqTx_of_asking (hrole : (s.ptpCfg port).role ≠ 0)
    (hasks : ¬ ((s.ptpCfg port).role = 2 ∧ (s.ptpCfg port).profile = 0)) :
    execPtpDelayReqTx port t s =
      .next (((s.tick t).setPtpSt port { (s.ptpSt port) with
        seqTx := ((s.ptpSt port).seqTx + 1) % 65536, req := some ((s.ptpSt port).seqTx, t), resp := none }).emit
          (.ptp port (s.ptpCfg port).transport (if (s.ptpCfg port).profile = 0 then .delayReq (s.ptpSt port).seqTx
            else .pdelayReq (s.ptpSt port).seqTx))) :=
  if_neg (not_or.mpr ⟨Nat.not_le.mpr hport, not_or.mpr ⟨hrole, hasks⟩⟩)

end Ptp

section Esmc

variable {port : Nat} {t : Instant} {s : State}

/-- A front port with ESMC in the direction of the event is not passed over (07 R291). -/
theorem esmc_runs {en dir : Bool} (hport : port < 64) (hen : en = true) (hdir : dir = true) :
    ¬ (64 ≤ port ∨ (!en) = true ∨ (!dir) = true) := by
  simp [hen, hdir, hport]

theorem execEsmcRx_of_enabled (hport : port < 64) (hen : (s.synceCfg port).en = true)
    (hrx : (s.synceCfg port).rx = true) (ql : Nat) :
    execEsmcRx port ql t s =
      .next ((s.tick t).setEsmc port { s.esmc port with ql := some (ql % 16), at_ := t }) :=
  if_neg (esmc_runs hport hen hrx)

theorem execEsmcTx_of_enabled (hport : port < 64) (hen : (s.synceCfg port).en = true)
    (htx : (s.synceCfg port).tx = true) :
    execEsmcTx port t s =
      .next (((s.tick t).setEsmc port { s.esmc port with sent := some ((s.tick t).qlToSend port) }).emit
        (.esmc port ((s.tick t).qlToSend port))) :=
  if_neg (esmc_runs hport hen htx)

theorem execEsmcQlTimeout_of_old (hheld : (s.esmc port).ql.isSome = true) (hold : (s.esmc port).at_ + sec 5 < t) :
    execEsmcQlTimeout port t s = .next ((s.tick t).setEsmc port { s.esmc port with ql := some 0xF }) :=
  if_pos ⟨hheld, hold⟩

end Esmc

/-- Settles O23: a lemma for each event says which branch its guards select; a latch of time has a single one. The
fields of the PTP messages and the offsets that they give are the model's choice (log entry 51), as is that a delay
request is answered as it is taken; the ESMC events rest on 07 R291. -/
theorem keeperEventsComplete : Obligations.KeeperEventsComplete := by
  refine ⟨?servoCycle, ?xoLost, ?xoResume, ?aonTrim, ?ppsMonA, ?ppsMonB, ?ppsOut, ?timeLatch, ?voteWindowEnd,
    ?candidateQualify, ?ppsEdge, ?clockPpsStopped, ?clockPps, ?ppsMissing, ?refClockLost, ?syncOneStep, ?syncTwoStep,
    ?followUp, ?syncTx, ?announceTx, ?delayReqTx, ?delayReqRx, ?esmcRx, ?esmcQlTimeout, ?esmcTx⟩
  case servoCycle => exact fun m t s hcycle hstarted hout => execServoCycle_of_due hcycle hstarted hout m
  case xoLost => exact fun t s w hxo hw => execXoLost_of_present t hxo hw
  case xoResume => exact fun t s hxo => execXoResume_of_lost t hxo
  case aonTrim => exact fun t s hxo => execAonTrim_of_present t hxo
  case ppsMonA =>
    rintro _ t s rfl hstarted hruns hwhole
    exact execPpsOutput_monA hstarted hruns hwhole
  case ppsMonB =>
    rintro _ t s rfl hstarted hruns hwhole
    exact execPpsOutput_monB hstarted hruns hwhole
  case ppsOut =>
    rintro _ t s rfl hstarted hwhole
    exact execPpsOutput_out hstarted hwhole
  case timeLatch => exact fun t s => rfl
  case voteWindowEnd => exact fun fs t s hover => execVoteWindowEnd_of_over hover fs
  case candidateQualify =>
    exact fun cand t s hcand hvalid hsound => execCandidateQualify_of_sound hcand hvalid hsound
  case ppsEdge => exact fun input edge t s hinput hedge hmode => execRefPpsEdge_pps hinput hedge hmode
  case clockPpsStopped =>
    exact fun input edge t s hinput hedge hmode hphase =>
      execRefPpsEdge_clockPps_stopped hinput hedge hmode hphase
  case clockPps =>
    exact fun input edge t s p w hinput hedge hmode hphase hw =>
      execRefPpsEdge_clockPps hinput hedge hmode hphase hw
  case ppsMissing => exact fun input t s hinput hdue => execPpsMissing_of_due hinput hdue
  case refClockLost => exact fun input t s hinput => execRefClockLost_of_input hinput
  case syncOneStep =>
    rintro port _ stamp t s q origin corr hport hreceiver rfl
    exact execPtpRx_sync hport hreceiver q false origin corr stamp
  case syncTwoStep =>
    rintro port _ stamp t s q origin corr hport hreceiver rfl
    exact execPtpRx_sync hport hreceiver q true origin corr stamp
  case followUp =>
    rintro port _ stamp t s q origin corr t2 c hport hrole rfl hsync
    exact execPtpRx_followUp hport hrole hsync origin corr stamp
  case syncTx =>
    rintro port _ t s hport rfl htx hone
    exact execPtpTx_sync_oneStep hport htx hone
  case announceTx =>
    rintro port _ t s hport rfl htx
    exact execPtpTx_announce hport htx
  case delayReqTx => exact fun port t s hport hrole hasks => execPtpDelayReqTx_of_asking hport hrole hasks
  case delayReqRx =>
    rintro port _ stamp t s q hport htx hprofile rfl
    exact execPtpDelayReqRx_delayReq hport htx hprofile q stamp
  case esmcRx => exact fun port ql t s hport hen hrx => execEsmcRx_of_enabled hport hen hrx ql
  case esmcQlTimeout => exact fun port t s hheld hold => execEsmcQlTimeout_of_old hheld hold
  case esmcTx => exact fun port t s hport hen htx => execEsmcTx_of_enabled hport hen htx

end Sys2Proof.Machine
end

section
/-! A port that carries time does not park on request (08 R340): a kind-0 candidate on it, or the far end's CAND,
forbids PARK to the command and to PARK_AUTO alike. -/

namespace Sys2Proof.Machine

@[simp] theorem link_taken (op : OpSpec) (r : Req) (s : State) (p : Nat) : (taken op r s).link p = s.link p := by
  simp only [State.link, taken_lt]

theorem parkable_taken (op : OpSpec) (r : Req) (s : State) (p : Nat) : (taken op r s).parkable p = s.parkable p := by
  simp only [State.parkable, State.isActive, lane_taken]

theorem namedUpstream_taken (op : OpSpec) (r : Req) (s : State) (p : Nat) :
    (taken op r s).namedUpstream p = s.namedUpstream p := by
  simp only [State.namedUpstream, cand_taken]

theorem parkForbidden_taken (op : OpSpec) (r : Req) (s : State) (p : Nat) :
    (taken op r s).parkForbidden p = s.parkForbidden p := by
  simp only [State.parkForbidden, course_taken, namedUpstream_taken, link_taken]

@[simp] theorem State.tick_link (s : State) (t : Instant) (p : Nat) : (s.tick t).link p = s.link p := rfl

@[simp] theorem State.tick_parkForbidden (s : State) (t : Instant) (p : Nat) :
    (s.tick t).parkForbidden p = s.parkForbidden p := rfl

theorem State.namedUpstream_of_cand {s : State} {i p : Nat} (hi : i < 16) (hvalid : (s.cand i).valid = true)
    (hkind : (s.cand i).kind = 0) (hport : (s.cand i).port = p) : s.namedUpstream p = true :=
  List.any_eq_true.mpr ⟨i, List.mem_range.mpr hi, by simp [hvalid, hkind, hport]⟩

theorem State.parkForbidden_of_namedUpstream {s : State} {p : Nat} (hnamed : s.namedUpstream p = true) :
    s.parkForbidden p = true := by
  simp only [State.parkForbidden, hnamed, Bool.or_true, Bool.true_or]

theorem State.parkForbidden_of_farCand {s : State} {p : Nat} (hfar : (s.link p).farCand = true) :
    s.parkForbidden p = true := by
  simp only [State.parkForbidden, hfar, Bool.or_true]

/-- A command whose body fails without a mark. -/
theorem exec_fail {i : Instr} {op : OpSpec} {r : Req} {s : State} {st : Nat} {ws : List Word}
    (hrun : exec i s = .next (runCommand opTable op r s)) (hacc : accepted op r s = true)
    (hbody : op.body ⟨r, s.host.nextJid, applyInstant op r s⟩ (taken op r s) = .fail st ws) :
    exec i s = .next ((taken op r s).replyTo op.opcode s.host.nextJid st true ws r) := by
  rw [hrun, runCommand_fail hacc hbody]
  rfl

/-- LINK_PARK of a port that could park, where 06 R242 or 08 R340 forbids it. -/
theorem bodyLinkPark_of_forbidden {c : Ctx} {s : State} (hport : c.r.f 4 0 7 < 48)
    (hable : s.parkable (c.r.f 4 0 7) = true) (honly : c.r.only 4 0x8000007F = true) (hpark : c.r.b 4 31 = true)
    (hlane : (s.lane (c.r.f 4 0 7)).state ≠ .park) (hforbid : s.parkForbidden (c.r.f 4 0 7) = true) :
    bodyLinkPark c s = .fail State.stConflict := by
  have hstate : ((decide (c.r.f 4 0 7 < 48) && !s.parkable (c.r.f 4 0 7) && (s.lane (c.r.f 4 0 7)).state != .park)
      || trunkNotTl10 s (c.r.f 4 0 7)) = false := by
    simp [hable, trunkNotTl10, Nat.not_le.mpr hport]
  have hparam : (decide (48 ≤ c.r.f 4 0 7) || !c.r.only 4 0x8000007F) = false := by
    simp [honly, hport]
  calc bodyLinkPark c s
      = _ := (refuseIf_of_false hstate ..).trans (refuseIf_of_false hparam ..)
    _ = _ := (if_pos hpark).trans (if_neg hlane)
    _ = .fail State.stConflict := if_pos hforbid

theorem execParkAuto_of_forbidden {s : State} {p : Nat} (hforbid : s.parkForbidden p = true) (t : Instant) :
    execParkAuto p t s = .next (s.tick t) :=
  if_neg (by simp [hforbid])

/-- Settles O52: either reason of 08 R340 makes PARK forbidden, which the command and PARK_AUTO both look at. -/
theorem parkOfTimingPortConflicts : Obligations.ParkOfTimingPortConflicts := by
  intro r s i hacc hport hable honly hpark hlane htime
  have hforbid : s.parkForbidden (r.f 4 0 7) = true := by
    rcases htime with ⟨hi, hvalid, hkind, hnames⟩ | hfar
    · exact State.parkForbidden_of_namedUpstream (State.namedUpstream_of_cand hi hvalid hkind hnames)
    · exact State.parkForbidden_of_farCand hfar
  refine ⟨exec_fail rfl hacc (bodyLinkPark_of_forbidden hport ?_ honly hpark ?_ ?_),
    execParkAuto_of_forbidden hforbid⟩
  · rwa [parkable_taken]
  · rwa [lane_taken]
  · rwa [parkForbidden_taken]

end Sys2Proof.Machine
end

section
/-! The settings that a SET packet gives, laid out as its GET lays them out, are the packet's parameter words
(08 R349, R350; 07 R302, R304; 03 R118; 10 R441): the fields of a word and its reserved bits, which are 0, make up the
word. -/

namespace Sys2Proof

namespace Req

variable (r : Req)

theorem w_lt (i : Nat) : r.w i < 4294967296 := BitVec.isLt _

/-- The parameter words by their packet positions, which begin at 4. -/
theorem params_eq_map_w : r.params = (List.range r.pw).map fun i => word (r.w (4 + i)) := by
  refine List.ext_getElem (by simp [pw]) fun i h _ => ?_
  simp [w, word, h]

variable {r} {i mask lo n : Nat}

/-- The bits of a word outside its mask are 0 (12 R504). -/
theorem f_eq_zero_of_only (honly : r.only i mask = true) (hgap : field (4294967295 - mask) lo n = 2 ^ n - 1) :
    r.f i lo n = 0 := by
  refine Nat.zero_of_testBit_eq_false fun k => ?_
  rw [f, field, Nat.testBit_mod_two_pow, Nat.testBit_div_two_pow, Nat.add_comm k lo]
  by_cases hk : k < n
  · have hreserved : (4294967295 - mask).testBit (lo + k) = true := by
      have h := congrArg (Nat.testBit · k) hgap
      simpa [field, Nat.testBit_mod_two_pow, Nat.testBit_div_two_pow, hk, Nat.add_comm] using h
    have hand : r.w i &&& (4294967295 - mask) = 0 := eq_of_beq honly
    have hclear : (r.w i).testBit (lo + k) = false := by
      have h := congrArg (Nat.testBit · (lo + k)) hand
      simpa [hreserved] using h
    rw [hclear, Bool.and_false]
  · rw [decide_eq_false hk, Bool.false_and]

/-- A word whose only field is its low `n` bits is that field. -/
theorem f_low_eq_w (honly : r.only i mask = true) (hgap : field (4294967295 - mask) n (32 - n) = 2 ^ (32 - n) - 1)
    (hn : n ≤ 32 := by decide) : r.f i 0 n = r.w i := by
  have hlt : r.w i < 2 ^ n * 2 ^ (32 - n) := by
    rw [← Nat.pow_add, Nat.add_sub_cancel' hn]
    exact r.w_lt i
  have hhigh : r.w i / 2 ^ n = 0 := by
    have h := f_eq_zero_of_only honly hgap
    rwa [f, field, Nat.mod_eq_of_lt (Nat.div_lt_of_lt_mul hlt)] at h
  rw [f, field, Nat.pow_zero, Nat.div_one, Nat.mod_eq_of_lt (Nat.div_eq_zero_iff_lt (Nat.two_pow_pos n) |>.mp hhigh)]

end Req

theorem atBit_flag (w i : Nat) : atBit (flag w i) i = field w i 1 * 2 ^ i := by
  have h : w / 2 ^ i % 2 = 0 ∨ w / 2 ^ i % 2 = 1 := Nat.mod_two_eq_zero_or_one _
  rcases h with h | h <;> simp [atBit, flag, field, h]

/-- A word holds a signed value in two's complement (00 R7). -/
theorem word_signed {w : Nat} (hw : w < 4294967296) : word (signed 32 w % 4294967296).toNat = word w := by
  congr 1
  simp only [signed]
  omega

end Sys2Proof

namespace Sys2Proof.Machine

variable {r : Req}

theorem ltCfgOf_words (hok : okLinkTimingSet r = true) (hpw : r.pw = 3) :
    (ltCfgOf r).words (r.f 4 0 7) = r.params := by
  simp only [okLinkTimingSet, Bool.and_eq_true] at hok
  obtain ⟨⟨⟨⟨⟨⟨-, hkey⟩, hdelay⟩, hlimits⟩, -⟩, -⟩, -⟩ := hok
  have h4 : atBit (r.b 4 31) 31 + r.f 4 0 7 = r.w 4 := by
    have hgap : r.f 4 7 24 = 0 := Req.f_eq_zero_of_only hkey rfl
    have hlt := r.w_lt 4
    simp only [Req.b, Req.f, atBit_flag, field] at hgap ⊢
    omega
  have h5 : r.f 5 0 10 = r.w 5 := Req.f_low_eq_w hdelay rfl
  have h6 : r.f 6 16 8 * 65536 + r.f 6 0 16 = r.w 6 := by
    have hgap : r.f 6 24 8 = 0 := Req.f_eq_zero_of_only hlimits rfl
    have hlt := r.w_lt 6
    simp only [Req.f, field] at hgap ⊢
    omega
  rw [r.params_eq_map_w, hpw, LtCfg.words, ltCfgOf, h4, h5, h6]
  rfl

theorem asymCfgOf_words (hok : okAsymSet r = true) (hpw : r.pw = 4) :
    (asymCfgOf r).words (r.f 4 0 7) = r.params := by
  simp only [okAsymSet, Bool.and_eq_true] at hok
  obtain ⟨⟨⟨⟨-, hkey⟩, -⟩, -⟩, -⟩ := hok
  have h4 : r.f 4 0 7 = r.w 4 := Req.f_low_eq_w hkey rfl
  rw [r.params_eq_map_w, hpw, AsymCfg.words, asymCfgOf, h4, word_signed (r.w_lt 5)]
  rfl

theorem synceOf_words (hok : okSynceSet r = true) (hpw : r.pw = 1) :
    (synceOf r).words (r.f 4 0 7) = r.params := by
  simp only [okSynceSet, Bool.and_eq_true] at hok
  obtain ⟨-, hkey⟩ := hok
  have h4 : atBit (r.b 4 31) 31 + atBit (r.b 4 30) 30 + atBit (r.b 4 29) 29 + r.f 4 16 4 * 65536 + r.f 4 8 4 * 256
      + r.f 4 0 7 = r.w 4 := by
    have hgap1 : r.f 4 7 1 = 0 := Req.f_eq_zero_of_only hkey rfl
    have hgap2 : r.f 4 12 4 = 0 := Req.f_eq_zero_of_only hkey rfl
    have hgap3 : r.f 4 20 9 = 0 := Req.f_eq_zero_of_only hkey rfl
    have hlt := r.w_lt 4
    simp only [Req.b, Req.f, atBit_flag, field] at hgap1 hgap2 hgap3 ⊢
    omega
  rw [r.params_eq_map_w, hpw, SynceCfg.words, synceOf, h4]
  rfl

theorem refinOf_words (hok : okRefinSet r = true) (hpw : r.pw = 3) :
    (refinOf r).words (r.f 4 0 1) = r.params := by
  simp only [okRefinSet, Bool.and_eq_true] at hok
  obtain ⟨⟨hkey, hmode⟩, -⟩ := hok
  have h4 : r.f 4 0 1 = r.w 4 := Req.f_low_eq_w hkey rfl
  have h5 : atBit (r.b 5 8) 8 + atBit (r.b 5 4) 4 + r.f 5 0 2 = r.w 5 := by
    have hgap1 : r.f 5 2 2 = 0 := Req.f_eq_zero_of_only hmode rfl
    have hgap2 : r.f 5 5 3 = 0 := Req.f_eq_zero_of_only hmode rfl
    have hgap3 : r.f 5 9 23 = 0 := Req.f_eq_zero_of_only hmode rfl
    have hlt := r.w_lt 5
    simp only [Req.b, Req.f, atBit_flag, field] at hgap1 hgap2 hgap3 ⊢
    omega
  rw [r.params_eq_map_w, hpw, RefCfg.words, refinOf, h4, h5, word_signed (r.w_lt 6)]
  rfl

theorem meterOf_words (hok : okMeterSet r = true) (hpw : r.pw = 5) :
    (meterOf r).words (r.f 4 0 15) = r.params := by
  simp only [okMeterSet, Bool.and_eq_true] at hok
  obtain ⟨⟨⟨⟨⟨⟨⟨hkey, hcbs⟩, hebs⟩, -⟩, -⟩, -⟩, -⟩, -⟩ := hok
  have h4 : atBit (r.b 4 16) 16 + r.f 4 15 1 * 32768 + r.f 4 0 15 = r.w 4 := by
    have hgap : r.f 4 17 15 = 0 := Req.f_eq_zero_of_only hkey rfl
    have hlt := r.w_lt 4
    simp only [Req.b, Req.f, atBit_flag, field] at hgap ⊢
    omega
  have h6 : r.f 6 0 24 = r.w 6 := Req.f_low_eq_w hcbs rfl
  have h8 : r.f 8 0 24 = r.w 8 := Req.f_low_eq_w hebs rfl
  rw [r.params_eq_map_w, hpw, Meter.words, meterOf, h4, h6, h8]
  rfl

/-- A word of two limits of 10 bits, one in each half (10 R441). -/
theorem limits_eq_w {i : Nat} (honly : r.only i 0x3FF03FF = true) : r.f i 16 10 * 65536 + r.f i 0 10 = r.w i := by
  have hgap1 : r.f i 10 6 = 0 := Req.f_eq_zero_of_only honly rfl
  have hgap2 : r.f i 26 6 = 0 := Req.f_eq_zero_of_only honly rfl
  have hlt := r.w_lt i
  simp only [Req.f, field] at hgap1 hgap2 ⊢
  omega

theorem eqCfgOf_words (hok : okEqSet r = true) (hpw : r.pw = 4) :
    (eqCfgOf r).words (r.f 4 0 7) = r.params := by
  simp only [okEqSet, Bool.and_eq_true] at hok
  obtain ⟨⟨⟨⟨⟨⟨-, hkey⟩, hwidth⟩, hheight⟩, hswing⟩, -⟩, -⟩ := hok
  have h4 : atBit (r.b 4 15) 15 + r.f 4 8 3 * 256 + r.f 4 0 7 = r.w 4 := by
    have hgap1 : r.f 4 7 1 = 0 := Req.f_eq_zero_of_only hkey rfl
    have hgap2 : r.f 4 11 4 = 0 := Req.f_eq_zero_of_only hkey rfl
    have hgap3 : r.f 4 16 16 = 0 := Req.f_eq_zero_of_only hkey rfl
    have hlt := r.w_lt 4
    simp only [Req.b, Req.f, atBit_flag, field] at hgap1 hgap2 hgap3 ⊢
    omega
  have h7 : r.f 7 0 12 = r.w 7 := Req.f_low_eq_w hswing rfl
  rw [r.params_eq_map_w, hpw, EqCfg.words, eqCfgOf, h4, limits_eq_w hwidth, limits_eq_w hheight, h7]
  rfl

/-- Settles O59: the settings of each SET give its parameter words back; those of SYNCE_SET rest on 07 R304. -/
theorem settingsReadBack : Obligations.SettingsReadBack := fun _ =>
  ⟨ltCfgOf_words, asymCfgOf_words, synceOf_words, refinOf_words, meterOf_words, eqCfgOf_words⟩

end Sys2Proof.Machine
end

section
/-! The link-timing and calibration commands (08 R348 to R353): what a body does once none of its refusals applies, and
the interpreter's answer to it. The two SETs wait as keeper changes; a window or a run opens, and its command stays
PENDING. -/

namespace Sys2Proof.Machine

section Bodies

variable {c : Ctx} {s : State}

theorem bodyLinkTimingSet_of_clear (hok : okLinkTimingSet c.r = true)
    (hclear : (!(ltCfgOf c.r).en && s.namedPlanned 0 (c.r.f 4 0 7)) = false) :
    bodyLinkTimingSet c s = stageTk c s (.link (c.r.f 4 0 7) (ltCfgOf c.r)) :=
  (refuseIf_of_ok hok ..).trans <| refuseIf_of_false hclear ..

/-- FIRST and SECOND open a window where none is open; SECOND needs what FIRST held. -/
theorem bodyAsymMeasure_of_idle (hact : c.r.f 4 30 2 ≠ 2) (hidle : s.lt.asym = none)
    (hfirst : (c.r.f 4 30 2 == 1 && asymNoFirst s (c.r.f 4 0 7) c.t) = false) (hok : okAsymMeasure c.r = true) :
    bodyAsymMeasure c s = .wait (asymOpen s c.r c.jid c.t) := by
  have hfree : (s.lt.asym.isSome && c.r.f 4 30 2 != 2) = false := by rw [hidle]; rfl
  exact (refuseIf_of_false hfree ..).trans <| (refuseIf_of_false hfirst ..).trans <|
    (refuseIf_of_ok hok ..).trans <| if_neg hact

/-- CANCEL ends an open window and drops what FIRST held. -/
theorem bodyAsymMeasure_of_cancel (hact : c.r.f 4 30 2 = 2) (hok : okAsymMeasure c.r = true) :
    bodyAsymMeasure c s =
      .done { s.asymAbort c.t with lt := { (s.asymAbort c.t).lt with first := none } } := by
  have hfree : (s.lt.asym.isSome && c.r.f 4 30 2 != 2) = false := by simp [hact]
  have hfirst : (c.r.f 4 30 2 == 1 && asymNoFirst s (c.r.f 4 0 7) c.t) = false := by simp [hact]
  exact (refuseIf_of_false hfree ..).trans <| (refuseIf_of_false hfirst ..).trans <|
    (refuseIf_of_ok hok ..).trans <| if_pos hact

theorem bodyCalVernierRun_of_free (honly : c.r.only 4 0xF = true) (hfree : vernierBusy s = false) :
    bodyCalVernierRun c s =
      .wait { startVerniers s (c.r.w 4) with lt := { (startVerniers s (c.r.w 4)).lt with
        vernJid := some (c.jid, (List.range 4).filter fun q => (c.r.w 4).testBit q), vernMask := c.r.w 4 } } :=
  (refuseIf_of_ok honly ..).trans <| refuseIf_of_false hfree ..

end Bodies

/-- Settles O9: no body refuses, and the settings that a GET reads in the state that the take leaves are what stood
before. -/
theorem linkTimingCommandsComplete : Obligations.LinkTimingCommandsComplete := by
  refine ⟨?linkTimingSet, ?linkTimingGet, ?asymSet, ?asymGet, ?linkStatusGet, ?asymOpens, ?asymCancel, ?calDelayRun,
    ?calVernierRun⟩
  case linkTimingSet =>
    exact fun r s hacc hok hclear hlead => exec_keeper rfl hacc hlead (bodyLinkTimingSet_of_clear hok hclear)
  case linkTimingGet =>
    intro r s hacc hkey
    rw [← link_taken opLinkTimingGet r s]
    exact exec_done rfl hacc (refuseIf_of_ok hkey ..)
  case asymSet => exact fun r s hacc hok hlead => exec_keeper rfl hacc hlead (refuseIf_of_ok hok ..)
  case asymGet =>
    intro r s hacc hkey
    rw [← link_taken opAsymGet r s]
    exact exec_done rfl hacc (refuseIf_of_ok hkey ..)
  case linkStatusGet => exact fun r s hacc hkey => exec_done rfl hacc (refuseIf_of_ok hkey ..)
  case asymOpens =>
    intro r s hacc hact hidle hfirst hok
    rw [← taken_lt opAsymMeasure r s] at hidle
    exact exec_wait rfl hacc (bodyAsymMeasure_of_idle hact hidle hfirst hok)
  case asymCancel => exact fun r s hacc hact hok => exec_done rfl hacc (bodyAsymMeasure_of_cancel hact hok)
  case calDelayRun => exact fun r s hacc hfree => exec_wait rfl hacc (refuseIf_of_false hfree ..)
  case calVernierRun =>
    exact fun r s hacc honly hfree => exec_wait rfl hacc (bodyCalVernierRun_of_free honly hfree)

end Sys2Proof.Machine
end

section
/-! The events of link timing and calibration (08 R313 to R343): beat samples, marks, timing frames, runs and windows.
Each takes the branch that its guards select. -/

namespace Sys2Proof.Machine

section Detector

variable {port : Nat} {t : Instant} {s : State}

/-- A port that neither measures nor waits to measure again keeps its state (08 R322). -/
theorem execBeatSample_of_still (hport : port < 64) (hcoarse : (s.link port).state ≠ .coarse)
    (hfine : (s.link port).state ≠ .fine) (hstale : (s.link port).state ≠ .stale) (phiRx phiTx : Nat) :
    execBeatSample port phiRx phiTx t s = .next ((s.tick t).sampleBeat port phiRx phiTx) := by
  refine (if_neg (Nat.not_le.mpr hport)).trans (if_neg ?_)
  rintro (h | h | ⟨h, -⟩)
  · exact hcoarse h
  · exact hfine h
  · exact hstale h

theorem execBeatSample_of_measuring (hport : port < 64)
    (hmeasures : (s.link port).state = .coarse ∨ (s.link port).state = .fine) (phiRx phiTx : Nat) :
    execBeatSample port phiRx phiTx t s =
      .next (((s.tick t).sampleBeat port phiRx phiTx).ltByDetector port t) :=
  (if_neg (Nat.not_le.mpr hport)).trans <| if_pos <| hmeasures.imp_right Or.inl

theorem execLtRelockTimeout_of_past (hstale : (s.link port).state = .stale) (hactive : s.isActive port = true)
    (hpast : s.relockPast port t = true) :
    execLtRelockTimeout port t s = .next ((s.tick t).ltWait port t) :=
  if_pos ⟨hstale, hactive, hpast⟩

end Detector

/-- A guard that passes over an event for want of something does not where it is there. -/
theorem not_bnot {b : Bool} (h : b = true) : ¬ (!b) = true := by
  rw [h]
  decide

/-- A front port that sends marks and timing frames is not passed over (08 R313, R319). -/
theorem timingSender_runs {port : Nat} {s : State} (hport : port < 64) (hsends : s.sendsTiming port = true) :
    ¬ (64 ≤ port ∨ (!s.sendsTiming port) = true) :=
  not_or.mpr ⟨Nat.not_le.mpr hport, not_bnot hsends⟩

section Marks

variable {port cycle sym : Nat} {t : Instant} {s : State} (hport : port < 64)
include hport

theorem execTmarkTx_of_due {m : OwnMark} (hsends : s.sendsTiming port = true)
    (hfind : (s.link port).marks.find? (fun m => m.dep.isNone) = some m) (hdue : m.at_ ≤ t)
    (hidle : (s.tick t).lineIdle port t = true)
    (hclear : (s.link port).clearOfMarks ((s.tick t).departure port cycle sym)
      (txTime ((s.tick t).model port).rate 4) = true) :
    execTmarkTx port cycle sym t s =
      .next (((s.tick t).setLink port { (s.link port) with
        marks := (s.link port).marks.map fun x =>
          if x == m then { x with dep := some ((s.tick t).departure port cycle sym), epoch := s.lt.steps }
          else x }).emit (.tmark port [m.seq % 256, m.seq / 256, m.flags] ((s.tick t).departure port cycle sym))) := by
  have hsending : ¬ (64 ≤ port ∨ (!(s.tick t).sendsTiming port) = true) := timingSender_runs hport hsends
  have hready : ¬ (t < m.at_ ∨ (!(s.tick t).lineIdle port t) = true
      ∨ (!(s.link port).clearOfMarks ((s.tick t).departure port cycle sym)
        (txTime ((s.tick t).model port).rate 4)) = true) :=
    not_or.mpr ⟨Nat.not_lt.mpr hdue, not_or.mpr ⟨not_bnot hidle, not_bnot hclear⟩⟩
  simp only [execTmarkTx, if_neg hsending, State.tick_link, hfind]
  exact if_neg hready

/-- A whole mark with a new number, on an ACTIVE Tuireane port (08 R315). -/
theorem execTmarkRx_of_new {b0 b1 b2 q : Nat} (hq : q = (b0 + 256 * b1) % 65536)
    (heven : oddOnes (q + 65536 * b2) = false) (hactive : s.isActive port = true) (htl : s.isTl port = true)
    (hlast : (s.link port).lastKept ≠ some q) (hkept : (s.link port).kept.any (fun m => m.seq == q) = false) :
    execTmarkRx port [b0, b1, b2] false cycle sym t s =
      .next ((s.tick t).keepMark port q (flag b2 7) cycle sym) := by
  subst hq
  have hgood : ¬ (false = true ∨ oddOnes ((b0 + 256 * b1) % 65536 + 65536 * b2) = true
      ∨ (!(s.tick t).isActive port) = true ∨ (!(s.tick t).isTl port) = true) :=
    not_or.mpr ⟨Bool.false_ne_true, not_or.mpr ⟨Bool.eq_false_iff.mp heven,
      not_or.mpr ⟨not_bnot hactive, not_bnot htl⟩⟩⟩
  exact (if_neg (Nat.not_le.mpr hport)).trans <| (if_neg hgood).trans <|
    if_neg (not_or.mpr ⟨hlast, Bool.eq_false_iff.mp hkept⟩)

end Marks

section TimingFrames

variable {port : Nat} {t : Instant} {s : State} (hport : port < 64)
include hport

/-- In CALX the port sends CAL frames alone, once its loopback is measured (10 R414). -/
theorem execTimingFrameTx_of_calx (hcalx : (s.lane port).state = .calx) (hloop : (s.link port).loopDone = true)
    (hcal : (s.lane port).calxCal = false) :
    execTimingFrameTx port t s =
      .next (((s.tick t).countP port 79).emit
        (.frame port ((s.tick t).localFrame port ((s.tick t).calPayload port)) t)) := by
  have hready : (!(s.link port).loopDone || (s.lane port).calxCal) = false := by rw [hloop, hcal]; rfl
  exact (if_neg (Nat.not_le.mpr hport)).trans <| (if_pos hcalx).trans <| if_neg (Bool.eq_false_iff.mp hready)

section Slot

variable {x : Slot} {rest : List Slot} (hlane : (s.lane port).state ≠ .calx) (hsends : s.sendsTiming port = true)
  (hslots : (s.link port).slots = x :: rest) (hdue : x.at_ ≤ t) (hquiet : (s.model port).tx = none)
  (hfree : (s.model port).freeAt ≤ t) (hfits : s.fitsWindow port 64 t = true)
include hlane hsends hslots hdue hquiet hfree hfits

/-- The earliest slot of a port is due, and its frame fits (08 R319): the kind of the slot decides what it sends. -/
theorem execTimingFrameTx_of_slot :
    execTimingFrameTx port t s =
      if x.timing then
        .next (((s.tick t).sendLocal port ((s.tick t).timingPayload port x) t).setLink port {
          ((s.tick t).sendLocal port ((s.tick t).timingPayload port x) t).link port with
            slots := if x.cal || (s.link port).calSend then { x with timing := false, cal := true } :: rest else rest
            calSend := false })
      else
        .next (((s.tick t).sendLocal port ((s.tick t).calPayload port) t).setLink port {
          ((s.tick t).sendLocal port ((s.tick t).calPayload port) t).link port with slots := rest }) := by
  have hready : ¬ (t < x.at_ ∨ ((s.tick t).model port).tx.isSome = true ∨ t < ((s.tick t).model port).freeAt
      ∨ (!(s.tick t).fitsWindow port 64 t) = true) :=
    not_or.mpr ⟨Nat.not_lt.mpr hdue, not_or.mpr ⟨Bool.eq_false_iff.mp (congrArg Option.isSome hquiet),
      not_or.mpr ⟨Nat.not_lt.mpr hfree, not_bnot hfits⟩⟩⟩
  refine (if_neg (Nat.not_le.mpr hport)).trans <| (if_neg hlane).trans <| (if_neg (not_bnot hsends)).trans ?_
  simp only [State.tick_link, hslots]
  exact if_neg hready

theorem execTimingFrameTx_timing {w : State}
    (hw : w = (s.tick t).sendLocal port ((s.tick t).timingPayload port x) t) (hkind : x.timing = true) :
    execTimingFrameTx port t s =
      .next (w.setLink port { w.link port with
        slots := if x.cal || (s.link port).calSend then { x with timing := false, cal := true } :: rest else rest
        calSend := false }) := by
  rw [hw, execTimingFrameTx_of_slot hport hlane hsends hslots hdue hquiet hfree hfits, if_pos hkind]

theorem execTimingFrameTx_cal {w : State} (hw : w = (s.tick t).sendLocal port ((s.tick t).calPayload port) t)
    (hkind : x.timing = false) :
    execTimingFrameTx port t s = .next (w.setLink port { w.link port with slots := rest }) := by
  rw [hw, execTimingFrameTx_of_slot hport hlane hsends hslots hdue hquiet hfree hfits,
    if_neg (Bool.eq_false_iff.mp hkind)]

end Slot

section Received

variable {bytes : List Byte} (hgood : goodTiming bytes = true)
include hgood

theorem execTimingFrameRx_timing (hkind : timingByte bytes 0 1 = 0x11) :
    execTimingFrameRx port bytes t s =
      .next (((s.tick t).countP port 80).takeTiming port (farFrameOf bytes)) :=
  (if_neg (Nat.not_le.mpr hport)).trans <| (if_neg (not_bnot hgood)).trans <|
    congrArg Host.Outcome.next (if_pos hkind)

theorem execTimingFrameRx_cal (hkind : timingByte bytes 0 1 = 0x12) :
    execTimingFrameRx port bytes t s =
      .next (((s.tick t).countP port 80).takeCal port (farCalOf bytes)) := by
  have hother : timingByte bytes 0 1 ≠ 0x11 := hkind.trans_ne (by decide)
  exact (if_neg (Nat.not_le.mpr hport)).trans <| (if_neg (not_bnot hgood)).trans <|
    congrArg Host.Outcome.next (if_neg hother)

end Received

end TimingFrames

section Runs

variable {t : Instant} {s : State}

theorem execDelayRunDone_of_running {port : Nat} (hport : port < 64) (hruns : (s.link port).running = true)
    (fixedTx fixedRx resTx resRx : Nat) :
    execDelayRunDone port fixedTx fixedRx resTx resRx t s =
      .next ((s.tick t).setLink port { (s.link port) with runPending := some (fixedTx, fixedRx, resTx, resRx) }) :=
  if_neg (not_or.mpr ⟨Nat.not_le.mpr hport, not_bnot hruns⟩)

theorem execVernierCalDone_of_running {quad : Nat} (hquad : quad < 4) (hruns : (s.vernier quad).running = true)
    (dnl : Nat) :
    execVernierCalDone quad dnl t s =
      .next ((s.tick t).setVernier quad { s.vernier quad with next := some (min 0xFFFF dnl) }) := by
  have hpassed : (!(s.vernier quad).running && (s.vernier quad).valid) = false := by rw [hruns]; rfl
  exact if_neg (not_or.mpr ⟨Nat.not_le.mpr hquad, Bool.eq_false_iff.mp hpassed⟩)

theorem execAsymWindowEnd_of_over {a : AsymOpen} (hopen : s.lt.asym = some a) (hover : a.until_ ≤ t) :
    execAsymWindowEnd t s =
      .next (if a.second then (s.tick t).asymSecondEnd a t else (s.tick t).asymFirstEnd a t) := by
  simp only [execAsymWindowEnd, State.tick_lt, hopen]
  exact if_neg (Nat.not_lt.mpr hover)

end Runs

/-- Settles O24: a lemma for each event says which branch its guards select. -/
theorem linkTimingEventsComplete : Obligations.LinkTimingEventsComplete := by
  refine ⟨?beatStill, ?beatMeasuring, ?relockTimeout, ?markTx, ?markRx, ?calxFrameTx, ?timingFrameTx, ?calFrameTx,
    ?timingFrameRx, ?calFrameRx, ?delayRunDone, ?vernierCalDone, ?asymWindowEnd⟩
  case beatStill =>
    exact fun port phiRx phiTx t s hport hcoarse hfine hstale =>
      execBeatSample_of_still hport hcoarse hfine hstale phiRx phiTx
  case beatMeasuring =>
    exact fun port phiRx phiTx t s hport hmeasures => execBeatSample_of_measuring hport hmeasures phiRx phiTx
  case relockTimeout => exact fun port t s hstale hactive hpast => execLtRelockTimeout_of_past hstale hactive hpast
  case markTx =>
    exact fun port cycle sym t s m hport hsends hfind hdue hidle hclear =>
      execTmarkTx_of_due hport hsends hfind hdue hidle hclear
  case markRx =>
    rintro port _ _ cycle sym t s b0 b1 b2 q hport rfl hq rfl heven hactive htl hlast hkept
    exact execTmarkRx_of_new hport hq heven hactive htl hlast hkept
  case calxFrameTx => exact fun port t s hport hcalx hloop hcal => execTimingFrameTx_of_calx hport hcalx hloop hcal
  case timingFrameTx =>
    exact fun port t s x rest w hport hlane hsends hslots hdue hquiet hfree hfits hw hkind =>
      execTimingFrameTx_timing hport hlane hsends hslots hdue hquiet hfree hfits hw hkind
  case calFrameTx =>
    exact fun port t s x rest w hport hlane hsends hslots hdue hquiet hfree hfits hw hkind =>
      execTimingFrameTx_cal hport hlane hsends hslots hdue hquiet hfree hfits hw hkind
  case timingFrameRx => exact fun port bytes t s hport hgood hkind => execTimingFrameRx_timing hport hgood hkind
  case calFrameRx => exact fun port bytes t s hport hgood hkind => execTimingFrameRx_cal hport hgood hkind
  case delayRunDone =>
    exact fun port fixedTx fixedRx resTx resRx t s hport hruns =>
      execDelayRunDone_of_running hport hruns fixedTx fixedRx resTx resRx
  case vernierCalDone => exact fun quad dnl t s hquad hruns => execVernierCalDone_of_running hquad hruns dnl
  case asymWindowEnd => exact fun t s a hopen hover => execAsymWindowEnd_of_over hopen hover

end Sys2Proof.Machine
end

section
/-! The bond commands (09 R394, R395): what a body does once none of its refusals applies, and the interpreter's answer
to it. The three that move the lease or a keeper wait as keeper changes, and what they come to is decided at the servo
cycle of their instant (09 R372, R374; log entry 112). -/

namespace Sys2Proof.Machine

section Bodies

variable {c : Ctx} {s : State}

theorem bodyBondCfgSet_of_inRange (hok : okBondCfgSet c.r = true) :
    bodyBondCfgSet c s = stageTk c s (.bond (c.r.b 4 8) (c.r.f 4 0 5) (c.r.f 5 0 8)) :=
  refuseIf_of_ok hok ..

theorem bodyBondHandover_of_inRange (honly : c.r.only 4 0x80000000 = true) :
    bodyBondHandover c s = stageTk c s (.handover (c.r.b 4 31)) :=
  refuseIf_of_ok honly ..

theorem bodyKeeperDisable_of_inRange (honly : c.r.only 4 0x80000001 = true) :
    bodyKeeperDisable c s = stageTk c s (.disable (keeperOf c.r) (c.r.b 4 31)) :=
  refuseIf_of_ok honly ..

theorem bodyKeeperEnable_of_stopped
    (hstopped : ((s.bk (keeperOf c.r)).cond == .off || (s.bk (keeperOf c.r)).cond == .down) = true)
    (honly : c.r.only 4 1 = true) : bodyKeeperEnable c s = stageTk c s (.enable (keeperOf c.r)) :=
  (refuseIf_of_ok hstopped ..).trans <| refuseIf_of_ok honly ..

end Bodies

/-- Settles O8: no body refuses, and the settings that BOND_CFG_GET reads in the state that the take leaves are what
stood before. -/
theorem bondCommandsComplete : Obligations.BondCommandsComplete := by
  refine ⟨?bondCfgSet, ?bondCfgGet, ?bondHandover, ?keeperDisable, ?keeperEnable⟩
  case bondCfgSet => exact fun r s hacc hok hlead => exec_keeper rfl hacc hlead (bodyBondCfgSet_of_inRange hok)
  case bondCfgGet =>
    intro r s hacc
    rw [← taken_tk opBondCfgGet r s]
    exact exec_done rfl hacc rfl
  case bondHandover =>
    exact fun r s hacc honly hlead => exec_keeper rfl hacc hlead (bodyBondHandover_of_inRange honly)
  case keeperDisable =>
    exact fun r s hacc honly hlead => exec_keeper rfl hacc hlead (bodyKeeperDisable_of_inRange honly)
  case keeperEnable =>
    exact fun r s hacc hstopped honly hlead =>
      exec_keeper rfl hacc hlead (bodyKeeperEnable_of_stopped hstopped honly)

end Sys2Proof.Machine
end

section
/-! The footing commands (09 R395): what a body does once none of its refusals applies. Each waits for an apply-at
instant that leaves its lead, or acts as it is taken. -/

namespace Sys2Proof.Machine

section Bodies

variable {c : Ctx} {s : State} {a : Instant}

section Enter

variable (houtside : s.flt.state = 0)
include houtside

theorem decide_inFooting_of_outside : decide (2 ≤ s.flt.state) = false := by
  rw [houtside]
  rfl

theorem bodyFootingEnter_at (ha : c.a = some a) (hlead : c.t + us 200 ≤ a) :
    bodyFootingEnter c s =
      .wait ({ s with flt := { s.flt with cmdEnter := s.flt.cmdEnter ++ [a] } }.setFooting a c.t true [c.jid]) := by
  refine (refuseIf_of_false (decide_inFooting_of_outside houtside) ..).trans ?_
  simp only [ha, if_neg (Nat.not_lt.mpr hlead)]

theorem bodyFootingEnter_now (ha : c.a = none) : bodyFootingEnter c s = .done (footNow s c.t) := by
  refine (refuseIf_of_false (decide_inFooting_of_outside houtside) ..).trans ?_
  simp only [ha]

end Enter

section Exit

variable (hleave : mayLeave (s.footCfgDue c.t) = true)
include hleave

theorem bodyFootingExit_at (ha : c.a = some a) (hlead : c.t + ms 10 ≤ a) :
    bodyFootingExit c s = .wait ((s.footCfgDue c.t).footLeave a (some c.jid) c.t) := by
  refine (refuseIf_of_ok hleave ..).trans ?_
  simp only [ha, if_neg (Nat.not_lt.mpr hlead)]

theorem bodyFootingExit_now (ha : c.a = none) :
    bodyFootingExit c s = .wait ((s.footCfgDue c.t).footLeave 0 (some c.jid) c.t) := by
  refine (refuseIf_of_ok hleave ..).trans ?_
  simp only [ha]

end Exit

section Cfg

variable (hok : okFootingCfgSet c.r = true)
include hok

theorem bodyFootingCfgSet_at (ha : c.a = some a) (hlead : c.t + us 200 ≤ a) :
    bodyFootingCfgSet c s =
      .wait { s with flt := { s.flt with
        cfgPend := s.flt.cfgPend ++ [(a, c.r.b 4 0, c.r.f 5 0 16, c.jid)] } } := by
  refine (refuseIf_of_ok hok ..).trans ?_
  simp only [ha, if_neg (Nat.not_lt.mpr hlead)]

theorem bodyFootingCfgSet_now (ha : c.a = none) :
    bodyFootingCfgSet c s =
      .done { s with flt := { s.flt with autoExit := c.r.b 4 0, exitHold := c.r.f 5 0 16 } } := by
  refine (refuseIf_of_ok hok ..).trans ?_
  simp only [ha]

end Cfg

end Bodies

/-- Settles O12: no body refuses, and what it reads in the state that the take leaves is what stood before. -/
theorem footingCommandsComplete : Obligations.FootingCommandsComplete := by
  refine ⟨?bondStatusGet, ?enterAt, ?enterNow, ?exitAt, ?exitNow, ?cfgSetAt, ?cfgSetNow, ?cfgGet⟩
  case bondStatusGet =>
    intro r s hacc
    rw [← taken_tk opBondStatusGet r s]
    exact exec_done rfl hacc rfl
  case enterAt =>
    intro r s a hacc ha houtside hlead
    rw [← taken_flt opFootingEnter r s] at houtside ⊢
    exact exec_wait rfl hacc (bodyFootingEnter_at houtside ha hlead)
  case enterNow =>
    intro r s hacc ha houtside
    rw [← taken_flt opFootingEnter r s] at houtside
    exact exec_done rfl hacc (bodyFootingEnter_now houtside ha)
  case exitAt => exact fun r s a hacc ha hleave hlead => exec_wait rfl hacc (bodyFootingExit_at hleave ha hlead)
  case exitNow => exact fun r s hacc ha hleave => exec_wait rfl hacc (bodyFootingExit_now hleave ha)
  case cfgSetAt =>
    intro r s a hacc ha hok hlead
    rw [← taken_flt opFootingCfgSet r s]
    exact exec_wait rfl hacc (bodyFootingCfgSet_at hok ha hlead)
  case cfgSetNow =>
    intro r s hacc ha hok
    rw [← taken_flt opFootingCfgSet r s]
    exact exec_done rfl hacc (bodyFootingCfgSet_now hok ha)
  case cfgGet => exact fun r s hacc => exec_done rfl hacc rfl

end Sys2Proof.Machine
end

section
/-! The events of the bond, the interpreter cores and footing (09 R355 to R390). Each takes the branch that its guards
select; what a guard reads stands as before the event, whose tick moves time alone. -/

namespace Sys2Proof.Machine

@[simp] theorem State.tick_holder (s : State) (t : Instant) : (s.tick t).holder = s.holder := rfl

@[simp] theorem State.tick_bk (s : State) (t : Instant) (k : Tk) : (s.tick t).bk k = s.bk k := rfl

@[simp] theorem State.tick_cells (s : State) (t : Instant) : (s.tick t).cells = s.cells := rfl

@[simp] theorem State.tick_coreRole (s : State) (t : Instant) (n : Nat) : (s.tick t).coreRole n = s.coreRole n := rfl

@[simp] theorem State.tick_interpCore (s : State) (t : Instant) : (s.tick t).interpCore = s.interpCore := rfl

@[simp] theorem State.tick_standbyCore (s : State) (t : Instant) : (s.tick t).standbyCore = s.standbyCore := rfl

theorem execLeaseExpiry_of_over {t : Instant} {s : State} (hheld : s.holder.isSome = true)
    (hover : s.tk.bond.renewed + (s.tick t).aonLeast s.leaseTime ≤ t) :
    execLeaseExpiry t s = .next ((s.tick t).freeLease true t) :=
  if_pos ⟨hheld, hover⟩

section Keepers

variable {k : Tk} {t : Instant} {s : State}

/-- A failed check stops a keeper that counts (09 R361), unless XO is absent and NCLK is what is checked. -/
theorem execKeeperCheckFail_of_run (hrun : (s.bk k).cond = .run) {check : Nat} (hcheck : check < 7)
    (hother : check ≠ 1) (hserves : ¬ (check = 3 ∧ s.tk.xoLost = true)) :
    execKeeperCheckFail k check t s = .next ((s.tick t).stopKeeper k check t) := by
  simp only [execKeeperCheckFail, if_neg hother, State.tick_tk,
    if_neg (not_or.mpr ⟨Nat.not_le.mpr hcheck, hserves⟩), State.tick_bk, hrun]

/-- The supply check also marks the keeper's domain as unpowered (09 R361). -/
theorem execKeeperCheckFail_supply {w : State} (hw : w = (s.tick t).setBk k { s.bk k with supply := false })
    (hrun : (w.bk k).cond = .run) : execKeeperCheckFail k 1 t s = .next (w.stopKeeper k 1 t) := by
  have hreleases : ¬ (7 ≤ 1 ∨ (1 = 3 ∧ w.tk.xoLost = true)) := by simp
  simp only [execKeeperCheckFail, if_true, State.tick_bk, ← hw, if_neg hreleases, hrun]

theorem execKeeperSupplyReturn_of_unpowered (hoff : (s.bk k).supply = false) :
    execKeeperSupplyReturn k t s =
      .next (State.retryRejoin t ((s.tick t).setBk k { s.bk k with supply := true }) k) :=
  if_neg (Bool.eq_false_iff.mp hoff)

section Loading

variable (hloading : (s.bk k).cond = .loading)
include hloading

theorem execRejoinBandDone_found :
    execRejoinBandDone k true t s = .next ((s.tick t).setBk k { s.bk k with cond := .seed }) :=
  (if_neg (not_not.mpr hloading)).trans <| if_pos rfl

theorem execRejoinBandDone_failed : execRejoinBandDone k false t s = .next ((s.tick t).stopKeeper k 8 t) :=
  (if_neg (not_not.mpr hloading)).trans <| if_neg Bool.false_ne_true

end Loading

section FirstSearch

variable {band : Option Nat} (hboot : (s.bk k).cond = .boot) (hout : s.pwr.inReset = false) {w : State}
  (hw : w = ((s.tick t).bandEnd k band).bandGrant t)
include hboot hout hw

/-- The first band search of a keeper ends outside reset; TK time starts with the end of the second (07 R309). -/
theorem execKeeperBandSearchDone_of_boot :
    execKeeperBandSearchDone k band t s = if w.started then .next (w.startTime t) else .next w := by
  rw [hw]
  exact if_neg (not_or.mpr ⟨not_not.mpr hboot, Bool.eq_false_iff.mp hout⟩)

theorem execKeeperBandSearchDone_first (hother : w.started = false) :
    execKeeperBandSearchDone k band t s = .next w := by
  rw [execKeeperBandSearchDone_of_boot hboot hout hw, if_neg (Bool.eq_false_iff.mp hother)]

theorem execKeeperBandSearchDone_second (hboth : w.started = true) :
    execKeeperBandSearchDone k band t s = .next (w.startTime t) := by
  rw [execKeeperBandSearchDone_of_boot hboot hout hw, if_pos hboth]

end FirstSearch

end Keepers

section Cells

variable {cell : Nat} {t : Instant} {s : State} {c : Cell} {q : List Instant} (hcell : s.cells[cell]? = some c)
  (hall : (s.cells.any fun x => x.isolated) = false) (hserves : c.isolated = false)
  (hq : q = t :: c.reloads.filter (fun r => decide (t < r + sec 1)))
include hcell hall hserves hq

/-- With all three cells in service the one that differs is reloaded; its reloads within 1 s decide whether it goes on
(09 R357, R358). -/
theorem execBondCellDisagree_of_serving :
    execBondCellDisagree cell t s =
      if q.length < 3 then
        .next ((((s.tick t).countD 9).bondFlag 5).setCell cell
          { c with vote := State.voteOf s.holder, reloads := q })
      else
        .next ((((((s.tick t).countD 9).bondFlag 5).setCell cell
          { vote := .none, reloads := q, isolated := true }).bondFlag 4).raise 0x0802 88 [bytesBE 1 cell] t) := by
  simp only [execBondCellDisagree, State.tick_cells, hcell, hserves, hall, State.tick_holder, ← hq,
    Bool.false_eq_true, if_false]

theorem execBondCellDisagree_reload (hfew : q.length < 3) :
    execBondCellDisagree cell t s =
      .next ((((s.tick t).countD 9).bondFlag 5).setCell cell
        { c with vote := State.voteOf s.holder, reloads := q }) := by
  rw [execBondCellDisagree_of_serving hcell hall hserves hq, if_pos hfew]

theorem execBondCellDisagree_isolate (hthird : 3 ≤ q.length) :
    execBondCellDisagree cell t s =
      .next ((((((s.tick t).countD 9).bondFlag 5).setCell cell
        { vote := .none, reloads := q, isolated := true }).bondFlag 4).raise 0x0802 88 [bytesBE 1 cell] t) := by
  rw [execBondCellDisagree_of_serving hcell hall hserves hq, if_neg (Nat.not_lt.mpr hthird)]

end Cells

section Cores

variable {t : Instant} {s : State}

theorem execInterpreterFault_of_cause {cause : Nat} (hcause : cause < 4) :
    execInterpreterFault cause t s = .next ((s.tick t).interpFault cause t).firmwareFailure :=
  if_neg (Nat.not_le.mpr hcause)

theorem execStandbyFault_of_standby {cause n : Nat} (hstandby : s.standbyCore = some n) (hcause : cause < 4)
    {w : State} (hw : w = ((s.tick t).raise 0x0805 90 [bytesBE 1 n, bytesBE 1 cause] t).restartCore n t) :
    execStandbyFault cause t s = .next (if n = 1 then w.withdrawFlushes t else w).firmwareFailure := by
  simp only [execStandbyFault, State.tick_standbyCore, hstandby, if_neg (Nat.not_le.mpr hcause), ← hw]

theorem execCoreTakeover_of_pending {n : Nat} (htakeover : s.flt.takeover = some n) {w : State}
    (hw : w = (s.tick t).replayJournal t) :
    execCoreTakeover t s =
      .next ((({ w with
        flt := { w.flt with takeover := none }
        host := { w.host with ready := true, interp := n } }).countD 10).raise 0x0806 90 [bytesBE 1 n] t) := by
  simp only [execCoreTakeover, State.tick_flt, htakeover, ← hw]

section Restart

variable {core : Nat} (hcore : core < 2) (hrestarts : s.coreRole core = .restarting)
include hcore hrestarts

/-- The self-test ends of a core that restarts. -/
theorem coreRestart_runs : ¬ (2 ≤ core ∨ s.coreRole core ≠ .restarting) :=
  not_or.mpr ⟨Nat.not_le.mpr hcore, not_not.mpr hrestarts⟩

theorem execCoreRestartDone_standby {n : Nat} (hinterp : s.interpCore = some n) :
    execCoreRestartDone core true t s = .next ((s.tick t).setCoreRole core .standby) := by
  simp only [execCoreRestartDone, State.tick_coreRole, if_neg (coreRestart_runs hcore hrestarts),
    State.tick_interpCore, hinterp, Bool.not_true, Bool.false_eq_true, if_false]

theorem execCoreRestartDone_interp (hnone : s.interpCore = none) {w : State}
    (hw : w = ((s.tick t).setCoreRole core .interp).replayJournal t) :
    execCoreRestartDone core true t s =
      .next { w with host := { w.host with ready := true, interp := core } } := by
  simp only [execCoreRestartDone, State.tick_coreRole, if_neg (coreRestart_runs hcore hrestarts),
    State.tick_interpCore, hnone, Bool.not_true, Bool.false_eq_true, if_false, ← hw]

end Restart

end Cores

section Footing

variable {t : Instant} {s : State}

theorem execFootingCauseDetect_of_stands {cause : Nat} (hstands : s.causeStands cause = true) :
    execFootingCauseDetect cause t s = .next ((s.tick t).detectCause cause t) :=
  if_pos hstands

/-- With no FOOTING_ENTER waiting, the entry instant of a detected cause alone decides (09 R382). -/
theorem execFootingEntry_of_due {e : Instant} (he : s.flt.e = some e) (hdue : e ≤ t) (hcmd : s.flt.cmdEnter = [])
    (houtside : s.flt.state ≠ 2) : execFootingEntry t s = .next ((s.tick t).footEnter e t) := by
  have hdet : decide (e ≤ t) = true := decide_eq_true hdue
  simp only [execFootingEntry, State.tick_flt, he, hcmd, hdet, List.filter_nil, List.isEmpty_nil, List.head?_nil,
    if_true, Bool.not_true, Bool.and_false]
  exact if_neg (Bool.eq_false_iff.mp (decide_eq_false houtside))

theorem execBufPowerDown_of_footing (hfooting : s.flt.state = 2) :
    execBufPowerDown t s = .next { (s.tick t) with flt := { s.flt with bufOff := true } } :=
  if_pos hfooting

theorem execFootingCauseClear_of_gone {cause : Nat} {w : State} (hw : w = (s.tick t).footCfgDue t)
    (hgone : w.causeGone cause t = true) :
    execFootingCauseClear cause t s =
      .next (({ w with flt := { w.flt with causes := w.flt.causes &&& ~~~ State.causeBit cause } }).footAuto t) := by
  subst hw
  exact if_pos hgone

theorem execFootingExitApply_of_due {x : Instant} (hx : s.flt.x = some x) (hdue : x ≤ t) :
    execFootingExitApply t s = .next ((s.tick t).footExit x t) := by
  simp only [execFootingExitApply, State.tick_flt, hx, if_neg (Nat.not_lt.mpr hdue)]

end Footing

/-- Settles O25: a lemma for each event says which branch its guards select. That a lease may end from `aonLeast` on is
the model's choice (log entry 137). -/
theorem bondEventsComplete : Obligations.BondEventsComplete := by
  refine ⟨?leaseExpiry, ?checkFail, ?supplyFail, ?supplyReturn, ?bandFound, ?bandFailed, ?cellReload, ?cellIsolate,
    ?firstSearch, ?secondSearch, ?heartbeat, ?interpFault, ?standbyFault, ?takeover, ?restartStandby, ?restartInterp,
    ?causeDetect, ?entry, ?bufPowerDown, ?causeClear, ?exitApply⟩
  case leaseExpiry => exact fun t s hheld hover => execLeaseExpiry_of_over hheld hover
  case checkFail =>
    exact fun k check t s hrun hcheck hother hserves => execKeeperCheckFail_of_run hrun hcheck hother hserves
  case supplyFail =>
    rintro k _ t s w - rfl hw hrun
    exact execKeeperCheckFail_supply hw hrun
  case supplyReturn => exact fun k t s hoff _ => execKeeperSupplyReturn_of_unpowered hoff
  case bandFound =>
    rintro k _ t s hloading rfl
    exact execRejoinBandDone_found hloading
  case bandFailed =>
    rintro k _ t s hloading rfl
    exact execRejoinBandDone_failed hloading
  case cellReload =>
    exact fun cell t s c q hcell hall hserves hq hfew => execBondCellDisagree_reload hcell hall hserves hq hfew
  case cellIsolate =>
    exact fun cell t s c q hcell hall hserves hq hthird =>
      execBondCellDisagree_isolate hcell hall hserves hq hthird
  case firstSearch =>
    exact fun k band t s w hboot hout hw hother => execKeeperBandSearchDone_first hboot hout hw hother
  case secondSearch =>
    exact fun k band t s w hboot hout hw hboth => execKeeperBandSearchDone_second hboot hout hw hboth
  case heartbeat => exact fun _ _ => rfl
  case interpFault => exact fun cause t s hcause => execInterpreterFault_of_cause hcause
  case standbyFault =>
    exact fun cause t s n w hstandby hcause hw => execStandbyFault_of_standby hstandby hcause hw
  case takeover => exact fun t s n w htakeover hw => execCoreTakeover_of_pending htakeover hw
  case restartStandby =>
    rintro core _ t s n hcore hrestarts rfl hinterp
    exact execCoreRestartDone_standby hcore hrestarts hinterp
  case restartInterp =>
    rintro core _ t s w hcore hrestarts rfl hnone hw
    exact execCoreRestartDone_interp hcore hrestarts hnone hw
  case causeDetect => exact fun cause t s hstands => execFootingCauseDetect_of_stands hstands
  case entry => exact fun t s e he hdue hcmd houtside => execFootingEntry_of_due he hdue hcmd houtside
  case bufPowerDown => exact fun t s hfooting => execBufPowerDown_of_footing hfooting
  case causeClear => exact fun cause t s w hw hgone => execFootingCauseClear_of_gone hw hgone
  case exitApply => exact fun t s x hx hdue => execFootingExitApply_of_due hx hdue

end Sys2Proof.Machine
end

section
/-! The lane, quad, module and calibration commands (10 R437 to R444): what a body does once none of its refusals
applies, and the interpreter's answer to it. Three SETs wait as lane changes; LINK_PARK acts by whether the port is in
PARK; an access of a module joins the queue of its bus. -/

namespace Sys2Proof.Machine

theorem quad_taken (op : OpSpec) (r : Req) (s : State) (q : Nat) : (taken op r s).quad q = s.quad q := by
  simp only [State.quad, taken_lan]

theorem bus_taken (op : OpSpec) (r : Req) (s : State) (q : Nat) : (taken op r s).bus q = s.bus q := by
  simp only [State.bus, taken_lan]

/-- A command whose body puts a lane change that keeps its lead (10 R437). -/
theorem exec_lane {i : Instr} {op : OpSpec} {r : Req} {s : State} {ch : LaneChange} {off on : List Nat}
    (hrun : exec i s = .next (runCommand opTable op r s)) (hacc : accepted op r s = true)
    (hlead : leadOk op r s (us 200) = true)
    (hbody : op.body ⟨r, s.host.nextJid, applyInstant op r s⟩ (taken op r s) =
      (taken op r s).stageLane ⟨r, s.host.nextJid, applyInstant op r s⟩ ch off on) :
    exec i s = .next (pendingReply op r s
      ((taken op r s).putLane (applyInstant op r s) r.t s.host.nextJid ch off on) []) :=
  exec_wait hrun hacc (hbody.trans (stageLane_fits hlead _))

section Sets

variable {c : Ctx} {s : State}

theorem bodyPortSet_of_clear (hok : okPortSet c.r = true) (hclear : portSetClash s c.r = false) :
    bodyPortSet c s = s.stageLane c (.port (c.r.f 4 0 7) (portCfgOf c.r))
      (if (s.portPlanned (c.r.f 4 0 7)).enable && !(portCfgOf c.r).enable then [c.r.f 4 0 7] else [])
      (if !(s.portPlanned (c.r.f 4 0 7)).enable && (portCfgOf c.r).enable then [c.r.f 4 0 7] else []) :=
  (refuseIf_of_ok hok ..).trans <| refuseIf_of_false hclear ..

theorem bodyLinkRetrain_of_clear (hport : c.r.f 4 0 7 ≤ 63) (honly : c.r.only 4 0x4000007F = true)
    (hclear : (s.namedPlanned 0 (c.r.f 4 0 7) && !c.r.b 4 30) = false) :
    bodyLinkRetrain c s = s.stageLane c (.retrain (c.r.f 4 0 7)) [] [] := by
  have hrange : (decide (64 ≤ c.r.f 4 0 7) || !c.r.only 4 0x4000007F) = false := by
    rw [honly, decide_eq_false (Nat.not_le.mpr (Nat.lt_succ_of_le hport))]
    rfl
  exact (refuseIf_of_false hrange ..).trans <| refuseIf_of_false hclear ..

/-- ON asks for power, and the data plane takes the ports in once the quad is up; without ON they drain first
(10 R433). -/
theorem bodyQuadSet_of_clear (hok : okQuadSet c.r = true) (hclear : quadSetClash s c.r = false) :
    bodyQuadSet c s = s.stageLane c
      (if c.r.b 4 31 then .quadOn (c.r.f 4 0 2) (c.r.f 5 0 20) else .quadOff (c.r.f 4 0 2) (c.r.f 5 0 20))
      (if c.r.b 4 31 then [] else State.portsOf (c.r.f 4 0 2)) [] := by
  refine (refuseIf_of_ok hok ..).trans <| (refuseIf_of_false hclear ..).trans ?_
  cases c.r.b 4 31 <;> rfl

end Sets

section Park

variable {c : Ctx} {s : State} (hport : c.r.f 4 0 7 < 48) (honly : c.r.only 4 0x8000007F = true)
include hport honly

/-- A cell port that could park, or is in PARK, passes both refusals of LINK_PARK (10 R439). -/
theorem linkPark_admitted (hable : s.parkable (c.r.f 4 0 7) = true ∨ (s.lane (c.r.f 4 0 7)).state = .park) (k : Res) :
    (refuseIf ((decide (c.r.f 4 0 7 < 48) && !s.parkable (c.r.f 4 0 7) && (s.lane (c.r.f 4 0 7)).state != .park)
      || trunkNotTl10 s (c.r.f 4 0 7)) State.stState <|
      refuseIf (decide (48 ≤ c.r.f 4 0 7) || !c.r.only 4 0x8000007F) State.stBadParam k) = k := by
  have htrunk : trunkNotTl10 s (c.r.f 4 0 7) = false := by simp [trunkNotTl10, Nat.not_le.mpr hport]
  have hrange : (decide (48 ≤ c.r.f 4 0 7) || !c.r.only 4 0x8000007F) = false := by
    simp [honly, hport]
  refine (refuseIf_of_false ?_ ..).trans (refuseIf_of_false hrange ..)
  rcases hable with hable | hparked
  · simp [hable, htrunk]
  · simp [hparked, htrunk]

/-- Neither the command nor PARK_AUTO has a request out (10 R420). -/
theorem bodyLinkPark_of_request (hpark : c.r.b 4 31 = true) (hable : s.parkable (c.r.f 4 0 7) = true)
    (hout : (s.lane (c.r.f 4 0 7)).state ≠ .park) (hclear : s.parkForbidden (c.r.f 4 0 7) = false)
    (hfrom : (s.lane (c.r.f 4 0 7)).parkFrom = none) (hwait : (s.lane (c.r.f 4 0 7)).parkWait = false) :
    bodyLinkPark c s = .wait (s.requestPark (c.r.f 4 0 7) (some c.jid) c.t) := by
  have hfree : ((s.lane (c.r.f 4 0 7)).parkFrom.isSome || (s.lane (c.r.f 4 0 7)).parkWait) = false := by
    rw [hfrom, hwait]
    rfl
  exact (linkPark_admitted hport honly (.inl hable) _).trans <| (if_pos hpark).trans <| (if_neg hout).trans <|
    (refuseIf_of_false hclear ..).trans <| refuseIf_of_false hfree ..

theorem bodyLinkPark_of_parked (hpark : c.r.b 4 31 = true) (hparked : (s.lane (c.r.f 4 0 7)).state = .park) :
    bodyLinkPark c s = .done s :=
  (linkPark_admitted hport honly (.inr hparked) _).trans <| (if_pos hpark).trans <| if_pos hparked

section Unpark

variable (hunpark : c.r.b 4 31 = false)
include hunpark

theorem bodyLinkPark_of_unparked (hout : (s.lane (c.r.f 4 0 7)).state ≠ .park)
    (hable : s.parkable (c.r.f 4 0 7) = true) : bodyLinkPark c s = .done s :=
  (linkPark_admitted hport honly (.inl hable) _).trans <| (if_neg (Bool.eq_false_iff.mp hunpark)).trans <|
    if_neg hout

/-- Leaving PARK begins with the port's own exit burst (10 R422). -/
theorem bodyLinkPark_of_exit (hparked : (s.lane (c.r.f 4 0 7)).state = .park)
    (hquiet : (s.lane (c.r.f 4 0 7)).exitFrom = none) (hfree : (s.lane (c.r.f 4 0 7)).exitJid = none) :
    bodyLinkPark c s = .wait ((s.burst (c.r.f 4 0 7) c.t).setLane (c.r.f 4 0 7)
      { (s.burst (c.r.f 4 0 7) c.t).lane (c.r.f 4 0 7) with exitJid := some c.jid }) := by
  refine (linkPark_admitted hport honly (.inr hparked) _).trans <| (if_neg (Bool.eq_false_iff.mp hunpark)).trans <|
    (if_pos hparked).trans <| (refuseIf_of_false (congrArg Option.isSome hfree) ..).trans ?_
  simp only [hquiet, Option.isSome_none, Bool.false_eq_true, if_false]

end Unpark

end Park

/-- An access of a ready module, on a bus that is not STUCK, joins the queue of the bus (10 R431, R443). -/
theorem moduleAccess_of_ready {write : Bool} {c : Ctx} {s : State} (hok : okModuleAccess write c.r = true)
    (hready : (s.lane (s.moduleOf (c.r.f 4 0 7))).modReady = true) (hserves : (s.bus (c.r.f 4 0 7 / 16)).stuck = false) :
    moduleAccess write c s = .wait (s.enqueueI2c (c.r.f 4 0 7 / 16) (moduleReq c.r c.jid write)) := by
  have hstate : (decide (c.r.f 4 0 7 < 64) && !(s.lane (s.moduleOf (c.r.f 4 0 7))).modReady) = false := by
    rw [hready, Bool.not_true, Bool.and_false]
  exact (refuseIf_of_false hstate ..).trans <| (refuseIf_of_ok hok ..).trans <|
    if_neg (Bool.eq_false_iff.mp hserves)

/-- Settles O13: no body refuses, and the settings that it reads in the state that the take leaves are what stood
before. What the conflict tests look at, and the range of DRAIN_LIMIT, are the model's choice (log entries 25, 72). -/
theorem laneCommandsComplete : Obligations.LaneCommandsComplete := by
  refine ⟨?portSet, ?portGet, ?laneStatusGet, ?linkRetrain, ?park, ?parkNothing, ?unpark, ?quadSet, ?quadGet, ?eqSet,
    ?eqGet, ?moduleRead, ?moduleWrite, ?moduleCfgSet, ?moduleCfgGet, ?calCfgSet, ?calCfgGet⟩
  case portSet => exact fun r s hacc hok hclear hlead => exec_lane rfl hacc hlead (bodyPortSet_of_clear hok hclear)
  case portGet =>
    intro r s hacc hkey
    rw [← lane_taken opPortGet r s]
    exact exec_done rfl hacc (refuseIf_of_ok hkey ..)
  case laneStatusGet => exact fun r s hacc hkey => exec_done rfl hacc (refuseIf_of_ok hkey ..)
  case linkRetrain =>
    exact fun r s hacc hport honly hclear hlead =>
      exec_lane rfl hacc hlead (bodyLinkRetrain_of_clear hport honly hclear)
  case park =>
    intro r s hacc hport honly hpark hable hout hclear hfrom hwait
    rw [← lane_taken opLinkPark r s] at hout hfrom hwait
    exact exec_wait rfl hacc (bodyLinkPark_of_request hport honly hpark hable hout hclear hfrom hwait)
  case parkNothing =>
    intro r s hacc hport honly hthere
    rw [← lane_taken opLinkPark r s] at hthere
    split at hthere
    case isTrue hpark => exact exec_done rfl hacc (bodyLinkPark_of_parked hport honly hpark hthere)
    case isFalse hunpark =>
      exact exec_done rfl hacc
        (bodyLinkPark_of_unparked hport honly (Bool.eq_false_iff.mpr hunpark) hthere.1 hthere.2)
  case unpark =>
    intro r s hacc hport honly hunpark hparked hquiet hfree
    rw [← lane_taken opLinkPark r s] at hparked hquiet hfree
    exact exec_wait rfl hacc (bodyLinkPark_of_exit hport honly hunpark hparked hquiet hfree)
  case quadSet => exact fun r s hacc hok hclear hlead => exec_lane rfl hacc hlead (bodyQuadSet_of_clear hok hclear)
  case quadGet =>
    intro r s hacc honly
    rw [← quad_taken opQuadGet r s]
    exact exec_done rfl hacc (refuseIf_of_ok honly ..)
  case eqSet =>
    intro r s hacc hok
    rw [← lane_taken opEqSet r s]
    exact exec_done rfl hacc (refuseIf_of_ok hok ..)
  case eqGet =>
    intro r s hacc hkey
    rw [← lane_taken opEqGet r s]
    exact exec_done rfl hacc (refuseIf_of_ok hkey ..)
  case moduleRead =>
    exact fun r s hacc hok hready hserves => exec_wait rfl hacc (moduleAccess_of_ready hok hready hserves)
  case moduleWrite =>
    exact fun r s hacc hok hready hserves => exec_wait rfl hacc (moduleAccess_of_ready hok hready hserves)
  case moduleCfgSet =>
    intro r s hacc hok
    rw [← bus_taken opModuleCfgSet r s]
    exact exec_done rfl hacc (refuseIf_of_ok hok ..)
  case moduleCfgGet =>
    intro r s hacc honly
    rw [← bus_taken opModuleCfgGet r s]
    exact exec_done rfl hacc (refuseIf_of_ok honly ..)
  case calCfgSet =>
    intro r s hacc hok
    rw [← taken_lan opCalCfgSet r s]
    exact exec_done rfl hacc (refuseIf_of_ok hok ..)
  case calCfgGet =>
    intro r s hacc
    rw [← taken_lan opCalCfgGet r s]
    exact exec_done rfl hacc rfl

end Sys2Proof.Machine
end

section
/-! The events of the lanes (10 R400 to R433): link states, TRAIN and CAPX sets, PARK, the PLLs and a quad's power-up.
Each takes the branch that its guards select; what a guard reads stands as before the event, whose tick moves time
alone. -/

namespace Sys2Proof.Machine

@[simp] theorem State.tick_lane (s : State) (t : Instant) (p : Nat) : (s.tick t).lane p = s.lane p := rfl

@[simp] theorem State.tick_quad (s : State) (t : Instant) (q : Nat) : (s.tick t).quad q = s.quad q := rfl

@[simp] theorem State.tick_hb (s : State) (t : Instant) (n : Nat) : (s.tick t).hb n = s.hb n := rfl

@[simp] theorem State.tick_parkable (s : State) (t : Instant) (p : Nat) : (s.tick t).parkable p = s.parkable p := rfl

@[simp] theorem State.tick_holdsCopy (s : State) (t : Instant) (p : Nat) : (s.tick t).holdsCopy p = s.holdsCopy p := rfl

section LinkStates

variable {port : Nat} {t : Instant} {s : State} (hport : port < 64)
include hport

/-- A port whose mode negotiates goes from DETECT to BASE (10 R406, R407). -/
theorem execDetectHoldExpiry_of_ready {w : State} (hw : w = (s.tick t).setLane port { s.lane port with energy := true })
    (hdetect : (w.lane port).state = .detect) (hover : (w.lane port).since + us (100 * (w.lane port).cfg.hold) ≤ t)
    (hmode : (w.lane port).cfg.mode = 0) (hstart : w.mayStart port t = true) :
    execDetectHoldExpiry port t s = .next (w.goLane port .base 0 t) := by
  have hready : ¬ ((w.lane port).state ≠ .detect ∨ t < (w.lane port).since + us (100 * (w.lane port).cfg.hold)) :=
    not_or.mpr ⟨not_not.mpr hdetect, Nat.not_lt.mpr hover⟩
  have hlow : ¬ ((w.lane port).cfg.mode = 3 ∨ (w.lane port).cfg.mode = 4) := by omega
  have hnegotiates : ¬ (w.lane port).cfg.fixed = true := by simp [PortCfg.fixed, hmode]
  simp only [execDetectHoldExpiry, if_neg (Nat.not_le.mpr hport), State.tick_lane, ← hw, if_neg hready, if_neg hlow,
    if_neg (not_bnot hstart), if_neg hnegotiates]

theorem execEnergyLost_of_active {w : State} (hw : w = (s.tick t).setLane port { s.lane port with energy := false })
    (hactive : (w.lane port).state = .active) :
    execEnergyLost port t s = .next (w.lockLoss port (w.arrivedBy port t) 5 t) := by
  have hout : (w.lane port).state ≠ .park := hactive.trans_ne (by decide)
  have hup : (w.lane port).state ≠ .detect := hactive.trans_ne (by decide)
  simp only [execEnergyLost, if_neg (Nat.not_le.mpr hport), State.tick_lane, ← hw, if_neg hout, if_neg hup]

theorem execLossOfSymbolLock_of_active (hactive : s.isActive port = true) (arrived : Nat) :
    execLossOfSymbolLock port arrived t s = .next ((s.tick t).lockLoss port arrived 6 t) :=
  if_pos ⟨hport, hactive⟩

theorem execLinkStateProgress_of_base (hbase : (s.lane port).state = .base) (tl25 : Bool) (far : Nat) :
    execLinkStateProgress port (.agreed tl25 far) t s = .next ((s.tick t).toStep port tl25 far t) := by
  simp only [execLinkStateProgress, if_neg (Nat.not_le.mpr hport), State.tick_lane, hbase]

theorem execLinkStateProgress_of_step (hstep : (s.lane port).state = .step) :
    execLinkStateProgress port .farTrain t s = .next ((s.tick t).goLane port .train 0 t) := by
  simp only [execLinkStateProgress, if_neg (Nat.not_le.mpr hport), State.tick_lane, hstep]

/-- READY has been received eight times (10 R406). -/
theorem execLinkStateProgress_of_train (htrain : (s.lane port).state = .train) (hready : 8 ≤ (s.lane port).farReady) :
    execLinkStateProgress port .bothReady t s = .next ((s.tick t).goLane port .lock 0 t) := by
  simp only [execLinkStateProgress, if_neg (Nat.not_le.mpr hport), State.tick_lane, htrain]
  exact if_pos hready

theorem execLinkStateProgress_of_lock (hlock : (s.lane port).state = .lock) :
    execLinkStateProgress port .locked t s = .next ((s.tick t).lockTaken port t) := by
  simp only [execLinkStateProgress, if_neg (Nat.not_le.mpr hport), State.tick_lane, hlock]

/-- A far CAL frame and four CALX_DONE have come, and the loopback is measured (10 R414). -/
theorem execLinkStateProgress_of_calx (hcalx : (s.lane port).state = .calx) (hcal : (s.lane port).calxCal = true)
    (hrecv : 4 ≤ (s.lane port).calxRecv) (hloop : (s.link port).loopDone = true) :
    execLinkStateProgress port .calxDone t s =
      .next (((s.tick t).emit (.capx port 1)).enterActive port (s.lane port).going false 0 t) := by
  simp only [execLinkStateProgress, if_neg (Nat.not_le.mpr hport), State.tick_lane, hcalx]
  exact if_pos ⟨hcal, hrecv, hloop⟩

/-- A state that fails: a fixed mode starts afresh from DETECT, another mode falls back (10 R406, R413). -/
theorem execLinkStateTimeout_of_failing {d : Nat} (htimeout : (s.lane port).timeout = some d)
    (hover : (s.lane port).since + d ≤ t) (hbringUp : (s.lane port).state ≠ .fallback) :
    execLinkStateTimeout port t s =
      .next (if (s.lane port).cfg.fixed then (s.tick t).toDetect port 7 t
        else ((s.tick t).ltOff port t).toFallback port 7 (State.fbOf (s.lane port).state) t) := by
  have hdue : ¬ (64 ≤ port ∨ t < (s.lane port).since + d) :=
    not_or.mpr ⟨Nat.not_le.mpr hport, Nat.not_lt.mpr hover⟩
  simp only [execLinkStateTimeout, State.tick_lane, htimeout]
  exact (if_neg hdue).trans <| (if_neg hbringUp).trans (apply_ite Host.Outcome.next ..).symm

theorem execSymbolLock_of_lock (hlock : (s.lane port).state = .lock) :
    execSymbolLock port t s = .next ((s.tick t).lockTaken port t) :=
  (if_neg (Nat.not_le.mpr hport)).trans <| if_pos hlock

/-- The far burst ends PARK within 10 µs of the own one (10 R422). -/
theorem execSymbolLock_of_parkExit {e : Instant} {w : State} (hparked : (s.lane port).state = .park)
    (hexit : (s.lane port).exitFrom = some e) (hwithin : t < e + us 10)
    (hw : w = (((s.tick t).countP port 99).finishOpt (s.lane port).exitJid State.stOk [] t).enterActive port
      (s.lane port).rate (s.lane port).fallen 12 t) :
    execSymbolLock port t s = .next (w.setLane port { w.lane port with exitJid := none }) := by
  have hother : (s.lane port).state ≠ .lock := hparked.trans_ne (by decide)
  refine (if_neg (Nat.not_le.mpr hport)).trans <| (if_neg hother).trans <| (if_pos hparked).trans ?_
  simp only [State.tick_lane, hexit, ← hw]
  exact if_neg (Nat.not_le.mpr hwithin)

theorem execCalxLoopbackDone_of_calx (hcalx : (s.lane port).state = .calx) {fixedTx fixedRx : Nat} {w : State}
    (hw : w = (s.tick t).setLink port
      { s.link port with fixedTx := fixedTx, fixedRx := fixedRx, loopDone := true, liveDone := false }) :
    execCalxLoopbackDone port fixedTx fixedRx t s =
      .next ((w.countP port 79).emit (.frame port (w.localFrame port (w.calPayload port)) t)) := by
  subst hw
  exact if_neg (not_or.mpr ⟨Nat.not_le.mpr hport, not_not.mpr hcalx⟩)

end LinkStates

/-- The two bytes and the CHECK of a TRAIN or CAPX set agree, and no symbol of it was in error (10 R402). -/
theorem laneSet_sound {a b check : Nat} (hcheck : check = (a ^^^ b) ^^^ 0xA5) :
    ¬ (false = true ∨ check ≠ (a ^^^ b) ^^^ 0xA5) :=
  not_or.mpr ⟨Bool.false_ne_true, not_not.mpr hcheck⟩

section Sets

variable {port check : Nat} {t : Instant} {s : State} (hport : port < 64)
include hport

theorem execTrainSetRx_of_train {req status : Nat} (hcheck : check = (req ^^^ status) ^^^ 0xA5)
    (htrain : (s.lane port).state = .train) :
    execTrainSetRx port req status check false t s =
      .next ((s.tick t).setLane port { (s.lane port).train req with
        farReady := if flag status 7 then ((s.lane port).train req).farReady + 1
          else ((s.lane port).train req).farReady }) :=
  (if_neg (Nat.not_le.mpr hport)).trans <| (if_neg (laneSet_sound hcheck)).trans <| if_pos htrain

variable {flags : Nat}

theorem execCapxRx_of_calxDone (hcheck : check = (1 ^^^ flags) ^^^ 0xA5) (hcalx : (s.lane port).state = .calx) :
    execCapxRx port 1 flags check false t s =
      .next ((s.tick t).setLane port { (s.lane port) with calxRecv := (s.lane port).calxRecv + 1 }) := by
  simp only [execCapxRx, if_neg (Nat.not_le.mpr hport), if_neg (laneSet_sound hcheck), State.tick_lane, hcalx]

section Park

variable (hactive : (s.lane port).state = .active) (hable : s.parkable port = true)
  (hclear : s.parkForbidden port = false)
include hactive hable hclear

/-- PARK_REQ is acknowledged, and the port parks (10 R420, step 3). -/
theorem execCapxRx_of_parkReq (hcheck : check = (2 ^^^ flags) ^^^ 0xA5) (hidle : (s.lane port).parkFrom = none) :
    execCapxRx port 2 flags check false t s = .next (((s.tick t).emit (.capx port 3)).toPark port t) := by
  have hfirst : ¬ (s.lane port).parkFrom.isSome = true := Bool.eq_false_iff.mp (congrArg Option.isSome hidle)
  refine (if_neg (Nat.not_le.mpr hport)).trans <| (if_neg (laneSet_sound hcheck)).trans ?_
  simp only [State.tick_lane, hactive]
  exact (if_neg (not_bnot hable)).trans <| (if_neg (Bool.eq_false_iff.mp hclear)).trans <| if_neg hfirst

/-- The far end's acknowledgement of a request that is out (10 R420, step 4). -/
theorem execCapxRx_of_parkAck (hcheck : check = (3 ^^^ flags) ^^^ 0xA5)
    (hasked : (s.lane port).parkFrom.isSome = true) :
    execCapxRx port 3 flags check false t s = .next ((s.tick t).toPark port t) := by
  have hready : ¬ ((s.lane port).parkFrom.isNone = true ∨ (!s.parkable port) = true) :=
    not_or.mpr ⟨Bool.eq_false_iff.mp (Option.isNone_eq_false_iff.mpr hasked), not_bnot hable⟩
  refine (if_neg (Nat.not_le.mpr hport)).trans <| (if_neg (laneSet_sound hcheck)).trans ?_
  simp only [State.tick_lane, hactive]
  exact (if_neg hready).trans <| if_neg (Bool.eq_false_iff.mp hclear)

end Park

end Sets

section Park

variable {port : Nat} {t : Instant} {s : State}

/-- The model of a port with PARK_EN has been empty and idle for PARK_IDLE (10 R420). -/
theorem execParkAuto_of_idle (hable : s.parkable port = true) (hen : (s.lane port).cfg.parkEn = true)
    (hfrom : (s.lane port).parkFrom = none) (hwait : (s.lane port).parkWait = false)
    (hclear : s.parkForbidden port = false) (hempty : s.holdsCopy port = false)
    (hidle : (s.model port).freeAt + us (s.lane port).cfg.parkIdle ≤ t)
    (hsince : (s.lane port).since + us (s.lane port).cfg.parkIdle ≤ t) :
    execParkAuto port t s = .next ((s.tick t).requestPark port none t) :=
  if_pos (by simp [hable, hen, hfrom, hwait, hclear, hempty, hidle, hsince])

/-- That a request without an answer ends CONFLICT is the model's choice (log entry 143). -/
theorem execParkReqLapse_of_past {e : Instant} (hfrom : (s.lane port).parkFrom = some e) (hover : e + us 100 ≤ t) :
    execParkReqLapse port t s = .next ((s.tick t).endPark port State.stConflict t) := by
  simp only [execParkReqLapse, State.tick_lane, hfrom, if_neg (Nat.not_lt.mpr hover)]

theorem execParkExit_of_parked (hport : port < 64) (hparked : (s.lane port).state = .park)
    (hquiet : (s.lane port).exitFrom = none) : execParkExit port t s = .next ((s.tick t).burst port t) :=
  if_pos ⟨hport, hparked, hquiet⟩

theorem execParkExitFail_of_past {e : Instant} (hport : port < 64) (hparked : (s.lane port).state = .park)
    (hexit : (s.lane port).exitFrom = some e) (hover : e + us 10 ≤ t) :
    execParkExitFail port t s = .next (((s.tick t).countP port 100).toDetect port 13 t) := by
  simp only [execParkExitFail, State.tick_lane, hexit]
  exact if_pos ⟨hport, hparked, hover⟩

end Park

section Plls

variable {quad pll : Nat} {t : Instant} {s : State}

/-- Every powered quad has a low-band PLL; the high-band ones are in Q3 (10 R398, R399). -/
theorem pllEvent_runs (hquad : quad < 4) (hpll : pll < 3) (hplace : pll = 0 ∨ quad = 3)
    (hpowered : (s.quad quad).powered = true) :
    ¬ (4 ≤ quad ∨ 3 ≤ pll ∨ (pll ≠ 0 ∧ quad ≠ 3) ∨ (!(s.quad quad).powered) = true) :=
  not_or.mpr ⟨Nat.not_le.mpr hquad, not_or.mpr ⟨Nat.not_le.mpr hpll,
    not_or.mpr ⟨fun hwrong => hplace.elim hwrong.1 hwrong.2, not_bnot hpowered⟩⟩⟩

theorem execPllUnlock_lowBand (hquad : quad < 4) (hpowered : (s.quad quad).powered = true) {w : State}
    (hw : w = (((s.tick t).setQuad quad { s.quad quad with lbLock := false }).count (0x7EC0 + quad)).raise 0x0108 101
      [bytesBE 1 quad, bytesBE 1 0] t) :
    execPllUnlock quad 0 t s =
      .next ((w.pllPorts quad 0).foldl (fun s p => s.lockLoss p (s.arrivedBy p t) 8 t) w) := by
  subst hw
  exact if_neg (pllEvent_runs hquad (by decide) (.inl rfl) hpowered)

theorem execPllRelock_lowBand (hquad : quad < 4) (hpowered : (s.quad quad).powered = true) :
    execPllRelock quad 0 t s = .next ((s.tick t).setQuad quad { s.quad quad with lbLock := true }) :=
  (if_neg (pllEvent_runs hquad (by decide) (.inl rfl) hpowered)).trans <| if_pos rfl

section HighBand

variable (hfirst : 1 ≤ pll) (hlast : pll < 3)
include hfirst hlast

/-- HB0 and HB1 are the PLLs that the high-band events know (10 R399). -/
theorem hbEvent_runs : ¬ (pll = 0 ∨ 3 ≤ pll) :=
  not_or.mpr ⟨Nat.ne_of_gt hfirst, Nat.not_le.mpr hlast⟩

/-- A hop locks at a rate whose slot holds a search's result (10 R400). -/
theorem execPllRelock_highBand (hpowered : (s.quad 3).powered = true) (hrate : (s.hb pll).rate ≠ 0)
    (hslot : (s.hb pll).slots.getLsbD ((s.hb pll).rate - 1) = true) :
    execPllRelock 3 pll t s = .next ((s.tick t).setHb pll { s.hb pll with lock := true }) :=
  (if_neg (pllEvent_runs (by decide) hlast (.inr rfl) hpowered)).trans <|
    (if_neg (Nat.ne_of_gt hfirst)).trans <| if_neg (not_or.mpr ⟨hrate, not_bnot hslot⟩)

theorem execPllHopTimeout_of_unlocked (hrate : (s.hb pll).rate ≠ 0) (hunlocked : (s.hb pll).lock = false) {w : State}
    (hw : w = ((s.tick t).setHb pll { s.hb pll with
      slots := (s.hb pll).slots &&& ~~~ BitVec.ofNat 4 (2 ^ ((s.hb pll).rate - 1)) }).startSearch pll
        (s.hb pll).rate false) :
    execPllHopTimeout pll t s = .next ((w.pllPorts 3 pll).foldl (State.pllFail t) w) := by
  subst hw
  exact (if_neg (hbEvent_runs hfirst hlast)).trans <|
    if_neg (not_or.mpr ⟨hrate, Bool.eq_false_iff.mp hunlocked⟩)

/-- The third rate is the last of a sweep; the order of the rates is the model's choice (log entry 70). -/
theorem execHbBandSearchDone_of_lastRate (hsearch : (s.hb pll).search = some 3) (ok : Bool) :
    execHbBandSearchDone pll ok t s =
      .next (((s.tick t).setHb pll { s.hb pll with
        slots := if ok then (s.hb pll).slots ||| BitVec.ofNat 4 (2 ^ (3 - 1)) else (s.hb pll).slots
        search := none }).setBand pll false) := by
  simp only [execHbBandSearchDone, if_neg (hbEvent_runs hfirst hlast), State.tick_hb, hsearch]
  exact if_neg fun hnext => Nat.lt_irrefl 3 hnext.1

end HighBand

theorem execQuadPowerUpDone_of_starting (hquad : quad < 4) (hpowered : (s.quad quad).powered = true)
    (hstarts : (s.quad quad).starting = true) {w : State}
    (hw : w = (State.portsOf quad).foldl (State.startPort t)
      ((State.portsOf quad).foldl (fun s p => s.startSource (pipeOf p) p t)
        ((s.tick t).setQuad quad { s.quad quad with lbLock := true, starting := false, jid := none }))) :
    execQuadPowerUpDone quad t s =
      .next ((w.stagePortOff t t ((State.portsOf quad).filter fun p => (w.lane p).cfg.enable && !(w.lane p).shut)
        false).finishOpt (s.quad quad).jid State.stOk [] t) := by
  have hruns : ¬ (4 ≤ quad ∨ (!(s.quad quad).powered) = true ∨ (!(s.quad quad).starting) = true) :=
    not_or.mpr ⟨Nat.not_le.mpr hquad, not_or.mpr ⟨not_bnot hpowered, not_bnot hstarts⟩⟩
  simp only [execQuadPowerUpDone, State.tick_quad, ← hw, if_neg hruns]

end Plls

/-- Settles O26: a lemma for each event says which branch its guards select. That the end of DETECT_HOLD sets ENERGY,
and the order and the slots of a PLL's search, are the model's choice (log entry 70), and so is that a park request
which lapses completes CONFLICT (log entry 143). -/
theorem laneEventsComplete : Obligations.LaneEventsComplete := by
  refine ⟨?detectHold, ?energyLost, ?lockLoss, ?agreed, ?farTrain, ?bothReady, ?locked, ?calxDone, ?timeout, ?trainSet,
    ?calxSet, ?parkReq, ?parkAck, ?symbolLock, ?parkLeft, ?loopback, ?parkAuto, ?parkLapse, ?parkExit, ?parkExitFail,
    ?pllUnlock, ?pllRelock, ?hopLock, ?hopTimeout, ?searchDone, ?quadUp⟩
  case detectHold =>
    exact fun port t s w hport hw hdetect hover hmode hstart =>
      execDetectHoldExpiry_of_ready hport hw hdetect hover hmode hstart
  case energyLost => exact fun port t s w hport hw hactive => execEnergyLost_of_active hport hw hactive
  case lockLoss => exact fun port arrived t s hport hactive => execLossOfSymbolLock_of_active hport hactive arrived
  case agreed =>
    rintro port _ t s tl25 far hport hbase rfl
    exact execLinkStateProgress_of_base hport hbase tl25 far
  case farTrain =>
    rintro port _ t s hport hstep rfl
    exact execLinkStateProgress_of_step hport hstep
  case bothReady =>
    rintro port _ t s hport htrain rfl hready
    exact execLinkStateProgress_of_train hport htrain hready
  case locked =>
    rintro port _ t s hport hlock rfl
    exact execLinkStateProgress_of_lock hport hlock
  case calxDone =>
    rintro port _ t s hport hcalx rfl hcal hrecv hloop
    exact execLinkStateProgress_of_calx hport hcalx hcal hrecv hloop
  case timeout =>
    exact fun port t s d hport htimeout hover hbringUp =>
      execLinkStateTimeout_of_failing hport htimeout hover hbringUp
  case trainSet =>
    rintro port req status check _ t s hport rfl hcheck htrain
    exact execTrainSetRx_of_train hport hcheck htrain
  case calxSet =>
    rintro port _ flags check _ t s hport rfl hcheck hcalx rfl
    exact execCapxRx_of_calxDone hport hcheck hcalx
  case parkReq =>
    rintro port _ flags check _ t s hport rfl hcheck hactive rfl hable hidle hclear
    exact execCapxRx_of_parkReq hport hactive hable hclear hcheck hidle
  case parkAck =>
    rintro port _ flags check _ t s hport rfl hcheck hactive rfl hasked hable hclear
    exact execCapxRx_of_parkAck hport hactive hable hclear hcheck hasked
  case symbolLock => exact fun port t s hport hlock => execSymbolLock_of_lock hport hlock
  case parkLeft =>
    exact fun port t s e w hport hparked hexit hwithin hw => execSymbolLock_of_parkExit hport hparked hexit hwithin hw
  case loopback =>
    exact fun port fixedTx fixedRx t s w hport hcalx hw => execCalxLoopbackDone_of_calx hport hcalx hw
  case parkAuto =>
    exact fun port t s hable hen hfrom hwait hclear hempty hidle hsince =>
      execParkAuto_of_idle hable hen hfrom hwait hclear hempty hidle hsince
  case parkLapse => exact fun port t s e hfrom hover => execParkReqLapse_of_past hfrom hover
  case parkExit => exact fun port t s hport hparked hquiet => execParkExit_of_parked hport hparked hquiet
  case parkExitFail =>
    exact fun port t s e hport hparked hexit hover => execParkExitFail_of_past hport hparked hexit hover
  case pllUnlock =>
    rintro quad _ t s w hquad rfl hpowered hw
    exact execPllUnlock_lowBand hquad hpowered hw
  case pllRelock =>
    rintro quad _ t s hquad rfl hpowered
    exact execPllRelock_lowBand hquad hpowered
  case hopLock =>
    rintro _ pll t s rfl hfirst hlast hpowered hrate hslot
    exact execPllRelock_highBand hfirst hlast hpowered hrate hslot
  case hopTimeout =>
    exact fun pll t s w hfirst hlast hrate hunlocked hw =>
      execPllHopTimeout_of_unlocked hfirst hlast hrate hunlocked hw
  case searchDone =>
    exact fun pll ok t s hfirst hlast hsearch => execHbBandSearchDone_of_lastRate hfirst hlast hsearch ok
  case quadUp =>
    exact fun quad t s w hquad hpowered hstarts hw => execQuadPowerUpDone_of_starting hquad hpowered hstarts hw

end Sys2Proof.Machine
end

section
/-! The events of the modules, their buses and the sensors (10 R418 to R431; 14 R589; 15 R605). Each takes the branch
that its guards select; what a guard reads stands as before the event, whose tick moves time alone. -/

namespace Sys2Proof.Machine

@[simp] theorem State.tick_bus (s : State) (t : Instant) (q : Nat) : (s.tick t).bus q = s.bus q := rfl

@[simp] theorem State.tick_sensor (s : State) (t : Instant) (i : Nat) : (s.tick t).sensor i = s.sensor i := rfl

section Modules

variable {port : Nat} {t : Instant} {s : State}

theorem execSidebandScan_of_supplied (hsupplied : s.lan.io33Low = false) (inputs : List (Nat × Nat)) :
    execSidebandScan inputs t s =
      .next (inputs.foldl State.scanPort ((s.tick t).emit (.sideband (BitVec.ofNat 256
        ((List.range 64).foldl (fun n p => n + (s.tick t).sideOut p * 2 ^ (4 * p)) 0))))) :=
  if_neg (Bool.eq_false_iff.mp hsupplied)

/-- The debounced ABS says the other thing than the port knows (10 R429). -/
theorem execModulePresenceChange_of_changed {absent : Bool} (hport : port < 64) (hsupplied : s.lan.io33Low = false)
    (hinput : flag (s.lane port).side 0 = absent) (hknown : (s.lane port).modPresent = absent) :
    execModulePresenceChange port absent t s =
      .next (if absent then (s.tick t).moduleGone port t else (s.tick t).moduleIn port t) :=
  if_neg (not_or.mpr ⟨Nat.not_le.mpr hport, not_or.mpr ⟨Bool.eq_false_iff.mp hsupplied,
    not_or.mpr ⟨not_not.mpr hinput, not_not.mpr hknown⟩⟩⟩)

section Identified

variable {ident rate : Nat} (hport : port < 64) (hpresent : (s.lane port).modPresent = true)
  (hnew : (s.lane port).modReady = false) (hover : (s.lane port).moduleHeld t = false)
include hport hpresent hnew hover

/-- The identifier of a new module is read once its hold is over (10 R427, R429). -/
theorem moduleReady_runs :
    ¬ (64 ≤ port ∨ (!(s.lane port).modPresent) = true ∨ (s.lane port).modReady = true
      ∨ (s.lane port).moduleHeld t = true) :=
  not_or.mpr ⟨Nat.not_le.mpr hport, not_or.mpr ⟨not_bnot hpresent,
    not_or.mpr ⟨Bool.eq_false_iff.mp hnew, Bool.eq_false_iff.mp hover⟩⟩⟩

theorem execModuleReady_of_known (hkind : moduleKind port ident ≠ 3) :
    execModuleReady port ident rate t s =
      .next ((s.tick t).setLane port { (s.lane port) with
        modKind := moduleKind port ident, modReady := true, modRate := rate, heldUntil := none, since := t }) :=
  (if_neg (moduleReady_runs hport hpresent hnew hover)).trans <| if_neg hkind

theorem execModuleReady_of_unknown (hkind : moduleKind port ident = 3) :
    execModuleReady port ident rate t s =
      .next (((s.tick t).setLane port { (s.lane port) with modKind := 3 }).moduleEvent port 2 ident t) :=
  (if_neg (moduleReady_runs hport hpresent hnew hover)).trans <| if_pos hkind

end Identified

end Modules

section Buses

variable {bus : Nat} {t : Instant} {s : State} (hbus : bus < 4)
include hbus

theorem execModuleAlarmPoll_of_serving (hserves : (s.bus bus).stuck = false) (hsupplied : s.lan.io33Low = false) :
    execModuleAlarmPoll bus t s =
      .next (((State.portsOf bus).filter fun p => (s.lane p).modReady).foldl (State.pollModule bus) (s.tick t)) :=
  if_neg (not_or.mpr ⟨Nat.not_le.mpr hbus,
    not_or.mpr ⟨Bool.eq_false_iff.mp hserves, Bool.eq_false_iff.mp hsupplied⟩⟩)

section Access

variable {x : I2cReq} {rest : List I2cReq} (hqueue : (s.bus bus).queue = x :: rest)
include hqueue

theorem execI2cTransactionDone_stuck :
    execI2cTransactionDone bus .stuck t s =
      .next ((((s.tick t).abortBus bus t).count (0x7EC8 + 2 * bus + 1)).raise 0x0109 101
        [bytesBE 1 bus, bytesBE 1 0] t) := by
  simp only [execI2cTransactionDone, State.tick_bus, hqueue, if_neg (Nat.not_le.mpr hbus)]

/-- An access that a command waits for (10 R431). -/
theorem execI2cTransactionDone_nack {j : Nat} {w : State} (hjid : x.jid = some j)
    (hw : w = ((s.tick t).setBus bus { (s.bus bus) with queue := rest, nack := true }).count (0x7EC8 + 2 * bus)) :
    execI2cTransactionDone bus .nack t s = .next (w.finish j State.stAborted (w.i2cFailWords j 31) t) := by
  simp only [execI2cTransactionDone, State.tick_bus, hqueue, if_neg (Nat.not_le.mpr hbus), hjid, ← hw]

theorem execI2cTransactionDone_data (bs : List Byte) :
    execI2cTransactionDone bus (.data bs) t s =
      .next (((s.tick t).setBus bus { (s.bus bus) with queue := rest }).i2cOk bus x bs t) := by
  simp only [execI2cTransactionDone, State.tick_bus, hqueue, if_neg (Nat.not_le.mpr hbus)]

end Access

theorem execI2cRetry_of_freed (hstuck : (s.bus bus).stuck = true) (hsupplied : s.lan.io33Low = false) :
    execI2cRetry bus true t s = .next ((s.tick t).setBus bus { (s.bus bus) with stuck := false }) :=
  if_pos ⟨hbus, hstuck, rfl, congrArg not hsupplied⟩

end Buses

section Supply

variable {t : Instant} {s : State} {w : State}

/-- The accesses of every bus end with the supply (15 R605). -/
theorem execIo33Low_of_supplied (hsupplied : s.lan.io33Low = false)
    (hw : w = (List.range 4).foldl (fun s q => s.abortBus q t) (s.tick t)) :
    execIo33Low t s =
      .next (({ w with lan := { w.lan with io33Low := true } }).raise 0x0109 101 [bytesBE 1 0xFF, bytesBE 1 1] t) := by
  subst hw
  exact if_neg (Bool.eq_false_iff.mp hsupplied)

theorem execIo33Restore_of_low (hlow : s.lan.io33Low = true)
    (hw : w = (List.range 4).foldl (fun s q => s.setBus q { s.bus q with stuck := false }) (s.tick t)) :
    execIo33Restore t s = .next { w with lan := { w.lan with io33Low := false } } := by
  subst hw
  exact if_neg (not_bnot hlow)

end Supply

section Sensors

variable {t : Instant} {s : State}

/-- An eye below a warning limit raises its event, at most once per second (10 R419). -/
theorem execEyeMonitorUpdate_of_still {port width height ctle : Nat} {dfe : List Int} {w : State} (hport : port < 64)
    (hstill : (s.lane port).eqRun = false)
    (hw : w = (s.tick t).setLane port { (s.lane port) with
      eyeValid := true, eyeW := min 1000 width, eyeH := min 1023 height, ctle := ctle % 32, dfe := dfe.take 8
      eyeLow := (s.lane port).eyeLow || (s.lane port).eyeIsLow width height }) :
    execEyeMonitorUpdate port width height ctle dfe t s =
      .next (if (s.lane port).eyeIsLow width height then
          w.raiseLimited (0x400 + port) 0x0102 port [bytesBE 1 port, bytesBE 2 (min 1000 width), bytesBE 2 height] t
        else w) := by
  subst hw
  exact (if_neg (not_or.mpr ⟨Nat.not_le.mpr hport, Bool.eq_false_iff.mp hstill⟩)).trans
    (apply_ite Host.Outcome.next ..).symm

/-- A move of more than CAL_DT from the reference triggers runs (10 R424). -/
theorem execDieSensorRead_of_sensor {sensor : Nat} {temp : Int} {w : State} (hsensor : sensor < 8)
    (hw : w = (s.tick t).takeTemp sensor temp t) :
    execDieSensorRead sensor temp t s =
      .next (if w.lan.calDt * 16 < (temp - (s.sensor sensor).ref).natAbs * 10 then w.triggerRuns sensor else w) := by
  subst hw
  exact (if_neg (Nat.not_le.mpr hsensor)).trans (apply_ite Host.Outcome.next ..).symm

theorem execEqRunDone_of_running {port : Nat} (hport : port < 64) (hruns : (s.lane port).eqRun = true) (ctle : Nat) :
    execEqRunDone port ctle t s =
      .next ((((s.tick t).setLane port { (s.lane port) with eqRun := false, ctle := ctle % 32 }).countP port
        102).startRuns) :=
  if_neg (not_or.mpr ⟨Nat.not_le.mpr hport, not_bnot hruns⟩)

end Sensors

/-- Settles O27: a lemma for each event says which branch its guards select. Which flag bytes of a module the alarm
shadow holds, and that a host's read of them raises their alarms as a poll does, are the model's choice (log entries 74,
145). -/
theorem moduleEventsComplete : Obligations.ModuleEventsComplete := by
  refine ⟨?scan, ?presence, ?known, ?unknown, ?poll, ?stuck, ?nack, ?data, ?retry, ?supplyLow, ?supplyBack, ?eye,
    ?sensor, ?eqRun⟩
  case scan => exact fun inputs t s hsupplied => execSidebandScan_of_supplied hsupplied inputs
  case presence =>
    exact fun port absent t s hport hsupplied hinput hknown =>
      execModulePresenceChange_of_changed hport hsupplied hinput hknown
  case known =>
    exact fun port ident rate t s hport hpresent hnew hover hkind =>
      execModuleReady_of_known hport hpresent hnew hover hkind
  case unknown =>
    exact fun port ident rate t s hport hpresent hnew hover hkind =>
      execModuleReady_of_unknown hport hpresent hnew hover hkind
  case poll => exact fun bus t s hbus hserves hsupplied => execModuleAlarmPoll_of_serving hbus hserves hsupplied
  case stuck =>
    rintro bus _ t s x rest hbus hqueue rfl
    exact execI2cTransactionDone_stuck hbus hqueue
  case nack =>
    rintro bus _ t s x rest j w hbus hqueue rfl hjid hw
    exact execI2cTransactionDone_nack hbus hqueue hjid hw
  case data =>
    rintro bus _ t s x rest bs hbus hqueue rfl
    exact execI2cTransactionDone_data hbus hqueue bs
  case retry =>
    rintro bus _ t s hbus hstuck rfl hsupplied
    exact execI2cRetry_of_freed hbus hstuck hsupplied
  case supplyLow => exact fun t s w hsupplied hw => execIo33Low_of_supplied hsupplied hw
  case supplyBack => exact fun t s w hlow hw => execIo33Restore_of_low hlow hw
  case eye =>
    exact fun port width height ctle dfe t s w hport hstill hw => execEyeMonitorUpdate_of_still hport hstill hw
  case sensor => exact fun sensor temp t s w hsensor hw => execDieSensorRead_of_sensor hsensor hw
  case eqRun => exact fun port ctle t s hport hruns => execEqRunDone_of_running hport hruns ctle

end Sys2Proof.Machine
end

section
/-! Commands that come as packets (12 R499 to R507): the entry of the opcode that each runs, the checks of R506 in their
order, and the packet that gives a command its operands. -/

namespace Sys2Proof.Machine

/-- A command that comes as a packet runs the entry of its opcode (12 R523). -/
theorem exec_packet {c : Instr} {opcode : Nat} {r : Req} (hc : packetOfInstr c = some (opcode, r)) :
    ∃ op, opTable opcode = some op ∧ op.opcode = opcode ∧ op.known = true ∧ opcode < 65536
      ∧ ∀ s, exec c s = .next (runCommand opTable op r s) := by
  cases c <;> cases hc
  all_goals exact ⟨_, rfl, rfl, rfl, by decide, fun _ => rfl⟩

/-- Settles O43: before its reply, CHECK_ONLY ends what the interpreter does to the device (12 R505). -/
theorem checkOnlyAppliesNothing : Obligations.CheckOnlyAppliesNothing := by
  intro c opcode r s t hc hcheck hsingle he
  obtain ⟨op, -, -, -, -, hrun⟩ := exec_packet hc
  have ht : runCommand opTable op r s = t := Host.Outcome.next.inj ((hrun s).symm.trans he)
  exact ht ▸ runCommand_sameDevice opTable op r s hsingle (.inl hcheck)

section Checks

variable {op : OpSpec} {r : Req}

theorem lengthCheck_iff :
    (r.buf.len < 16 + 4 * r.pw ∨ (!op.pw r) = true)
      ↔ (op.pw r && decide (16 + 4 * r.pw ≤ r.buf.len)) = false := by
  rw [Bool.and_eq_false_iff, decide_eq_false_iff_not, Nat.not_le, Bool.not_eq_true', or_comm]

/-- The use of APPLY_VALID that the opcode does not allow (12 R506 step 4). -/
theorem applyCheck_eq_not_applyFits :
    (match op.apply with
      | .ignored => false
      | .mustBe v => r.resv || r.applyOn != v || (v && decide (999999999 < r.applyNs))
      | .honoured => r.resv || (r.applyOn && decide (999999999 < r.applyNs))) = !applyFits op r := by
  have hns : decide (999999999 < r.applyNs) = !decide (r.applyNs ≤ 999999999) := by
    rw [← decide_not, decide_eq_decide, Nat.not_le]
  rw [applyFits, hns]
  cases op.apply with
  | ignored => rfl
  | mustBe v => cases v <;> cases r.resv <;> cases r.applyOn <;> simp
  | honoured => cases r.resv <;> cases r.applyOn <;> simp

theorem paramCheck_iff (hlink : r.link = false) :
    (decide (4 ≤ r.flags) || (r.link && (r.viaPriv || r.sender.core.isSome)) || false
      || (match op.apply with
          | .ignored => false
          | .mustBe v => r.resv || r.applyOn != v || (v && decide (999999999 < r.applyNs))
          | .honoured => r.resv || (r.applyOn && decide (999999999 < r.applyNs)))) = true
      ↔ (applyFits op r && decide (r.flags < 4)) = false := by
  have hflags : decide (4 ≤ r.flags) = !decide (r.flags < 4) := by
    rw [← decide_not, decide_eq_decide, Nat.not_lt]
  rw [applyCheck_eq_not_applyFits, hlink, hflags]
  cases applyFits op r <;> simp

variable (s : State)

theorem hasTimeAuth_taken (x : Sender) : (taken op r s).hasTimeAuth x = s.hasTimeAuth x := by
  simp only [State.hasTimeAuth, taken_pwr]

theorem cfgNow_taken : (taken op r s).cfgNow = s.cfgAt (max s.now r.t) := by
  rw [State.cfgNow, taken_now, cfgAt_taken]

theorem permitCheck_iff :
    ((op.opcode / 256 == 0x0A && !r.sender.pf1)
      || ((taken op r s).pwr.lockPf0 && !r.sender.pf1 && (op.sem || op.owner))
      || (r.viaPriv && !op.priv)
      || (r.sender.core.isSome && !(op.priv || op.acAlso))
      || (match r.sender.core with
          | some c => op.opcode / 256 == 7 && !((taken op r s).ac c).permits.getLsbD 2
          | none => false)
      || (op.timeAuth && !(taken op r s).hasTimeAuth r.sender)) = true ↔ maySend op r s = false := by
  rw [hasTimeAuth_taken, taken_pwr, maySend]
  simp only [taken_ac, bne]
  generalize (op.opcode / 256 == 0x0A) = group0A
  generalize (op.opcode / 256 == 7) = group07
  cases r.sender.core with
  | none => grind
  | some c => grind

theorem semCheck_iff :
    (op.sem = true ∧ (!(taken op r s).holds r.sender) = true) ↔ (!op.sem || s.holds r.sender) = false := by
  rw [holds_taken]
  cases op.sem <;> simp

theorem footingCheck_iff :
    ((taken op r s).cfgNow.footing = true ∧ (!op.footing) = true)
      ↔ (!(s.cfgAt (max s.now r.t)).footing || op.footing) = false := by
  rw [cfgNow_taken]
  cases op.footing <;> simp

/-- Steps 3 to 8 of 12 R506 for a listed opcode outside any batch. -/
theorem precheck_taken (hlink : r.link = false) (hknown : op.known = true) :
    precheck op r (taken op r s) false =
      if (op.pw r && decide (16 + 4 * r.pw ≤ r.buf.len)) = false then some State.stBadLength
      else if (applyFits op r && decide (r.flags < 4)) = false then some State.stBadParam
      else if maySend op r s = false then some State.stNotPermitted
      else if (!op.sem || s.holds r.sender) = false then some State.stNoSemaphore
      else if (!(s.cfgAt (max s.now r.t)).footing || op.footing) = false then some State.stState
      else none := by
  have hlisted : ¬ (!op.known) = true := by simp [hknown]
  exact if_congr lengthCheck_iff rfl <| (if_neg hlisted).trans <| if_congr (paramCheck_iff hlink) rfl <|
    if_congr (permitCheck_iff s) rfl <| if_congr (semCheck_iff s) rfl <| if_congr (footingCheck_iff s) rfl rfl

end Checks

/-- A single command that fails a check before its opcode's own is answered with that status alone (12 R506, R507). -/
theorem runCommand_of_precheck {tbl : Nat → Option OpSpec} {op : OpSpec} {r : Req} {s : State} {st : Nat}
    (hlink : r.link = false) (hfree : s.slotFree r.viaPriv = true)
    (hbatch : (r.viaPriv || !s.batchOpen r.sender) = true) (hst : precheck op r (taken op r s) false = some st) :
    runCommand tbl op r s = (taken op r s).replyTo op.opcode s.host.nextJid st true [] r := by
  have hcount := State.countF_eventOnly (s.tick r.t) r.sender 5 1
  have hfree' : ((s.tick r.t).countF r.sender 5).slotFree r.viaPriv = true := by
    have hj : ((s.tick r.t).countF r.sender 5).host.journal = s.host.journal := hcount.journal
    rwa [State.slotFree, State.openAll, hj]
  have hbatch' : (!r.viaPriv && (taken op r s).batchOpen r.sender) = false := by
    rw [State.batchOpen, taken_batch]
    simpa [State.batchOpen, or_iff_not_imp_left] using hbatch
  simp only [runCommand, hfree', hbatch', hlink, hst, Bool.not_true, Bool.false_and, Bool.or_self, Bool.false_eq_true,
    if_false]

/-- Settles O42: the checks are a chain of conditions, and the first that fails gives the status. -/
theorem checksInOrder : Obligations.ChecksInOrder := by
  intro c opcode r op s hc hop hflags hfree hbatch
  obtain ⟨_, hop', hcode, hknown, -, hrun⟩ := exec_packet hc
  obtain rfl := Option.some.inj (hop.symm.trans hop')
  have hlink : r.link = false := by simp [Req.link, flag, hflags]
  have refused {st : Nat} (hst : precheck op r (taken op r s) false = some st) :
      exec c s = .next ((taken op r s).replyTo opcode s.host.nextJid st true [] r) := by
    rw [hrun, runCommand_of_precheck hlink hfree hbatch hst, hcode]
  rw [precheck_taken s hlink hknown] at refused
  refine ⟨fun hlen => refused (if_pos hlen), fun hlen => ?_⟩
  rw [if_neg (ne_false_of_eq_true hlen)] at refused
  refine ⟨fun hparam => refused (if_pos hparam), fun hparam => ?_⟩
  rw [if_neg (ne_false_of_eq_true hparam)] at refused
  refine ⟨fun hsend => refused (if_pos hsend), fun hsend => ?_⟩
  rw [if_neg (ne_false_of_eq_true hsend)] at refused
  refine ⟨fun hsem => refused (if_pos hsem), fun hsem hfoot => ?_⟩
  rw [if_neg (ne_false_of_eq_true hsem)] at refused
  exact refused (if_pos hfoot)

end Sys2Proof.Machine
end

section
/-! A packet as 12 R504 lays it out: each field of the words that the interpreter reads is the operand that was laid
into it, so taking the packet runs its command. -/

namespace Sys2Proof.Machine

section Fields

variable {opcode : Nat} {r : Req} (rest : List Word)

theorem pword_packetOf_code (hcode : opcode < 65536) (hflags : r.flags < 256) :
    pword (packetOf opcode r ++ rest) 0 = 0x01000000 + r.flags * 65536 + opcode :=
  Nat.mod_eq_of_lt (by omega)

theorem pword_packetOf_length (htag : r.tag < 65536) (hpw : r.pw ≤ 1020) :
    pword (packetOf opcode r ++ rest) 1 = r.pw * 65536 + r.tag :=
  Nat.mod_eq_of_lt (by omega)

theorem pword_packetOf_seconds (hsec : r.applySec < 4294967296) :
    pword (packetOf opcode r ++ rest) 2 = r.applySec :=
  Nat.mod_eq_of_lt hsec

theorem pword_packetOf_nanoseconds (hns : r.applyNs < 1073741824) :
    pword (packetOf opcode r ++ rest) 3 = atBit r.resv 31 + atBit r.applyOn 30 + r.applyNs := by
  refine Nat.mod_eq_of_lt ?_
  cases r.resv <;> cases r.applyOn <;> simp only [atBit, if_true, if_false, Bool.false_eq_true] <;> omega

theorem take_packetOf_params : ((packetOf opcode r ++ rest).drop 4).take r.pw = r.params :=
  List.take_left ..

/-- Word 3: bit 31 is reserved, bit 30 is APPLY_VALID, and the nanoseconds stand below (12 R504). -/
theorem fields_of_nanoseconds (resv on : Bool) {n : Nat} (hn : n < 1073741824) :
    flag (atBit resv 31 + atBit on 30 + n) 31 = resv ∧ flag (atBit resv 31 + atBit on 30 + n) 30 = on
      ∧ field (atBit resv 31 + atBit on 30 + n) 0 30 = n := by
  cases resv <;> cases on <;> simp only [flag, field, atBit, if_true, if_false, Bool.false_eq_true, beq_iff_eq,
    beq_eq_false_iff_ne] <;> omega

/-- Word 0: the version is 1, FLAGS and OPCODE stand below (12 R504). -/
theorem fields_of_code {flags : Nat} (hcode : opcode < 65536) (hflags : flags < 256) :
    field (0x01000000 + flags * 65536 + opcode) 24 8 = 1 ∧ field (0x01000000 + flags * 65536 + opcode) 16 8 = flags
      ∧ field (0x01000000 + flags * 65536 + opcode) 0 16 = opcode := by
  simp only [field]
  omega

/-- Word 1: PW above TAG (12 R504). -/
theorem fields_of_length {pw tag : Nat} (hpw : pw ≤ 1020) (htag : tag < 65536) :
    field (pw * 65536 + tag) 16 16 = pw ∧ field (pw * 65536 + tag) 0 16 = tag := by
  simp only [field]
  omega

variable (hwf : r.wf = true)
include hwf

theorem tagField_packetOf : field (pword (packetOf opcode r ++ rest) 1) 0 16 = r.tag := by
  obtain ⟨htag, -, -, -, hpw⟩ := of_decide_eq_true hwf
  rw [pword_packetOf_length rest htag hpw]
  exact (fields_of_length hpw htag).2

variable (hcode : opcode < 65536)
include hcode

theorem packetReq_packetOf :
    packetReq r.sender r.viaPriv r.buf (packetOf opcode r ++ rest) r.t = r := by
  obtain ⟨htag, hflags, hsec, hns, hpw⟩ := of_decide_eq_true hwf
  obtain ⟨-, hflagsField, -⟩ := fields_of_code hcode hflags
  obtain ⟨hpwField, htagField⟩ := fields_of_length (pw := r.pw) hpw htag
  obtain ⟨hresvField, honField, hnsField⟩ := fields_of_nanoseconds r.resv r.applyOn hns
  rw [packetReq, pword_packetOf_code rest hcode hflags, pword_packetOf_length rest htag hpw,
    pword_packetOf_seconds rest hsec, pword_packetOf_nanoseconds rest hns, hflagsField, hpwField, htagField,
    hresvField, honField, hnsField]
  exact congrArg (fun ps => { r with params := ps }) (take_packetOf_params rest)

/-- A buffer whose LEN is a multiple of 4 up to 4,096 and holds the packet (12 R499). -/
theorem specOf_packetOf {op : OpSpec} (hop : opTable opcode = some op) (hfour : r.buf.len % 4 = 0)
    (hmax : r.buf.len ≤ 4096) (hfits : 16 + 4 * r.pw ≤ r.buf.len) :
    specOf r.buf (packetOf opcode r ++ rest) = op := by
  obtain ⟨htag, hflags, -, -, hpw⟩ := of_decide_eq_true hwf
  obtain ⟨hversion, -, hopcode⟩ := fields_of_code hcode hflags
  have hpwField := (fields_of_length hpw htag).1
  have hmin : 16 ≤ r.buf.len := Nat.le_trans (Nat.le_add_right ..) hfits
  simp only [specOf, pword_packetOf_code rest hcode hflags, pword_packetOf_length rest htag hpw, hopcode, hop]
  exact if_pos ⟨hversion, hmin, hmax, hfour, hpwField.symm ▸ hfits⟩

end Fields

theorem execNoticeTake_of_next {slot : Nat} {n : Notice} {dma : Option (List Word)} {t : Instant} {s : State}
    (hready : s.host.ready = true) (hnext : (s.tick t).nextNotice = some (slot, n)) (hintime : t ≤ n.until_) :
    execNoticeTake dma t s = .next ((s.tick t).takeNotice slot n dma t) := by
  simp only [execNoticeTake, State.tick_host, hready, Bool.not_true, Bool.false_eq_true, if_false, hnext,
    if_neg (Nat.not_lt.mpr hintime)]

/-- Settles O40: the words that the interpreter reads give the command its operands and its opcode's entry back. -/
theorem packetIsItsCommand : Obligations.PacketIsItsCommand := by
  intro c opcode slot r n dma rest t s w hc hwf hready hnext hintime hsender hpriv htag hbuf ht hfour hmax hfits hw
    hread
  obtain ⟨op, hop, -, -, hcode, hrun⟩ := exec_packet hc
  have htake : exec (.noticeTake dma t) s = .next ((s.tick t).takeNotice slot n dma t) :=
    execNoticeTake_of_next hready hnext hintime
  rw [← hbuf] at hfour hmax hfits
  have hspec : specOf n.buf (packetOf opcode r ++ rest) = op :=
    hbuf ▸ specOf_packetOf rest hwf hcode hop hfour hmax hfits
  have hreq :
      packetReq n.sender (decide (2 ≤ slot) && n.sender.core.isNone) n.buf (packetOf opcode r ++ rest) t = r := by
    rw [← hpriv, ← hsender, ← hbuf, ← ht]
    exact packetReq_packetOf rest hwf hcode
  have hown : field (pword (packetOf opcode r ++ rest) 1) 0 16 = n.tag := (tagField_packetOf rest hwf).trans htag
  rw [htake, hrun]
  subst hw
  simp only [State.takeNotice, hread, hown, if_true, hspec, hreq]

end Sys2Proof.Machine
end

section
/-! What every command keeps (12 R492, R502; 13 R526; 14 R579): the queue, and the canonical form of the memories. -/

namespace Sys2Proof.Machine

variable {q : Keep}

/-- A packet keeps what the entry of its opcode keeps, and each event has its own law. (Unfolding `OutGood` would ask
for the outcome of the event, so the laws are matched by name.) -/
theorem exec_good (c : Instr) (s : State) (h : s.Good q) : OutGood q (exec c s) := by
  cases hc : packetOfInstr c with
  | some p =>
    obtain ⟨op, hop, -, -, -, hrun⟩ := exec_packet hc
    rw [hrun]
    exact runCommand_good _ _ _ _ h opTable_good (opTable_good _ _ hop)
  | none =>
    cases c <;> dsimp only [exec]
    with_reducible
      case frameStamp => exact execFrameStamp_good _ _ _ _ _ h
      case rxFrameEnd => exact execRxFrameEnd_good _ _ _ h
      case rxOversize => exact execRxOversize_good _ _ _ h
      case rxSymbolAbort => exact execRxSymbolAbort_good _ _ _ _ h
      case grout => exact execGrout_good _ _ _ _ h
      case mergeRelease => exact execMergeRelease_good _ _ _ _ h
      case channelStall => exact execChannelStall_good _ _ _ _ h
      case lossOfSymbolLock => exact execLossOfSymbolLock_good _ _ _ _ h
      case pipelineLead => exact execPipelineLead_good _ _ _ _ h
      case endKeyStage => exact execEndKeyStage_good _ _ _ h
      case admission => exact execAdmission_good _ _ h
      case endKeyAdmission => exact execEndKeyAdmission_good _ _ h
      case modelStart => exact execModelStart_good _ _ _ h
      case modelEnd => exact execModelEnd_good _ _ _ h
      case aging => exact execAging_good _ _ _ h
      case physicalTxStart => exact execPhysicalTxStart_good _ _ _ h
      case txTileRead => exact execTxTileRead_good _ _ _ _ _ h
      case cutPoison => exact execCutPoison_good _ _ _ h
      case cutUnderrun => exact execCutUnderrun_good _ _ _ h
      case extractFrame => exact execExtractFrame_good _ _ _ _ h
      case injectDescriptor => exact execInjectDescriptor_good _ _ _ h
      case loopbackReentry => exact execLoopbackReentry_good _ _ h
      case pauseRx => exact execPauseRx_good _ _ _ h
      case pauseEnd => exact execPauseEnd_good _ _ _ h
      case pauseCeiling => exact execPauseCeiling_good _ _ _ h
      case pauseRearmEnd => exact execPauseRearmEnd_good _ _ _ h
      case disableDrainEnd => exact execDisableDrainEnd_good _ _ _ h
      case stagedChangeApply => exact execStagedChangeApply_good _ _ _ _ h
      case rebase => exact execRebase_good _ _ h
      case digestComplete => exact execDigestComplete_good _ _ h
      case ringCountUpdate => exact execRingCountUpdate_good _ _ _ h
      case learnNoticeApply => exact execLearnNoticeApply_good _ _ _ h
      case flapHoldEnd => exact execFlapHoldEnd_good _ _ _ _ _ h
      case l2Age => exact execL2Age_good _ _ _ h
      case tableScrub => exact execTableScrub_good _ _ _ _ _ _ h
      case ffLivenessDown => exact execFfLivenessDown_good _ _ _ h
      case ffLivenessUp => exact execFfLivenessUp_good _ _ _ h
      case l2FlushGroup => exact execL2FlushGroup_good _ _ _ h
      case fenceComplete => exact execFenceComplete_good _ _ _ h
      case fenceTimeout => exact execFenceTimeout_good _ _ _ h
      case courseOccurrence => exact execCourseOccurrence_good _ _ _ _ _ _ h
      case windowRelease => exact execWindowRelease_good _ _ _ _ h
      case courseSwap => exact execCourseSwap_good _ _ _ h
      case servoCycle => exact execServoCycle_good _ _ _ h
      case candidateQualify => exact execCandidateQualify_good _ _ _ h
      case voteWindowEnd => exact execVoteWindowEnd_good _ _ _ h
      case refPpsEdge => exact execRefPpsEdge_good _ _ _ _ h
      case ppsMissing => exact execPpsMissing_good _ _ _ h
      case refClockLost => exact execRefClockLost_good _ _ _ h
      case ptpRx => exact execPtpRx_good _ _ _ _ _ h
      case ptpTx => exact execPtpTx_good _ _ _ _ h
      case esmcRx => exact execEsmcRx_good _ _ _ _ h
      case esmcQlTimeout => exact execEsmcQlTimeout_good _ _ _ h
      case esmcTx => exact execEsmcTx_good _ _ _ h
      case xoLost => exact execXoLost_good _ _ h
      case xoResume => exact execXoResume_good _ _ h
      case aonTrim => exact execAonTrim_good _ _ h
      case keeperBandSearchDone => exact execKeeperBandSearchDone_good _ _ _ _ h
      case ppsOutput => exact execPpsOutput_good _ _ _ h
      case timeLatch => exact execTimeLatch_good _ _ h
      case tmarkTx => exact execTmarkTx_good _ _ _ _ _ h
      case tmarkRx => exact execTmarkRx_good _ _ _ _ _ _ _ h
      case timingFrameTx => exact execTimingFrameTx_good _ _ _ h
      case timingFrameRx => exact execTimingFrameRx_good _ _ _ _ h
      case beatSample => exact execBeatSample_good _ _ _ _ _ h
      case vernierCalDone => exact execVernierCalDone_good _ _ _ _ h
      case delayRunDone => exact execDelayRunDone_good _ _ _ _ _ _ _ h
      case ltRelockTimeout => exact execLtRelockTimeout_good _ _ _ h
      case asymWindowEnd => exact execAsymWindowEnd_good _ _ h
      case leaseExpiry => exact execLeaseExpiry_good _ _ h
      case keeperCheckFail => exact execKeeperCheckFail_good _ _ _ _ h
      case bondCellDisagree => exact execBondCellDisagree_good _ _ _ h
      case rejoinBandDone => exact execRejoinBandDone_good _ _ _ _ h
      case heartbeatTimeout => exact execHeartbeatTimeout_good _ _ h
      case interpreterFault => exact execInterpreterFault_good _ _ _ h
      case standbyFault => exact execStandbyFault_good _ _ _ h
      case coreTakeover => exact execCoreTakeover_good _ _ h
      case coreRestartDone => exact execCoreRestartDone_good _ _ _ _ h
      case footingCauseDetect => exact execFootingCauseDetect_good _ _ _ h
      case footingEntry => exact execFootingEntry_good _ _ h
      case bufPowerDown => exact execBufPowerDown_good _ _ h
      case footingCauseClear => exact execFootingCauseClear_good _ _ _ h
      case footingExitApply => exact execFootingExitApply_good _ _ h
      case detectHoldExpiry => exact execDetectHoldExpiry_good _ _ _ h
      case energyLost => exact execEnergyLost_good _ _ _ h
      case linkStateProgress => exact execLinkStateProgress_good _ _ _ _ h
      case linkStateTimeout => exact execLinkStateTimeout_good _ _ _ h
      case trainSetRx => exact execTrainSetRx_good _ _ _ _ _ _ _ h
      case symbolLock => exact execSymbolLock_good _ _ _ h
      case capxRx => exact execCapxRx_good _ _ _ _ _ _ _ h
      case calxLoopbackDone => exact execCalxLoopbackDone_good _ _ _ _ _ h
      case pllUnlock => exact execPllUnlock_good _ _ _ _ h
      case pllRelock => exact execPllRelock_good _ _ _ _ h
      case pllHopTimeout => exact execPllHopTimeout_good _ _ _ h
      case hbBandSearchDone => exact execHbBandSearchDone_good _ _ _ _ h
      case parkAuto => exact execParkAuto_good _ _ _ h
      case parkReqLapse => exact execParkReqLapse_good _ _ _ h
      case parkExit => exact execParkExit_good _ _ _ h
      case parkExitFail => exact execParkExitFail_good _ _ _ h
      case eyeMonitorUpdate => exact execEyeMonitorUpdate_good _ _ _ _ _ _ _ h
      case dieSensorRead => exact execDieSensorRead_good _ _ _ _ h
      case eqRunDone => exact execEqRunDone_good _ _ _ _ h
      case sidebandScan => exact execSidebandScan_good _ _ _ h
      case modulePresenceChange => exact execModulePresenceChange_good _ _ _ _ h
      case moduleReady => exact execModuleReady_good _ _ _ _ _ h
      case moduleAlarmPoll => exact execModuleAlarmPoll_good _ _ _ h
      case i2cTransactionDone => exact execI2cTransactionDone_good _ _ _ _ h
      case i2cRetry => exact execI2cRetry_good _ _ _ _ h
      case quadPowerUpDone => exact execQuadPowerUpDone_good _ _ _ h
      case evtInputEdge => exact execEvtInputEdge_good _ _ _ _ h
      case evtFilterDone => exact execEvtFilterDone_good _ _ _ h
      case evtAonLatch => exact execEvtAonLatch_good _ _ _ _ h
      case evtOutputEdge => exact execEvtOutputEdge_good _ _ _ _ h
      case timeioCalDone => exact execTimeioCalDone_good _ _ _ h
      case timStartEdge => exact execTimStartEdge_good _ _ _ _ _ h
      case timStopEdge => exact execTimStopEdge_good _ _ _ _ _ h
      case timGateEdge => exact execTimGateEdge_good _ _ _ _ _ h
      case timOverrange => exact execTimOverrange_good _ _ _ h
      case mrefLost => exact execMrefLost_good _ _ h
      case mrefLock => exact execMrefLock_good _ _ _ h
      case ckoBandSearchDone => exact execCkoBandSearchDone_good _ _ _ _ _ h
      case ckoAlignStart => exact execCkoAlignStart_good _ _ _ h
      case ckoBypass => exact execCkoBypass_good _ _ _ _ h
      case ckoReturn => exact execCkoReturn_good _ _ _ h
      case ckoProfileApply => exact execCkoProfileApply_good _ _ _ h
      case ckoSegmentEnd => exact execCkoSegmentEnd_good _ _ _ h
      case ckoRelock => exact execCkoRelock_good _ _ _ h
      case semAcquire => exact execSemAcquire_good _ _ _ h
      case semRenew => exact execSemRenew_good _ _ _ h
      case semRelease => exact execSemRelease_good _ _ _ h
      case semLeaseExpiry => exact execSemLeaseExpiry_good _ _ h
      case semLinkLost => exact execSemLinkLost_good _ _ _ h
      case semLeaseWrite => exact execSemLeaseWrite_good _ _ _ _ h
      case mbTimeoutWrite => exact execMbTimeoutWrite_good _ _ _ _ h
      case cmbGo => exact execCmbGo_good _ _ _ _ h
      case pmbGo => exact execPmbGo_good _ _ _ _ h
      case noticeTake => exact execNoticeTake_good _ _ _ h
      case mailboxTimeout => exact execMailboxTimeout_good _ _ _ h
      case batchTimeout => exact execBatchTimeout_good _ _ _ h
      case commandComplete => exact execCommandComplete_good _ _ h
      case rrRdWrite => exact execRrRdWrite_good _ _ _ _ h
      case ringEnable => exact execRingEnable_good _ _ _ _ h
      case ringDisable => exact execRingDisable_good _ _ _ h
      case dbRing => exact execDbRing_good _ _ _ _ h
      case dbMaskWrite => exact execDbMaskWrite_good _ _ _ _ h
      case functionLevelReset => exact execFunctionLevelReset_good _ _ _ h
      case hostReset => exact execHostReset_good _ _ _ h
      case registerWrite => exact execRegisterWrite_good _ _ _ _ h
      case acWatchdogExpiry => exact execAcWatchdogExpiry_good _ _ _ _ _ h
      case acFault => exact execAcFault_good _ _ _ _ _ _ h
      case wdogKick => exact execWdogKick_good _ _ _ h
      case acMailboxGo => exact execAcMailboxGo_good _ _ _ _ h
      case tkNowRead => exact execTkNowRead_good _ _ _ h
      case evcTimerExpiry => exact execEvcTimerExpiry_good _ _ _ _ h
      case timerEnable => exact execTimerEnable_good _ _ _ _ h
      case acMsgSend => exact execAcMsgSend_good _ _ _ _ _ h
      case acMsgPop => exact execAcMsgPop_good _ _ _ _ _ h
      case hostMsgSend => exact execHostMsgSend_good _ _ _ _ _ h
      case hostMsgPop => exact execHostMsgPop_good _ _ _ _ _ h
      case evcEvent => exact execEvcEvent_good _ _ _ _ _ _ h
      case evcClaim => exact execEvcClaim_good _ _ _ h
      case evcComplete => exact execEvcComplete_good _ _ _ _ h
      case evlogPop => exact execEvlogPop_good _ _ _ h
      case evcSoftSet => exact execEvcSoftSet_good _ _ _ _ h
      case evcDelivery => exact execEvcDelivery_good _ _ _ _ h
      case evcExit => exact execEvcExit_good _ _ _ h
      case palletTrigger => exact execPalletTrigger_good _ _ _ h
      case palletSnapshotStart => exact execPalletSnapshotStart_good _ _ h
      case palletDone => exact execPalletDone_good _ _ h
      case coldReset => exact execColdReset_good _ _ _ _ _ h
      case warmReset => exact execWarmReset_good _ _ _ h
      case resetRelease => exact execResetRelease_good _ _ h
      case bootImageVerify => exact execBootImageVerify_good _ _ _ _ h
      case recoveryLoad => exact execRecoveryLoad_good _ _ _ _ h
      case configPartRun => exact execConfigPartRun_good _ _ h
      case forwardingStart => exact execForwardingStart_good _ _ h
      case wakeTimerExpiry => exact execWakeTimerExpiry_good _ _ h
      case pwrWake => exact execPwrWake_good _ _ _ h
      case wake => exact execWake_good _ _ _ h
      case fwUpdateTimeout => exact execFwUpdateTimeout_good _ _ h
      case otpWriteDone => exact execOtpWriteDone_good _ _ h
      case flashEraseDone => exact execFlashEraseDone_good _ _ h
      case io33Low => exact execIo33Low_good _ _ h
      case io33Restore => exact execIo33Restore_good _ _ h
      case keeperSupplyReturn => exact execKeeperSupplyReturn_good _ _ _ h
      case hostResetRelease => exact execHostResetRelease_good _ _ _ h
      case ptpDelayReqTx => exact execPtpDelayReqTx_good _ _ _ h
      case ptpDelayReqRx => exact execPtpDelayReqRx_good _ _ _ _ _ h
      case evtCfgApply => exact execEvtCfgApply_good _ _ _ h
      case ckoDisableApply => exact execCkoDisableApply_good _ _ _ h
      case acImageVerified => exact execAcImageVerified_good _ _ _ h
      case rcFieldRead => exact execRcFieldRead_good _ _ _ _ _ h
    all_goals exact nomatch hc

/-- Settles O58: what a command keeps holds of the queue with no property of the memories asked. -/
theorem queueIsTheHosts : Obligations.QueueIsTheHosts := by
  intro i s t he
  have hs : s.Good (.queueOnly s.pending) := ⟨rfl, trivial, trivial, trivial, trivial, trivial, trivial, trivial⟩
  have ht : OutGood (.queueOnly s.pending) (.next t) := he ▸ exec_good i s hs
  exact ht.1

/-- Settles O36. -/
theorem stepRunsFrontCommand : Obligations.StepRunsFrontCommand := by
  intro c rest s hqueue
  rw [step, hqueue]

/-- Settles O37 (the model's choice, log entry 4). -/
theorem emptyQueueIdles : Obligations.EmptyQueueIdles := by
  intro s hqueue
  rw [step, hqueue]

/-- Settles O56: an empty queue idles, and the command at the front keeps every memory canonical whatever the rest of
the queue is. -/
theorem memoryStaysCanonical : Obligations.MemoryStaysCanonical := by
  intro s t hmem hstep
  cases hqueue : s.pending with
  | nil =>
    rw [emptyQueueIdles s hqueue] at hstep
    exact Host.Outcome.next.inj hstep ▸ hmem
  | cons c rest =>
    rw [stepRunsFrontCommand c rest s hqueue] at hstep
    have hs : State.Good (.canonical rest) { s with pending := rest } := ⟨rfl, hmem⟩
    have ht : OutGood (.canonical rest) (.next t) := hstep ▸ exec_good c _ hs
    exact ht.2

/-- Settles O57: the state after reset lists no byte in any memory. -/
theorem memoryCanonicalAtReset : Obligations.MemoryCanonicalAtReset :=
  ⟨⟨Memory.nil_wf, Memory.nil_wf, Memory.nil_wf, Memory.nil_wf, Memory.nil_wf, Memory.nil_wf, Memory.nil_wf⟩,
    rfl, rfl, rfl⟩

end Sys2Proof.Machine
end

section
/-! The semaphore (12 R494 to R498): what an acquire, a renewal, a release and an expiry do by who holds the semaphore
and by where the instant stands to the lease, and what leaves it as it is. -/

namespace Sys2Proof.Machine

namespace State

section Lease

variable {s : State} {h : HostPort} {t : Instant}

theorem semExpire_of_running (ht : t < s.host.sem.expiry) : s.semExpire t = s :=
  if_neg fun hx => absurd hx.2 (Nat.not_le.mpr ht)

theorem semExpire_of_free (hfree : s.semHolder = none) : s.semExpire t = s :=
  if_neg fun hx => by rw [hfree] at hx; exact absurd hx.1 Bool.false_ne_true

theorem semExpire_of_due (hheld : s.semHolder.isSome = true) (ht : s.host.sem.expiry ≤ t) :
    s.semExpire t = s.semFree 0x08#5 t :=
  if_pos ⟨hheld, ht⟩

theorem semLapse_of_free (hfree : s.semHolder = none) : s.semLapse t = s := by
  rw [semLapse, semExpire_of_free hfree, ite_self]

/-- A renewal may still come in the tick in which the lease runs out (12 R496). -/
theorem semLapse_of_tick (ht : t < s.host.sem.expiry + us 1) : s.semLapse t = s :=
  if_neg (Nat.not_le.mpr ht)

theorem semAcquire_of_holder (hheld : s.semHolder = some h) (ht : t < s.host.sem.expiry + us 1) :
    s.semAcquire h t = s.semRestart t := by
  simp only [semAcquire, semLapse_of_tick ht, hheld, if_true]

theorem semRenew_of_holder (hheld : s.semHolder = some h) (ht : t < s.host.sem.expiry + us 1) :
    s.semRenew h t = s.semRestart t := by
  simp only [semRenew, semLapse_of_tick ht, hheld, if_true]

theorem lt_add_us_of_lt {x : Instant} (ht : t < x) : t < x + us 1 := Nat.lt_of_lt_of_le ht (Nat.le_add_right ..)

theorem semAcquire_of_denied {g : HostPort} (hheld : s.semHolder = some g) (hother : g ≠ h)
    (ht : t < s.host.sem.expiry) : s.semAcquire h t = (s.semFlag h 0x02#5).countF h.pf0 1 := by
  simp only [semAcquire, semLapse_of_tick (lt_add_us_of_lt ht), semExpire_of_running ht, hheld, Option.some.injEq,
    hother, if_false]

/-- The semaphore granted to a host: EPOCH advances and the lease starts (12 R495). -/
def semGrant (s : State) (h : HostPort) (t : Instant) : State :=
  (({ s with host := { s.host with sem := { s.host.sem with
      owner := h.owner, epoch := (s.host.sem.epoch + 1) % 65536 } } } : State).semRestart t).semFlag h 0x01#5

theorem semAcquire_of_free (hfree : s.semHolder = none) : s.semAcquire h t = s.semGrant h t := by
  simp only [semAcquire, semLapse_of_free hfree, semExpire_of_free hfree, hfree, reduceCtorEq, if_false]
  rfl

theorem semRelease_of_running {why : BitVec 5} (hheld : s.semHolder = some h) (ht : t < s.host.sem.expiry) :
    s.semRelease h why t = s.semFree why t := by
  simp only [semRelease, semExpire_of_running ht, if_pos hheld]

end Lease

end State

theorem owner_eq_free_iff {s : State} : s.host.sem.owner = .free ↔ s.semHolder = none := by
  unfold State.semHolder
  cases s.host.sem.owner <;> simp

theorem exec_semAcquire_of_on {h : HostPort} {t : Instant} {s : State} (hon : s.hostOff h.pf0 = false) :
    exec (.semAcquire h t) s = .next ((s.tick t).semAcquire h t) :=
  if_neg (ne_true_of_eq_false hon)

/-- Settles O30: each event takes the branch that the holder and the lease select. The clause of a host that HOSTCFG
leaves off is the model's choice (14 R576; log entry 150). -/
theorem semaphoreEventsComplete : Obligations.SemaphoreEventsComplete := by
  refine ⟨?granted, ?denied, ?kept, ?off, ?renewed, ?released, ?linkLost, ?expired, ?leaseWrite, ?timeoutWrite⟩
  case granted =>
    intro h t s hon hfree
    have hfree' : (s.tick t).semHolder = none := owner_eq_free_iff.mp hfree
    exact (exec_semAcquire_of_on hon).trans (congrArg _ (State.semAcquire_of_free hfree'))
  case denied =>
    exact fun h t s g hon hheld hother ht =>
      (exec_semAcquire_of_on hon).trans (congrArg _ (State.semAcquire_of_denied (s := s.tick t) hheld hother ht))
  case kept =>
    exact fun h t s hon hheld ht =>
      (exec_semAcquire_of_on hon).trans (congrArg _ (State.semAcquire_of_holder (s := s.tick t) hheld ht))
  case off => exact fun h t s hoff => if_pos hoff
  case renewed =>
    exact fun h t s hheld ht => congrArg _ (State.semRenew_of_holder (s := s.tick t) hheld ht)
  case released =>
    exact fun h t s hheld ht => congrArg _ (State.semRelease_of_running (s := s.tick t) hheld ht)
  case linkLost =>
    exact fun h t s hheld ht => congrArg _ (State.semRelease_of_running (s := s.tick t) hheld ht)
  case expired =>
    intro t s hheld ht
    have hsome : (s.tick t).semHolder.isSome = true := Option.isSome_iff_ne_none.mpr hheld
    exact congrArg _ (State.semExpire_of_due hsome ht)
  case leaseWrite => exact fun h value t s hheld hmin hmax => congrArg _ (if_pos ⟨hheld, hmin, hmax⟩)
  case timeoutWrite => exact fun h value t s hheld hmin hmax => congrArg _ (if_pos ⟨hheld, hmin, hmax⟩)

/-! ### Who holds the semaphore afterwards -/

namespace State

theorem semHolder_congr {s u : State} (h : u.host.sem = s.host.sem) : u.semHolder = s.semHolder := by
  rw [semHolder, semHolder, h]

theorem setHostRegs_aside (s : State) (h : HostPort) (r : HostRegs) : s.Aside (s.setHostRegs h r) := by
  cases h <;> exact .of s

theorem semFlag_aside (s : State) (h : HostPort) (bits : BitVec 5) : s.Aside (s.semFlag h bits) :=
  (setHostRegs_aside ..).trans (ringDbBoth_eventOnly ..).aside

theorem semFree_sem {s : State} {h : HostPort} (hheld : s.semHolder = some h) (why : BitVec 5) (t : Instant) :
    (s.semFree why t).host.sem = { s.host.sem with owner := .free } := by
  simp only [semFree, hheld]
  exact ((semFlag_aside ..).trans <| (semFlag_aside ..).trans <| (abortBatch_aside ..).trans (abortBatch_aside ..)).2

theorem semFree_semHolder {s : State} {h : HostPort} (hheld : s.semHolder = some h) (why : BitVec 5) (t : Instant) :
    (s.semFree why t).semHolder = none := by
  rw [semHolder, semFree_sem hheld]

/-- A restart of the lease moves its end alone. -/
theorem semRestart_eq (s : State) (t : Instant) :
    ∃ e, s.semRestart t = { s with host := { s.host with sem := { s.host.sem with expiry := e } } } := ⟨_, rfl⟩

theorem semRestart_semHolder (s : State) (t : Instant) : (s.semRestart t).semHolder = s.semHolder := by
  obtain ⟨e, he⟩ := semRestart_eq s t
  rw [he]
  rfl

theorem semRestart_epoch (s : State) (t : Instant) : (s.semRestart t).host.sem.epoch = s.host.sem.epoch := by
  obtain ⟨e, he⟩ := semRestart_eq s t
  rw [he]

theorem semGrant_semHolder (s : State) (h : HostPort) (t : Instant) : (s.semGrant h t).semHolder = some h := by
  rw [semGrant, semHolder_congr (semFlag_aside ..).2, semRestart_semHolder]
  cases h <;> rfl

theorem semGrant_epoch (s : State) (h : HostPort) (t : Instant) :
    (s.semGrant h t).host.sem.epoch = (s.host.sem.epoch + 1) % 65536 := by
  rw [semGrant, (semFlag_aside ..).2, semRestart_epoch]

/-- A lease that has run out does not keep another host from the semaphore (12 R496). -/
theorem semAcquire_of_lapsed {s : State} {g h : HostPort} {t : Instant} (hheld : s.semHolder = some g) (hother : g ≠ h)
    (ht : s.host.sem.expiry ≤ t) : s.semAcquire h t = (s.semFree 0x08#5 t).semGrant h t := by
  have hfree := semFree_semHolder hheld 0x08#5 t
  have hdue : s.semExpire t = s.semFree 0x08#5 t := semExpire_of_due (by rw [hheld]; rfl) ht
  by_cases htick : t < s.host.sem.expiry + us 1
  · simp only [semAcquire, semLapse_of_tick htick, hheld, Option.some.injEq, hother, if_false, hdue, hfree]
    rfl
  · rw [← semAcquire_of_free hfree]
    have hlapse : s.semLapse t = s.semFree 0x08#5 t := (if_pos (Nat.not_lt.mp htick)).trans hdue
    simp only [semAcquire, hlapse, semLapse_of_free hfree]

/-- A holder that let its lease run out in an earlier tick is granted the semaphore anew. -/
theorem semAcquire_of_lapsed_holder {s : State} {h : HostPort} {t : Instant} (hheld : s.semHolder = some h)
    (ht : s.host.sem.expiry + us 1 ≤ t) : s.semAcquire h t = (s.semFree 0x08#5 t).semGrant h t := by
  have hfree := semFree_semHolder hheld 0x08#5 t
  have hlapse : s.semLapse t = s.semFree 0x08#5 t :=
    (if_pos ht).trans (semExpire_of_due (by rw [hheld]; rfl) (Nat.le_trans (Nat.le_add_right ..) ht))
  rw [← semAcquire_of_free hfree]
  simp only [semAcquire, hlapse, semLapse_of_free hfree]

theorem semRelease_semHolder {s : State} {h : HostPort} (hheld : s.semHolder = some h) (why : BitVec 5) (t : Instant) :
    (s.semRelease h why t).semHolder = none := by
  rcases Nat.lt_or_ge t s.host.sem.expiry with ht | ht
  · rw [semRelease_of_running hheld ht, semFree_semHolder hheld]
  · have hdue : s.semExpire t = s.semFree 0x08#5 t := semExpire_of_due (by rw [hheld]; rfl) ht
    have hfree := semFree_semHolder hheld 0x08#5 t
    simp only [semRelease, hdue, hfree, reduceCtorEq, if_false]

theorem dropUncommitted_aside (s : State) (x : Sender) : s.Aside (s.dropUncommitted x) :=
  Aside.trans (.of s) (foldl_aside _ _ fun _ _ => closeJrec_aside ..)

theorem fnReset_aside (s : State) (x : Sender) : s.Aside (s.fnReset x) := by
  unfold fnReset
  extract_lets mine s1 f s2
  have h1 : s.Aside s1 := foldl_aside mine s fun z _ => .of z
  have h2 : s1.Aside s2 := by
    simp only [s2]
    split
    · exact .refl s1
    · exact (countF_eventOnly ..).aside
  exact h1.trans <| h2.trans <| (setFn_eventOnly ..).aside.trans (dropUncommitted_aside ..)

theorem wakeSource_host (s : State) (bit : Nat) : (s.wakeSource bit).host = s.host := by
  rw [wakeSource]
  split <;> rfl

theorem perstEvent_sem (s : State) (h : HostPort) (released : Bool) (t : Instant) :
    (s.perstEvent h released t).host.sem = s.host.sem := by
  rw [← wakeSource_host s (10 + h.code)]
  simp only [perstEvent]
  split
  · rfl
  · exact (raise_eventOnly ..).sem

end State

/-- Settles O46: by the holder, and by where the instant stands to the lease. That a host which HOSTCFG leaves off
acquires nothing is the model's choice (14 R576; log entry 150). -/
theorem semaphoreGrants : Obligations.SemaphoreGrants := by
  intro h g t s hother
  refine ⟨fun hoff => if_pos hoff, fun hon => ?_⟩
  rw [exec_semAcquire_of_on hon]
  refine ⟨fun hheld ht => ⟨_, rfl, ?_⟩, fun hopen => ⟨_, rfl, ?_⟩, fun hheld ht => ⟨_, rfl, ?_⟩,
    fun hheld ht => ⟨_, rfl, ?_⟩⟩
  · rw [State.semAcquire_of_denied (s := s.tick t) hheld hother ht]
    have hsem := ((State.semFlag_aside (s.tick t) h 0x02#5).trans (State.countF_eventOnly _ h.pf0 1 1).aside).2
    exact ⟨(State.semHolder_congr hsem).trans hheld, congrArg Semaphore.epoch hsem⟩
  · rcases hopen with hfree | ⟨hheld, ht⟩
    · rw [State.semAcquire_of_free (s := s.tick t) hfree]
      exact ⟨State.semGrant_semHolder .., State.semGrant_epoch ..⟩
    · rw [State.semAcquire_of_lapsed (s := s.tick t) hheld hother ht]
      refine ⟨State.semGrant_semHolder .., ?_⟩
      rw [State.semGrant_epoch, State.semFree_sem (s := s.tick t) hheld]
      rfl
  · rw [State.semAcquire_of_holder (s := s.tick t) hheld ht]
    exact ⟨(State.semRestart_semHolder ..).trans hheld, State.semRestart_epoch ..⟩
  · rw [State.semAcquire_of_lapsed_holder (s := s.tick t) hheld ht]
    refine ⟨State.semGrant_semHolder .., ?_⟩
    rw [State.semGrant_epoch, State.semFree_sem (s := s.tick t) hheld]
    rfl

/-- Settles O45: a release frees the semaphore that the host holds, whether or not its lease has run out, and nothing
after it in a host reset touches the semaphore; nor does any step of a Function Level Reset. -/
theorem semaphoreReleasedOnLinkLoss : Obligations.SemaphoreReleasedOnLinkLoss := by
  intro h fn t s
  refine ⟨fun hheld hup => ⟨_, if_neg (ne_true_of_eq_false hup), ?_⟩, fun hheld => ⟨_, rfl, ?_⟩, ?_⟩
  · rw [State.semHolder_congr (State.perstEvent_sem ..), State.semHolder_congr (State.setHostRegs_aside ..).2,
      State.semHolder_congr (State.fnReset_aside ..).2, State.semHolder_congr (State.fnReset_aside ..).2]
    refine State.semRelease_semHolder ?_ 0x04#5 t
    rw [State.semHolder_congr (State.dropUncommitted_aside ..).2,
      State.semHolder_congr (State.dropUncommitted_aside ..).2]
    exact hheld
  · exact State.semRelease_semHolder (s := s.tick t) hheld 0x04#5 t
  · by_cases hfn : 4 ≤ fn.code
    · exact ⟨_, if_pos hfn, rfl⟩
    · exact ⟨_, if_neg hfn, (State.fnReset_aside ..).2⟩

end Sys2Proof.Machine
end

section
/-! Mailboxes, timeouts, rings, doorbells and host resets (12 R497 to R520; 13 R534): each event takes the branch that
its guards select. -/

namespace Sys2Proof.Machine

/-- The notice that a GO puts into a slot: the buffer that the mailbox registers name (12 R499, R500). -/
def goNotice (w : State) (x : Sender) (slot tag : Nat) (t : Instant) : Notice :=
  { sender := x, buf := { lo := (w.mbox x slot).lo, hi := (w.mbox x slot).hi, len := (w.mbox x slot).len }
    tag := tag % 65536, t := t, until_ := t + us w.host.mbTimeout }

section Go

variable {fn : Sender} {slot tag : Nat} {t : Instant} {s w : State}

/-- A GO of a host function into a free slot: it renews the semaphore of its host first, and may wake the device (12
R494, R500). -/
theorem sendNotice_of_host {g : HostPort} (hw : w = (s.wakeSource 13).semRenew g t) (hhost : fn.host = some g)
    (hcore : fn.core = none) (hholder : slot < 2 → w.holds fn = true) (hring : (w.fn fn).enable = true)
    (hfree : w.slotOf slot = none) :
    s.sendNotice fn slot tag t = w.setSlotOf slot (some (goNotice w fn slot tag t)) := by
  have hmay : (decide (slot < 2) && !w.holds fn) = false := by
    by_cases h : slot < 2
    · simp [h, hholder h]
    · simp [h]
  simp only [State.sendNotice, hhost, hcore, ← hw, hmay, hring, hfree, Bool.not_true, Bool.or_self,
    Bool.false_eq_true, if_false, goNotice]

/-- A GO of a core into its own slot, where that is free: it needs the permit (13 R534). -/
theorem sendNotice_of_core {core : AppCore} (hprivate : ¬ slot < 2) (hpermit : (s.ac core).permits.getLsbD 5 = true)
    (hring : (s.fn core.sender).enable = true) (hfree : s.slotOf slot = none) :
    s.sendNotice core.sender slot tag t = s.setSlotOf slot (some (goNotice s core.sender slot tag t)) := by
  have hhost : core.sender.host = none := by cases core <;> rfl
  have hcore : core.sender.core = some core := by cases core <;> rfl
  simp only [State.sendNotice, hhost, hcore, hprivate, hpermit, hring, hfree, decide_false, Bool.false_and,
    Bool.not_true, Bool.or_self, Bool.false_eq_true, if_false, goNotice]

theorem not_far_or_off (hfn : fn.code < 4) (hon : s.hostOff fn = false) :
    ¬ (4 ≤ fn.code ∨ (s.tick t).hostOff fn = true) :=
  fun h => h.elim (Nat.not_le.mpr hfn) (ne_true_of_eq_false hon)

theorem execCmbGo_of_on (hfn : fn.code < 4) (hon : s.hostOff fn = false) :
    execCmbGo fn tag t s = .next ((s.tick t).sendNotice fn (if fn.pf1 then 1 else 0) tag t) :=
  if_neg (not_far_or_off hfn hon)

theorem execPmbGo_of_on (hfn : fn.code < 4) (hon : s.hostOff fn = false) :
    execPmbGo fn tag t s = .next ((s.tick t).sendNotice fn (2 + fn.code) tag t) :=
  if_neg (not_far_or_off hfn hon)

end Go

theorem execAcMailboxGo_of_running {core : AppCore} {tag : Nat} {t : Instant} {s : State}
    (hrun : ((s.tick t).ac core).status = .running) :
    execAcMailboxGo core tag t s = .next ((s.tick t).sendNotice core.sender (2 + core.sender.code) tag t) :=
  if_pos hrun

theorem two_add_private (n : Nat) : ¬ 2 + n < 2 := Nat.not_lt.mpr (Nat.le_add_right ..)

section Rings

variable {fn : Sender} {t : Instant} {s : State}

theorem ringEnable_of_inRange {log2 : Nat} (hdisabled : (s.fn fn).enable = false) (hmin : 4 ≤ log2)
    (hmax : log2 ≤ if fn.code < 4 then 12 else 8) :
    s.ringEnable fn log2 =
      s.setFn fn { s.fn fn with enable := true, log2 := log2, wr := 0, rd := 0, phase := true } := by
  have htaken : ¬ ((s.fn fn).enable = true ∨ log2 < 4 ∨ (if fn.code < 4 then 12 else 8) < log2) := by
    rw [hdisabled]
    rintro (h | h | h)
    · exact Bool.false_ne_true h
    · exact Nat.not_lt.mpr hmin h
    · exact Nat.not_lt.mpr hmax h
  exact if_neg htaken

theorem ringDisable_of_idle (henabled : (s.fn fn).enable = true) (hidle : s.openOf fn = 0) :
    s.ringDisable fn = s.setFn fn { s.fn fn with enable := false } := by
  simp only [State.ringDisable, henabled, hidle, Bool.not_true, Bool.false_eq_true, if_false, if_true]

/-- A write that clears ENABLE waits for the open commands of the function (12 R520). -/
theorem ringDisable_of_open (henabled : (s.fn fn).enable = true) (hopen : s.openOf fn ≠ 0) :
    s.ringDisable fn = s.setFn fn { s.fn fn with disableWanted := true } := by
  simp only [State.ringDisable, henabled, hopen, Bool.not_true, Bool.false_eq_true, if_false]

end Rings

/-- Settles O31: a lemma for each event with a guard says which branch it takes. The clauses of a host that HOSTCFG
leaves off are the model's choice (14 R576; log entry 150). -/
theorem mailboxEventsComplete : Obligations.MailboxEventsComplete := by
  refine ⟨?cmbGo, ?pmbGo, ?acMailboxGo, ?mailboxTimeout, ?batchTimeout, ?commandComplete, ?rrRdWrite, ?ringEnable,
    ?ringDisable, ?ringDisableWaits, ?dbRing, ?dbMaskWrite, ?cmbGoOff, ?pmbGoOff, ?rrRdWriteOff, ?ringEnableOff,
    ?dbRingOff, ?dbMaskWriteOff, ?functionLevelReset, ?hostReset, ?hostResetRelease⟩
  case cmbGo =>
    rintro fn tag t s g w _ hw rfl hhost hcore hfn hon hholds hring hfree
    exact (execCmbGo_of_on hfn hon).trans
      (congrArg _ (sendNotice_of_host hw hhost hcore (fun _ => hholds) hring hfree))
  case pmbGo =>
    rintro fn tag t s g w _ hw rfl hhost hcore hfn hon hring hfree
    exact (execPmbGo_of_on hfn hon).trans
      (congrArg _ (sendNotice_of_host hw hhost hcore (fun h => absurd h (two_add_private _)) hring hfree))
  case acMailboxGo =>
    exact fun core tag t s hrun hpermit hring hfree =>
      (execAcMailboxGo_of_running hrun).trans
        (congrArg _ (sendNotice_of_core (two_add_private _) hpermit hring hfree))
  case mailboxTimeout =>
    intro slot t s n hslot hdue
    dsimp only [exec, execMailboxTimeout]
    rw [hslot]
    exact if_pos hdue
  case batchTimeout =>
    intro fn t s last hbatch hdue
    dsimp only [exec, execBatchTimeout, State.tick_host]
    rw [hbatch]
    exact if_pos hdue
  case commandComplete =>
    intro t s j f hnext
    dsimp only [exec, execCommandComplete]
    rw [hnext]
  case rrRdWrite => exact fun fn value t s hon => if_neg (ne_true_of_eq_false hon)
  case ringEnable =>
    exact fun fn log2 t s hon hdisabled hmin hmax =>
      (if_neg (ne_true_of_eq_false hon)).trans (congrArg _ (ringEnable_of_inRange hdisabled hmin hmax))
  case ringDisable => exact fun fn t s henabled hidle => congrArg _ (ringDisable_of_idle henabled hidle)
  case ringDisableWaits => exact fun fn t s henabled hopen => congrArg _ (ringDisable_of_open henabled hopen)
  case dbRing => exact fun fn value t s hfn hon => if_neg (not_far_or_off hfn hon)
  case dbMaskWrite => exact fun fn value t s hfn hon => if_neg (not_far_or_off hfn hon)
  case cmbGoOff => exact fun fn tag t s hoff => if_pos (.inr hoff)
  case pmbGoOff => exact fun fn tag t s hoff => if_pos (.inr hoff)
  case rrRdWriteOff => exact fun fn value t s hoff => if_pos hoff
  case ringEnableOff => exact fun fn log2 t s hoff => if_pos hoff
  case dbRingOff => exact fun fn value t s hoff => if_pos (.inr hoff)
  case dbMaskWriteOff => exact fun fn value t s hoff => if_pos (.inr hoff)
  case functionLevelReset => exact fun fn t s hfn => if_neg (Nat.not_le.mpr hfn)
  case hostReset =>
    intro h t s w hup hw
    dsimp only [exec, execHostReset]
    rw [if_neg (ne_true_of_eq_false hup), hw]
  case hostResetRelease =>
    intro h t s hdown
    exact if_neg (by rw [hdown]; exact Bool.false_ne_true)

end Sys2Proof.Machine
end

section
/-! Registers, BAR2, the notice that is served next and the system commands (12 R490, R492, R502, R522), and what reset
leaves. -/

namespace Sys2Proof.Machine

section Registers

variable {fn : Sender} {t : Instant} {s : State}

theorem execRegisterWrite_bar0 {off : Nat} {value : Word} {en : BitVec 4} (hfn : fn.code < 4)
    (hon : s.hostOff fn = false) (haligned : off % 4 = 0) (hen : en ≠ 0) :
    execRegisterWrite fn (.bar0 off value en) t s =
      .next ((s.tick t).regWrite fn off { v := value, m := State.enMask en } t) := by
  have htaken : ¬ (4 ≤ fn.code ∨ (s.tick t).hostOff fn = true ∨ off % 4 ≠ 0 ∨ en = 0) := by
    rintro (h | h | h | h)
    · exact Nat.not_le.mpr hfn h
    · exact ne_true_of_eq_false hon h
    · exact h haligned
    · exact hen h
  exact if_neg htaken

theorem execRegisterWrite_bar2 {off : Nat} {bytes : List Byte} (hfn : fn.code < 4) (hon : s.hostOff fn = false) :
    execRegisterWrite fn (.bar2 off bytes) t s =
      .next { s.tick t with host := { s.host with
        sram := s.host.sram.writeN (State.quarterBase fn + off) (bytes.take (0x80000 - off)) } } :=
  if_neg (not_far_or_off hfn hon)

theorem execRegisterWrite_core {addr : Nat} {value : Word} {c : AppCore} (hcore : fn.core = some c)
    (hrun : (s.ac c).status = .running) :
    execRegisterWrite fn (.core addr value) t s = .next ((s.tick t).mapWrite c addr value t) := by
  dsimp only [execRegisterWrite]
  rw [hcore]
  exact if_pos hrun

theorem execRcFieldRead_of_inRange {off len : Nat} (hfn : fn.code < 4) (hon : s.hostOff fn = false)
    (haligned : off % 4 = 0) (hmin : 0 < len) (hmax : len ≤ 128) :
    execRcFieldRead fn off len t s =
      let r := State.readDwords fn t ((len + 3) / 4) off len (s.tick t)
      .next { r.2 with host := { r.2.host with lastRead := r.1 } } := by
  have htaken : ¬ (4 ≤ fn.code ∨ (s.tick t).hostOff fn = true ∨ off % 4 ≠ 0 ∨ len = 0 ∨ 128 < len) := by
    rintro (h | h | h | h | h)
    · exact Nat.not_le.mpr hfn h
    · exact ne_true_of_eq_false hon h
    · exact h haligned
    · exact Nat.pos_iff_ne_zero.mp hmin h
    · exact Nat.not_lt.mpr hmax h
  exact if_neg htaken

end Registers

theorem execNoticeTake_of_late {slot : Nat} {n : Notice} {dma : Option (List Word)} {t : Instant} {s : State}
    (hready : s.host.ready = true) (hnext : (s.tick t).nextNotice = some (slot, n)) (hlate : n.until_ < t) :
    execNoticeTake dma t s = .next ((s.tick t).timeoutNotice slot n) := by
  simp only [execNoticeTake, State.tick_host, hready, Bool.not_true, Bool.false_eq_true, if_false, hnext, if_pos hlate]

/-- Settles O35: a lemma for each access says which branch its guards select. -/
theorem registerAndNoticeEventsComplete : Obligations.RegisterAndNoticeEventsComplete := by
  refine ⟨?bar0, ?bar0Long, ?bar2, ?coreMap, ?read, ?take, ?timeout⟩
  case bar0 =>
    rintro fn _ t s off value en hfn hon rfl haligned hen
    exact execRegisterWrite_bar0 hfn hon haligned hen
  case bar0Long =>
    rintro fn _ t s off hfn hon rfl
    exact if_neg (not_far_or_off hfn hon)
  case bar2 =>
    rintro fn _ t s off bytes hfn hon rfl
    exact execRegisterWrite_bar2 hfn hon
  case coreMap =>
    rintro fn _ t s addr value c rfl hcore hrun
    exact execRegisterWrite_core hcore hrun
  case read =>
    intro fn off len t s r hfn hon haligned hmin hmax hr
    rw [hr]
    exact execRcFieldRead_of_inRange hfn hon haligned hmin hmax
  case take => exact fun dma t s slot n hready hnext hintime => execNoticeTake_of_next hready hnext hintime
  case timeout => exact fun dma t s slot n hready hnext hlate => execNoticeTake_of_late hready hnext hlate

/-- Settles O51: the write changes the SRAM alone, and there the bytes written alone. -/
theorem bar2WritesItsQuarter : Obligations.Bar2WritesItsQuarter := by
  intro fn off bytes t s hfn hon hfits hmem
  have hall : bytes.take (0x80000 - off) = bytes := List.take_of_length_le (by omega)
  have hrun := execRegisterWrite_bar2 (t := t) (off := off) (bytes := bytes) hfn hon
  rw [hall] at hrun
  refine ⟨_, hrun, .of s, fun c => by cases c <;> rfl, fun i hi => ?_, fun a ha => ?_⟩
  · exact Memory.read_writeN_in hmem.1 _ bytes hi
  · exact Memory.read_writeN_out _ _ bytes ha

/-! ### The notice served next -/

/-- The earlier of the notice chosen so far and that of a further slot; the one chosen stays on a tie (12 R502). -/
def earlierNotice (s : State) (best : Option (Nat × Notice)) (i : Nat) : Option (Nat × Notice) :=
  match s.slotOf i with
  | none => best
  | some n =>
    match best with
    | none => some (i, n)
    | some b => if n.t < b.2.t then some (i, n) else best

theorem nextNotice_eq_foldl (s : State) : s.nextNotice = (List.range 8).foldl (earlierNotice s) none := rfl

/-- Of the slots below `k`, the choice is the one to serve: its notice stands there, none has an earlier GO, and none
with the same GO a lower number; with no choice the slots are empty. -/
def ServesFirst (s : State) (k : Nat) (best : Option (Nat × Notice)) : Prop :=
  (∀ i n, best = some (i, n) → i < k ∧ s.slotOf i = some n ∧
    ∀ j m, j < k → s.slotOf j = some m → n.t < m.t ∨ (n.t = m.t ∧ i ≤ j))
  ∧ (best = none → ∀ j, j < k → s.slotOf j = none)

section Step

variable {s : State} {k : Nat}

theorem ServesFirst.skip {best : Option (Nat × Notice)} (h : ServesFirst s k best) (hk : s.slotOf k = none) :
    ServesFirst s (k + 1) best := by
  refine ⟨fun i n hbest => ?_, fun hbest j hj => ?_⟩
  · obtain ⟨hi, hslot, hfirst⟩ := h.1 i n hbest
    refine ⟨Nat.lt_succ_of_lt hi, hslot, fun j m hj hm => ?_⟩
    rcases Nat.lt_succ_iff_lt_or_eq.mp hj with hj | rfl
    · exact hfirst j m hj hm
    · exact nomatch hk.symm.trans hm
  · rcases Nat.lt_succ_iff_lt_or_eq.mp hj with hj | rfl
    · exact h.2 hbest j hj
    · exact hk

/-- A choice holds of one slot more if it goes before that slot's notice. -/
theorem servesFirst_some {i : Nat} {n : Notice} (hi : i < k + 1) (hslot : s.slotOf i = some n)
    (hbelow : ∀ j m, j < k → s.slotOf j = some m → n.t < m.t ∨ (n.t = m.t ∧ i ≤ j))
    (hlast : ∀ m, s.slotOf k = some m → n.t < m.t ∨ (n.t = m.t ∧ i ≤ k)) :
    ServesFirst s (k + 1) (some (i, n)) := by
  refine ⟨fun i' n' he => ?_, nofun⟩
  obtain ⟨rfl, rfl⟩ := Prod.mk.inj (Option.some.inj he)
  refine ⟨hi, hslot, fun j m hj hm => ?_⟩
  rcases Nat.lt_succ_iff_lt_or_eq.mp hj with hj | rfl
  · exact hbelow j m hj hm
  · exact hlast m hm

theorem ServesFirst.step {best : Option (Nat × Notice)} (h : ServesFirst s k best) :
    ServesFirst s (k + 1) (earlierNotice s best k) := by
  cases hk : s.slotOf k with
  | none =>
    simp only [earlierNotice, hk]
    exact h.skip hk
  | some n =>
    have hown : ∀ m, s.slotOf k = some m → n.t < m.t ∨ (n.t = m.t ∧ k ≤ k) := fun m hm =>
      .inr ⟨congrArg Notice.t (Option.some.inj (hk.symm.trans hm)), le_rfl⟩
    cases best with
    | none =>
      simp only [earlierNotice, hk]
      exact servesFirst_some (Nat.lt_succ_self k) hk (fun j m hj hm => nomatch (h.2 rfl j hj).symm.trans hm) hown
    | some b =>
      obtain ⟨hi, hslot, hfirst⟩ := h.1 b.1 b.2 rfl
      by_cases hearlier : n.t < b.2.t
      · simp only [earlierNotice, hk, if_pos hearlier]
        refine servesFirst_some (Nat.lt_succ_self k) hk (fun j m hj hm => .inl ?_) hown
        rcases hfirst j m hj hm with hlater | ⟨hsame, -⟩
        · exact Nat.lt_trans hearlier hlater
        · exact hsame ▸ hearlier
      · simp only [earlierNotice, hk, if_neg hearlier]
        refine servesFirst_some (Nat.lt_succ_of_lt hi) hslot hfirst fun m hm => ?_
        obtain rfl := Option.some.inj (hk.symm.trans hm)
        rcases Nat.lt_or_eq_of_le (Nat.not_lt.mp hearlier) with hlater | hsame
        · exact .inl hlater
        · exact .inr ⟨hsame, Nat.le_of_lt hi⟩

end Step

theorem servesFirst_foldl (s : State) (k : Nat) : ServesFirst s k ((List.range k).foldl (earlierNotice s) none) := by
  induction k with
  | zero => exact ⟨nofun, fun _ j hj => absurd hj (Nat.not_lt_zero j)⟩
  | succ k ih =>
    rw [List.range_succ, List.foldl_append]
    exact ih.step

/-- Settles O41: the choice among the slots below 8. That the lowest slot goes first among notices of the same GO,
beyond the common mailboxes before the others, is the model's choice. -/
theorem noticesServedInOrder : Obligations.NoticesServedInOrder := by
  intro s
  have hserves := servesFirst_foldl s 8
  rw [← nextNotice_eq_foldl] at hserves
  exact hserves

/-! ### The system commands -/

/-- Settles O16: no body refuses. That JOURNAL_GET lists its own record, which is open while it runs, is the model's
choice (log entry 15). -/
theorem systemCommandsComplete : Obligations.SystemCommandsComplete := by
  refine ⟨?nop, ?sysInfoGet, ?journalGet⟩
  case nop => exact fun r s hacc => exec_done rfl hacc rfl
  case sysInfoGet =>
    intro r s hacc
    rw [← taken_pwr opSysInfoGet r s]
    exact exec_done rfl hacc rfl
  case journalGet => exact fun r s hacc hok => exec_done rfl hacc (refuseIf_of_ok hok ..)

/-- Settles O39: the empty tables of the reset state read as their entries' own reset values. -/
theorem resetValues : Obligations.ResetValues :=
  ⟨rfl, rfl, rfl, rfl, rfl, fun _ => rfl, rfl, rfl, rfl, rfl, rfl, rfl, rfl, rfl, fun _ => ⟨rfl, rfl, rfl⟩⟩

end Sys2Proof.Machine
end

section
/-! The event concentrator (13 R538 to R547): which source a claim takes, and what an event writes to the log of a host.
A counter that increases under a key writes the pallet of the snapshot in progress too. -/

namespace Sys2Proof.Machine

namespace State

/-! ### What doorbells leave -/

theorem msixSend_cores (s : State) (x : Sender) (v : Nat) : (s.msixSend x v).cores = s.cores := by
  unfold msixSend
  extract_lets r
  split <;> rfl

theorem ringDb_cores (s : State) (x : Sender) (bit : Nat) : (s.ringDb x bit).cores = s.cores := by
  unfold ringDb
  extract_lets r s1
  split
  · rfl
  · split
    · rfl
    · exact msixSend_cores ..

theorem ringDbBoth_cores (s : State) (h : HostPort) (bit : Nat) : (s.ringDbBoth h bit).cores = s.cores :=
  (ringDb_cores ..).trans (ringDb_cores ..)

theorem recheck_cores (before s : State) (t : Target) : (recheck before s t).cores = s.cores := by
  unfold recheck
  split
  · rfl
  · split
    · exact ringDbBoth_cores ..
    · rfl

/-! ### What a counter leaves -/

theorem setPallet_targets (s : State) (n : Nat) (p : Pallet) :
    (s.setPallet n p).cores.targets = s.cores.targets ∧ (s.setPallet n p).cores.pendSh = s.cores.pendSh := by
  unfold setPallet
  split <;> exact ⟨rfl, rfl⟩

theorem countPast_targets (s : State) (i n : Nat) :
    (s.countPast i n).cores.targets = s.cores.targets ∧ (s.countPast i n).cores.pendSh = s.cores.pendSh := by
  unfold countPast
  split
  · split
    · exact setPallet_targets ..
    · exact ⟨rfl, rfl⟩
  · exact ⟨rfl, rfl⟩

theorem countQuiet_targets (s : State) (i n : Nat) :
    (s.countQuiet i n).cores.targets = s.cores.targets ∧ (s.countQuiet i n).cores.pendSh = s.cores.pendSh := by
  unfold countQuiet
  extract_lets u old
  have hu : u.cores.targets = s.cores.targets ∧ u.cores.pendSh = s.cores.pendSh := countPast_targets ..
  split
  · exact hu
  · split <;> exact hu

theorem target_congr {s u : State} (h : u.cores.targets = s.cores.targets) (k : Target) : u.target k = s.target k := by
  rw [target, target, h]

/-- A written target reads back where what is written is not what an unlisted target reads as. -/
theorem target_setTarget {s : State} {k : Target} {v : EvcTarget} (hv : v ≠ {}) : (s.setTarget k v).target k = v := by
  show ((if v = {} then Tbl.del s.cores.targets k.code else Tbl.put s.cores.targets k.code v).find k.code).getD {} = v
  rw [if_neg hv, Tbl.find_put_same]
  rfl

end State

/-! ### The claim -/

/-- A choice is the claimable source of highest priority among those below `k`, the lowest of equal priority. -/
def ClaimsBest (s : State) (t : Target) (k : Nat) (best : Option Nat) : Prop :=
  (∀ i, best = some i → i < k ∧ s.claimable t i = true ∧
    ∀ x, x < k → s.claimable t x = true → s.prioAt t x < s.prioAt t i ∨ (s.prioAt t x = s.prioAt t i ∧ i ≤ x))
  ∧ (best = none → ∀ x, x < k → s.claimable t x = false)

section Step

variable {s : State} {t : Target} {k : Nat} {best : Option Nat}

/-- One step of the choice: a claimable source replaces one of lower priority. -/
def betterClaim (s : State) (t : Target) (best : Option Nat) (src : Nat) : Option Nat :=
  if s.claimable t src then
    match best with
    | none => some src
    | some b => if s.prioAt t b < s.prioAt t src then some src else best
  else best

theorem ClaimsBest.skip (h : ClaimsBest s t k best) (hk : s.claimable t k = false) : ClaimsBest s t (k + 1) best := by
  refine ⟨fun i hbest => ?_, fun hbest x hx => ?_⟩
  · obtain ⟨hi, hclaim, htop⟩ := h.1 i hbest
    refine ⟨Nat.lt_succ_of_lt hi, hclaim, fun x hx hxc => ?_⟩
    rcases Nat.lt_succ_iff_lt_or_eq.mp hx with hx | rfl
    · exact htop x hx hxc
    · exact absurd hxc (ne_true_of_eq_false hk)
  · rcases Nat.lt_succ_iff_lt_or_eq.mp hx with hx | rfl
    · exact h.2 hbest x hx
    · exact hk

/-- A choice holds of one source more if it goes before that source. -/
theorem claimsBest_some {i : Nat} (hi : i < k + 1) (hclaim : s.claimable t i = true)
    (hbelow : ∀ x, x < k → s.claimable t x = true →
      s.prioAt t x < s.prioAt t i ∨ (s.prioAt t x = s.prioAt t i ∧ i ≤ x))
    (hlast : s.prioAt t k < s.prioAt t i ∨ (s.prioAt t k = s.prioAt t i ∧ i ≤ k)) :
    ClaimsBest s t (k + 1) (some i) := by
  refine ⟨fun i' he => ?_, nofun⟩
  obtain rfl := Option.some.inj he
  refine ⟨hi, hclaim, fun x hx hxc => ?_⟩
  rcases Nat.lt_succ_iff_lt_or_eq.mp hx with hx | rfl
  · exact hbelow x hx hxc
  · exact hlast

theorem ClaimsBest.step (h : ClaimsBest s t k best) : ClaimsBest s t (k + 1) (betterClaim s t best k) := by
  unfold betterClaim
  split
  case isFalse hk => exact h.skip (Bool.eq_false_iff.mpr hk)
  case isTrue hk =>
    cases best with
    | none =>
      exact claimsBest_some (Nat.lt_succ_self k) hk (fun x hx hxc => absurd hxc (ne_true_of_eq_false (h.2 rfl x hx)))
        (.inr ⟨rfl, le_rfl⟩)
    | some b =>
      obtain ⟨hb, hbc, htop⟩ := h.1 b rfl
      dsimp only
      split
      case isTrue hhigher =>
        refine claimsBest_some (Nat.lt_succ_self k) hk (fun x hx hxc => .inl ?_) (.inr ⟨rfl, le_rfl⟩)
        rcases htop x hx hxc with hlower | ⟨hsame, -⟩
        · exact Nat.lt_trans hlower hhigher
        · exact hsame ▸ hhigher
      case isFalse hlower =>
        refine claimsBest_some (Nat.lt_succ_of_lt hb) hbc htop ?_
        rcases Nat.lt_or_eq_of_le (Nat.not_lt.mp hlower) with hlower | hsame
        · exact .inl hlower
        · exact .inr ⟨hsame, Nat.le_of_lt hb⟩

end Step

theorem claimsBest_foldl (s : State) (t : Target) (k : Nat) :
    ClaimsBest s t k ((List.range k).foldl (betterClaim s t) none) := by
  induction k with
  | zero => exact ⟨nofun, fun _ x hx => absurd hx (Nat.not_lt_zero x)⟩
  | succ k ih =>
    rw [List.range_succ, List.foldl_append]
    exact ih.step

theorem bestClaim_claimsBest (s : State) (t : Target) : ClaimsBest s t 176 (s.bestClaim t) := claimsBest_foldl s t 176

section Bits

variable {w : Nat} {b : BitVec w} {i : Nat}

theorem getLsbD_bit (hi : i < w) : (BitVec.ofNat w (2 ^ i)).getLsbD i = true := by
  rw [BitVec.getLsbD_ofNat, decide_eq_true hi, Nat.testBit_two_pow_self]
  rfl

theorem getLsbD_or_bit (hi : i < w) : (b ||| BitVec.ofNat w (2 ^ i)).getLsbD i = true := by
  rw [BitVec.getLsbD_or, getLsbD_bit hi, Bool.or_true]

theorem getLsbD_clear_bit (hi : i < w) : (b &&& ~~~ BitVec.ofNat w (2 ^ i)).getLsbD i = false := by
  rw [BitVec.getLsbD_and, BitVec.getLsbD_not, getLsbD_bit hi, Bool.not_true, Bool.and_false, Bool.and_false]

end Bits

/-- What a claim leaves in the target: the source in service, and one of its own no longer pending. -/
def claimedTarget (v : EvcTarget) (src : Nat) : EvcTarget :=
  { v with
    pend := if 160 ≤ src then v.pend &&& ~~~ BitVec.ofNat 16 (2 ^ (src - 160)) else v.pend
    inServ := v.inServ ||| BitVec.ofNat 176 (2 ^ src) }

theorem claimedTarget_inServ (v : EvcTarget) {src : Nat} (hsrc : src < 176) :
    (claimedTarget v src).inServ.getLsbD src = true :=
  getLsbD_or_bit hsrc

theorem claimSource_target (s : State) (t : Target) {src : Nat} (hsrc : src < 176) :
    (s.claimSource t src).target t = claimedTarget (s.target t) src := by
  have hne : claimedTarget (s.target t) src ≠ {} := fun he => by
    have hbit := claimedTarget_inServ (s.target t) hsrc
    rw [he] at hbit
    simp at hbit
  unfold State.claimSource
  split <;> exact State.target_setTarget hne

theorem claimSource_pendSh (s : State) (t : Target) {src : Nat} (hsrc : src < 160) :
    (s.claimSource t src).cores.pendSh.getLsbD src = false := by
  unfold State.claimSource
  rw [if_pos hsrc]
  exact getLsbD_clear_bit hsrc

theorem exec_evcClaim_of_some {target : Target} {t : Instant} {s : State} {src : Nat}
    (hbest : (s.tick t).bestClaim target = some src) :
    exec (.evcClaim target t) s = .next { (s.tick t).claimSource target src with
      host := { ((s.tick t).claimSource target src).host with lastRead := [word (2147483648 + src)] } } := by
  simp only [exec, execEvcClaim, hbest]

theorem exec_evcClaim_of_none {target : Target} {t : Instant} {s : State} (hbest : (s.tick t).bestClaim target = none) :
    exec (.evcClaim target t) s = .next { (s.tick t).count (0x7EF0 + 2 * target.code + 1) with
      host := { ((s.tick t).count (0x7EF0 + 2 * target.code + 1)).host with lastRead := [0] } } := by
  simp only [exec, execEvcClaim, hbest]

/-- Settles O53: the choice is the fold's, and a claim puts the source in service and ends its pending. -/
theorem claimTakesBestSource : Obligations.ClaimTakesBestSource := by
  refine fun target t s => ⟨fun src hbest => ?some, fun hbest => ?none⟩
  case some =>
    obtain ⟨hsrc, hclaim, htop⟩ := (bestClaim_claimsBest (s.tick t) target).1 src hbest
    have htarget := claimSource_target (s.tick t) target hsrc
    refine ⟨hsrc, hclaim, htop, _, (exec_evcClaim_of_some hbest), rfl, ?served,
      fun hshared => claimSource_pendSh _ target hshared, fun hpriv => ?pend⟩
    case served => exact (congrArg (·.inServ.getLsbD src) htarget).trans (claimedTarget_inServ _ hsrc)
    case pend =>
      refine (congrArg (·.pend.getLsbD (src - 160)) htarget).trans ?_
      rw [claimedTarget, if_pos hpriv]
      exact getLsbD_clear_bit (by omega)
  case none =>
    exact ⟨(bestClaim_claimsBest (s.tick t) target).2 hbest, _, exec_evcClaim_of_none hbest, rfl⟩

/-! ### The event log -/

section Log

variable {s : State} {k : Target} {code src : Nat} {ps : List Byte} {latched : Bool} {a : Instant}

/-- The three words before the parameters of an event record, and the parameters (13 R548). -/
def eventRecord (seq code src : Nat) (ps : List Byte) (latched : Bool) (a : Instant) : List Word :=
  [word (code * 65536 + src * 256 + seq), (instantWords a).getD 0 0,
    word (atBit latched 31 + ((instantWords a).getD 2 0).toNat)] ++ State.paramWords ps

/-- A target after an event: the record at the end of the log while it has room, else LOG_OVF (13 R547). -/
def loggedTarget (v : EvcTarget) (code src : Nat) (ps : List Byte) (latched : Bool) (a : Instant) : EvcTarget :=
  { v with
    log := if v.log.length < 64 then v.log ++ [eventRecord v.seq code src ps latched a] else v.log
    ovf := v.ovf || decide (64 ≤ v.log.length)
    seq := (v.seq + 1) % 256 }

theorem loggedTarget_ne (v : EvcTarget) : loggedTarget v code src ps latched a ≠ {} := by
  intro he
  have hlog : (loggedTarget v code src ps latched a).log = [] := congrArg EvcTarget.log he
  dsimp only [loggedTarget] at hlog
  split at hlog
  · exact List.append_ne_nil_of_right_ne_nil _ (List.cons_ne_nil _ _) hlog
  case isFalse hfull => exact hfull (by rw [hlog]; decide)

theorem logEvent_cores :
    (s.logEvent k code src ps latched a).target k = loggedTarget (s.target k) code src ps latched a
      ∧ (s.logEvent k code src ps latched a).cores.pendSh = s.cores.pendSh := by
  have hset : (s.setTarget k (loggedTarget (s.target k) code src ps latched a)).target k = _ :=
    State.target_setTarget (loggedTarget_ne (s.target k))
  unfold State.logEvent
  extract_lets v ts rec_ s1
  split
  · obtain ⟨htargets, hpend⟩ := State.countQuiet_targets s1 (0x7EF0 + 2 * k.code) 1
    exact ⟨(State.target_congr htargets k).trans hset, hpend⟩
  · exact ⟨hset, rfl⟩

end Log

theorem effTarget_of_ne {s : State} {k : Target} (hk : k ≠ .cc0) : s.effTarget k = k := if_neg fun hx => hk hx.1

/-- An event of a source with a priority, routed to a host: its source pends and the host's log takes it. -/
theorem raise_logged {s : State} {code src : Nat} {ps : List (List Byte)} {a : Instant} {latched : Bool} {k : Target}
    (hroute : s.effTarget (s.route src).target = k) (hprio : 0 < (s.route src).prio)
    (htakes : s.takesRecords k = true) :
    (s.raise code src ps a latched).target k = loggedTarget (s.target k) code src (State.packParams ps) latched a
      ∧ (s.raise code src ps a latched).cores.pendSh = s.cores.pendSh ||| BitVec.ofNat 160 (2 ^ src) := by
  unfold State.raise
  dsimp only
  rw [hroute, htakes, decide_eq_true hprio, Bool.and_self, if_pos rfl]
  generalize hs1 : ({ s with cores := { s.cores with pendSh := _ } } : State) = s1
  have hcores := State.recheck_cores s (s1.logEvent k code src (State.packParams ps) latched a) k
  obtain ⟨htarget, hpend⟩ := logEvent_cores (s := s1) (k := k) (code := code) (src := src) (ps := State.packParams ps)
    (latched := latched) (a := a)
  subst hs1
  exact ⟨(State.target_congr (congrArg CoresState.targets hcores) k).trans htarget,
    (congrArg CoresState.pendSh hcores).trans hpend⟩

/-- Settles O55: the log takes a record while it has room. -/
theorem eventLogKeepsSixtyFour : Obligations.EventLogKeepsSixtyFour := by
  intro code src ps a latched s h hsrc hroute hprio
  have heff : s.effTarget (s.route src).target = (s.route src).target :=
    effTarget_of_ne (by rw [hroute]; cases h <;> decide)
  have htakes : s.takesRecords (s.route src).target = true := by rw [hroute]; cases h <;> rfl
  obtain ⟨htarget, hpend⟩ := raise_logged (code := code) (ps := ps) (a := a) (latched := latched) heff hprio htakes
  refine ⟨?pended, ?seq, fun hroom => ?room, fun hfull => ?full⟩
  case pended => rw [hpend]; exact getLsbD_or_bit hsrc
  case seq => rw [htarget]; rfl
  case room =>
    rw [htarget, loggedTarget, if_pos hroom]
    exact ⟨List.length_append, List.take_left⟩
  case full =>
    rw [htarget, loggedTarget, if_neg (Nat.not_lt.mpr hfull), decide_eq_true hfull, Bool.or_true]
    exact ⟨rfl, rfl⟩

/-! ### A saturated counter under a key -/

/-- A saturated counter, and a snapshot in progress whose T is past the key of the event being carried out. -/
def saturatedUnderKey : State :=
  { State.reset with cores := {
      counters := [(0, 18446744073709551615)], key := some 0, snaps := [{ t := 1, pallet := 0, begun := true }] } }

/-- Refutes O49: an increment of a counter at all ones that is keyed before the T of the snapshot in progress leaves the
counter and writes the pallet's image (13 R553), so the state is not as it was. -/
theorem not_countersSaturate : ¬ Obligations.CountersSaturate := by
  intro h
  obtain ⟨-, -, hsame, -⟩ := h saturatedUnderKey 0 1
  have himage := congrArg (fun s => s.cores.pallet0.image) (hsame rfl)
  exact absurd himage (by decide)

end Sys2Proof.Machine
end

section
/-! The commands of the application cores, the event concentrator, the counters and the pallets (13 R562 to R568). -/

namespace Sys2Proof

namespace Memory

/-- A read outside the words written gives what it gave. -/
theorem read_writeWords_out (m : Memory) (a : Nat) (ws : List Word) {c : Nat} (h : c < a ∨ a + 4 * ws.length ≤ c) :
    (m.writeWords a ws).read c = m.read c := by
  induction ws generalizing m a with
  | nil => rfl
  | cons w r ih =>
    rw [List.length_cons] at h
    have hword : (bytesLE 4 w.toNat).length = 4 := rfl
    exact (ih (m.writeWord a w) (a + 4) (by omega)).trans (read_writeN_out m a _ (by omega))

/-- A read of a byte of a word written gives it, the first byte lowest. -/
theorem read_writeWords_in {m : Memory} (h : m.wf = true) (a : Nat) (ws : List Word) {i k : Nat} (hi : i < ws.length)
    (hk : k < 4) : (m.writeWords a ws).read (a + 4 * i + k) = (bytesLE 4 (ws.getD i 0).toNat).getD k 0 := by
  induction ws generalizing m a i with
  | nil => cases hi
  | cons w r ih =>
    cases i with
    | zero =>
      refine (read_writeWords_out (m.writeWord a w) (a + 4) r (.inl (by omega))).trans ?_
      exact read_writeN_in h a (bytesLE 4 w.toNat) hk
    | succ i =>
      have hnext := ih (writeWord_wf h a w) (a + 4) (i := i) (Nat.lt_of_succ_lt_succ hi)
      rw [show a + 4 * (i + 1) + k = a + 4 + 4 * i + k by omega]
      exact hnext

end Memory

namespace Machine

/-! ### Application cores -/

theorem loadData_length (r : Req) : (loadData r).length = r.pw - 2 := by
  rw [loadData, List.length_map, List.length_range]

theorem bytesLE_getD {n v k : Nat} (hk : k < n) : (bytesLE n v).getD k 0 = BitVec.ofNat 8 (v / 2 ^ (8 * k)) := by
  simp [bytesLE, List.getD_eq_getElem?_getD, hk]

/-- The bytes of a word of data are those of its number. -/
theorem loadData_byte (r : Req) {i k : Nat} (hi : i < r.pw - 2) (hk : k < 4) :
    (bytesLE 4 ((loadData r).getD i 0).toNat).getD k 0 = BitVec.ofNat 8 (r.w (6 + i) / 2 ^ (8 * k)) := by
  have hword : (loadData r).getD i 0 = word (r.w (6 + i)) := by
    simp [loadData, List.getD_eq_getElem?_getD, hi]
  have hlt : r.w (6 + i) < 2 ^ 32 := BitVec.isLt _
  rw [bytesLE_getD hk, hword, word, BitVec.toNat_ofNat, Nat.mod_eq_of_lt hlt]

section Bodies

variable {c : Ctx} {s : State}

theorem bodyAcLoad_of_busy (hbusy : (s.ac (coreOf c.r)).status = .running ∨ (s.ac (coreOf c.r)).status = .held) :
    bodyAcLoad c s = .fail State.stState [] := by
  refine if_pos ?_
  rcases hbusy with hbusy | hbusy <;> rw [hbusy] <;> rfl

theorem bodyAcLoad_of_bad
    (hidle : ((s.ac (coreOf c.r)).status == .running || (s.ac (coreOf c.r)).status == .held) = false)
    (hbad : okAcLoad c.r = false) : bodyAcLoad c s = .fail State.stBadParam [] :=
  (refuseIf_of_false hidle ..).trans (if_pos (congrArg not hbad))

/-- The TCM after a load: its data words from OFFSET on, over what stood there or over zeros (13 R562). -/
def loadedTcm (r : Req) (m : Memory) : Memory :=
  Memory.writeWords (if r.b 4 8 then [] else m) (r.f 5 0 18) (loadData r)

theorem bodyAcLoad_of_inRange
    (hidle : ((s.ac (coreOf c.r)).status == .running || (s.ac (coreOf c.r)).status == .held) = false)
    (hok : okAcLoad c.r = true) :
    bodyAcLoad c s = .done (s.setAc (coreOf c.r)
      { s.ac (coreOf c.r) with tcm := loadedTcm c.r (s.ac (coreOf c.r)).tcm, status := .loaded }) :=
  (refuseIf_of_false hidle ..).trans (refuseIf_of_ok hok ..)

theorem bodyAcStart_of_loaded
    (hstate : ((s.ac (coreOf c.r)).status == .loaded || (s.ac (coreOf c.r)).status == .stopped
      || (s.ac (coreOf c.r)).status == .faulted) = true)
    (hok : okAcStart c.r = true) (hidle : (s.ac (coreOf c.r)).starting = none)
    (hkey : (activeKey s.pwr.otp.apps).isNone = false) :
    bodyAcStart c s = .wait (s.setAc (coreOf c.r) { s.ac (coreOf c.r) with starting := some (c.jid, c.r) }) :=
  (refuseIf_of_ok hstate ..).trans <| (refuseIf_of_ok hok ..).trans <|
    (refuseIf_of_false (congrArg Option.isSome hidle) ..).trans (if_neg (Bool.eq_false_iff.mp hkey))

theorem bodyAcStop_of_running (hrun : (s.ac (coreOf c.r)).status = .running) (honly : c.r.only 4 1 = true) :
    bodyAcStop c s =
      .done ((s.stopCore (coreOf c.r) .stopped c.t).1.setAc (coreOf c.r)
        { (s.stopCore (coreOf c.r) .stopped c.t).1.ac (coreOf c.r) with
          stopPc := ((s.stopCore (coreOf c.r) .stopped c.t).1.ac (coreOf c.r)).pc })
        [word (s.stopCore (coreOf c.r) .stopped c.t).2] := by
  have hstate : ((s.ac (coreOf c.r)).status != .running) = false := by rw [hrun]; rfl
  exact (refuseIf_of_false hstate ..).trans (refuseIf_of_ok honly ..)

end Bodies

theorem tcm_wf {s : State} (h : s.memOk) (c : AppCore) : (s.ac c).tcm.wf = true := by
  obtain ⟨-, h0, h1, -⟩ := h
  cases c
  · exact h0
  · exact h1

theorem base_wf (clear : Bool) {m : Memory} (h : m.wf = true) : Memory.wf (if clear then [] else m) = true := by
  split
  · exact Memory.nil_wf
  · exact h

/-- Settles O50: the checks come in this order, and the words written are read back byte by byte. -/
theorem acLoadWritesTcm : Obligations.AcLoadWritesTcm := by
  intro r s hacc hmem
  rw [← taken_ac opAcLoad r s]
  refine ⟨fun hbusy => exec_fail rfl hacc (bodyAcLoad_of_busy hbusy), fun hrun hheld => ?idle⟩
  have hidle : (((taken opAcLoad r s).ac (coreOf r)).status == .running
      || ((taken opAcLoad r s).ac (coreOf r)).status == .held) = false :=
    Bool.or_eq_false_iff.mpr ⟨beq_false_of_ne hrun, beq_false_of_ne hheld⟩
  refine ⟨fun hlong => ?long, fun hok => ?loaded⟩
  case long =>
    have hbad : okAcLoad r = false := by
      rw [okAcLoad, decide_eq_false (Nat.not_le.mpr hlong), Bool.and_false]
    exact exec_fail rfl hacc (bodyAcLoad_of_bad hidle hbad)
  case loaded =>
    refine ⟨_, _, exec_done rfl hacc (bodyAcLoad_of_inRange hidle hok), rfl, fun i k hi hk => ?_, fun a ha => ?_⟩
    · have hwf := base_wf (r.b 4 8) (tcm_wf hmem (coreOf r))
      rw [← taken_ac opAcLoad r s] at hwf
      exact (Memory.read_writeWords_in hwf _ _ (by rwa [loadData_length]) hk).trans (loadData_byte r hi hk)
    · refine (Memory.read_writeWords_out _ _ _ (by rwa [loadData_length])).trans ?_
      split <;> rfl

/-- Settles O14: no body refuses, and the core that it reads is as it stood before the take. -/
theorem coreCommandsComplete : Obligations.CoreCommandsComplete := by
  refine ⟨?load, ?start, ?stop, ?statusGet, ?permitSet, ?permitGet⟩
  case load =>
    intro r s hacc hidle hok
    rw [← taken_ac opAcLoad r s] at hidle ⊢
    exact exec_done rfl hacc (bodyAcLoad_of_inRange hidle hok)
  case start =>
    intro r s hacc hstate hok hidle hkey
    rw [← taken_ac opAcStart r s] at hstate hidle ⊢
    rw [← taken_pwr opAcStart r s] at hkey
    exact exec_wait rfl hacc (bodyAcStart_of_loaded hstate hok hidle hkey)
  case stop =>
    intro r s hacc hrun honly
    rw [← taken_ac opAcStop r s] at hrun
    exact exec_done rfl hacc (bodyAcStop_of_running hrun honly)
  case statusGet =>
    intro r s hacc honly
    rw [← taken_ac opAcStatusGet r s]
    exact exec_done rfl hacc (refuseIf_of_ok honly ..)
  case permitSet =>
    intro r s hacc honly
    rw [← taken_ac opAcPermitSet r s]
    exact exec_done rfl hacc (refuseIf_of_ok honly ..)
  case permitGet =>
    intro r s hacc honly
    rw [← taken_ac opAcPermitGet r s]
    exact exec_done rfl hacc (refuseIf_of_ok honly ..)

/-! ### Events, counters and pallets -/

section Bodies

variable {c : Ctx} {s : State}

theorem bodyEvcTargetSet_of_target {t : Target} (ht : evcTargetOf c.r = some t) (honly : c.r.only 4 0x707 = true) :
    bodyEvcTargetSet c s = .done (State.recheckHosts s
      (s.setTarget t { s.target t with split := c.r.f 4 8 3, prio := targetPrios c.r })) := by
  rw [bodyEvcTargetSet, ht]
  exact refuseIf_of_ok honly ..

theorem bodyEvcTargetGet_of_target {t : Target} (ht : evcTargetOf c.r = some t) (honly : c.r.only 4 7 = true) :
    bodyEvcTargetGet c s =
      .done s (word ((s.target t).split * 256 + c.r.f 4 0 3) :: (s.target t).prioWords) := by
  rw [bodyEvcTargetGet, ht]
  exact refuseIf_of_ok honly ..

/-- PALLET_SNAPSHOT with PERIODIC and a period of 0 stops the periodic snapshots (13 R568). -/
theorem bodyPalletSnapshot_of_stop (hok : okPalletSnapshot c.r = true) (hper : c.r.b 4 31 = true)
    (hzero : c.r.w 5 = 0) :
    bodyPalletSnapshot c s = .done (({ s with cores := { s.cores with periodic := none, perJid := none } }).finishOpt
      s.cores.perJid State.stAborted [] c.t) := by
  refine (refuseIf_of_ok hok ..).trans (if_pos ?_)
  rw [hper, hzero]
  rfl

section Idle

variable (hok : okPalletSnapshot c.r = true) (hidle : s.snapBusy = false) (hlead : c.t < snapInstant c.a c.t)
include hok hidle hlead

theorem bodyPalletSnapshot_of_single (hsingle : c.r.b 4 31 = false) :
    bodyPalletSnapshot c s = .wait (s.setSnaps (s.cores.snaps ++
      [{ t := snapInstant c.a c.t, pallet := c.r.f 4 0 2, jid := some c.jid }])) := by
  have hstop : ¬ (c.r.b 4 31 && c.r.w 5 == 0) = true := by rw [hsingle]; exact Bool.false_ne_true
  exact (refuseIf_of_ok hok ..).trans <| (if_neg hstop).trans <| (if_neg (Bool.eq_false_iff.mp hidle)).trans <|
    (if_neg (Nat.not_le.mpr hlead)).trans (if_neg (Bool.eq_false_iff.mp hsingle))

theorem bodyPalletSnapshot_of_periodic (hper : c.r.b 4 31 = true) (hn : c.r.w 5 ≠ 0) :
    bodyPalletSnapshot c s = .wait { s.finishOpt s.cores.perJid State.stAborted [] c.t with
      cores := { (s.finishOpt s.cores.perJid State.stAborted [] c.t).cores with
        periodic := some (snapInstant c.a c.t, c.r.w 5), perJid := some c.jid } } := by
  have hstop : ¬ (c.r.b 4 31 && c.r.w 5 == 0) = true := by
    rw [hper, Bool.true_and, beq_iff_eq]
    exact hn
  exact (refuseIf_of_ok hok ..).trans <| (if_neg hstop).trans <| (if_neg (Bool.eq_false_iff.mp hidle)).trans <|
    (if_neg (Nat.not_le.mpr hlead)).trans (if_pos hper)

end Idle

end Bodies

/-- Settles O15: no body refuses. That a snapshot without apply-at has a lead too (log entry 83), and that an earlier
periodic PALLET_SNAPSHOT ends ABORTED, is the model's choice. -/
theorem eventAndCounterCommandsComplete : Obligations.EventAndCounterCommandsComplete := by
  refine ⟨?routeSet, ?routeGet, ?targetSet, ?targetGet, ?counterGet, ?palletGet, ?catalogGet, ?single, ?periodic, ?stop⟩
  case routeSet =>
    exact fun r s hacc hok hclear =>
      exec_done rfl hacc ((refuseIf_of_ok hok ..).trans (refuseIf_of_false hclear ..))
  case routeGet => exact fun r s hacc hok => exec_done rfl hacc (refuseIf_of_ok hok ..)
  case targetSet => exact fun r s t hacc ht honly => exec_done rfl hacc (bodyEvcTargetSet_of_target ht honly)
  case targetGet => exact fun r s t hacc ht honly => exec_done rfl hacc (bodyEvcTargetGet_of_target ht honly)
  case counterGet =>
    intro r s hacc hmay hok
    rw [← countersPf0_taken opCounterGet r s] at hmay
    exact exec_done rfl hacc ((refuseIf_of_ok hmay ..).trans (refuseIf_of_ok hok ..))
  case palletGet =>
    intro r s hacc hmay hvalid hok
    rw [← countersPf0_taken opPalletGet r s] at hmay
    exact exec_done rfl hacc
      ((refuseIf_of_ok hmay ..).trans <| (refuseIf_of_ok hvalid ..).trans (refuseIf_of_ok hok ..))
  case catalogGet =>
    intro r s hacc hmay hok
    rw [← countersPf0_taken opCounterCatalogGet r s] at hmay
    exact exec_done rfl hacc ((refuseIf_of_ok hmay ..).trans (refuseIf_of_ok hok ..))
  case single =>
    exact fun r s hacc hok hidle hlead hsingle =>
      exec_wait rfl hacc (bodyPalletSnapshot_of_single hok hidle hlead hsingle)
  case periodic =>
    exact fun r s hacc hok hidle hlead hper hn =>
      exec_wait rfl hacc (bodyPalletSnapshot_of_periodic hok hidle hlead hper hn)
  case stop => exact fun r s hacc hok hper hzero => exec_done rfl hacc (bodyPalletSnapshot_of_stop hok hper hzero)

end Machine

end Sys2Proof
end

section
/-! The events of the application cores, the event concentrator and the pallets (13 R527 to R554): each takes the branch
that its guards select, and what a guard reads stands as before the event, whose tick moves time alone. -/

namespace Sys2Proof.Machine

@[simp] theorem State.tick_ac (s : State) (t : Instant) (c : AppCore) : (s.tick t).ac c = s.ac c := by cases c <;> rfl

@[simp] theorem State.tick_target (s : State) (t : Instant) (k : Target) : (s.tick t).target k = s.target k := rfl

/-! ### Cores -/

section Core

variable {core : AppCore} {t : Instant} {s : State}

theorem execAcWatchdogExpiry_of_due (hrun : (s.ac core).status = .running) (hset : 0 < (s.ac core).wdog)
    (hdue : (s.ac core).lastKick + us (s.ac core).wdog ≤ t) (pc mcause : Word) :
    execAcWatchdogExpiry core pc mcause t s = .next ((s.tick t).coreFault core 1 pc mcause t) := by
  rw [← s.tick_ac t core] at hrun hset hdue
  exact if_pos ⟨hrun, hset, hdue⟩

theorem execAcFault_of_running (hrun : (s.ac core).status = .running) {cause : Nat} (hcause : cause = 2 ∨ cause = 3)
    (pc mcause : Word) :
    execAcFault core cause pc mcause t s = .next ((s.tick t).coreFault core cause pc mcause t) := by
  rw [← s.tick_ac t core] at hrun
  exact if_pos ⟨hrun, hcause⟩

theorem execWdogKick_of_running (hrun : (s.ac core).status = .running) :
    execWdogKick core t s = .next ((s.tick t).setAc core { s.ac core with lastKick := t }) := by
  rw [← s.tick_ac t core] at hrun ⊢
  exact if_pos hrun

theorem execAcMsgSend_of_running (hrun : (s.ac core).status = .running) (toH1 : Bool) :
    execAcMsgSend core true toH1 t s = .next (if toH1 then ((s.tick t).sendToHost core .h0).sendToHost core .h1
      else (s.tick t).sendToHost core .h0) := by
  rw [← s.tick_ac t core] at hrun
  exact if_neg (not_not.mpr hrun)

theorem execAcMsgPop_of_running (hrun : (s.ac core).status = .running) (popH0 popH1 : Bool) :
    execAcMsgPop core popH0 popH1 t s = .next ((s.tick t).setAc core { s.ac core with
      fromH0 := if popH0 then (s.ac core).fromH0.drop 1 else (s.ac core).fromH0
      fromH1 := if popH1 then (s.ac core).fromH1.drop 1 else (s.ac core).fromH1 }) := by
  rw [← s.tick_ac t core] at hrun ⊢
  exact if_neg (not_not.mpr hrun)

theorem execHostMsgSend_of_on {h : HostPort} (hon : s.hostOff h.pf0 = false) (ac0 : Bool) :
    execHostMsgSend h ac0 true t s =
      .next ((if ac0 then (s.tick t).sendToCore h .ac0 else s.tick t).sendToCore h .ac1) :=
  if_neg (Bool.eq_false_iff.mp hon)

section Image

variable {j : Nat} {r : Req} (hstart : (s.ac core).starting = some (j, r))
include hstart

theorem execAcImageVerified_of_ok {key : List Byte} (hkey : activeKey s.pwr.otp.apps = some key)
    (hsig : ecdsaOk key ((s.tick t).imageHash core r) (sigNat r 8) (sigNat r 20) = true) :
    execAcImageVerified core t s =
      .next ((((s.tick t).setAc core { s.ac core with starting := none }).coreRuns core r
        ((s.tick t).imageHash core r) t).finish j State.stOk [] t) := by
  simp only [execAcImageVerified, State.tick_ac, State.tick_pwr, hstart, hkey, hsig, Bool.not_true, Bool.false_eq_true,
    if_false]

theorem execAcImageVerified_of_no_key (hkey : activeKey s.pwr.otp.apps = none) :
    execAcImageVerified core t s =
      .next (((s.tick t).setAc core { s.ac core with starting := none }).finish j State.stNotPermitted [1] t) := by
  simp only [execAcImageVerified, State.tick_ac, State.tick_pwr, hstart, hkey]

end Image

end Core

section Timers

variable {k : Target} {t : Instant} {s : State} {x y : EvcTimer}

theorem execEvcTimerExpiry_zero (hfire : State.fireTimer (s.target k).timer0 t = some x) :
    execEvcTimerExpiry k 0 t s =
      .next (((s.tick t).setTarget k { s.target k with timer0 := x }).raisePrivate k 160) := by
  simp only [execEvcTimerExpiry, nonpos_iff_eq_zero, OfNat.ofNat_ne_zero, if_false, if_true, State.tick_target, hfire]

theorem execEvcTimerExpiry_one (hfire : State.fireTimer (s.target k).timer1 t = some x) :
    execEvcTimerExpiry k 1 t s =
      .next (((s.tick t).setTarget k { s.target k with timer1 := x }).raisePrivate k 161) := by
  simp only [execEvcTimerExpiry, Nat.not_ofNat_le_one, if_false, one_ne_zero, State.tick_target, hfire]

/-- A write of TIMER_CTRL sets both timers, and one whose compare instant is past raises its source (13 R535). -/
theorem execTimerEnable_eq {value : Nat} {a b : Bool}
    (h0 : State.enableTimer (s.target k).timer0 (flag value 0) t = (x, a))
    (h1 : State.enableTimer (s.target k).timer1 (flag value 1) t = (y, b)) :
    execTimerEnable k value t s =
      let w := (s.tick t).setTarget k { s.target k with timer0 := x, timer1 := y }
      let u := if a then w.raisePrivate k 160 else w
      .next (if b then u.raisePrivate k 161 else u) := by
  simp only [execTimerEnable, State.tick_target, h0, h1]

end Timers

/-- Settles O32: a lemma for each guarded event says which branch its guards select. -/
theorem coreEventsComplete : Obligations.CoreEventsComplete := by
  refine ⟨?watchdog, ?fault, ?kick, ?now, ?timer0, ?timer1, ?enabled, ?enabledPast, ?toBoth, ?toH0, ?pop, ?hostBoth,
    ?hostAc1, ?hostPopAc0, ?hostPopBoth, ?verified, ?refused⟩
  case watchdog => exact fun core pc mcause t s hrun hset hdue => execAcWatchdogExpiry_of_due hrun hset hdue pc mcause
  case fault => exact fun core cause pc mcause t s hrun hcause => execAcFault_of_running hrun hcause pc mcause
  case kick => exact fun core t s hrun => execWdogKick_of_running hrun
  case now => exact fun target t s => rfl
  case timer0 =>
    rintro target _ t s x rfl hfire
    exact execEvcTimerExpiry_zero hfire
  case timer1 =>
    rintro target _ t s x rfl hfire
    exact execEvcTimerExpiry_one hfire
  case enabled => exact fun target value t s x y h0 h1 => execTimerEnable_eq h0 h1
  case enabledPast => exact fun target value t s x y h0 h1 => execTimerEnable_eq h0 h1
  case toBoth =>
    rintro core _ _ t s hrun rfl rfl
    exact execAcMsgSend_of_running hrun true
  case toH0 =>
    rintro core _ _ t s hrun rfl rfl
    exact execAcMsgSend_of_running hrun false
  case pop => exact fun core popH0 popH1 t s hrun => execAcMsgPop_of_running hrun popH0 popH1
  case hostBoth =>
    rintro h _ _ t s hon rfl rfl
    exact execHostMsgSend_of_on hon true
  case hostAc1 =>
    rintro h _ _ t s hon rfl rfl
    exact execHostMsgSend_of_on hon false
  case hostPopAc0 =>
    rintro h _ _ t s rfl rfl
    rfl
  case hostPopBoth =>
    rintro h _ _ t s rfl rfl
    rfl
  case verified =>
    rintro core t s j r key _ _ hstart hkey rfl rfl hsig
    exact execAcImageVerified_of_ok hstart hkey hsig
  case refused => exact fun core t s j r hstart hkey => execAcImageVerified_of_no_key hstart hkey

/-! ### The event concentrator -/

section Service

variable {k : Target} {src : Nat} {t : Instant} {s w : State}

/-- A target with the service of a source ended (13 R544). -/
def endService (s : State) (k : Target) (src : Nat) (t : Instant) : State :=
  (s.tick t).setTarget k { s.target k with inServ := (s.target k).inServ &&& ~~~ BitVec.ofNat 176 (2 ^ src) }

section Serving

variable (hsrc : src < 176) (hserv : (s.target k).inServ.getLsbD src = true)
include hsrc hserv

theorem serving_taken : ¬ (176 ≤ src ∨ (!((s.tick t).target k).inServ.getLsbD src) = true) := by
  rw [State.tick_target, hserv]
  rintro (hfar | hnot)
  · exact Nat.not_le.mpr hsrc hfar
  · exact absurd hnot Bool.false_ne_true

section Routed

variable (hhere : 160 ≤ src ∨ s.effTarget (s.route src).target = k)
include hhere

omit hsrc hserv in
theorem routed_taken : ¬ (src < 160 ∧ (s.tick t).effTarget ((s.tick t).route src).target ≠ k) := by
  rintro ⟨hshared, hmoved⟩
  rcases hhere with hprivate | hhere
  · exact Nat.not_le.mpr hshared hprivate
  · exact hmoved hhere

theorem execEvcComplete_of_core (hcore : k.host = none) :
    execEvcComplete k src t s = .next (endService s k src t) := by
  unfold execEvcComplete
  refine (if_neg (serving_taken hsrc hserv)).trans (congrArg _ ((if_neg (routed_taken hhere)).trans ?_))
  rw [hcore]
  rfl

/-- The end of a service at a host: with claims left its doorbell rings again (13 R544). -/
theorem execEvcComplete_of_host {h : HostPort} (hhost : k.host = some h) :
    execEvcComplete k src t s = .next (if 0 < (endService s k src t).claimCount k then
      (endService s k src t).ringDbBoth h 16 else endService s k src t) := by
  unfold execEvcComplete
  refine (if_neg (serving_taken hsrc hserv)).trans (congrArg _ ((if_neg (routed_taken hhere)).trans ?_))
  rw [hhost]
  rfl

end Routed

/-- The end of a service at a core, of a shared source that now routes elsewhere: its target is looked at again. -/
theorem execEvcComplete_of_moved (hcore : k.host = none) (hshared : src < 160)
    (hmoved : s.effTarget (s.route src).target ≠ k) :
    execEvcComplete k src t s =
      .next (State.recheck (s.tick t) (endService s k src t) (s.effTarget (s.route src).target)) := by
  unfold execEvcComplete
  refine (if_neg (serving_taken hsrc hserv)).trans (congrArg _ ((if_pos ⟨hshared, hmoved⟩).trans ?_))
  rw [hcore]
  rfl

end Serving

end Service

section Delivery

variable {core : AppCore} {t : Instant} {s : State} {src : Nat} (hrun : (s.ac core).status = .running)
include hrun

theorem execEvcDelivery_of_deliverable (hmie : (s.ac core).mie = true)
    (hsrc : (s.tick t).deliverable core.target = some src) (pc : Word) :
    execEvcDelivery core pc t s = .next ((s.tick t).coreDelivers core pc src) := by
  simp only [execEvcDelivery, State.tick_ac, hrun, hmie, ne_eq, not_true, Bool.not_true, Bool.false_eq_true, or_self,
    if_false, hsrc]

theorem execEvcExit_of_none (hdepth : 0 < (s.ac core).depth) (hnone : (s.tick t).deliverable core.target = none) :
    execEvcExit core t s = .next ((s.tick t).coreReturns core) := by
  simp only [execEvcExit, State.tick_ac, hrun, Nat.pos_iff_ne_zero.mp hdepth, ne_eq, not_true, or_self, if_false, hnone]

/-- With a source to deliver the core goes on to its handler (13 R546). -/
theorem execEvcExit_of_deliverable (hdepth : 0 < (s.ac core).depth)
    (hsrc : (s.tick t).deliverable core.target = some src) :
    execEvcExit core t s = .next ((s.tick t).enterVector core src) := by
  simp only [execEvcExit, State.tick_ac, hrun, Nat.pos_iff_ne_zero.mp hdepth, ne_eq, not_true, or_self, if_false, hsrc]

end Delivery

/-! ### Pallets -/

section Pallets

variable {t : Instant} {s : State}

theorem execPalletTrigger_of_idle {pallet : Nat} (hpallet : pallet < 3) (hidle : s.snapBusy = false) :
    execPalletTrigger pallet t s = .next ((s.tick t).setSnaps
      (s.cores.snaps ++ [{ t := State.usCeil (t + us 2), pallet := pallet, byReg := true }])) :=
  (if_neg (Nat.not_le.mpr hpallet)).trans (if_neg (Bool.eq_false_iff.mp hidle))

theorem execPalletTrigger_of_busy {pallet : Nat} (hpallet : pallet < 3) (hbusy : s.snapBusy = true) :
    execPalletTrigger pallet t s = .next { s.tick t with cores := { s.cores with missed := true } } :=
  (if_neg (Nat.not_le.mpr hpallet)).trans (if_pos hbusy)

/-- One snapshot that is due, with none under way, begins. -/
theorem execPalletSnapshotStart_of_one {x : Snapshot} (hone : ((s.tick t).periodicDue t).snapsDue t = [x])
    (hidle : ((s.tick t).periodicDue t).snapBusy = false) :
    execPalletSnapshotStart t s = .next (((s.tick t).periodicDue t).beginSnap x) := by
  simp only [execPalletSnapshotStart, hone, List.foldl_cons, List.foldl_nil, State.startSnap, hidle, Bool.false_eq_true,
    if_false]

theorem execPalletDone_of_begun {x : Snapshot} (hx : s.cores.snaps.find? (·.begun) = some x) :
    execPalletDone t s = .next ((s.tick t).snapDone x t) := by
  simp only [execPalletDone, State.tick_cores, hx]

end Pallets

/-- Settles O33: a lemma for each guarded event says which branch its guards select. -/
theorem eventAndPalletEventsComplete : Obligations.EventAndPalletEventsComplete := by
  refine ⟨?event, ?claim, ?spurious, ?complete, ?completeHost, ?completeMoved, ?logPop, ?soft, ?delivery, ?returns,
    ?chains, ?trigger, ?triggerBusy, ?startOne, ?start, ?done⟩
  case event => exact fun code source params latched t s hsrc => if_neg (Nat.not_le.mpr hsrc)
  case claim =>
    rintro target t s src _ hbest rfl
    exact exec_evcClaim_of_some hbest
  case spurious =>
    rintro target t s _ hbest rfl
    exact exec_evcClaim_of_none hbest
  case complete =>
    rintro target source t s _ hsrc hserv rfl hcore hhere
    exact execEvcComplete_of_core hsrc hserv hhere hcore
  case completeHost =>
    rintro target source t s h _ _ hsrc hserv rfl hhost rfl hhere
    exact execEvcComplete_of_host hsrc hserv hhere hhost
  case completeMoved =>
    rintro target source t s _ hsrc hserv rfl hcore hshared hmoved
    exact execEvcComplete_of_moved hsrc hserv hcore hshared hmoved
  case logPop => exact fun target t s => rfl
  case soft =>
    intro target n t s hn
    show Host.Outcome.next ((s.tick t).raise 0x0C00 (128 + n % 32) [] t) = _
    rw [Nat.mod_eq_of_lt hn]
  case delivery => exact fun core pc t s src hrun hmie hsrc => execEvcDelivery_of_deliverable hrun hmie hsrc pc
  case returns => exact fun core t s hrun hdepth hnone => execEvcExit_of_none hrun hdepth hnone
  case chains => exact fun core t s src hrun hdepth hsrc => execEvcExit_of_deliverable hrun hdepth hsrc
  case trigger => exact fun pallet t s hpallet hidle => execPalletTrigger_of_idle hpallet hidle
  case triggerBusy => exact fun pallet t s hpallet hbusy => execPalletTrigger_of_busy hpallet hbusy
  case startOne =>
    rintro t s _ x rfl hone hidle
    exact execPalletSnapshotStart_of_one hone hidle
  case start =>
    rintro t s _ rfl
    rfl
  case done => exact fun t s x hx => execPalletDone_of_begun hx

end Sys2Proof.Machine
end

section
/-! The commands of the event pins, the interval channels and the clock outputs (11 R480 to R487). -/

namespace Sys2Proof.Machine

/-- A command whose lead is met is not TOO_LATE. -/
theorem not_late_of_lead {run : Bool} {a earliest : Instant} (hlead : earliest ≤ a) :
    (run && decide (a < earliest)) = false :=
  Bool.and_eq_false_imp.mpr fun _ => decide_eq_false (Nat.not_lt.mpr hlead)

/-! ### Event pins -/

section Bodies

variable {c : Ctx} {s : State}

section PinSettings

variable (hok : okEvtCfgSet c.r = true) (hclear : evtCfgClash s (evtCfgOf c.r) = false)
include hok hclear

theorem bodyEvtCfgSet_at {a : Instant} (ha : c.a = some a) (hlead : c.t + us 200 ≤ a) :
    bodyEvtCfgSet c s = .wait (s.setPin (c.r.f 4 0 3) { s.pin (c.r.f 4 0 3) with
      next := insertPin { a := a, jid := some c.jid, cfg := evtCfgOf c.r } (s.pin (c.r.f 4 0 3)).next }) := by
  refine (refuseIf_of_ok hok ..).trans <| (refuseIf_of_false hclear ..).trans ?_
  rw [ha]
  exact if_neg (Bool.eq_false_iff.mp (not_late_of_lead hlead))

/-- The state of a pin that takes its settings with the command, and the edges discarded. -/
def pinNow (c : Ctx) (s : State) : State × Nat := s.applyPin (c.r.f 4 0 3) c.t (evtCfgOf c.r)

theorem bodyEvtCfgSet_now (ha : c.a = none) (hidle : ((pinNow c s).1.pin (c.r.f 4 0 3)).pulseEnd = none) :
    bodyEvtCfgSet c s = .done (pinNow c s).1 [word (pinNow c s).2] := by
  refine (refuseIf_of_ok hok ..).trans <| (refuseIf_of_false hclear ..).trans ?_
  rw [ha]
  exact if_pos (Option.isNone_iff_eq_none.mpr hidle)

/-- In a pulse the settings are taken and the command waits for its end (11 R457). -/
theorem bodyEvtCfgSet_pulse (ha : c.a = none) (hpulse : ((pinNow c s).1.pin (c.r.f 4 0 3)).pulseEnd ≠ none) :
    bodyEvtCfgSet c s = .wait ((pinNow c s).1.setPin (c.r.f 4 0 3) { (pinNow c s).1.pin (c.r.f 4 0 3) with
      next := { a := c.t, jid := some c.jid, cfg := evtCfgOf c.r, discarded := some (pinNow c s).2 }
        :: ((pinNow c s).1.pin (c.r.f 4 0 3)).next }) [word (pinNow c s).2] := by
  refine (refuseIf_of_ok hok ..).trans <| (refuseIf_of_false hclear ..).trans ?_
  rw [ha]
  exact if_neg fun hnone => hpulse (Option.isNone_iff_eq_none.mp hnone)

end PinSettings

section Owner

variable (hown : pinOwner s c.r (c.r.f 4 0 3) = true)
  (hhost : c.r.sender.core = none → s.holds c.r.sender = true ∧ s.cfgNow.footing = false)
include hown hhost

/-- The pin's owner passes; of a host the semaphore and no footing are asked too (11 R458). -/
theorem ownerCheck_of_owner (k : Res) : ownerCheck c s (c.r.f 4 0 3) k = k := by
  refine (refuseIf_of_ok hown ..).trans ?_
  cases hcore : c.r.sender.core with
  | some x => rfl
  | none =>
    obtain ⟨hholds, hfoot⟩ := hhost hcore
    rw [hholds, hfoot]
    rfl

theorem bodyEvtEdge_of_fits (hmode : (s.pin (c.r.f 4 0 3)).cfg.mode = 2) (hok : okEvtEdge c.r = true)
    (hapart : edgesApart (s.pin (c.r.f 4 0 3)).lastOut (evtEdges c.r) = true)
    (hroom : (s.pin (c.r.f 4 0 3)).queue.length + c.r.f 4 16 5 ≤ 32) (hlead : edgesLate (evtEdges c.r) c.t = false) :
    bodyEvtEdge c s = .done (s.setPin (c.r.f 4 0 3) { s.pin (c.r.f 4 0 3) with
      queue := (s.pin (c.r.f 4 0 3)).queue ++ evtEdges c.r }) :=
  (ownerCheck_of_owner hown hhost _).trans <| (refuseIf_of_false (decide_eq_false (not_not.mpr hmode)) ..).trans <|
    (refuseIf_of_ok hok ..).trans <| (refuseIf_of_ok hapart ..).trans <|
    (refuseIf_of_false (decide_eq_false (Nat.not_lt.mpr hroom)) ..).trans (refuseIf_of_false hlead ..)

theorem bodyEvtCancel_of_owner (honly : c.r.only 4 7 = true) :
    bodyEvtCancel c s = .done (s.setPin (c.r.f 4 0 3) { s.pin (c.r.f 4 0 3) with queue := [] })
      [word (s.pin (c.r.f 4 0 3)).queue.length] :=
  (ownerCheck_of_owner hown hhost _).trans (refuseIf_of_ok honly ..)

end Owner

/-- The range of a GET that reads 1 to 32 records. -/
theorem not_readRange {only : Bool} {m : Nat} (honly : only = true) (hmin : 1 ≤ m) (hmax : m ≤ 32) :
    (!only || !decide (1 ≤ m ∧ m ≤ 32)) = false := by
  rw [honly, decide_eq_true ⟨hmin, hmax⟩]
  rfl

theorem bodyTimArm_of_enabled (hen : (s.chan (c.r.f 4 0 2)).cfg.enable = true)
    (hgate : (s.chan (c.r.f 4 0 2)).cfg.gate = 2) (honly : c.r.only 4 0x80000003 = true) :
    bodyTimArm c s =
      if c.r.b 4 31 then .done (s.setChan (c.r.f 4 0 2) { s.chan (c.r.f 4 0 2) with armed := true, armedAt := 0 })
      else .done (if (s.chan (c.r.f 4 0 2)).cfg.period then
          (s.setChan (c.r.f 4 0 2) { s.chan (c.r.f 4 0 2) with armed := false }).closeMeas (c.r.f 4 0 2) 4 0 c.t
        else s.setChan (c.r.f 4 0 2) { s.chan (c.r.f 4 0 2) with armed := false }) := by
  have hsoft : ((s.chan (c.r.f 4 0 2)).cfg.enable && (s.chan (c.r.f 4 0 2)).cfg.gate == 2) = true := by
    rw [hen, hgate]
    rfl
  exact (refuseIf_of_ok hsoft ..).trans (refuseIf_of_ok honly ..)

end Bodies

/-- Settles O10: no body refuses, and the pins, the channels and the reference that it reads are as they stood before
the take. -/
theorem timedInputCommandsComplete : Obligations.TimedInputCommandsComplete := by
  refine ⟨?cfgAt, ?cfgNow, ?cfgPulse, ?cfgGet, ?edge, ?cancel, ?stampGet, ?timSet, ?timGet, ?arm, ?disarm, ?rawGet,
    ?statsGet, ?mrefSet, ?mrefGet, ?calRun⟩
  case cfgAt =>
    intro r s a hacc ha hok hclear hlead
    rw [← pin_taken opEvtCfgSet r s]
    exact exec_wait rfl hacc (bodyEvtCfgSet_at (c := ⟨r, _, _⟩) hok hclear ha hlead)
  case cfgNow =>
    exact fun r s hacc ha hok hclear hidle =>
      exec_done rfl hacc (bodyEvtCfgSet_now (c := ⟨r, _, _⟩) hok hclear ha hidle)
  case cfgPulse =>
    exact fun r s hacc ha hok hclear hpulse =>
      exec_wait rfl hacc (bodyEvtCfgSet_pulse (c := ⟨r, _, _⟩) hok hclear ha hpulse)
  case cfgGet =>
    intro r s hacc honly
    rw [← pin_taken opEvtCfgGet r s]
    exact exec_done rfl hacc (refuseIf_of_ok honly ..)
  case edge =>
    intro r s hacc hown hhost hmode hok hapart hroom hlead
    rw [← pinOwner_taken opEvtEdge r r s] at hown
    rw [← holds_taken opEvtEdge r s] at hhost
    rw [← pin_taken opEvtEdge r s] at hmode hapart hroom ⊢
    exact exec_done rfl hacc (bodyEvtEdge_of_fits hown hhost hmode hok hapart hroom hlead)
  case cancel =>
    intro r s hacc hown hhost honly
    rw [← pinOwner_taken opEvtCancel r r s] at hown
    rw [← holds_taken opEvtCancel r s] at hhost
    rw [← pin_taken opEvtCancel r s]
    exact exec_done rfl hacc (bodyEvtCancel_of_owner hown hhost honly)
  case stampGet =>
    intro r s hacc hown honly hmin hmax
    rw [← pinOwner_taken opEvtStampGet r r s] at hown
    rw [← pin_taken opEvtStampGet r s]
    exact exec_done rfl hacc ((refuseIf_of_ok hown ..).trans (refuseIf_of_false (not_readRange honly hmin hmax) ..))
  case timSet => exact fun r s hacc hok => exec_done rfl hacc (refuseIf_of_ok hok ..)
  case timGet =>
    intro r s hacc honly
    rw [← chan_taken opTimCfgGet r s]
    exact exec_done rfl hacc (refuseIf_of_ok honly ..)
  case arm =>
    intro r s hacc hen hgate honly hon
    rw [← chan_taken opTimArm r s] at hen hgate ⊢
    exact exec_done rfl hacc ((bodyTimArm_of_enabled (c := ⟨r, _, _⟩) hen hgate honly).trans (if_pos hon))
  case disarm =>
    intro r s hacc hen hgate honly hoff
    rw [← chan_taken opTimArm r s] at hen hgate ⊢
    exact exec_done rfl hacc
      ((bodyTimArm_of_enabled (c := ⟨r, _, _⟩) hen hgate honly).trans (if_neg (Bool.eq_false_iff.mp hoff)))
  case rawGet =>
    intro r s hacc honly hmin hmax
    rw [← chan_taken opTimRawGet r s]
    exact exec_done rfl hacc (refuseIf_of_false (not_readRange honly hmin hmax) ..)
  case statsGet => exact fun r s hacc honly => exec_done rfl hacc (refuseIf_of_ok honly ..)
  case mrefSet => exact fun r s hacc honly => exec_done rfl hacc (refuseIf_of_ok honly ..)
  case mrefGet =>
    intro r s hacc
    rw [← taken_tio opMrefGet r s]
    exact exec_done rfl hacc rfl
  case calRun =>
    intro r s hacc hidle
    rw [← taken_tio opCalTimeioRun r s] at hidle ⊢
    exact exec_wait rfl hacc (refuseIf_of_false hidle ..)

/-! ### Clock outputs -/

section Bodies

variable {c : Ctx} {s : State} {a : Instant}

section Settings

variable (ha : c.a = some a) (hout : (s.cko (c.r.f 4 0 3)).state ≠ .held) (hok : okCkoSet c.r = true)
  (horder : (ckoCfgOf c.r).yMin ≤ (ckoCfgOf c.r).yMax) (hlead : c.t + ms 10 ≤ a)
include ha hout hok horder hlead

/-- An output to run needs the band of F0 x O: the search is skipped where the last one was for it. -/
theorem bodyCkoSet_enable (hen : (ckoCfgOf c.r).enable = true) :
    bodyCkoSet c s =
      let v := s.cko (c.r.f 4 0 3)
      let known := v.bandFor == (ckoCfgOf c.r).f0 * Cko.divider (ckoCfgOf c.r).f0
      .wait (s.setCko (c.r.f 4 0 3) { v with
        state := if known then .locking else .off
        waits := v.waits ++ [(.set (ckoCfgOf c.r) known, a, some c.jid)] }) := by
  rw [bodyCkoSet, ha]
  exact (refuseIf_of_false (beq_false_of_ne hout) ..).trans <| (refuseIf_of_ok hok ..).trans <|
    (refuseIf_of_false (decide_eq_false (Int.not_lt.mpr horder)) ..).trans <|
    (refuseIf_of_false (not_late_of_lead hlead) ..).trans (if_pos hen)

theorem bodyCkoSet_disable (hdis : (ckoCfgOf c.r).enable = false) :
    bodyCkoSet c s = .wait (s.setCko (c.r.f 4 0 3) { s.cko (c.r.f 4 0 3) with
      waits := (s.cko (c.r.f 4 0 3)).waits ++ [(.disable (ckoCfgOf c.r), a, some c.jid)] }) := by
  rw [bodyCkoSet, ha]
  exact (refuseIf_of_false (beq_false_of_ne hout) ..).trans <| (refuseIf_of_ok hok ..).trans <|
    (refuseIf_of_false (decide_eq_false (Int.not_lt.mpr horder)) ..).trans <|
    (refuseIf_of_false (not_late_of_lead hlead) ..).trans (if_neg (Bool.eq_false_iff.mp hdis))

end Settings

theorem bodyCkoProfileStart_of_running (ha : c.a = some a)
    (hstate : ((s.cko (c.r.f 4 0 3)).state == .running || (s.cko (c.r.f 4 0 3)).state == .bypass) = true)
    (honly : c.r.only 4 0x7F07 = true) (hn : 1 ≤ c.r.f 4 8 7 ∧ c.r.f 4 8 7 ≤ 64)
    (hstays : profileLeaves (s.cko (c.r.f 4 0 3)) (c.r.f 4 8 7) a = false)
    (hidle : (s.cko (c.r.f 4 0 3)).pend = none) (hlead : c.t + ms 1 ≤ a) :
    bodyCkoProfileStart c s = .wait (s.setCko (c.r.f 4 0 3) { s.cko (c.r.f 4 0 3) with
      pend := some { s := a, jid := some c.jid, segs := (s.cko (c.r.f 4 0 3)).profile (c.r.f 4 8 7) } }) := by
  have hrange : (!c.r.only 4 0x7F07 || !decide (1 ≤ c.r.f 4 8 7 ∧ c.r.f 4 8 7 ≤ 64)) = false := by
    rw [honly, decide_eq_true hn]
    rfl
  rw [bodyCkoProfileStart, ha]
  exact (refuseIf_of_ok hstate ..).trans <| (refuseIf_of_false hrange ..).trans <|
    (refuseIf_of_false hstays ..).trans <| (refuseIf_of_false (congrArg Option.isSome hidle) ..).trans
    (refuseIf_of_false (not_late_of_lead hlead) ..)

section Action

variable (hstate : ckoCmdBad s c.r = false) (honly : c.r.only 4 0x307 = true) (hact : c.r.f 4 8 2 < 2)
include hstate honly hact

omit hstate in
theorem ckoCmd_range : (!c.r.only 4 0x307 || decide (2 ≤ c.r.f 4 8 2)) = false := by
  rw [honly, decide_eq_false (Nat.not_le.mpr hact)]
  rfl

theorem bodyCkoCmd_at (ha : c.a = some a) (hlead : c.t + ms 1 ≤ a) :
    bodyCkoCmd c s = .wait (s.setCko (c.r.f 4 0 3) { s.cko (c.r.f 4 0 3) with
      waits := (s.cko (c.r.f 4 0 3)).waits ++ [(if c.r.f 4 8 2 = 0 then .back else .force, a, some c.jid)] }) := by
  refine (refuseIf_of_false hstate ..).trans <| (refuseIf_of_false (ckoCmd_range honly hact) ..).trans ?_
  rw [ha]
  exact if_neg (Bool.eq_false_iff.mp (not_late_of_lead hlead))

/-- The state after a CKO_CMD that acts with its take: the return, the bypass, or FORCED on one in bypass. -/
def ckoActed (c : Ctx) (s : State) : State :=
  if c.r.f 4 8 2 = 0 then s.fromBypass (c.r.f 4 0 3) c.t
  else if (s.cko (c.r.f 4 0 3)).state = .running then s.toBypass (c.r.f 4 0 3) 2 true c.t
  else s.setCko (c.r.f 4 0 3) { s.cko (c.r.f 4 0 3) with forced := true }

theorem bodyCkoCmd_now (ha : c.a = none) : bodyCkoCmd c s = .done (ckoActed c s) := by
  refine (refuseIf_of_false hstate ..).trans <| (refuseIf_of_false (ckoCmd_range honly hact) ..).trans ?_
  rw [ha, ckoActed]
  dsimp only
  split
  · rfl
  · split <;> rfl

end Action

end Bodies

/-- Settles O11: no body refuses, and the output that it reads is as it stood before the take. That the band is searched
exactly where F0 x O is not that of the last search, that several CKO_SET and CKO_CMD may wait, and that BYPASS is of a
running or bypassed output alone, is the model's choice (log entry 78). -/
theorem clockOutputCommandsComplete : Obligations.ClockOutputCommandsComplete := by
  refine ⟨?enable, ?disable, ?get, ?profileSet, ?profileStart, ?phaseGet, ?cmdAt, ?cmdNow⟩
  case enable =>
    intro r s a hacc ha hout hok horder hlead hen
    rw [← cko_taken opCkoSet r s] at hout ⊢
    exact exec_wait rfl hacc (bodyCkoSet_enable (c := ⟨r, _, _⟩) ha hout hok horder hlead hen)
  case disable =>
    intro r s a hacc ha hout hok horder hlead hdis
    rw [← cko_taken opCkoSet r s] at hout ⊢
    exact exec_wait rfl hacc (bodyCkoSet_disable (c := ⟨r, _, _⟩) ha hout hok horder hlead hdis)
  case get =>
    intro r s hacc honly
    rw [← cko_taken opCkoGet r s]
    exact exec_done rfl hacc (refuseIf_of_ok honly ..)
  case profileSet =>
    intro r s hacc hidle hok
    rw [← cko_taken opCkoProfileSet r s] at hidle ⊢
    exact exec_done rfl hacc
      ((refuseIf_of_false (congrArg Option.isSome hidle) ..).trans (refuseIf_of_ok hok ..))
  case profileStart =>
    intro r s a hacc ha hstate honly hn hstays hidle hlead
    rw [← cko_taken opCkoProfileStart r s] at hstate hstays hidle ⊢
    exact exec_wait rfl hacc (bodyCkoProfileStart_of_running (c := ⟨r, _, _⟩) ha hstate honly hn hstays hidle hlead)
  case phaseGet => exact fun r s hacc honly => exec_done rfl hacc (refuseIf_of_ok honly ..)
  case cmdAt =>
    intro r s a hacc ha hstate honly hact hlead
    rw [← cko_taken opCkoCmd r s]
    exact exec_wait rfl hacc (bodyCkoCmd_at (c := ⟨r, _, _⟩) hstate honly hact ha hlead)
  case cmdNow =>
    intro r s hacc ha hstate honly hact
    rw [← cko_taken opCkoCmd r s]
    exact exec_done rfl hacc (bodyCkoCmd_now (c := ⟨r, _, _⟩) hstate honly hact ha)

end Sys2Proof.Machine
end

section
/-! The events of the event pins, the interval channels and the clock outputs (11 R447 to R476): each takes the branch
that its guards select, and what a guard reads stands as before the event, whose tick moves time alone. -/

namespace Sys2Proof.Machine

@[simp] theorem State.tick_pin (s : State) (t : Instant) (p : Nat) : (s.tick t).pin p = s.pin p := rfl

@[simp] theorem State.tick_chan (s : State) (t : Instant) (c : Nat) : (s.tick t).chan c = s.chan c := rfl

@[simp] theorem State.tick_cko (s : State) (t : Instant) (o : Nat) : (s.tick t).cko o = s.cko o := rfl

@[simp] theorem State.tick_mrefOk (s : State) (t : Instant) : (s.tick t).mrefOk = s.mrefOk := rfl

@[simp] theorem State.tick_nclk (s : State) (t : Instant) : (s.tick t).nclk = s.nclk := rfl

@[simp] theorem State.tick_pulseRises (s : State) (t : Instant) (v : EvtPin) :
    (s.tick t).pulseRises v = s.pulseRises v := rfl

/-! ### Event pins -/

section Pins

variable {pin : Nat} {t : Instant} {s : State} (hpin : pin < 8)
include hpin

section Input

variable {rising : Bool} {w : State} (hw : w = (s.tick t).filterDone pin t) (hawake : w.pwr.asleep = none)
include hw hawake

/-- An edge of a pin without a filter is stamped as it comes (11 R449). -/
theorem execEvtInputEdge_of_input (hmode : (w.pin pin).cfg.mode = 1) (hapart : (w.pin pin).edgeClose t = false)
    (hfilter : (w.pin pin).cfg.filter = 0) (hsel : State.edgeSelected (w.pin pin) rising = true) :
    execEvtInputEdge pin rising t s =
      .next (((w.wakeSource pin).setPin pin { w.pin pin with
        level := rising, lastEdge := some t, calOld := (w.pin pin).calOld && !State.inputIdle (w.pin pin) t
        filtering := none }).stampRec pin t rising false false t) := by
  have hruns : ¬ (8 ≤ pin ∨ 2 ≤ (w.pin pin).cfg.mode ∨ w.pwr.asleep.isSome = true) := by
    rw [hmode, hawake]
    simp [hpin]
  have hinput : ¬ (w.pin pin).cfg.mode = 0 := by rw [hmode]; exact one_ne_zero
  have hplain : ¬ 0 < (w.pin pin).cfg.filter := by rw [hfilter]; exact Nat.not_lt_zero 0
  simp only [execEvtInputEdge, ← hw, if_neg hruns, if_neg hinput, if_neg hplain, hapart, hsel, Bool.not_true,
    Bool.or_self, Bool.false_eq_true, if_false, if_true]

theorem execEvtInputEdge_of_off (hmode : (w.pin pin).cfg.mode = 0) :
    execEvtInputEdge pin rising t s = .next (w.setPin pin { w.pin pin with level := rising }) := by
  have hruns : ¬ (8 ≤ pin ∨ 2 ≤ (w.pin pin).cfg.mode ∨ w.pwr.asleep.isSome = true) := by
    rw [hmode, hawake]
    simp [hpin]
  simp only [execEvtInputEdge, ← hw, if_neg hruns, if_pos hmode]

end Input

/-- A pulse that has lasted FILTER_NS is stamped with its first edge (11 R449). -/
theorem execEvtFilterDone_of_past {e : Instant} {rising : Bool} (hfilter : (s.pin pin).filtering = some (e, rising))
    (hpast : e + ns (s.pin pin).cfg.filter ≤ t) (hsel : State.edgeSelected (s.pin pin) rising = true) :
    execEvtFilterDone pin t s =
      .next (((s.tick t).setPin pin { s.pin pin with filtering := none }).stampRec pin e rising false false t) := by
  simp only [execEvtFilterDone, if_neg (Nat.not_le.mpr hpin), State.filterDone, State.tick_pin, hfilter,
    if_neg (Nat.not_lt.mpr hpast), hsel, if_true]

theorem execEvtAonLatch_of_asleep {rising : Bool} (hmode : (s.pin pin).cfg.mode = 1)
    (hasleep : s.pwr.asleep.isNone = false) (hsel : State.edgeSelected (s.pin pin) rising = true)
    (hclear : (s.pin pin).aonLatch = none) :
    execEvtAonLatch pin rising t s =
      .next (((s.tick t).setPin pin { s.pin pin with aonLatch := some rising }).wakeSource pin) := by
  have hruns : ¬ (8 ≤ pin ∨ (s.pin pin).cfg.mode ≠ 1 ∨ s.pwr.asleep.isNone = true
      ∨ (!State.edgeSelected (s.pin pin) rising) = true) := by
    rw [hmode, hasleep, hsel]
    simp [hpin]
  simp only [execEvtAonLatch, State.tick_pin, State.tick_pwr, if_neg hruns, hclear, Option.isSome_none,
    Bool.false_eq_true, if_false]

/-- At A the pin takes its settings, and the command knows the edges discarded (11 R457). -/
theorem execEvtCfgApply_of_due {x : EvtPending} {w : State} {d : Nat} (hnext : State.nextPinCfg (s.pin pin) = some x)
    (hdue : x.a ≤ t) (happly : (s.tick t).applyPin pin x.a x.cfg = (w, d)) :
    execEvtCfgApply pin t s =
      .next ((w.setPin pin { w.pin pin with
        next := (w.pin pin).next.map fun y =>
          if y = x then { y with discarded := some d } else y }).cfgDone pin t) := by
  have hruns : ¬ (8 ≤ pin ∨ t < x.a) := not_or.mpr ⟨Nat.not_le.mpr hpin, Nat.not_lt.mpr hdue⟩
  simp only [execEvtCfgApply, State.tick_pin, hnext, if_neg hruns, happly]

theorem execEvtOutputEdge_of_pulse {e : Instant} (hpulse : (s.pin pin).pulseEnd = some e) (hdue : e ≤ t)
    (placeable : Bool) :
    execEvtOutputEdge pin placeable t s =
      .next ((s.tick t).pulseFalls pin (placeable && s.tio.calValid && e == t) t) := by
  simp only [execEvtOutputEdge, if_neg (Nat.not_le.mpr hpin), State.tick_pin, State.tick_tio, hpulse, if_pos hdue]

theorem execEvtOutputEdge_of_queued {e : Instant} {l : Bool} {rest : List (Instant × Bool)}
    (hnone : (s.pin pin).pulseEnd = none) (hqueue : (s.pin pin).queue = (e, l) :: rest) (hdue : e ≤ t)
    (placeable : Bool) :
    execEvtOutputEdge pin placeable t s =
      .next ((s.tick t).queuedEdge pin l rest (placeable && s.tio.calValid && e == t) t) := by
  simp only [execEvtOutputEdge, if_neg (Nat.not_le.mpr hpin), State.tick_pin, State.tick_tio, hnone, hqueue,
    if_pos hdue]

theorem execEvtOutputEdge_of_rise (hnone : (s.pin pin).pulseEnd = none) (hempty : (s.pin pin).queue = [])
    (hrise : s.pulseRises (s.pin pin) t = true) (placeable : Bool) :
    execEvtOutputEdge pin placeable t s = .next ((s.tick t).pulseStarts pin (placeable && s.tio.calValid) t) := by
  simp only [execEvtOutputEdge, if_neg (Nat.not_le.mpr hpin), State.tick_pin, State.tick_tio, State.tick_pulseRises,
    hnone, hempty, hrise, if_true]

end Pins

/-- A run ends when every pin and channel has its new table (11 R447). -/
theorem execTimeioCalDone_of_taken {dnl : Nat} {t : Instant} {s w : State}
    (hruns : (s.tio.calValid && !s.tio.calRun) = false) (hw : w = (s.tick t).takeCalTables t)
    (htaken : w.calTaken = true) : execTimeioCalDone dnl t s = .next (w.calRunEnds dnl t) := by
  have hdue : ¬ (s.tio.calValid = true ∧ (!s.tio.calRun) = true) := fun hidle =>
    absurd (Bool.and_eq_true_iff.mpr hidle) (ne_true_of_eq_false hruns)
  simp only [execTimeioCalDone, State.tick_tio, if_neg hdue, ← hw, htaken, Bool.not_true, Bool.false_eq_true, if_false]

/-! ### Interval channels -/

section Channels

variable {chan : Nat} {raw : Nat} {t : Instant} {s : State} (hchan : chan < 4)
include hchan

section Measures

variable {rising : Bool} (hmref : s.mrefOk = true) (hen : (s.chan chan).cfg.enable = true)
include hmref hen

/-- A START on an armed channel with nothing open starts a measurement (11 R462, R463). -/
theorem execTimStartEdge_of_armed (hedge : rising ≠ (s.chan chan).cfg.startFall) (harmed : (s.chan chan).armed = true)
    (hafter : (s.chan chan).armedAt ≤ raw) (halive : (s.chan chan).startDead raw = false)
    (hnone : (s.chan chan).openAt = none) :
    execTimStartEdge chan rising raw t s =
      .next ((s.tick t).setChan chan { s.chan chan with openAt := some (raw, t), lastStart := some raw }) := by
  have hruns : ¬ (4 ≤ chan ∨ (!s.mrefOk) = true ∨ (!(s.chan chan).cfg.enable) = true
      ∨ rising = (s.chan chan).cfg.startFall ∨ (!(s.chan chan).armed) = true ∨ raw < (s.chan chan).armedAt) := by
    rw [hmref, hen, harmed]
    simp [hchan, hedge, hafter]
  refine (if_neg hruns).trans ?_
  simp only [State.tick_chan, halive, hnone, harmed, Option.isSome_none, Bool.and_false, Bool.or_self, Bool.not_true,
    Bool.false_eq_true, if_false]

/-- A STOP after its START and within 20 s ends the measurement (11 R463). -/
theorem execTimStopEdge_of_open {x : Nat} {d : Instant} (hmode : (s.chan chan).cfg.period = false)
    (hedge : rising ≠ (s.chan chan).cfg.stopFall) (hopen : (s.chan chan).openAt = some (x, d)) (hafter : x < raw)
    (hwithin : raw ≤ x + sec 20) :
    execTimStopEdge chan rising raw t s = .next ((s.tick t).closeMeas chan 0 raw t) := by
  have hruns : ¬ (4 ≤ chan ∨ (!s.mrefOk) = true ∨ (!(s.chan chan).cfg.enable) = true
      ∨ (s.chan chan).cfg.period = true ∨ rising = (s.chan chan).cfg.stopFall) := by
    rw [hmref, hen, hmode]
    simp [hchan, hedge]
  simp only [execTimStopEdge, State.tick_mrefOk, State.tick_chan, if_neg hruns, hopen, if_neg (Nat.not_le.mpr hafter),
    if_neg (Nat.not_lt.mpr hwithin)]

end Measures

section Gate

variable {high : Bool} (hgate : (s.chan chan).cfg.gate ≠ 2) (hen : (s.chan chan).cfg.enable = true)
  (hon : s.tio.off = false)
include hgate hen hon

omit hchan in
theorem gate_runs : ¬ ((s.chan chan).cfg.gate = 2 ∨ (s.chan chan).cfg.enable = false ∨ s.tio.off = true) := by
  rw [hen, hon]
  simp [hgate]

theorem execTimGateEdge_of_arming (harms : State.gateArms { s.chan chan with gateOn := high } = true) :
    execTimGateEdge chan high raw t s = .next ((s.tick t).setChan chan { s.chan chan with
      gateOn := high, armed := true, armedAt := if s.mrefOk then raw else 0 }) :=
  (if_neg (Nat.not_le.mpr hchan)).trans <| (if_neg (gate_runs hgate hen hon)).trans (if_pos harms)

theorem execTimGateEdge_of_disarming (hends : State.gateArms { s.chan chan with gateOn := high } = false)
    (hmode : (s.chan chan).cfg.period = false) :
    execTimGateEdge chan high raw t s =
      .next ((s.tick t).setChan chan { s.chan chan with gateOn := high, armed := false }) := by
  simp only [execTimGateEdge, if_neg (Nat.not_le.mpr hchan), State.tick_chan, State.tick_tio,
    if_neg (gate_runs hgate hen hon), hends, hmode, Bool.false_eq_true, if_false]

end Gate

theorem execTimOverrange_of_past {x : Nat} {d : Instant} (hopen : (s.chan chan).openAt = some (x, d))
    (hpast : d + ms 19980 ≤ t) : execTimOverrange chan t s = .next ((s.tick t).closeMeas chan 1 0 t) := by
  have hruns : ¬ (4 ≤ chan ∨ t < d + ms 19980) := not_or.mpr ⟨Nat.not_le.mpr hchan, Nat.not_lt.mpr hpast⟩
  simp only [execTimOverrange, State.tick_chan, hopen, if_neg hruns]

end Channels

section Reference

variable {t : Instant} {s : State}

/-- The loss of MREF ends what the channels measure (11 R461). -/
theorem execMrefLost_of_there (hthere : (s.tio.mrefPresent || s.tio.mrefLock) = true) :
    execMrefLost t s = .next (((List.range 4).foldl (fun s c => (s.closeMeas c 3 0 t).dropWindow c)
      ((s.tick t).setTio { s.tio with mrefPresent := false, mrefLock := false, mrefLost := true })).raise 0x0511 84
        [bytesBE 1 0] t) :=
  if_neg (not_bnot hthere)

theorem execMrefLock_of_near {err : Int} (hunlocked : s.tio.mrefLock = false) (hnear : err.natAbs ≤ 10000)
    (hon : s.tio.off = false) :
    execMrefLock err t s = .next (((List.range 4).foldl
      (fun s c => s.setChan c { s.chan c with armedAt := 0, lastStart := none })
      ((s.tick t).setTio { s.tio with mrefPresent := true, mrefLock := true, mrefErr := err })).raise 0x0511 84
        [bytesBE 1 1] t) := by
  have hruns : ¬ ((s.tick t).tio.mrefLock = true ∨ 10000 < err.natAbs ∨ (s.tick t).tio.off = true) := by
    rw [State.tick_tio, hunlocked, hon]
    simp [hnear]
  exact if_neg hruns

end Reference

/-- Settles O28: a lemma for each event says which branch its guards select. That a measurement closes at 19,980 ms and
that MREF is reported at every lock is the model's choice (log entry 77). -/
theorem timedIoEventsComplete : Obligations.TimedIoEventsComplete := by
  refine ⟨?stamp, ?level, ?filter, ?latch, ?apply, ?falls, ?queued, ?rises, ?calibrated, ?start, ?stop, ?arms,
    ?disarms, ?overrange, ?lost, ?locked⟩
  case stamp =>
    exact fun pin rising t s w hpin hw hmode hawake hapart hfilter hsel =>
      execEvtInputEdge_of_input hpin hw hawake hmode hapart hfilter hsel
  case level => exact fun pin rising t s w hpin hw hmode hawake => execEvtInputEdge_of_off hpin hw hawake hmode
  case filter =>
    exact fun pin t s e rising hpin hfilter hpast hsel => execEvtFilterDone_of_past hpin hfilter hpast hsel
  case latch =>
    exact fun pin rising t s hpin hmode hasleep hsel hclear =>
      execEvtAonLatch_of_asleep hpin hmode hasleep hsel hclear
  case apply =>
    exact fun pin t s x w d hpin hnext hdue happly => execEvtCfgApply_of_due hpin hnext hdue happly
  case falls =>
    exact fun pin placeable t s e hpin hpulse hdue => execEvtOutputEdge_of_pulse hpin hpulse hdue placeable
  case queued =>
    exact fun pin placeable t s e l rest hpin hnone hqueue hdue =>
      execEvtOutputEdge_of_queued hpin hnone hqueue hdue placeable
  case rises =>
    exact fun pin placeable t s hpin hnone hempty hrise =>
      execEvtOutputEdge_of_rise hpin hnone hempty hrise placeable
  case calibrated => exact fun dnl t s w hruns hw htaken => execTimeioCalDone_of_taken hruns hw htaken
  case start =>
    exact fun chan rising raw t s hchan hmref hen hedge harmed hafter halive hnone =>
      execTimStartEdge_of_armed hchan hmref hen hedge harmed hafter halive hnone
  case stop =>
    exact fun chan rising raw t s x d hchan hmref hen hmode hedge hopen hafter hwithin =>
      execTimStopEdge_of_open hchan hmref hen hmode hedge hopen hafter hwithin
  case arms =>
    exact fun chan high raw t s hchan hgate hen hon harms => execTimGateEdge_of_arming hchan hgate hen hon harms
  case disarms =>
    exact fun chan high raw t s hchan hgate hen hon hends hmode =>
      execTimGateEdge_of_disarming hchan hgate hen hon hends hmode
  case overrange => exact fun chan t s x d hchan hopen hpast => execTimOverrange_of_past hchan hopen hpast
  case lost => exact fun t s hthere => execMrefLost_of_there hthere
  case locked => exact fun err t s hunlocked hnear hon => execMrefLock_of_near hunlocked hnear hon

/-! ### Clock outputs -/

section Outputs

variable {out : Nat} {t : Instant} {s : State} (hout : out < 8)
include hout

/-- The band of the search that a CKO_SET waits for is there, and the output may lock (11 R469). -/
theorem execCkoBandSearchDone_found {band : Nat} {w : CkoWait × Instant × Option Nat} {x : CkoCfg} {r : Bool}
    (hband : band < 64) (hwait : (s.cko out).waits.find? (fun w => w.1.searching) = some w) (hset : w.1 = .set x r) :
    execCkoBandSearchDone out band true t s = .next ((s.tick t).setCko out { s.cko out with
      state := if (s.cko out).state = .held then .held else .locking
      band := band, bandFor := x.f0 * Cko.divider x.f0
      waits := (s.cko out).waits.map fun y => if y = w then (.set x true, y.2) else y }) := by
  have hruns : ¬ (8 ≤ out ∨ 64 ≤ band) := not_or.mpr ⟨Nat.not_le.mpr hout, Nat.not_le.mpr hband⟩
  simp only [execCkoBandSearchDone, State.tick_cko, hwait, hset, if_neg hruns, if_true]
  rfl

theorem execCkoAlignStart_of_due {w : CkoWait × Instant × Option Nat} {x : CkoCfg} {r : Bool} {y : State}
    (hdue : State.ckoDue (s.cko out) t CkoWait.isReady = some w) (hset : w.1 = .set x r)
    (hy : y = ((s.tick t).withdrawProfile out t).dropWait out w) :
    execCkoAlignStart out t s = .next ((y.setCko out { y.cko out with
      cfg := x, div := Cko.divider x.f0, a := w.2.1, prof := none, forced := false
      state := if (y.cko out).state = .held then .held else .running
      pllLock := true, lockSince := t, relock := none }).finishOpt w.2.2 State.stOk [] t) := by
  simp only [execCkoAlignStart, State.tick_cko, hdue, hset, if_neg (Nat.not_le.mpr hout), ← hy]

theorem execCkoDisableApply_of_due {w : CkoWait × Instant × Option Nat} {x : CkoCfg} {y : State}
    (hdue : State.ckoDue (s.cko out) t CkoWait.isDisable = some w) (hset : w.1 = .disable x)
    (hy : y = ((s.tick t).withdrawProfile out t).dropWait out w) :
    execCkoDisableApply out t s = .next ((y.setCko out { y.cko out with
      cfg := x, prof := none, forced := false, pllLock := false, relock := none
      state := if (y.cko out).state = .held then .held else .off }).finishOpt w.2.2 State.stOk [] t) := by
  simp only [execCkoDisableApply, State.tick_cko, hdue, hset, if_neg (Nat.not_le.mpr hout), ← hy]

/-- A lock error, or the stop of NCLK, takes a running output to BYPASS (11 R473). -/
theorem execCkoBypass_of_fault {cause : Nat} (hcause : cause < 2) (hrun : (s.cko out).state = .running)
    (hfault : cause = 0 ∨ s.nclk = false) :
    execCkoBypass out cause t s = .next ((s.tick t).toBypass out cause false t) := by
  have hcmd : ¬ cause = 2 := Nat.ne_of_lt hcause
  have hruns : ¬ ((s.cko out).state ≠ .running ∨ 2 ≤ cause ∨ (cause = 1 ∧ s.nclk = true)) := by
    rintro (hstopped | hfar | ⟨hone, hclock⟩)
    · exact hstopped hrun
    · exact Nat.not_le.mpr hcause hfar
    · rcases hfault with hzero | hstop
      · exact absurd (hone.symm.trans hzero) one_ne_zero
      · exact ne_true_of_eq_false hstop hclock
  exact (if_neg (Nat.not_le.mpr hout)).trans <| (if_neg hcmd).trans (if_neg hruns)

theorem execCkoBypass_of_command {w : CkoWait × Instant × Option Nat}
    (hdue : State.ckoDue (s.cko out) t CkoWait.isForce = some w) (hrun : (s.cko out).state = .running) :
    execCkoBypass out 2 t s =
      .next ((((s.tick t).dropWait out w).toBypass out 2 true t).finishOpt w.2.2 State.stOk [] t) := by
  simp only [execCkoBypass, if_neg (Nat.not_le.mpr hout), if_true, State.tick_cko, hdue, hrun]

theorem execCkoReturn_of_command {w : CkoWait × Instant × Option Nat}
    (hdue : State.ckoDue (s.cko out) t CkoWait.isBack = some w)
    (hmay : ((s.tick t).dropWait out w).mayReturn out = true) :
    execCkoReturn out t s =
      .next ((((s.tick t).dropWait out w).fromBypass out t).finishOpt w.2.2 State.stOk [] t) := by
  simp only [execCkoReturn, if_neg (Nat.not_le.mpr hout), State.tick_cko, hdue, hmay, if_true]

/-- With RETURN_AUTO an output returns once its lock has held for 100 ms (11 R474). -/
theorem execCkoReturn_of_lock (hnone : State.ckoDue (s.cko out) t CkoWait.isBack = none)
    (hmay : s.mayReturn out = true) (hauto : (s.cko out).cfg.auto = true) (hfree : (s.cko out).forced = false)
    (hheld : (s.cko out).lockSince + ms 100 ≤ t) :
    execCkoReturn out t s = .next ((s.tick t).fromBypass out t) := by
  have hback : (s.mayReturn out && (s.cko out).cfg.auto && !(s.cko out).forced
      && decide ((s.cko out).lockSince + ms 100 ≤ t)) = true := by
    rw [hmay, hauto, hfree, decide_eq_true hheld]
    rfl
  simp only [execCkoReturn, if_neg (Nat.not_le.mpr hout), State.tick_cko, hnone]
  exact if_pos hback

theorem execCkoProfileApply_of_due {p : ProfilePend} (hpend : (s.cko out).pend = some p) (hdue : p.s ≤ t) :
    execCkoProfileApply out t s = .next (((s.tick t).setCko out { s.cko out with
      pend := none
      prof := some { start := p.s, y0 := ((s.cko out).phaseAt p.s).1, segs := p.segs
                     acc := ((s.cko out).phaseAt p.s).2 } }).finishOpt p.jid State.stOk [] t) := by
  have hruns : ¬ (8 ≤ out ∨ t < p.s) := not_or.mpr ⟨Nat.not_le.mpr hout, Nat.not_lt.mpr hdue⟩
  simp only [execCkoProfileApply, State.tick_cko, hpend, if_neg hruns]

theorem execCkoSegmentEnd_of_due {p : Profile} (hprof : (s.cko out).prof = some p) (hmore : p.done < p.segs.length)
    (hdue : Cko.segEnd p (p.done + 1) ≤ t) :
    execCkoSegmentEnd out t s =
      .next (if p.done + 1 = p.segs.length then
        ((s.tick t).setCko out { s.cko out with prof := some { p with done := p.done + 1 } }).raise 0x0601 (76 + out)
          [bytesBE 1 out] t
      else (s.tick t).setCko out { s.cko out with prof := some { p with done := p.done + 1 } }) := by
  have hruns : ¬ (8 ≤ out ∨ p.segs.length ≤ p.done ∨ t < Cko.segEnd p (p.done + 1)) :=
    not_or.mpr ⟨Nat.not_le.mpr hout, not_or.mpr ⟨Nat.not_le.mpr hmore, Nat.not_lt.mpr hdue⟩⟩
  simp only [execCkoSegmentEnd, State.tick_cko, hprof, if_neg hruns, apply_ite Host.Outcome.next]

/-- After footing the output starts at the first whole cycle of its phase (11 R476). -/
theorem execCkoRelock_of_cycle {x : Instant} (hclock : s.nclk = true) (hlocking : (s.cko out).state = .locking)
    (hrelock : (s.cko out).relock = some x) (hcycle : (s.cko out).relocksAt x t = true) :
    execCkoRelock out t s = .next ((s.tick t).setCko out { s.cko out with
      state := .running, relock := none, pllLock := true, lockSince := t }) := by
  have hruns : ¬ (8 ≤ out ∨ (!s.nclk) = true) := not_or.mpr ⟨Nat.not_le.mpr hout, not_bnot hclock⟩
  have hout' : ¬ (s.cko out).state = .bypass := by rw [hlocking]; decide
  have hstarts : ¬ ((s.cko out).state ≠ .locking ∨ (!(s.cko out).relocksAt x t) = true) :=
    not_or.mpr ⟨not_not.mpr hlocking, not_bnot hcycle⟩
  simp only [execCkoRelock, State.tick_cko, State.tick_nclk, if_neg hruns, if_neg hout', hrelock]
  exact if_neg hstarts

end Outputs

/-- Settles O29: a lemma for each event says which branch its guards select. -/
theorem clockOutputEventsComplete : Obligations.ClockOutputEventsComplete := by
  refine ⟨?searched, ?align, ?fault, ?forced, ?back, ?auto, ?profile, ?segment, ?relock, ?disable⟩
  case searched =>
    rintro out band _ t s w x r hout hband rfl hwait hset
    exact execCkoBandSearchDone_found hout hband hwait hset
  case align => exact fun out t s w x r y hout hdue hset hy => execCkoAlignStart_of_due hout hdue hset hy
  case fault =>
    exact fun out cause t s hout hcause hrun hfault => execCkoBypass_of_fault hout hcause hrun hfault
  case forced =>
    rintro out _ t s w hout rfl hdue hrun
    exact execCkoBypass_of_command hout hdue hrun
  case back => exact fun out t s w hout hdue hmay => execCkoReturn_of_command hout hdue hmay
  case auto =>
    exact fun out t s hout hnone hmay hauto hfree hheld =>
      execCkoReturn_of_lock hout hnone hmay hauto hfree hheld
  case profile => exact fun out t s p hout hpend hdue => execCkoProfileApply_of_due hout hpend hdue
  case segment => exact fun out t s p hout hprof hmore hdue => execCkoSegmentEnd_of_due hout hprof hmore hdue
  case relock =>
    exact fun out t s x hout hclock hlocking hrelock hcycle =>
      execCkoRelock_of_cycle hout hclock hlocking hrelock hcycle
  case disable => exact fun out t s w x y hout hdue hset hy => execCkoDisableApply_of_due hout hdue hset hy

end Sys2Proof.Machine
end

section
/-! The policy, lock, key, power and update commands (14 R590 to R598): what a body does once none of its refusals
applies. -/

namespace Sys2Proof.Machine

section Bodies

variable {c : Ctx} {s : State}

/-! ### Policy, locks and keys -/

theorem bodyPolicySet_of_unlocked (hopen : s.pwr.lockPolicy = false) (hpolicy : c.r.only 4 0x3F = true)
    (hmask : c.r.only 5 0x3F = true) :
    bodyPolicySet c s = .done ({ s with pwr := { s.pwr with policy := policyOf s.pwr.policy c.r } }.raise 0x0A02 110
      [bytesBE 1 (policyOf s.pwr.policy c.r).toNat] c.t) := by
  have hrange : (!c.r.only 4 0x3F || !c.r.only 5 0x3F) = false := by
    rw [hpolicy, hmask]
    rfl
  exact (refuseIf_of_false hopen ..).trans (refuseIf_of_false hrange ..)

section Lock

variable (hok : okConfigLock c.r = true)
include hok

theorem bodyConfigLock_of_volatile (hvolatile : c.r.b 4 2 = false) :
    bodyConfigLock c s = .done { s with pwr := { s.pwr with
      lockPolicy := s.pwr.lockPolicy || c.r.b 4 0, lockPf0 := s.pwr.lockPf0 || c.r.b 4 1 } } := by
  have hfree : (c.r.b 4 2 && s.pwr.otpWrite.isSome) = false := by
    rw [hvolatile, Bool.false_and]
  exact (refuseIf_of_ok hok ..).trans <| (refuseIf_of_false hfree ..).trans (if_neg (Bool.eq_false_iff.mp hvolatile))

/-- With PERMANENT the locks and the current policy are burnt too (14 R591). -/
theorem bodyConfigLock_of_permanent (hperm : c.r.b 4 2 = true) (hfree : s.pwr.otpWrite = none) :
    bodyConfigLock c s = .wait { s with pwr := { s.pwr with
      lockPolicy := s.pwr.lockPolicy || c.r.b 4 0, lockPf0 := s.pwr.lockPf0 || c.r.b 4 1
      otpWrite := some (.lock (BitVec.ofNat 2 (c.r.f 4 0 2)) s.pwr.policy, c.jid) } } := by
  have hfree' : (c.r.b 4 2 && s.pwr.otpWrite.isSome) = false := by
    rw [hfree, Option.isSome_none, Bool.and_false]
  exact (refuseIf_of_ok hok ..).trans <| (refuseIf_of_false hfree' ..).trans (if_pos hperm)

end Lock

/-- A KEY_ENROL whose key and slot fit opens its OTP write: a new key with a free slot, or the revocation of an active
key (14 R592). -/
theorem bodyKeyEnrol_of_fits (hok : okKeyEnrol s.pwr.otp c.r = true) (hauth : enrolAuth s.pwr.otp c.r = true)
    (hnew : (!c.r.b 4 0 && (enrolSlots s.pwr.otp c.r).any fun k => k.key == wordBytes c.r 5 24) = false)
    (hroom : (!c.r.b 4 0 && decide (4 ≤ (enrolSlots s.pwr.otp c.r).length)) = false)
    (hactive : (c.r.b 4 0 && (activeKey (enrolSlots s.pwr.otp c.r)).isNone) = false) (hfree : s.pwr.otpWrite = none) :
    bodyKeyEnrol c s =
      .wait { s with pwr := { s.pwr with otpWrite := some (enrolWrite s.pwr.otp c.r, c.jid) } } :=
  (refuseIf_of_ok hok ..).trans <| (if_neg (not_bnot hauth)).trans <| (refuseIf_of_false hnew ..).trans <|
    (refuseIf_of_false hroom ..).trans <| (refuseIf_of_false hactive ..).trans
    (refuseIf_of_false (congrArg Option.isSome hfree) ..)

/-! ### Power -/

section Instant

variable (hlead : ∀ a, c.a = some a → c.t + ms 1 ≤ a)
include hlead

/-- A command at its instant, or with its take, is not late by its lead of 1 ms. -/
theorem not_late_of_leads : ¬ (c.a.isSome = true ∧ c.a.getD c.t < c.t + ms 1) := by
  cases ha : c.a with
  | none => exact fun hlate => absurd hlate.1 Bool.false_ne_true
  | some a => exact fun hlate => Nat.not_lt.mpr (hlead a ha) hlate.2

theorem bodySleepEnter_of_free (hfree : sleepBarred s = false) (hkeep : c.r.only 4 0x80000000 = true)
    (hdrain : c.r.only 5 0xFFFFF = true) :
    bodySleepEnter c s = .wait (s.sleepAt (c.r.b 4 31) (c.r.f 5 0 20) (c.a.getD c.t) c.jid c.t) := by
  have hrange : (!c.r.only 4 0x80000000 || !c.r.only 5 0xFFFFF) = false := by
    rw [hkeep, hdrain]
    rfl
  have hlate := not_late_of_leads hlead
  refine (refuseIf_of_false hfree ..).trans <| (refuseIf_of_false hrange ..).trans ?_
  cases ha : c.a with
  | none =>
    rw [ha] at hlate
    exact if_neg hlate
  | some a =>
    rw [ha] at hlate
    exact if_neg hlate

theorem bodyDeviceReset_of_inRange (honly : c.r.only 4 1 = true) :
    bodyDeviceReset c s = .wait { s with pwr := { s.pwr with
      waits := s.pwr.waits ++ [(PowerWait.reset (c.r.b 4 0), c.a.getD c.t, c.jid)] } } := by
  have hlate := not_late_of_leads hlead
  refine (refuseIf_of_ok honly ..).trans ?_
  cases ha : c.a with
  | none =>
    rw [ha] at hlate
    exact if_neg hlate
  | some a =>
    rw [ha] at hlate
    exact if_neg hlate

end Instant

/-! ### Firmware updates -/

theorem bodyFwUpdateBegin_of_free (hok : okFwUpdateBegin c.r = true) (hidle : s.runsSlot (c.r.b 4 0) = false)
    (hfree : s.pwr.update = none) :
    bodyFwUpdateBegin c s = .wait ({ s with pwr := { s.pwr with update := some {
      slotB := c.r.b 4 0, length := c.r.w 5, last := c.t, erasing := some c.jid } } }.updateEvent 0 7 c.t) :=
  (refuseIf_of_ok hok ..).trans <| (refuseIf_of_false hidle ..).trans
    (refuseIf_of_false (congrArg Option.isSome hfree) ..)

/-- Data goes to an open, erased update where the last ended, none past its length in whole words (14 R593). -/
theorem bodyFwUpdateData_of_next {u : FwUpdate} (hopen : s.pwr.update = some u) (herased : u.erasing = none)
    (honly : c.r.only 4 0x7FFFFF = true) (haligned : c.r.f 4 0 23 % 4 = 0) (hnext : c.r.f 4 0 23 = u.written)
    (hfits : c.r.f 4 0 23 + 4 * (c.r.pw - 1) ≤ (u.length + 3) / 4 * 4) :
    bodyFwUpdateData c s =
      .done (s.fwWrite u (State.wordsBytes (c.r.params.drop 1)) (4 * (c.r.pw - 1)) c.t) := by
  have hrange : (!c.r.only 4 0x7FFFFF || decide (c.r.f 4 0 23 % 4 ≠ 0)) = false := by
    rw [honly, decide_eq_false (not_not.mpr haligned)]
    rfl
  have hplace : (decide (c.r.f 4 0 23 ≠ u.written)
      || decide ((u.length + 3) / 4 * 4 < c.r.f 4 0 23 + 4 * (c.r.pw - 1))) = false :=
    Bool.or_eq_false_iff.mpr ⟨decide_eq_false (not_not.mpr hnext), decide_eq_false (Nat.not_lt.mpr hfits)⟩
  rw [bodyFwUpdateData, hopen]
  exact (refuseIf_of_false (congrArg Option.isSome herased) ..).trans <| (refuseIf_of_false hrange ..).trans
    (refuseIf_of_false hplace ..)

section Commit

variable (hstate : (c.r.f 4 0 2 == 3 && s.pwr.trial) = false) (honly : c.r.only 4 0x103 = true)
  (hcode : s.imageCode (s.slotRead (c.r.b 4 8)) true = 0)
include hstate honly hcode

/-- A COMMIT of a slot that passes the checks of R579 comes to its action. -/
theorem bodyFwUpdateCommit_of_valid :
    bodyFwUpdateCommit c s =
      if c.r.f 4 0 2 = 0 then .done (s.touchUpdate c.t) [word 0]
      else if c.r.f 4 0 2 = 1 then .done (s.fwActivate (c.r.b 4 8) c.t) [word 0]
      else if c.r.f 4 0 2 = 2 then .done (s.fwConfirm c.t) [word 0]
      else if s.pwr.otpWrite.isSome then .fail State.stBusy
      else .wait { s.touchUpdate c.t with pwr := { (s.touchUpdate c.t).pwr with
        otpWrite := some (.floor s.pwr.svn, c.jid) } } :=
  (refuseIf_of_false hstate ..).trans <| (refuseIf_of_ok honly ..).trans (if_neg (not_not.mpr hcode))

theorem bodyFwUpdateCommit_verify (hact : c.r.f 4 0 2 = 0) :
    bodyFwUpdateCommit c s = .done (s.touchUpdate c.t) [word 0] := by
  rw [bodyFwUpdateCommit_of_valid hstate honly hcode, if_pos hact]

theorem bodyFwUpdateCommit_activate (hact : c.r.f 4 0 2 = 1) :
    bodyFwUpdateCommit c s = .done (s.fwActivate (c.r.b 4 8) c.t) [word 0] := by
  rw [bodyFwUpdateCommit_of_valid hstate honly hcode, if_neg (by omega), if_pos hact]

theorem bodyFwUpdateCommit_confirm (hact : c.r.f 4 0 2 = 2) :
    bodyFwUpdateCommit c s = .done (s.fwConfirm c.t) [word 0] := by
  rw [bodyFwUpdateCommit_of_valid hstate honly hcode, if_neg (by omega), if_neg (by omega), if_pos hact]

theorem bodyFwUpdateCommit_raiseFloor (hact : c.r.f 4 0 2 = 3) (hfree : s.pwr.otpWrite = none) :
    bodyFwUpdateCommit c s = .wait { s.touchUpdate c.t with pwr := { (s.touchUpdate c.t).pwr with
      otpWrite := some (.floor s.pwr.svn, c.jid) } } := by
  rw [bodyFwUpdateCommit_of_valid hstate honly hcode, if_neg (by omega), if_neg (by omega), if_neg (by omega), hfree]
  rfl

end Commit

end Bodies

/-- Settles O17: no body refuses, and the policy and the keys that it reads are as they stood before the take. The 0 in
the MASK word of POLICY_GET, and that a second OTP write meanwhile is BUSY, are the model's choice (log entry 88). -/
theorem securityCommandsComplete : Obligations.SecurityCommandsComplete := by
  refine ⟨?policyGet, ?policySet, ?lock, ?lockPermanent, ?enrol, ?revoke, ?keyStatusGet⟩
  case policyGet =>
    intro r s hacc
    rw [← taken_pwr opPolicyGet r s]
    exact exec_done rfl hacc rfl
  case policySet =>
    intro r s hacc hopen hpolicy hmask
    rw [← taken_pwr opPolicySet r s] at hopen ⊢
    exact exec_done rfl hacc (bodyPolicySet_of_unlocked (c := ⟨r, _, _⟩) hopen hpolicy hmask)
  case lock =>
    intro r s hacc hok hvolatile
    rw [← taken_pwr opConfigLock r s]
    exact exec_done rfl hacc (bodyConfigLock_of_volatile (c := ⟨r, _, _⟩) hok hvolatile)
  case lockPermanent =>
    intro r s hacc hok hperm hfree
    rw [← taken_pwr opConfigLock r s] at hfree ⊢
    exact exec_wait rfl hacc (bodyConfigLock_of_permanent (c := ⟨r, _, _⟩) hok hperm hfree)
  case enrol =>
    intro r s hacc hok hauth henrol hnew hroom hfree
    rw [← taken_pwr opKeyEnrol r s] at hok hauth hnew hroom hfree ⊢
    refine exec_wait rfl hacc (bodyKeyEnrol_of_fits (c := ⟨r, _, _⟩) hok hauth ?_ ?_ ?_ hfree)
    · rw [hnew, Bool.and_false]
    · rw [decide_eq_false (Nat.not_le.mpr hroom), Bool.and_false]
    · rw [henrol, Bool.false_and]
  case revoke =>
    intro r s hacc hok hauth hrevoke hactive hfree
    rw [← taken_pwr opKeyEnrol r s] at hok hauth hactive hfree ⊢
    refine exec_wait rfl hacc (bodyKeyEnrol_of_fits (c := ⟨r, _, _⟩) hok hauth ?_ ?_ ?_ hfree)
    · rw [hrevoke, Bool.not_true, Bool.false_and]
    · rw [hrevoke, Bool.not_true, Bool.false_and]
    · rw [hactive, Bool.and_false]
  case keyStatusGet => exact fun r s hacc => exec_done rfl hacc rfl

/-- A lead that is met is met at the apply-at instant. -/
theorem leads_of_leadOk {op : OpSpec} {r : Req} {s : State} {lead : Nat} (hlead : leadOk op r s lead = true)
    (a : Instant) (ha : applyInstant op r s = some a) : r.t + lead ≤ a := by
  rw [leadOk, ha] at hlead
  exact of_decide_eq_true hlead

/-- Settles O18: no body refuses. Reserved wake bits are ignored (14 R597). -/
theorem powerCommandsComplete : Obligations.PowerCommandsComplete := by
  refine ⟨?statusGet, ?wakeSet, ?wakeGet, ?sleep, ?reset⟩
  case statusGet => exact fun r s hacc => exec_done rfl hacc rfl
  case wakeSet =>
    intro r s hacc honly
    rw [← taken_pwr opWakeCfgSet r s]
    exact exec_done rfl hacc (refuseIf_of_ok honly ..)
  case wakeGet =>
    intro r s hacc
    rw [← taken_pwr opWakeCfgGet r s]
    exact exec_done rfl hacc rfl
  case sleep =>
    exact fun r s hacc hfree hkeep hdrain hlead =>
      exec_wait rfl hacc (bodySleepEnter_of_free (c := ⟨r, _, _⟩) (leads_of_leadOk hlead) hfree hkeep hdrain)
  case reset =>
    intro r s hacc honly hlead
    rw [← taken_pwr opDeviceReset r s]
    exact exec_wait rfl hacc (bodyDeviceReset_of_inRange (c := ⟨r, _, _⟩) (leads_of_leadOk hlead) honly)

/-- Settles O60: no body refuses. That data may fill the last word past LENGTH, and that ACTIVATE closes an open update,
is the model's choice (log entry 88). -/
theorem firmwareUpdateCommandsComplete : Obligations.FirmwareUpdateCommandsComplete := by
  refine ⟨?opens, ?data, ?verify, ?activate, ?confirm, ?raiseFloor⟩
  case opens =>
    intro r s hacc hok hidle hfree
    rw [← taken_pwr opFwUpdateBegin r s] at hfree ⊢
    exact exec_wait rfl hacc (bodyFwUpdateBegin_of_free (c := ⟨r, _, _⟩) hok hidle hfree)
  case data =>
    intro r s u hacc hopen herased honly haligned hnext hfits
    rw [← taken_pwr opFwUpdateData r s] at hopen
    exact exec_done rfl hacc (bodyFwUpdateData_of_next (c := ⟨r, _, _⟩) hopen herased honly haligned hnext hfits)
  case verify =>
    intro r s hacc hstate honly hcode hact
    rw [← taken_pwr opFwUpdateCommit r s] at hstate
    exact exec_done rfl hacc (bodyFwUpdateCommit_verify (c := ⟨r, _, _⟩) hstate honly hcode hact)
  case activate =>
    intro r s hacc hstate honly hcode hact
    rw [← taken_pwr opFwUpdateCommit r s] at hstate
    exact exec_done rfl hacc (bodyFwUpdateCommit_activate (c := ⟨r, _, _⟩) hstate honly hcode hact)
  case confirm =>
    intro r s hacc hstate honly hcode hact
    rw [← taken_pwr opFwUpdateCommit r s] at hstate
    exact exec_done rfl hacc (bodyFwUpdateCommit_confirm (c := ⟨r, _, _⟩) hstate honly hcode hact)
  case raiseFloor =>
    intro r s hacc htrial honly hcode hact hfree
    rw [← taken_pwr opFwUpdateCommit r s] at htrial hfree ⊢
    have hstate : (r.f 4 0 2 == 3 && (taken opFwUpdateCommit r s).pwr.trial) = false := by
      rw [htrial, Bool.and_false]
    exact exec_wait rfl hacc (bodyFwUpdateCommit_raiseFloor (c := ⟨r, _, _⟩) hstate honly hcode hact hfree)

end Sys2Proof.Machine
end

section
/-! Resets, boot, wake and the ends of OTP and flash writes (14 R574 to R593): each event takes the branch that its
guards select. -/

namespace Sys2Proof.Machine

/-! ### Resets -/

section Resets

variable {t : Instant} {s : State}

theorem execColdReset_of_supply {cause : Nat} (hcause : cause = 1 ∨ cause = 2) (bootsel : Nat) (hostcfg : Bool) :
    execColdReset cause bootsel hostcfg t s = .next ((s.tick t).coldReset cause bootsel hostcfg) :=
  if_pos hcause

theorem execColdReset_of_command {w : PowerWait × Instant × Nat} (hdue : (s.tick t).resetDue true t = some w)
    (bootsel : Nat) (hostcfg : Bool) :
    execColdReset 6 bootsel hostcfg t s =
      .next (((s.tick t).endCommand w.2.2 State.stOk [] w.2.1).coldReset 6 bootsel hostcfg) := by
  have hsupply : ¬ (6 = 1 ∨ 6 = 2) := by decide
  simp only [execColdReset, if_neg hsupply, if_true, hdue]

theorem execWarmReset_of_fault {cause : Nat} (hcause : cause = 3 ∨ cause = 4) :
    execWarmReset cause t s = .next ((s.tick t).warmReset cause) :=
  if_pos hcause

theorem execWarmReset_of_command {w : PowerWait × Instant × Nat} (hdue : (s.tick t).resetDue false t = some w) :
    execWarmReset 5 t s = .next (((s.tick t).endCommand w.2.2 State.stOk [] w.2.1).warmReset 5) := by
  have hfault : ¬ (5 = 3 ∨ 5 = 4) := by decide
  simp only [execWarmReset, if_neg hfault, if_true, hdue]

theorem execWarmReset_of_firmware : execWarmReset 7 t s = .next (s.tick t).firmwareFailure := rfl

theorem execResetRelease_of_held (hreset : s.pwr.inReset = true) (hover : s.pwr.hold ≤ t) :
    execResetRelease t s = .next s.released :=
  if_neg (not_or.mpr ⟨not_bnot hreset, Nat.not_lt.mpr hover⟩)

end Resets

/-! ### Boot -/

section Boot

variable {t : Instant} {s : State}

section Slot

variable {src : ImageSource} {readable b trial : Bool} (hslot : (s.tick t).nextSlot = some (b, trial))
  (hboot : (s.tick t).booting = true) (hsrc : src = (if b then ImageSource.slotB else .slotA))
include hslot hboot hsrc

/-- The slot that the ROM reads is checked; it runs, or the next one or a host follows (14 R579, R580). -/
theorem execBootImageVerify_of_next {c : Nat} (hc : c = (s.tick t).imageCode ((s.tick t).slotRead b) readable) :
    execBootImageVerify src readable t s =
      if c = 0 then
        .next (((s.tick t).slotReason b c).runImage ((s.tick t).slotRead b) (if b then 2 else 1) trial)
      else if ((s.tick t).slotReason b c).nextSlot.isSome then .next ((s.tick t).slotReason b c)
      else .next ((s.tick t).slotReason b c).awaitHost := by
  have hruns : ¬ ((!(s.tick t).booting) = true ∨ src ≠ (if b then ImageSource.slotB else .slotA)) :=
    not_or.mpr ⟨not_bnot hboot, not_not.mpr hsrc⟩
  simp only [execBootImageVerify, hslot, if_neg hruns, ← hc]

theorem execBootImageVerify_runs (hcode : (s.tick t).imageCode ((s.tick t).slotRead b) readable = 0) :
    execBootImageVerify src readable t s =
      .next (((s.tick t).slotReason b 0).runImage ((s.tick t).slotRead b) (if b then 2 else 1) trial) :=
  (execBootImageVerify_of_next hslot hboot hsrc hcode.symm).trans (if_pos rfl)

theorem execBootImageVerify_fails {c : Nat} (hc : c = (s.tick t).imageCode ((s.tick t).slotRead b) readable)
    (hbad : c ≠ 0) :
    execBootImageVerify src readable t s =
      .next (if ((s.tick t).slotReason b c).nextSlot.isSome then (s.tick t).slotReason b c
        else ((s.tick t).slotReason b c).awaitHost) :=
  (execBootImageVerify_of_next hslot hboot hsrc hc).trans <|
    (if_neg hbad).trans (apply_ite Host.Outcome.next _ _ _).symm

end Slot

section Host

variable {h : HostPort} {image : List Byte} (hstage : s.pwr.stage = 8) (hload : s.pwr.recovSt = 2)
  (hmay : h = .h0 ∨ s.pwr.hostcfg = false)
include hstage hload hmay

theorem recovery_runs :
    ¬ ((s.tick t).pwr.stage ≠ 8 ∨ (s.tick t).pwr.recovSt ≠ 2 ∨ (h = .h1 ∧ (s.tick t).pwr.hostcfg = true)) := by
  rintro (hother | hother | ⟨hsecond, hone⟩)
  · exact hother hstage
  · exact hother hload
  · rcases hmay with hfirst | htwo
    · exact nomatch hfirst.symm.trans hsecond
    · exact ne_true_of_eq_false htwo hone

theorem execRecoveryLoad_runs (hcode : (s.tick t).hostImageCode image = 0) :
    execRecoveryLoad h image t s = .next (State.runImage
      { s.tick t with pwr := { s.pwr with recovRes := 0 } } (State.hostRead image) 3 false) := by
  refine (if_neg (recovery_runs hstage hload hmay)).trans ?_
  simp only [hcode, if_true, State.tick_pwr]

theorem execRecoveryLoad_fails {c : Nat} (hcode : (s.tick t).hostImageCode image = c) (hbad : c ≠ 0) :
    execRecoveryLoad h image t s =
      .next { s.tick t with pwr := { s.pwr with recovRes := c, recovSt := 4 } } := by
  refine (if_neg (recovery_runs hstage hload hmay)).trans ?_
  simp only [hcode, if_neg hbad, State.tick_pwr]

end Host

/-- The configuration part runs once both keepers have started (14 R582). -/
theorem execConfigPartRun_of_started (himage : s.pwr.image ≠ 0) (hstage : s.pwr.stage = 4) (hstarted : s.started = true)
    (hout : s.pwr.inReset = false) : execConfigPartRun t s = .next ((s.tick t).configPart t) := by
  have hruns : ¬ ((s.tick t).pwr.image = 0 ∨ (s.tick t).pwr.stage ≠ 4 ∨ (!(s.tick t).started) = true
      ∨ (s.tick t).pwr.inReset = true) :=
    not_or.mpr ⟨himage, not_or.mpr ⟨not_not.mpr hstage,
      not_or.mpr ⟨not_bnot hstarted, Bool.eq_false_iff.mp hout⟩⟩⟩
  exact if_neg hruns

theorem execForwardingStart_of_due {f : Instant} (hat : s.pwr.fwdAt = some f) (hdue : f ≤ t)
    (hstopped : s.fab.forwarding = false) (hawake : s.pwr.asleep = none) :
    execForwardingStart t s = .next ((s.tick t).forwards f t) := by
  have hruns : ¬ (t < f ∨ s.fab.forwarding = true ∨ s.pwr.asleep.isSome = true) := by
    rw [hstopped, hawake]
    simp [Nat.not_lt.mpr hdue]
  simp only [execForwardingStart, State.tick_pwr, State.tick_fab, hat]
  exact if_neg hruns

end Boot

/-! ### Wake -/

section Wake

variable {t : Instant} {s : State}

theorem execWakeTimerExpiry_of_past {b : Instant} (hasleep : s.pwr.asleep = some b) (hset : 0 < s.pwr.wakeAfter)
    (hpast : b + (s.tick t).aonLeast (ms s.pwr.wakeAfter) ≤ t) :
    execWakeTimerExpiry t s = .next ((s.tick t).wakeSource 15) := by
  simp only [execWakeTimerExpiry, State.tick_pwr, hasleep]
  exact congrArg _ (if_pos ⟨hset, hpast⟩)

/-- A wake source that was taken wakes the device; `w` is the state once WAKE_N has been taken, where that is the source
(14 R588). -/
theorem execWake_of_pending {wakeN : Bool} {w : State} (hw : w = if wakeN then (s.tick t).wakeSource 9 else s.tick t)
    (hasleep : w.pwr.asleep ≠ none) (hpend : w.pwr.wakePend = true) :
    execWake wakeN t s = .next (w.wakeUp t) := by
  have hwakes : ¬ (w.pwr.asleep.isNone = true ∨ (!w.pwr.wakePend) = true) :=
    not_or.mpr ⟨fun hnone => hasleep (Option.isNone_iff_eq_none.mp hnone), not_bnot hpend⟩
  simp only [execWake, ← hw, if_neg hwakes]

end Wake

/-! ### OTP and flash -/

section Writes

variable {t : Instant} {s : State}

theorem execOtpWriteDone_enrol {app : Bool} {k : List Byte} {j : Nat} {w : State}
    (hwrite : s.pwr.otpWrite = some (.enrol app k, j))
    (hw : w = { s.tick t with pwr := { s.pwr with otp := s.pwr.otp.apply (.enrol app k), otpWrite := none } }) :
    execOtpWriteDone t s =
      .next ((w.keyEvent 0 (if app then s.pwr.otp.apps.length else s.pwr.otp.owners.length) t).finish j
        State.stOk [] t) := by
  simp only [execOtpWriteDone, State.tick_pwr, hwrite, hw]

theorem execOtpWriteDone_floor {n j : Nat} (hwrite : s.pwr.otpWrite = some (.floor n, j)) :
    execOtpWriteDone t s = .next (State.finish
      { s.tick t with pwr := { s.pwr with otp := s.pwr.otp.apply (.floor n), otpWrite := none } } j State.stOk
        [word 0] t) := by
  simp only [execOtpWriteDone, State.tick_pwr, hwrite]

variable {u : FwUpdate} (hopen : s.pwr.update = some u)
include hopen

theorem execFlashEraseDone_of_erasing {j : Nat} (herasing : u.erasing = some j) :
    execFlashEraseDone t s = .next (State.finish
      { (s.tick t).setSlot u.slotB [] with pwr := { ((s.tick t).setSlot u.slotB []).pwr with
        update := some { u with erasing := none } } } j State.stOk [] t) := by
  simp only [execFlashEraseDone, State.tick_pwr, hopen, herasing]

/-- 10 min without a command close an update that is erased (14 R593). -/
theorem execFwUpdateTimeout_of_past (hpast : u.last + sec 600 ≤ t) (herased : u.erasing = none) :
    execFwUpdateTimeout t s = .next (State.updateEvent
      { (s.tick t).setSlot u.slotB [] with pwr := { ((s.tick t).setSlot u.slotB []).pwr with update := none } }
      2 7 t) := by
  have hruns : ¬ (t < u.last + sec 600 ∨ u.erasing.isSome = true) := by
    rw [herased]
    simp [Nat.not_lt.mpr hpast]
  simp only [execFwUpdateTimeout, State.tick_pwr, hopen, if_neg hruns]

end Writes

/-- Settles O34: a lemma for each guarded event says which branch its guards select. That the wake timer may come from
the least length of WAKE_AFTER on the AON clock on is the model's choice (log entry 137). -/
theorem powerAndBootEventsComplete : Obligations.PowerAndBootEventsComplete := by
  refine ⟨?cold, ?coldCommand, ?warm, ?warmCommand, ?firmware, ?release, ?slotRuns, ?slotFails, ?hostRuns, ?hostFails,
    ?config, ?forwarding, ?timer, ?register, ?wake, ?wakePin, ?enrolled, ?floor, ?erased, ?timeout⟩
  case cold => exact fun cause bootsel hostcfg t s hcause => execColdReset_of_supply hcause bootsel hostcfg
  case coldCommand =>
    rintro _ bootsel hostcfg t s w rfl hdue
    exact execColdReset_of_command hdue bootsel hostcfg
  case warm => exact fun cause t s hcause => execWarmReset_of_fault hcause
  case warmCommand =>
    rintro _ t s w rfl hdue
    exact execWarmReset_of_command hdue
  case firmware =>
    rintro _ t s rfl
    exact execWarmReset_of_firmware
  case release => exact fun t s hreset hover => execResetRelease_of_held hreset hover
  case slotRuns =>
    exact fun src readable t s b trial hslot hboot hsrc hcode => execBootImageVerify_runs hslot hboot hsrc hcode
  case slotFails =>
    intro src readable t s b trial c w hslot hboot hsrc hc hbad hw
    rw [hw]
    exact execBootImageVerify_fails hslot hboot hsrc hc hbad
  case hostRuns =>
    exact fun h image t s hstage hload hmay hcode => execRecoveryLoad_runs hstage hload hmay hcode
  case hostFails =>
    exact fun h image t s c hstage hload hfirst hcode hbad =>
      execRecoveryLoad_fails hstage hload (.inl hfirst) hcode hbad
  case config =>
    exact fun t s himage hstage hstarted hout => execConfigPartRun_of_started himage hstage hstarted hout
  case forwarding =>
    exact fun t s f hat hdue hstopped hawake => execForwardingStart_of_due hat hdue hstopped hawake
  case timer => exact fun t s b hasleep hset hpast => execWakeTimerExpiry_of_past hasleep hset hpast
  case register => exact fun fn t s => rfl
  case wake =>
    rintro _ t s rfl hasleep hpend
    exact execWake_of_pending rfl hasleep hpend
  case wakePin =>
    rintro _ t s w rfl hw hasleep hpend
    exact execWake_of_pending hw hasleep hpend
  case enrolled => exact fun t s app k j w hwrite hw => execOtpWriteDone_enrol hwrite hw
  case floor => exact fun t s n j hwrite => execOtpWriteDone_floor hwrite
  case erased =>
    rintro t s u j _ hopen herasing rfl
    exact execFlashEraseDone_of_erasing hopen herasing
  case timeout =>
    rintro t s u _ hopen hpast herased rfl
    exact execFwUpdateTimeout_of_past hopen hpast herased

end Sys2Proof.Machine
end
